-- ==== Sys2Proof/Word.lean ====
section
/-! DEFINITION. The machine's byte and word types and their plainest conversions (R8, R9, R48). -/

namespace Sys2Proof

/-- A byte, the smallest addressable unit of every operand area (R53). -/
abbrev Byte := BitVec 8

/-- A 32-bit word, the width of W0, W1 and of every instruction (R48, R50). -/
abbrev Word := BitVec 32

end Sys2Proof
end

