-- ==== Sys2Proof/Syntax.lean ====
section
/-! DEFINITION. The commands of the block: one constructor of `Instr` per row of spec/opcode_table.json, with the
operands the row's step takes from outside the module. -/

namespace Sys2Proof

/-- The dictionary paths of R362, in the arbitration order of R369. A UDP path is known by its source address (R374). -/
inductive Path where
  | can (c : Nat)
  | udp (source : Nat)
  | host
  | partner
  | forwarded
  deriving DecidableEq, Repr

/-- The operand of a scan instruction: area code and the 20-bit address field (R50). -/
structure Operand where
  area : Nat
  addr : Nat
  deriving DecidableEq, Repr

/-- What the field dies hand over at a datum edge: quantities that only the field decides.
`analog` is the mean loop current of each channel over its window (R260), `cooled` and `analogCooled` name the
stages whose junction has cooled by the hysteresis (R243, R269), `current` the slice output currents (R250), `terminal` the
terminal currents of the digital channels (R251), `volts` the terminal voltages of the analog channels (R255, R281),
`stageError` the local output stages whose state at the die differs from the value they are set to drive (R181). -/
structure FieldSample where
  analog       : List Word := []
  cooled       : Nat := 0
  analogCooled : Nat := 0
  current      : List Word := []
  terminal     : List Word := []
  volts        : List Word := []
  stageError   : Nat := 0
  deriving DecidableEq, Repr

/-- The quantities sampled once per operating second (R391, R420): supplies and die temperatures. -/
structure SecondSample where
  vsup     : Word := 0
  lplus    : List Word := []
  vbat     : Word := 0
  tracking : List Word := []
  dies     : List Word := []
  deriving DecidableEq, Repr

/-- The stamps of two role status frames (R297), in ns: the partner's frame as it sent it and as this unit received it, and
this unit's last frame as it sent it and as the partner received it. -/
structure TieStamps where
  sent     : Nat
  received : Nat
  echoSent : Nat
  echoReceived : Nat
  deriving DecidableEq, Repr

/-- A tie-link role status frame (R175, R184, R297): what the partner says of itself at its datum edge. `hashA` and `hashB`
are the SHA-384 hashes of its program banks and `hashM` of its matrix store (R135, R191), `resolving` and `eligible` say
how its role resolution stands (R174, R177), `tick`, `frame`, `inFrame` and `mode` are what a standby takes from the active
(R192), `exchanging` says that its exchange is PREPARING or ARMED and `exchangeFailed` that a standby could not follow one
(R135, R192), `readback` holds its latched digital inputs and `held` and `analogHeld` the channels that a protection
shutdown, MISWIRE or COMPLIANCE keeps out of the readback comparison (R186), `stamps` the stamps that steer a standby's time.
`failed` names the lanes on which a copy of the frame failed its CRC. -/
structure RoleStatus where
  unit       : Nat
  role       : Nat
  checksum   : Nat
  released   : Nat := 0
  resolving  : Bool := false
  eligible   : Bool := true
  hashA      : Nat := 0
  hashB      : Nat := 0
  hashM      : Nat := 0
  activeBank : Nat := 0xFF
  tick       : Nat := 0
  frame      : Nat := 0
  inFrame    : Nat := 0
  mode       : Nat := 3
  exchanging : Bool := false
  exchangeFailed : Bool := false
  dirtyBytes : Nat := 0
  stamps     : Option TieStamps := none
  readback   : Nat := 0
  held       : Nat := 0
  analogHeld : Nat := 0
  failed     : List Nat := []
  deriving DecidableEq, Repr

/-- What a tie-link frame carries, with the lanes on which a copy of the frame failed its CRC (R184). -/
structure Framed (α : Type) where
  content : α
  failed  : List Nat := []
  deriving DecidableEq, Repr

/-- The place of a forwarded write: its position in the order of R369, and the closing point that applies it (R372). -/
structure ForwardPlace where
  position : Nat
  closing  : Nat := 0
  deriving DecidableEq, Repr

/-- An image frame (R180, R184, R222): the closed I area, the latched analog words with the channels whose value is invalid,
the valid bits of the digital block, the loop measurement area (block, raw input, feed-forward input, invalid), the link
states and release mask, and the image flags. `failed` names the lanes on which a copy of the frame failed its CRC. -/
structure ImageFrame where
  tick     : Nat
  whole    : Bool
  bytes    : List Byte := []
  digital  : Nat := 0
  valid    : Nat := 0
  analog   : List Word := []
  bad      : Nat := 0
  measures : List (Nat × Word × Word × Bool) := []
  linked   : Nat := 0
  flags    : Nat := 0
  failed   : List Nat := []
  deriving DecidableEq, Repr

/-- The chain header of R205 and the path word. -/
structure ChainHeader where
  direction : Nat
  source    : Nat
  station   : Nat
  tick      : Nat
  datumNs   : Nat
  nextNs    : Nat
  period    : Nat
  flags     : Nat
  slots     : Nat
  headerOk  : Bool := true
  version   : Nat := 1
  hops      : Nat := 0
  reflector : Nat := 0
  deriving DecidableEq, Repr

/-- A traverse slot of R206. -/
structure Slot where
  address  : Nat
  state    : Nat
  length   : Nat
  status   : Nat
  hop      : Nat
  checksum : Nat
  payload  : List Byte
  valid    : Bool := true
  deriving DecidableEq, Repr

/-- A CAN frame as it stands on the bus (R335). -/
structure CanFrame where
  ident  : Nat
  format : Nat := 0
  flags  : Nat := 0
  sdt    : Nat := 0
  vcid   : Nat := 0
  accept : Nat := 0
  data   : List Byte
  deriving DecidableEq, Repr

/-- The data set of an Announce message, with the port that sent it (R287, R298). -/
structure Announce where
  domain       : Nat
  source       : Nat := 0
  identity     : Nat
  priority1    : Nat
  clockClass   : Nat
  accuracy     : Nat
  variance     : Nat
  priority2    : Nat
  stepsRemoved : Nat
  utcOffset    : Int
  utcValid     : Bool
  timescalePtp : Bool
  minorVersion : Nat
  udp          : Bool := false
  deriving DecidableEq, Repr

/-- A UDP service request header of R379 with its sender. -/
structure UdpHeader where
  source      : Nat
  port        : Nat
  plantPort   : Nat
  magic       : Nat
  version     : Nat
  transaction : Nat
  index       : Nat
  sub         : Nat
  flags       : Nat
  offset      : Nat
  checksum    : Nat := 1
  deriving DecidableEq, Repr

/-- A host-port request frame of R382, before its data, with the CRC that came with it. -/
structure HostFrame where
  sequence : Nat
  index    : Nat
  sub      : Nat
  flags    : Nat
  length   : Nat
  offset   : Nat
  crc      : Nat
  deriving DecidableEq, Repr

/-- The outcome of reading one stored container at start-up (R123): the GCM tag check. -/
structure LoadReport where
  bankA  : Bool := true
  bankB  : Bool := true
  matrix : Bool := true
  deriving DecidableEq, Repr

/-- What a firmware copy carries (R453). -/
structure FirmwareCopy where
  version  : Nat := 0
  security : Nat := 0
  signed   : Bool := true
  deriving DecidableEq, Repr

/-- What an input stage has decided after its filter (R236, and the current bands of R237). -/
inductive RawLevel where
  | low
  | high
  | broken
  | between
  deriving DecidableEq, Repr

/-- Command frames from the active to the standby over the tie link (R184): state commands (R173), the exchange target frame
with the active's verdict on it (R133, R135), a planned switch-over or handback (R196), what follows a closure check (R182,
R185): a mismatch that asks for the full output image, leaving STANDBY-IN-STEP, taking over, and halting at the verdict
tick; that the configuration checksums differ (R175), the claim edge of a unit that becomes ACTIVE (R177), and the partner's
answer to a request relayed to it (R362). -/
inductive TieCommand where
  | run
  | stop
  | targetFrame (frame : Nat)
  | switchOver (handback : Bool)
  | mismatch
  | leaveStep (diverged : Bool)
  | takeOver
  | halt (tick : Nat)
  | checksum
  | claim (edgeNs : Nat)
  | exchangeVerdict (armed : Bool)
  | answer (path : Path) (key tag code : Nat) (data : List Byte)
  deriving DecidableEq, Repr

/-- A Sync or Follow_Up message with its raw receive stamp and the interval of its source's Sync messages (R288, R290).
Times are in ns. -/
structure PtpEvent where
  domain     : Nat
  source     : Nat
  sequence   : Nat
  twoStep    : Bool := false
  originNs   : Nat
  rxNs       : Nat
  intervalNs : Nat := 1000000000
  correction : Int := 0
  minor      : Nat := 1
  udp        : Bool := false
  deriving DecidableEq, Repr

/-- The four raw stamps of a delay exchange with its correction (R289). -/
structure DelayExchange where
  domain     : Nat
  peer       : Bool
  t1 : Nat
  t2 : Nat
  t3 : Nat
  t4 : Nat
  correction : Int := 0
  minor      : Nat := 1
  udp        : Bool := false
  deriving DecidableEq, Repr

/-- The monitored clocks of R482. -/
inductive Clock where
  | refclk
  | canPll
  | plantPll (port : Nat)
  | timePll
  | panelPll
  | tiePll
  deriving DecidableEq, Repr

/-- The ISO 11898-1 errors and successes that move the error counters (R332). -/
inductive CanErrorKind where
  | transmit
  | receive
  | receivePrimary
  | transmitOk
  | receiveOk
  deriving DecidableEq, Repr

/-- The commands of the block, one constructor per row of the opcode table. Scan instructions name the engine
pair that executes them; `agree` says whether the checking engine issued the same store or signature (R78). -/
inductive Instr where
  /-- DATUM_EDGE (R16). -/
  | datumEdge (field : FieldSample)
  /-- COMPUTE_START (R16). -/
  | computeStart (faults : List Nat)
  /-- CAUSE_TRIP (R105). -/
  | causeTrip (cause : Nat)
  /-- BYPASS_EXPIRY (R110). -/
  | bypassExpiry (cause : Nat)
  /-- NOP (R60). -/
  | opNop (pair : Nat)
  /-- LD (R60). -/
  | opLd (pair : Nat) (x : Operand)
  /-- LDN (R60). -/
  | opLdn (pair : Nat) (x : Operand)
  /-- AND (R60). -/
  | opAnd (pair : Nat) (x : Operand)
  /-- ANDN (R60). -/
  | opAndn (pair : Nat) (x : Operand)
  /-- OR (R60). -/
  | opOr (pair : Nat) (x : Operand)
  /-- ORN (R60). -/
  | opOrn (pair : Nat) (x : Operand)
  /-- XOR (R60). -/
  | opXor (pair : Nat) (x : Operand)
  /-- XORN (R60). -/
  | opXorn (pair : Nat) (x : Operand)
  /-- ST (R60). -/
  | opSt (pair : Nat) (x : Operand) (agree : Bool)
  /-- STN (R60). -/
  | opStn (pair : Nat) (x : Operand) (agree : Bool)
  /-- SET (R60). -/
  | opSet (pair : Nat) (x : Operand) (agree : Bool)
  /-- RST (R60). -/
  | opRst (pair : Nat) (x : Operand) (agree : Bool)
  /-- NOT (R60). -/
  | opNot (pair : Nat)
  /-- SETA (R60). -/
  | opSeta (pair : Nat)
  /-- CLRA (R60). -/
  | opClra (pair : Nat)
  /-- EDP (R60). -/
  | opEdp (pair : Nat) (x : Operand)
  /-- EDN (R60). -/
  | opEdn (pair : Nat) (x : Operand)
  /-- LDX (R60). -/
  | opLdx (pair : Nat) (x : Operand)
  /-- STX (R60). -/
  | opStx (pair : Nat) (x : Operand) (agree : Bool)
  /-- PSA (R61). -/
  | opPsa (pair : Nat)
  /-- PSO (R61). -/
  | opPso (pair : Nat)
  /-- PSX (R61). -/
  | opPsx (pair : Nat)
  /-- PSK (R61). -/
  | opPsk (pair : Nat)
  /-- POP (R61). -/
  | opPop (pair : Nat)
  /-- PEEK (R61). -/
  | opPeek (pair : Nat)
  /-- TON (R74). -/
  | opTon (pair : Nat) (x : Operand)
  /-- TOF (R74). -/
  | opTof (pair : Nat) (x : Operand)
  /-- TP (R74). -/
  | opTp (pair : Nat) (x : Operand)
  /-- TACC (R74). -/
  | opTacc (pair : Nat) (x : Operand)
  /-- TRS (R62). -/
  | opTrs (pair : Nat) (x : Operand)
  /-- CTU (R63). -/
  | opCtu (pair : Nat) (x : Operand)
  /-- CTD (R63). -/
  | opCtd (pair : Nat) (x : Operand)
  /-- CRS (R63). -/
  | opCrs (pair : Nat) (x : Operand)
  /-- CLD (R63). -/
  | opCld (pair : Nat) (x : Operand)
  /-- JMP (R64). -/
  | opJmp (pair : Nat) (target : Nat)
  /-- JC (R64). -/
  | opJc (pair : Nat) (target : Nat)
  /-- JCN (R64). -/
  | opJcn (pair : Nat) (target : Nat)
  /-- CALL (R64). -/
  | opCall (pair : Nat) (target : Nat)
  /-- CALLC (R64). -/
  | opCallc (pair : Nat) (target : Nat)
  /-- RET (R64). -/
  | opRet (pair : Nat)
  /-- END (R79). -/
  | opEnd (pair : Nat) (agree : Bool)
  /-- LDF (R64). -/
  | opLdf (pair : Nat) (x : Operand)
  /-- CLF (R64). -/
  | opClf (pair : Nat) (x : Operand)
  /-- LDW (R65). -/
  | opLdw (pair : Nat) (x : Operand)
  /-- LDH (R65). -/
  | opLdh (pair : Nat) (x : Operand)
  /-- LDHU (R65). -/
  | opLdhu (pair : Nat) (x : Operand)
  /-- LDB (R65). -/
  | opLdb (pair : Nat) (x : Operand)
  /-- LDBU (R65). -/
  | opLdbu (pair : Nat) (x : Operand)
  /-- LDHI (R65). -/
  | opLdhi (pair : Nat) (x : Operand)
  /-- STW (R65). -/
  | opStw (pair : Nat) (x : Operand) (agree : Bool)
  /-- STH (R65). -/
  | opSth (pair : Nat) (x : Operand) (agree : Bool)
  /-- STB (R65). -/
  | opStb (pair : Nat) (x : Operand) (agree : Bool)
  /-- STWC (R65). -/
  | opStwc (pair : Nat) (x : Operand) (agree : Bool)
  /-- LDWX (R65). -/
  | opLdwx (pair : Nat) (x : Operand)
  /-- STWX (R65). -/
  | opStwx (pair : Nat) (x : Operand) (agree : Bool)
  /-- ADD (R66). -/
  | opAdd (pair : Nat)
  /-- SUB (R66). -/
  | opSub (pair : Nat)
  /-- MUL (R66). -/
  | opMul (pair : Nat)
  /-- DIV (R67). -/
  | opDiv (pair : Nat)
  /-- MOD (R67). -/
  | opMod (pair : Nat)
  /-- NEG (R66). -/
  | opNeg (pair : Nat)
  /-- ABS (R66). -/
  | opAbs (pair : Nat)
  /-- MIN (R66). -/
  | opMin (pair : Nat)
  /-- MAX (R66). -/
  | opMax (pair : Nat)
  /-- ADDU (R66). -/
  | opAddu (pair : Nat)
  /-- SUBU (R66). -/
  | opSubu (pair : Nat)
  /-- AW (R68). -/
  | opAw (pair : Nat)
  /-- OW (R68). -/
  | opOw (pair : Nat)
  /-- XW (R68). -/
  | opXw (pair : Nat)
  /-- INVW (R68). -/
  | opInvw (pair : Nat)
  /-- SHL (R68). -/
  | opShl (pair : Nat) (x : Operand)
  /-- SHR (R68). -/
  | opShr (pair : Nat) (x : Operand)
  /-- SAR (R68). -/
  | opSar (pair : Nat) (x : Operand)
  /-- ROL (R68). -/
  | opRol (pair : Nat) (x : Operand)
  /-- EQ (R68). -/
  | opEq (pair : Nat)
  /-- NE (R68). -/
  | opNe (pair : Nat)
  /-- GT (R68). -/
  | opGt (pair : Nat)
  /-- GE (R68). -/
  | opGe (pair : Nat)
  /-- LT (R68). -/
  | opLt (pair : Nat)
  /-- LE (R68). -/
  | opLe (pair : Nat)
  /-- GTU (R68). -/
  | opGtu (pair : Nat)
  /-- LTU (R68). -/
  | opLtu (pair : Nat)
  /-- FADD (R69). -/
  | opFadd (pair : Nat)
  /-- FSUB (R69). -/
  | opFsub (pair : Nat)
  /-- FMUL (R69). -/
  | opFmul (pair : Nat)
  /-- FDIV (R69). -/
  | opFdiv (pair : Nat)
  /-- FNEG (R69). -/
  | opFneg (pair : Nat)
  /-- FABS (R69). -/
  | opFabs (pair : Nat)
  /-- FSQRT (R69). -/
  | opFsqrt (pair : Nat)
  /-- FEQ (R69). -/
  | opFeq (pair : Nat)
  /-- FNE (R69). -/
  | opFne (pair : Nat)
  /-- FGT (R69). -/
  | opFgt (pair : Nat)
  /-- FGE (R69). -/
  | opFge (pair : Nat)
  /-- FLT (R69). -/
  | opFlt (pair : Nat)
  /-- FLE (R69). -/
  | opFle (pair : Nat)
  /-- ITF (R70). -/
  | opItf (pair : Nat)
  /-- FTI (R70). -/
  | opFti (pair : Nat)
  /-- FTIT (R70). -/
  | opFtit (pair : Nat)
  /-- SAT16 (R70). -/
  | opSat16 (pair : Nat)
  /-- SATU16 (R70). -/
  | opSatu16 (pair : Nat)
  /-- SEXT16 (R70). -/
  | opSext16 (pair : Nat)
  /-- SWP (R70). -/
  | opSwp (pair : Nat)
  /-- DUP (R70). -/
  | opDup (pair : Nat)
  /-- TSTW (R70). -/
  | opTstw (pair : Nat)
  /-- LDA (R70). -/
  | opLda (pair : Nat)
  /-- STATE_COMMAND_RUN (R82). -/
  | stateCommandRun (path : Path)
  /-- STATE_COMMAND_STOP (R81). -/
  | stateCommandStop (path : Path)
  /-- MATRIX_WRITE (R102). -/
  | matrixWrite (path : Path) (data : List Byte)
  /-- RESET_EFFECT (R111). -/
  | resetEffect (path : Path) (effect : Nat)
  /-- BYPASS_COMMAND (R110). -/
  | bypassCommand (path : Path) (data : List Byte)
  /-- IMAGE_DOWNLOAD (R121). -/
  | imageDownload (path : Path) (data : List Byte)
  /-- LOOP_STATUS_CLEAR (R148). -/
  | loopStatusClear (path : Path) (block value : Nat)
  /-- IMAGE_FRAME (R184). -/
  | imageFrame (frame : ImageFrame)
  /-- WRITE_FORWARD_FRAME (R372). -/
  | writeForwardFrame (index sub : Nat) (data : Framed (List Byte)) (position : ForwardPlace)
  /-- ROLE_STATUS_FRAME (R175). -/
  | roleStatusFrame (frame : RoleStatus)
  /-- OUTPUT_DIGEST (R182). -/
  | outputDigest (tick : Nat) (digest : Framed Nat)
  /-- FAULT_NOTICE (R99). -/
  | faultNotice (tick : Framed Nat)
  /-- FULL_OUTPUT_IMAGE (R185). -/
  | fullOutputImage (tick : Nat) (data : Framed (List Byte))
  /-- TIE_COMMAND_FRAME (R173). -/
  | tieCommandFrame (command : Framed TieCommand)
  /-- RESYNCHRONISATION_DATA_FRAME (R191). -/
  | resynchronisationDataFrame (page : Nat) (data : Framed (List Byte))
  /-- BANK_COPY_COMPLETE (R191). -/
  | bankCopyComplete (store : Nat) (data : Framed (List Byte)) (tagOk : Bool)
  /-- TIE_LINK_LANE_FAIL (R184). -/
  | tieLinkLaneFail (lane : Nat)
  /-- ROLE_IN_CHANGE (R179). -/
  | roleInChange (level : Bool)
  /-- TRAVERSE_FRAME (R211). -/
  | traverseFrame (port : Nat) (header : ChainHeader) (slots : List Slot)
  /-- TRAVERSE_FRAME_RETURN (R210). -/
  | traverseFrameReturn (header : ChainHeader) (slots : List Slot) (fcsOk : Bool)
  /-- STAKE_FRAME (R217). -/
  | stakeFrame (port : Nat) (header : ChainHeader) (body : List Byte)
  /-- TOKEN_FRAME (R216). -/
  | tokenFrame (port : Nat) (header : ChainHeader) (body : List Byte) (atNs : Nat)
  /-- CHAIN_PORT_LINK_DOWN (R212). -/
  | chainPortLinkDown (port : Nat)
  /-- CHAIN_PORT_LINK_UP (R200). -/
  | chainPortLinkUp (port speed : Nat)
  /-- FOREIGN_FRAME_DISCARD (R203). -/
  | foreignFrameDiscard (port : Nat)
  /-- L_PLUS_LOW_SET (R231). -/
  | lPlusLowSet (slice : Nat)
  /-- L_PLUS_LOW_CLEAR (R231). -/
  | lPlusLowClear (slice : Nat)
  /-- INPUT_FILTER_ACCEPT (R236). -/
  | inputFilterAccept (channel : Nat) (level : RawLevel) (stampNs : Nat)
  /-- DEMAG_END (R240). -/
  | demagEnd (channel atNs : Nat)
  /-- OVERLOAD_DETECT (R242). -/
  | overloadDetect (channel : Nat)
  /-- OVERLOAD_CLEAR (R242). -/
  | overloadClear (channel : Nat)
  /-- OVERTEMP_TRIP (R243). -/
  | overtempTrip (channel atNs : Nat)
  /-- TRIP_COUNT_CLEAR (R243). -/
  | tripCountClear (channel : Nat)
  /-- OPENLOAD_ON_DETECT (R242). -/
  | openloadOnDetect (channel : Nat)
  /-- OPENLOAD_OFF_DETECT (R242). -/
  | openloadOffDetect (channel : Nat)
  /-- OPENLOAD_CLEAR (R242). -/
  | openloadClear (channel : Nat)
  /-- WIREBREAK_DETECT (R237). -/
  | wirebreakDetect (channel : Nat)
  /-- WIREBREAK_CLEAR (R242). -/
  | wirebreakClear (channel : Nat)
  /-- READBACK_FAULT (R245). -/
  | readbackFault (channel : Nat)
  /-- SLICE_OC_TRIP (R242). -/
  | sliceOcTrip (slice : Nat)
  /-- CLEAR_OT_LATCHED (R243). -/
  | clearOtLatched (path : Path) (channel : Nat)
  /-- CLEAR_SLICE_OC (R242). -/
  | clearSliceOc (path : Path) (slice : Nat)
  /-- SOE_QUEUE_READ (R246). -/
  | soeQueueRead (path : Path)
  /-- HOLD_LATCH_LIMIT_EXPIRY (R248). -/
  | holdLatchLimitExpiry (die : Nat)
  /-- SUPPLY_SET (R255). -/
  | supplySet (supply : Nat)
  /-- SUPPLY_CLEAR (R255). -/
  | supplyClear (supply : Nat)
  /-- COMPLIANCE_SET (R265). -/
  | complianceSet (channel : Nat)
  /-- COMPLIANCE_CLEAR (R265). -/
  | complianceClear (channel : Nat)
  /-- MISWIRE_DETECT (R266). -/
  | miswireDetect (channel : Nat)
  /-- MISWIRE_PROBE (R267). -/
  | miswireProbe (channel : Nat) (clean : Bool)
  /-- LIMIT_DETECT (R268). -/
  | limitDetect (channel : Nat)
  /-- LIMIT_CLEAR (R268). -/
  | limitClear (channel : Nat)
  /-- ANALOG_OVERTEMP_TRIP (R268). -/
  | analogOvertempTrip (channel : Nat)
  /-- ANALOG_MODE_CHANGE_APPLIED (R269). -/
  | analogModeChangeApplied (channel : Nat)
  /-- HART_REQUEST (R274). -/
  | hartRequest (path : Path) (data : List Byte)
  /-- HART_RESPONSE_FRAME (R275). -/
  | hartResponseFrame (channel : Nat) (frame : List Byte) (intact : Bool) (durationUs : Nat)
  /-- HART_RESPONSE_TIMEOUT (R275). -/
  | hartResponseTimeout (channel durationUs : Nat)
  /-- HART_RESPONSE_READ (R276). -/
  | hartResponseRead (path : Path)
  /-- HART_ABORT (R277). -/
  | hartAbort (path : Path) (channel : Nat)
  /-- HART_BURST_FRAME (R278). -/
  | hartBurstFrame (channel : Nat) (frame : List Byte)
  /-- PTP_SYNC (R290). -/
  | ptpSync (port : Nat) (message : PtpEvent)
  /-- PTP_FOLLOW_UP (R290). -/
  | ptpFollowUp (port : Nat) (message : PtpEvent)
  /-- PTP_ANNOUNCE (R287). -/
  | ptpAnnounce (port : Nat) (message : Announce)
  /-- PTP_DELAY_EXCHANGE (R289). -/
  | ptpDelayExchange (port : Nat) (exchange : DelayExchange)
  /-- PTP_UNSUPPORTED_MESSAGE (R286). -/
  | ptpUnsupportedMessage (port : Nat)
  /-- PPS_IN_EDGE (R301). -/
  | ppsInEdge (atNs : Nat)
  /-- CHAIN_SYNC_TRANSMIT (R298). -/
  | chainSyncTransmit (atNs : Nat)
  /-- CALENDAR_SET (R309). -/
  | calendarSet (path : Path) (data : List Byte)
  /-- CALENDAR_CAPTURE (R315). -/
  | calendarCapture (path : Path)
  /-- KEEPER_TEMPERATURE_SAMPLE (R313). -/
  | keeperTemperatureSample (temperature : Word)
  /-- WAKE_ACKNOWLEDGE (R319). -/
  | wakeAcknowledge (path : Path)
  /-- SWITCH_TO_MAIN (R320). -/
  | switchToMain (seconds : Nat)
  /-- CAN_FRAME_RECEIVED (R333). -/
  | canFrameReceived (controller : Nat) (frame : CanFrame) (stampNs : Nat)
  /-- CAN_FRAME_SENT (R341). -/
  | canFrameSent (controller : Nat)
  /-- CAN_BUS_OFF (R332). -/
  | canBusOff (controller : Nat)
  /-- CAN_ERROR_PASSIVE (R332). -/
  | canErrorPassive (controller : Nat)
  /-- BUS_OFF_RECOVERY_END (R332). -/
  | busOffRecoveryEnd (controller : Nat)
  /-- START_BUS_OFF_RECOVERY (R332). -/
  | startBusOffRecovery (path : Path) (controller : Nat)
  /-- DISCARD_TRANSMIT_QUEUE (R356). -/
  | discardTransmitQueue (path : Path) (controller : Nat)
  /-- CAN_WINDOW_READ (R339). -/
  | canWindowRead (path : Path) (controller queue : Nat)
  /-- RELEASE_RXQ0 (R339). -/
  | releaseRxq0 (path : Path) (controller : Nat)
  /-- RELEASE_RXQ1 (R339). -/
  | releaseRxq1 (path : Path) (controller : Nat)
  /-- RPDO_RECEIVED (R345). -/
  | rpdoReceived (number : Nat) (data : List Byte)
  /-- TPDO_EVENT_TIMER_EXPIRY (R346). -/
  | tpdoEventTimerExpiry (number : Nat)
  /-- SDO_UPLOAD_REQUEST (R363). -/
  | sdoUploadRequest (controller index sub : Nat)
  /-- SDO_DOWNLOAD_REQUEST (R363). -/
  | sdoDownloadRequest (controller index sub : Nat) (data : List Byte)
  /-- SDO_ABORT_TRANSFER (R363). -/
  | sdoAbortTransfer (controller : Nat)
  /-- NMT_START_REMOTE_NODE (R376). -/
  | nmtStartRemoteNode (node : Nat)
  /-- NMT_STOP_REMOTE_NODE (R376). -/
  | nmtStopRemoteNode (node : Nat)
  /-- NMT_ENTER_PRE_OPERATIONAL (R376). -/
  | nmtEnterPreOperational (node : Nat)
  /-- NMT_RESET_NODE (R376). -/
  | nmtResetNode (node : Nat)
  /-- NMT_RESET_COMMUNICATION (R376). -/
  | nmtResetCommunication (node : Nat)
  /-- ADDRESS_CLAIM_RECEIVED (R348). -/
  | addressClaimReceived (controller address name : Nat)
  /-- REQUEST_FOR_ADDRESS_CLAIM (R348). -/
  | requestForAddressClaim (controller : Nat)
  /-- SENTENCE_RECEIVED (R351). -/
  | sentenceReceived (port : Nat) (chars : List Byte) (framingError : Bool) (stampNs : Nat)
  /-- SENTENCE_QUEUE_READ (R352). -/
  | sentenceQueueRead (path : Path) (port : Nat)
  /-- DATAGRAM_61162_450 (R354). -/
  | datagram61162450 (plantPort group : Nat) (bytes : List Byte) (stampNs : Nat)
  /-- DICTIONARY_WRITE (R368). -/
  | dictionaryWrite (path : Path) (index sub : Nat) (data : List Byte)
  /-- STORE_COMPLETE (R359). -/
  | storeComplete (success : Bool)
  /-- GUARD_UNLOCK (R374). -/
  | guardUnlock (path : Path)
  /-- GUARD_RELOCK (R374). -/
  | guardRelock (path : Path)
  /-- GUARD_WINDOW_EXPIRY (R374). -/
  | guardWindowExpiry (path : Path)
  /-- TRANSFER_IDLE_TIMEOUT (R363). -/
  | transferIdleTimeout (path : Path)
  /-- UDP_READ (R379). -/
  | udpRead (header : UdpHeader)
  /-- UDP_WRITE (R379). -/
  | udpWrite (header : UdpHeader) (data : List Byte)
  /-- HOST_READ (R382). -/
  | hostRead (frame : HostFrame)
  /-- HOST_WRITE (R382). -/
  | hostWrite (frame : HostFrame) (data : List Byte)
  /-- HOST_FETCH_RESPONSE (R384). -/
  | hostFetchResponse (sequence crc : Nat)
  /-- HOST_STATUS_POLL (R382). -/
  | hostStatusPoll (sequence crc : Nat)
  /-- PARTNER_REQUEST (R362). -/
  | partnerRequest (index sub : Nat) (write : Option (List Byte))
  /-- CAUSE_CLEAR (R386). -/
  | causeClear (path : Path) (group bits : Nat)
  /-- LEVEL_BOOK_COMMIT_DUE (R401). -/
  | levelBookCommitDue (code : Nat)
  /-- LEVEL_BOOK_COMMIT_DONE (R402). -/
  | levelBookCommitDone (code : Nat) (success : Bool)
  /-- COMMIT_RETRY_EXPIRY (R402). -/
  | commitRetryExpiry (code : Nat)
  /-- RECORD_RESTART (R405). -/
  | recordRestart (path : Path) (code : Nat)
  /-- OPERATING_SECOND (R400). -/
  | operatingSecond (sample : SecondSample)
  /-- RECTANGLE_REQUEST (R422). -/
  | rectangleRequest (path : Path) (data : List Byte)
  /-- CLOCK_MONITOR_FAULT (R482). -/
  | clockMonitorFault (clock : Clock)
  /-- BLOCK_RESET_COMMAND (R440). -/
  | blockResetCommand (path : Path) (block : Nat)
  /-- BLOCK_IDLE (R440). -/
  | blockIdle (block : Nat)
  /-- BLOCK_IDLE_TIMEOUT (R440). -/
  | blockIdleTimeout (block units : Nat)
  /-- BLOCK_RELEASE (R441). -/
  | blockRelease (block : Nat)
  /-- SELF_TEST_COMPLETE (R445). -/
  | selfTestComplete (failure : Nat)
  /-- IMAGES_LOADED (R123). -/
  | imagesLoaded (report : LoadReport)
  /-- TIE_LINK_LANE_UP (R184). -/
  | tieLinkLaneUp (lane : Nat)
  /-- PLANT_PORT_LINK_DOWN (R287). -/
  | plantPortLinkDown (port : Nat)
  /-- PLANT_PORT_LINK_UP (R288). -/
  | plantPortLinkUp (port speed : Nat)
  /-- CAN_PROTOCOL_ERROR (R332). -/
  | canProtocolError (controller : Nat) (kind : CanErrorKind)
  /-- HEARTBEAT_CONSUMER_EXPIRY (R375). -/
  | heartbeatConsumerExpiry (number : Nat)
  /-- DELAY_REQUEST_TRANSMIT (R289). -/
  | delayRequestTransmit (port atNs : Nat)
  /-- SENTENCE_TRANSMITTED (R350). -/
  | sentenceTransmitted (port : Nat)
  /-- JTAG_FORCED_RELEASE (R441). -/
  | jtagForcedRelease (block : Nat)
  /-- COLD_ACTIVATION (R124). -/
  | coldActivation (path : Path)
  /-- ONLINE_EXCHANGE (R127). -/
  | onlineExchange (path : Path)
  /-- EXCHANGE_ABORT (R136). -/
  | exchangeAbort (path : Path)
  /-- ERASE_INACTIVE_BANK (R138). -/
  | eraseInactiveBank (path : Path)
  /-- PLANNED_SWITCH_OVER (R195). -/
  | plannedSwitchOver (path : Path)
  /-- CANCEL_SWITCH_OVER (R195). -/
  | cancelSwitchOver (path : Path)
  /-- LEAVE_NOT_READY (R171). -/
  | leaveNotReady (path : Path)
  /-- ENTER_NOT_READY (R171). -/
  | enterNotReady (path : Path)
  /-- START_RESYNCHRONISATION (R191). -/
  | startResynchronisation (path : Path)
  /-- CLEAR_SLICE_OT_LATCHED (R250). -/
  | clearSliceOtLatched (path : Path) (slice : Nat)
  /-- SOE_QUEUE_DISCARD (R252). -/
  | soeQueueDiscard (path : Path)
  /-- TIME_UNIT_RESET (R293). -/
  | timeUnitReset (path : Path)
  /-- STORE_PARAMETERS_ALL (R359). -/
  | storeParametersAll (path : Path)
  /-- STORE_PARAMETERS_COMMUNICATION (R359). -/
  | storeParametersCommunication (path : Path)
  /-- STORE_PARAMETERS_APPLICATION (R359). -/
  | storeParametersApplication (path : Path)
  /-- RESTORE_DEFAULTS_ALL (R360). -/
  | restoreDefaultsAll (path : Path)
  /-- RESTORE_DEFAULTS_COMMUNICATION (R360). -/
  | restoreDefaultsCommunication (path : Path)
  /-- RESTORE_DEFAULTS_APPLICATION (R360). -/
  | restoreDefaultsApplication (path : Path)
  /-- DISCARD_QUEUED_REQUESTS (R426). -/
  | discardQueuedRequests (path : Path)
  /-- PANEL_ENABLE (R426). -/
  | panelEnable (path : Path) (value : Nat)
  /-- WAVEFORM_TABLE_WRITE (R419). -/
  | waveformTableWrite (path : Path) (data : List Byte)
  /-- RESET_NODE_COMMAND (R437). -/
  | resetNodeCommand (path : Path)
  /-- RESET_COMMUNICATION_COMMAND (R437). -/
  | resetCommunicationCommand (path : Path)
  /-- CLEAR_FAILED_START_COUNTER (R446). -/
  | clearFailedStartCounter (path : Path)
  /-- ENTER_BENCHMARK_REQUEST (R447). -/
  | enterBenchmarkRequest (path : Path)
  /-- LEAVE_BENCHMARK_MARK (R450). -/
  | leaveBenchmarkMark (path : Path)
  /-- OPTION_BLOCK_WRITE (R444). -/
  | optionBlockWrite (path : Path) (data : List Byte)
  /-- RESET_MAP_PROGRAMMING (R434). -/
  | resetMapProgramming (path : Path) (data : List Byte)
  /-- OWNER_KEY_HASH_PROGRAMMING (R451). -/
  | ownerKeyHashProgramming (path : Path) (data : List Byte)
  /-- DEBUG_KEY_HASH_PROGRAMMING (R451). -/
  | debugKeyHashProgramming (path : Path) (data : List Byte)
  /-- LIFECYCLE_FIELD (R452). -/
  | lifecycleField (path : Path)
  /-- LIFECYCLE_RETIRE (R452). -/
  | lifecycleRetire (path : Path)
  /-- FIRMWARE_DOWNLOAD (R453). -/
  | firmwareDownload (path : Path) (copy : FirmwareCopy)
  /-- PREFER_OTHER_COPY (R453). -/
  | preferOtherCopy (path : Path)
  /-- RAISE_SECURITY_VERSION (R453). -/
  | raiseSecurityVersion (path : Path)
  /-- DEBUG_RESPONSE (R455). -/
  | debugResponse (path : Path) (data : List Byte)
  /-- CLOSING_POINT (R16). -/
  | closingPoint
  /-- STAKING_POINT (R16). -/
  | stakingPoint
  /-- CLOSURE_POINT (R16). -/
  | closurePoint
  /-- FRAME_BOUNDARY (R41). -/
  | frameBoundary
  /-- STEP_ABSORBED (R35). -/
  | stepAbsorbed
  /-- IMAGE_VERIFICATION_DONE (R122). -/
  | imageVerificationDone
  /-- BACKGROUND_TRANSFER_DONE (R132). -/
  | backgroundTransferDone
  /-- PREPARATION_LIMIT_EXPIRY (R136). -/
  | preparationLimitExpiry
  /-- BANK_RECORD_COMMITTED (R137). -/
  | bankRecordCommitted
  /-- CLOSURE_VERDICT (R185). -/
  | closureVerdict
  /-- SILENCE_WATCH_CLOSE (R183). -/
  | silenceWatchClose
  /-- CLAIM_WAIT_EXPIRY (R177). -/
  | claimWaitExpiry
  /-- DRIVER_TURN_OFF (R189). -/
  | driverTurnOff
  /-- HANDBACK_HOLD_OFF_EXPIRY (R197). -/
  | handbackHoldOffExpiry
  /-- RESYNCHRONISATION_PASS_COMPLETE (R192). -/
  | resynchronisationPassComplete
  /-- RESYNCHRONISATION_LIMIT_EXPIRY (R193). -/
  | resynchronisationLimitExpiry
  /-- HOLD_LIMIT_EXPIRY (R218). -/
  | holdLimitExpiry
  /-- HOLDOVER_ENTRY (R291). -/
  | holdoverEntry
  /-- PPS_OUT_PULSE (R300). -/
  | ppsOutPulse
  /-- CHAIN_ANNOUNCE_TRANSMIT (R298). -/
  | chainAnnounceTransmit
  /-- DISCIPLINE (R316). -/
  | discipline
  /-- CALENDAR_END (R308). -/
  | calendarEnd
  /-- KEEPER_WAKE (R319). -/
  | keeperWake
  /-- KEEPER_INTERFACE_LOCK (R320). -/
  | keeperInterfaceLock
  /-- SWITCH_TO_VBAT (R320). -/
  | switchToVbat
  /-- KEEPER_INTERFACE_UNLOCK (R322). -/
  | keeperInterfaceUnlock
  /-- RETENTION_LOST (R322). -/
  | retentionLost
  /-- SYNC_RECEIVED (R345). -/
  | syncReceived
  /-- HEARTBEAT_PRODUCER_EXPIRY (R375). -/
  | heartbeatProducerExpiry
  /-- SCAN_BOUNDARY (R423). -/
  | scanBoundary
  /-- PRAIL_OK_ASSERTED (R413). -/
  | prailOkAsserted
  /-- RAIL_UP_DELAY_EXPIRY (R413). -/
  | railUpDelayExpiry
  /-- RAIL_UP_TIMEOUT (R414). -/
  | railUpTimeout
  /-- RAIL_FAULT (R414). -/
  | railFault
  /-- RAIL_FAULT_RETRY (R414). -/
  | railFaultRetry
  /-- RAIL_HOLD_EXPIRY (R413). -/
  | railHoldExpiry
  /-- RAIL_DOWN_DELAY_EXPIRY (R413). -/
  | railDownDelayExpiry
  /-- STRESS_COUNTER_COMMIT (R427). -/
  | stressCounterCommit
  /-- POWER_ON_RESET (R432). -/
  | powerOnReset
  /-- VSUP_BROWN_OUT (R466). -/
  | vsupBrownOut
  /-- CORE_BROWN_OUT (R433). -/
  | coreBrownOut
  /-- RST_N_ASSERTED (R433). -/
  | rstNAsserted
  /-- SUPERVISOR_WATCHDOG_EXPIRY (R433). -/
  | supervisorWatchdogExpiry
  /-- SUPERVISOR_LOCKSTEP_MISMATCH (R433). -/
  | supervisorLockstepMismatch
  /-- THERMAL_RESET (R433). -/
  | thermalReset
  /-- DEBUG_RESET (R433). -/
  | debugReset
  /-- DEFERRED_RESET_START (R435). -/
  | deferredResetStart
  /-- RESET_RELEASE (R435). -/
  | resetRelease
  /-- OPTION_READ_COMPLETE (R442). -/
  | optionReadComplete
  /-- FIRMWARE_BOOT (R453). -/
  | firmwareBoot
  /-- SUPERVISOR_START (R323). -/
  | supervisorStart
  /-- CONFIGURATION_LOADED (R361). -/
  | configurationLoaded
  deriving DecidableEq, Repr

end Sys2Proof
end

