-- ==== Sys2Proof/Decode.lean ====
section
/-! DEFINITION. The command that a word of the opcode table spells. The block takes commands, not instruction words:
the table gives no row any bits. -/

namespace Sys2Proof

/-- No row of the opcode table has bits, so no word spells a command. -/
def decodeTableWord (_nbits _w : Nat) : Option Instr := none

end Sys2Proof
end

