-- ==== Sys2Proof/Config.lean ====
section
/-! DEFINITION. What the spec leaves to manufacture, to cited outside standards, or open: constants and
functions with no body, so that no proof can rest on a value of them. -/

namespace Sys2Proof.Config

open Sys2Proof

/-- SHA-256 of a byte string, as a 256-bit number, first byte most significant (R181 names the function and
does not define it: uninterpreted, log entry 3). -/
opaque sha256 : List Byte → Nat

/-- SHA-384 of a byte string (R119, R135, R191, R453, R455 name the function: uninterpreted, log entry 3). -/
opaque sha384 : List Byte → Nat

/-- The 48-bit MAC address of a chain port (R204 names it and gives no value; log entry 4). -/
opaque portMac : Nat → Nat

/-- Whether an ECDSA P-384 signature is valid: 97-byte public key, 96 bytes of r and s, SHA-384 digest
(R119, R453, R455 name the scheme: uninterpreted, log entry 3). -/
opaque ecdsaP384Valid : List Byte → List Byte → Nat → Bool

/-- The 'Factory' value of a dictionary entry, by key (R360: fixed at manufacture; log entry 4). -/
opaque factory : Nat → Nat

/-- The 'Factory' content of a DOMAIN entry, by key (R360, R393). -/
opaque factoryBytes : Nat → List Byte

/-- Version, security version and whether the signature is valid, of the bytes of a firmware image: R453 names them and gives
no layout (log entry 3). -/
opaque firmwareHeader : List Byte → Nat × Nat × Bool

/-- The MiB of the level book partition in use, by the generation of each committed copy: R402 leaves it to the flash manager
when space is reclaimed (log entry 42). -/
opaque bookUsed : List (Nat × Nat) → Nat

/-- A byte of area S that R76 does not list, by tick number, drawn values and address (log entry 8). -/
opaque reservedByte : Nat → Nat → Nat → Nat

/-- A value the spec leaves open, the n-th one that a run draws (log entry 5). -/
opaque freeValue : Nat → Nat

end Sys2Proof.Config
end

