-- ==== Sys2Proof/Machine/State.lean ====
section
/-! DEFINITION. The state of the module as plain data, the reasons a step can stop, and the state after reset.

Two layers. `regs` and `blobs` are the object dictionary: every subindex of every entry, at its place (index and
subindex), so that a status word, a counter, a configuration value and a queue level each stand in exactly one
register. The remaining fields hold what the spec gives the machine beside the dictionary: the engines, the data
memory, the sequencer, queues, links, fuses, flash contents. A sparse table lists only the keys whose value
differs from what an unlisted key reads as. -/

namespace Sys2Proof.Machine

open Sys2Proof

/-- Faults. None of the module's own fault outcomes stops the step: a halt, a pair mismatch or an overrun is a
next state (R96 to R99). -/
inductive Fault where
  /-- Raised by the operand accesses of a scan instruction that reaches bytes of area I, Q, M or D beyond the
  configured size by a direct address: verification refuses such an image (R58 rule 2), so no engine meets it.
  Safe: the model stops where the spec gives no behaviour. -/
  | directAddressOutsideArea
  deriving DecidableEq, Repr

/-- Refusals. -/
inductive Refusal where
  /-- An instruction row that has no meaning yet. -/
  | notModelled (mnemonic : String)
  /-- Raised by the check before a scan instruction whose word breaks a static rule of R50, R51, R54, R58 or R71: verification
  gives such an image verdict 0x06, so no engine meets it. Safe: the model stops. -/
  | illFormed
  deriving DecidableEq, Repr

/-- A table that lists only the keys whose value differs from the default, keys strictly rising. -/
abbrev Sparse (α : Type) := List (Nat × α)

/-- The operation of a branch-stack entry (R61). -/
inductive BranchOp where
  | and | or | xor | keep
  deriving DecidableEq, Repr

/-- One engine pair (R48) with what the schedule of the tick and the comparison points need (R77 to R80, R87).
`overlay` holds the stores of the running tick that are not yet committed (R56), `pStores` those to area P as
(byte address, word), `request` a store of bit 0 to the request word of area S (R76). -/
structure Engine where
  a         : Bool := false
  w0        : Word := 0
  w1        : Word := 0
  branch    : List (Bool × BranchOp) := []
  calls     : List Nat := []
  ov        : Bool := false
  uf        : Bool := false
  dz        : Bool := false
  pc        : Nat := 0
  running   : Option Nat := none
  waiting   : List Nat := []
  stopped   : Bool := false
  cycles    : Nat := 0
  actCycles : Nat := 0
  signature : Nat := 0xFFFFFFFF
  tickFaults : Nat := 0
  overlay   : Sparse (Option Byte) := []
  pStores   : List (Nat × Word) := []
  request   : Bool := false
  deriving DecidableEq, Repr

/-- What a task keeps between its activations (R49, R76). Key: task number, 0x10 start-up, 0x11 error. -/
structure TaskRt where
  ov          : Bool := false
  uf          : Bool := false
  dz          : Bool := false
  activations : Nat := 0
  indexFaults : Nat := 0
  firstRun    : Bool := false
  firstExch   : Bool := false
  firstActive : Bool := false
  deriving DecidableEq, Repr

/-- An error-task record (R89, R90). -/
structure ErrRecord where
  code   : Nat
  param1 : Nat
  param2 : Nat
  tick   : Nat
  deriving DecidableEq, Repr

/-- Values of every output at one point: staked (R83) or released (R16). `digital` has bit n for channel n, `outs` the
payload of each configured outstation, `words` the Q words that are loop destinations, by Q address. -/
structure OutputSet where
  tick    : Nat := 0
  digital : Nat := 0
  analog  : List Word := []
  outs    : List (Nat × List Byte) := []
  words   : List (Nat × Word) := []
  deriving DecidableEq, Repr

/-- The point of the tick last passed (R16). -/
inductive Point where
  | none | d | c | x | s | k
  deriving DecidableEq, Repr

/-- The tick sequencer (R13 to R47). Times are nanoseconds of the time-scale since the PTP epoch. `stepNow`
says that a step was applied for the coming datum edge, `boundaryDone` that its frame boundary was begun. `imageBad` names
the analog channels whose value in the closed image is invalid (R105), `stageError` the output stages that do not follow
(R181). `window` holds the window registers of the blocks that a tick samples, as they stood before (R147). -/
structure TickState where
  point        : Point := .none
  started      : Bool := false
  datumNs      : Nat := 0
  nextNs       : Nat := 0
  nowNs        : Nat := 0
  boundaryDone : Bool := false
  stepPending  : Option Int := none
  stepHeld     : Bool := false
  stepNow      : Bool := false
  stepped      : Bool := false
  stretched    : Bool := false
  syncNow      : Bool := false
  firstRun     : Bool := false
  latchedDigital : Nat := 0
  latchedValid : Nat := 0
  latchedAnalog : List Word := []
  imageBad     : Nat := 0
  stageError   : Nat := 0
  staked       : OutputSet := {}
  token        : Bool := false
  released     : OutputSet := {}
  prevReleased : OutputSet := {}
  substituted  : Nat := 0
  pStores      : List (Nat × Word) := []
  resetsDue    : List Nat := []
  window       : List (Nat × Nat) := []
  errQueue     : List ErrRecord := []
  errNew       : List ErrRecord := []
  deriving DecidableEq, Repr

/-- A task descriptor (R118). -/
structure TaskDesc where
  kind   : Nat := 0
  number : Nat := 0
  pair   : Nat := 0
  period : Nat := 0
  phase  : Nat := 0
  budget : Nat := 0
  entry  : Nat := 0
  lSize  : Nat := 0
  deriving DecidableEq, Repr

/-- A run of initial data (R117). -/
structure DataRun where
  area : Nat
  task : Nat
  addr : Nat
  data : List Byte
  deriving DecidableEq, Repr

/-- A monument record (R126). -/
structure Monument where
  ident  : Nat
  kind   : Nat
  flags  : Nat
  task   : Nat
  addr   : Nat
  size   : Nat
  layout : Nat
  deriving DecidableEq, Repr

/-- An export record (R377). -/
structure Export where
  index  : Nat
  sub    : Nat
  kind   : Nat
  area   : Nat
  access : Nat
  addr   : Nat
  size   : Nat
  deriving DecidableEq, Repr

/-- A verified program image: the header fields and sections of R116 to R118, R126, R377. -/
structure Image where
  ident       : Nat := 0
  version     : Nat := 0
  baseId      : Nat := 0
  baseVersion : Nat := 0
  iSize       : Nat := 0
  qSize       : Nat := 0
  mSize       : Nat := 0
  dSize       : Nat := 0
  retStart    : Nat := 0
  retSize     : Nat := 0
  timers      : Nat := 0
  counters    : Nat := 0
  edgeBits    : Nat := 0
  layoutHash  : Nat := 0
  tasks       : List TaskDesc := []
  code        : List Word := []
  data        : List DataRun := []
  monuments   : List Monument := []
  exports     : List Export := []
  deriving DecidableEq, Repr

/-- A program bank in SRAM and its stored container in flash (R121 to R123). -/
structure Bank where
  image     : Option Image := none
  container : List Byte := []
  deriving DecidableEq, Repr

/-- Program banks, download, activation and exchange (R121 to R137). `coldPending` names the bank of an accepted cold
activation and whether it still holds the image it held then; `bgDone` counts the background bytes copied,
`dirtyPages` lists the pages of D to be copied again; `retWriter` is retained start, size and layout hash of the
program that last wrote the retained range. -/
structure ImageState where
  bankA       : Bank := {}
  bankB       : Bank := {}
  download    : Option (List Byte) := none
  target      : Nat := 0
  lastLoaded  : Option Nat := none
  coldPending : Option (Nat × Bool) := none
  committedBank : Nat := 0xFF
  bgDone      : Nat := 0
  bgComplete  : Bool := false
  dirtyPages  : List Nat := []
  retWriter   : Option (Nat × Nat × Nat) := none
  retLost     : Bool := true
  retEccBad   : Bool := false
  deriving DecidableEq, Repr

/-- A cause record (R105). -/
structure Cause where
  inputs     : List Nat
  threshold  : Int
  hysteresis : Int
  vote       : Nat
  flags      : Nat
  delay      : Nat
  maxBypass  : Nat
  deriving DecidableEq, Repr

/-- An output reference (R107). -/
structure OutRef where
  kind   : Nat
  station : Nat
  target : Nat
  deriving DecidableEq, Repr

/-- An effect record (R106), its links and references already taken from their arrays. -/
structure Effect where
  links      : List Nat
  outs       : List OutRef
  flags      : Nat
  resetInput : Nat
  deriving DecidableEq, Repr

/-- A safety matrix (R103). `refs` is its whole output reference array. -/
structure Matrix where
  ident   : Nat := 0
  causes  : List Cause := []
  effects : List Effect := []
  links   : Nat := 0
  outRefs : Nat := 0
  refs    : List OutRef := []
  deriving DecidableEq, Repr

/-- What the witness pair keeps per cause (R104, R105, R108, R110). -/
structure CauseRt where
  input0  : Bool := false
  input1  : Bool := false
  input2  : Bool := false
  count   : Nat := 0
  tripped : Bool := false
  bypass  : Option Nat := none
  deriving DecidableEq, Repr

/-- What the witness pair keeps per effect (R106, R108, R111). -/
structure EffectRt where
  latch     : Bool := false
  active    : Bool := false
  prevReset : Bool := false
  deriving DecidableEq, Repr

/-- The safety matrix and its evaluation state (R102 to R111). `kept` names the effects whose latches a reset found
set, `lastTick` the tick of the last evaluation, `early` the causes that were evaluated ahead of it, with their tick. -/
structure MatrixState where
  active   : Option Matrix := none
  waiting  : Option Matrix := none
  store    : List Byte := []
  causes   : Sparse CauseRt := []
  effects  : Sparse EffectRt := []
  resets   : List Nat := []
  stopped  : Bool := false
  mismatch : Bool := false
  anyActive : Bool := false
  anyBypass : Bool := false
  kept     : List Nat := []
  lastTick : Option Nat := none
  early    : List (Nat × Nat) := []
  deriving DecidableEq, Repr

/-- What a loop block keeps beside its window (R150 to R164). `integ`, `yf`, `w`, `step` hold 32 fractional bits; `dest` is
the destination value of the last sample, `bumpK` and `bumpB` sum old less new Kp and Kp × b over the changes that wait to
be made bumpless, `mode` is the mode in force, `sat` counts the samples of the frame in which a saturation flag's condition
occurred (R391). -/
structure LoopRt where
  integ    : Int := 0
  yf       : Int := 0
  w        : Int := 0
  step     : Int := 0
  raw      : Word := 0
  raw2     : Word := 0
  rawBad   : Bool := false
  dest     : Option Word := none
  bumpK    : Int := 0
  bumpB    : Int := 0
  wasAuto  : Bool := false
  wasInvalid : Bool := false
  mode     : Nat := 0
  overridden : Bool := false
  sat      : Nat := 0
  deriving DecidableEq, Repr

/-- A role change that waits for the next datum edge (R171): the roles it applies to, role, reason, switch-over kind. -/
structure RoleChange where
  sources : List Nat
  role    : Nat
  reason  : Nat := 0
  kind    : Nat := 0
  deriving DecidableEq, Repr

/-- The redundant pair beside its dictionary entries (R167 to R199). `heard` counts the datum edges for which the partner's
last status stands; `image` is the last image frame, `computed` whether the tick is computed; `digest` and `notice` are what
the standby sent for a tick; `ownSet` is the staked output set that `ownDigest` was formed over; `abdicated` is the tick of
an own fault whose abdication waits for what the standby sends; `unheard` says that the standby had neither token frame nor
role status at C (R182); `watch` is the tick at which the silence watch opened and `watchHeard` whether a frame arrived
since; `firstTick` marks the first ACTIVE tick; `inStepOnce` bars the automatic start; `mismatches` lists the loop pairs
that a mismatch stopped; `passed` is the outcome of the last closure check; `differed` lists the outputs that differed in
the run of mismatching ticks; `target` is a switch-over for the next frame boundary, as a handback or not; `toCopy` lists
the stores still to be copied, `passDone` says that one full pass is streamed; `gapMissed` that an exchange could not be
followed. -/
structure PairState where
  partner     : Option RoleStatus := none
  heard       : Nat := 0
  change      : Option RoleChange := none
  image       : Option ImageFrame := none
  computed    : Bool := true
  digest      : Option (Nat × Nat) := none
  notice      : Option Nat := none
  ownDigest   : Nat := 0
  ownSet      : List Byte := []
  abdicated   : Option Nat := none
  unheard     : Bool := false
  watch       : Option Nat := none
  watchHeard  : Bool := false
  firstTick   : Bool := false
  inStepOnce  : Bool := false
  mismatches  : List Nat := []
  verdictDue  : Bool := false
  passed      : Bool := false
  differed    : List Nat := []
  target      : Option Bool := none
  holdOffDone : Bool := false
  inStepNs    : Nat := 0
  attempts    : Nat := 0
  syncNs      : Nat := 0
  toCopy      : List Nat := []
  passDone    : Bool := false
  gapMissed   : Bool := false
  deriving DecidableEq, Repr

/-- The controller's record of one outstation beside its entry (R210 to R221). Key: address. `out` is the payload last
released to it, `outHeld` says that the last release edge held it (R47). -/
structure OutRec where
  rx0      : Option Slot := none
  rx1      : Option Slot := none
  last     : Option (List Byte) := none
  okTicks  : Nat := 0
  reintTick : Option Nat := none
  received : Bool := false
  out      : Option (List Byte) := none
  outHeld  : Bool := false
  deriving DecidableEq, Repr

/-- The chain as its controller sees it (R200 to R222). `back0` and `back1` say how the traverse frame of the
tick came back: `none` not yet, `some 0` direct, `some n` reflected by node n. `portDown` says that a chain port's
link was down at the datum edge. `seen` is tick and mask of the last token frame that a partner controller forwarded. -/
structure ChainState where
  records : Sparse OutRec := []
  back0   : Option Nat := none
  back1   : Option Nat := none
  portDown : Bool := false
  stakeBody : List Byte := []
  seen : Option (Nat × Nat) := none
  deriving DecidableEq, Repr

/-- A stake an outstation keeps from one source unit (R217): the checks of the bodies that brought its slot whole,
each with the payload. `done` says that it was released, or counted as never released. -/
structure StakeRx where
  tick   : Nat := 0
  nextNs : Nat := 0
  copies : List (Nat × List Byte) := []
  done   : Bool := true
  deriving DecidableEq, Repr

/-- A token an outstation holds for the coming edge (R216). -/
structure TokenRx where
  unit   : Nat
  tick   : Nat
  nextNs : Nat
  check  : Nat
  mask   : Nat
  late   : Bool
  deriving DecidableEq, Repr

/-- The outstation role (R211 to R219). `status` is the status formed at the last datum edge, `inserted` whether it went
into a slot since, `carry` the LATE-TOKEN and EXPIRED bits of events since that edge, `dir0Port` the chain port on which
direction 0 arrives; `dir0Now` and `dir0Was` say that it arrived since the last datum edge, and in the tick before (R214).
-/
structure OutstationState where
  stakes    : Sparse StakeRx := []
  tokens    : List TokenRx := []
  accepted  : Bool := false
  releasedOnce : Bool := false
  expired   : Bool := false
  subst     : Bool := false
  status    : Nat := 0
  carry     : Nat := 0
  inserted  : Bool := false
  payload   : List Byte := []
  dir0Port  : Nat := 0
  dir0Now   : Bool := false
  dir0Was   : Bool := false
  deriving DecidableEq, Repr

/-- What a digital channel keeps beside its status word (R236 to R246). Key: channel. `demagNs` is when DEMAG last
cleared, `freed` says that OT-LATCHED was cleared, so that the retry limit no longer holds the stage, `skipPrev`
that the stage was held when the previous datum edge had passed. -/
structure DigitalRt where
  accepted   : Bool := false
  broken     : Bool := false
  tripNs     : Nat := 0
  demagNs    : Nat := 0
  freed      : Bool := false
  mismatchRun : Nat := 0
  skipPrev   : Bool := false
  deriving DecidableEq, Repr

/-- A stamped edge (R246). -/
structure SoeEdge where
  channel : Nat
  rising  : Bool
  stampNs : Nat
  deriving DecidableEq, Repr

/-- Digital channels, sequence of events and hold latches (R230 to R252). `holdEdges` counts consecutive edges
without release; `holdOverA` and `holdOverB` say that the hold latch of a field die has ended, `holdOverSlices` for which
slices the loss of L+ ended it. -/
structure DigitalState where
  channels  : Sparse DigitalRt := []
  edges     : List SoeEdge := []
  imageEdges : List SoeEdge := []
  imageBaseNs : Nat := 0
  queue     : List SoeEdge := []
  holdEdges : Nat := 0
  holdOverA : Bool := false
  holdOverB : Bool := false
  holdOverSlices : Nat := 0
  everReleased : Bool := false
  deriving DecidableEq, Repr

/-- How a HART transaction is to end (R277). -/
inductive HartEnding where
  | none | command | change
  deriving DecidableEq, Repr

/-- A queued HART request (R274), with the abort that found it queued (R277). -/
structure HartRequest where
  tag    : Nat
  frame  : List Byte
  ending : HartEnding := .none
  deriving DecidableEq, Repr

/-- What an analog channel keeps beside its status word (R263 to R278). Key: channel. `modeInForce` is the mode the
terminal is in, `pendingMode` a mode that waits for a datum edge, `isolated` the isolation of R266 until the datum
edge of R267, `hartEnd` how the running transaction is to end, `hartBarred` that an abort has ended and the next datum edge
is still to come (R277). -/
structure AnalogRt where
  shortRun  : Nat := 0
  fullRun   : Nat := 0
  changedNs : Nat := 0
  probes    : Nat := 0
  isolated  : Bool := false
  pendingMode : Option Nat := none
  modeInForce : Nat := 0
  hartQueue : List HartRequest := []
  hartNow   : Option HartRequest := none
  hartTries : Nat := 0
  hartEnd   : HartEnding := .none
  hartBarred : Bool := false
  deriving DecidableEq, Repr

/-- Analog channels and HART (R253 to R283). `stored` is the non-volatile cell of a channel's mode in its field die (R478).
-/
structure AnalogState where
  channels  : Sparse AnalogRt := []
  stored    : Sparse Nat := []
  responses : List (List Byte) := []
  deriving DecidableEq, Repr

/-- What a time port keeps (R286 to R290). Key: port 0 to 3, plant ports first. `master` is the last Announce of the port's
best master, `sync` a two-step Sync that waits for its Follow_Up with its residence time in the node, `delayAge` the delay
exchanges begun since the last good one; `stale` says that the master was lost, and no Announce came since. -/
structure PortRt where
  master     : Option Announce := none
  sync       : Option PtpEvent := none
  residence  : Nat := 0
  delayAge   : Nat := 17
  stale      : Bool := false
  deriving DecidableEq, Repr

/-- The time unit (R284 to R301). `measured` says that the first valid measurement after a time-unit reset was made,
`history` holds the servo terms of the last 16 valid measurements, `syncBarNs` bars chain Sync after a step, `ppsSecond` is
the last whole second that needs no pulse any more (R300). -/
structure TimeState where
  ports      : Sparse PortRt := []
  measured   : Bool := false
  inRun      : Nat := 0
  outRun     : Nat := 0
  servo      : Int := 0
  history    : List Int := []
  syncBarNs  : Nat := 0
  ppsSecond  : Nat := 0
  deriving DecidableEq, Repr

/-- A unit of at most 32 bytes on its way into keeper RAM (R321): the entry of 2B20 that holds the bytes, the offset, and the
bytes that stand there if it is discarded. -/
structure KeeperUnit where
  key    : Nat
  offset : Nat
  old    : List Byte
  deriving DecidableEq, Repr

/-- The header of keeper RAM as the supervisor writes it (R324): magic, layout version, 54 reserved bytes of 0, CRC-32C. -/
def keeperHeader : List Byte := [0x50, 0x4B, 0x58, 0x5A, 0x01, 0x00] ++ List.replicate 54 0 ++ [0x1C, 0x0F, 0x82, 0xD6]

/-- The keeper beside its entries (R306 to R324). `clock` counts 1/32,768 s since 1970-01-01 00:00:00, `trimRest` the
1/1,024 of a cycle that the trim has not yet applied; `ageing` and `wakeInterval` are its working copies of 2B00.01 and
2B00.03, `wakeSince` the 1/256 s since the wake counter restarted; `header` is bytes 0x000 to 0x03F of keeper RAM; `units`
the units of the last write to keeper RAM, the last first, whose arrival nothing has shown yet; `lost` is RETENTION-LOST,
`usedSince` says that the keeper ran on VBAT since the last start, `judged` that its contents were judged since then. The
start records, the host area and the journal stand in 2B20 and in the panel. -/
structure KeeperState where
  clock      : Nat := 0
  locked     : Bool := true
  onVbat     : Bool := false
  lost       : Bool := false
  usedSince  : Bool := false
  header     : List Byte := keeperHeader
  units      : List KeeperUnit := []
  trimRest   : Nat := 0
  journalLost : Bool := false
  wakeInterval : Nat := 0
  ageing     : Int := 0
  wakeSince  : Nat := 0
  judged     : Bool := false
  deriving DecidableEq, Repr

/-- A received or queued CAN frame with its record fields (R335). -/
structure CanRecord where
  frame   : CanFrame
  filter  : Nat := 0xFFFF
  stampNs : Nat := 0
  deriving DecidableEq, Repr

/-- A frame waiting to be sent; `tpdo` names the TPDO it carries, `fromQ` says that it carries data of area Q. -/
structure CanTx where
  tpdo  : Option Nat := none
  fromQ : Bool := false
  frame : CanFrame
  deriving DecidableEq, Repr

/-- One CAN controller beside its entries (R327 to R342, R348). Key: controller. `rxq` holds the frames of both receive
queues in order of completion, each with its queue; `staked` the transmit area as staked; `claimed` says that an address
claim is out, `others` names and addresses that other nodes claimed. -/
structure CanRt where
  rxq     : List (Nat × CanRecord) := []
  held0   : Bool := false
  held1   : Bool := false
  shadow0 : Option CanRecord := none
  shadow1 : Option CanRecord := none
  txq     : List CanTx := []
  staked  : List Byte := []
  lastSeq : Option Nat := none
  pendingMode : Option Nat := none
  claimed : Bool := false
  others  : List (Nat × Nat) := []
  deriving DecidableEq, Repr

/-- One RPDO (R345): data that waits for a SYNC, data that enters at the next closing point, and the data that stands.
Key: number. -/
structure RpdoRt where
  fresh    : Option (List Byte) := none
  ready    : Option (List Byte) := none
  standing : Option (List Byte) := none
  deriving DecidableEq, Repr

/-- One TPDO (R346). Key: number. `syncs` counts SYNC events since the last due edge, `expired` says that the event
timer ran out, `sentNs` is when the last one left. -/
structure TpdoRt where
  staked   : List Byte := []
  lastSent : Option (List Byte) := none
  syncs    : Nat := 0
  expired  : Bool := false
  sentNs   : Nat := 0
  deriving DecidableEq, Repr

/-- NMT states of the CANopen device (R376). -/
inductive NmtState where
  | preOperational | operational | stopped
  deriving DecidableEq, Repr

/-- The CANopen device (R343 to R347, R375, R376). `syncs` counts consumed SYNC events since the last datum edge. -/
structure CanopenState where
  nmt    : NmtState := .preOperational
  rpdos  : Sparse RpdoRt := []
  tpdos  : Sparse TpdoRt := []
  syncs  : Nat := 0
  deriving DecidableEq, Repr

/-- A received sentence (R352). -/
structure Sentence where
  path     : Nat
  stampNs  : Nat
  chars    : List Byte
  checked  : Bool
  tagged   : Bool
  deriving DecidableEq, Repr

/-- One sentence path beside its entry (R350 to R354). Key: path. `tx` holds the sentences of the transmit buffer as
bytes, `staked` the transmit area as staked, `line` the last line count sent. -/
structure SentRt where
  imageQ  : List Sentence := []
  hostQ   : List Sentence := []
  tx      : List (List Byte) := []
  staked  : List Byte := []
  lastSeq : Option Nat := none
  line    : Nat := 0
  deriving DecidableEq, Repr

/-- The sentence paths and the duplicate memory of R354 (plant port, tag key, stamp). -/
structure SentState where
  paths : Sparse SentRt := []
  seen  : List (Nat × List Byte × Nat) := []
  deriving DecidableEq, Repr

/-- A dictionary write that was accepted and waits (R368). `tag` names the request on its path: the host's sequence number,
or UDP transaction, port and segment; the position of a forwarded write (R372). `offset` is where a DOMAIN transfer began.
-/
structure PendingWrite where
  path : Path
  key  : Nat
  data : List Byte
  tag  : Nat := 0
  offset : Nat := 0
  due  : Nat := 0
  deriving DecidableEq, Repr

/-- A request that was relayed to the partner and awaits its answer (R362, R384). -/
structure Relayed where
  path : Path
  key  : Nat
  tag  : Nat
  deriving DecidableEq, Repr

/-- An answer to a dictionary request: path, key, abort code (0 success), data (R366, R370). -/
structure Reply where
  path : Path
  key  : Nat
  code : Nat
  data : List Byte := []
  tag  : Nat := 0
  deriving DecidableEq, Repr

/-- A segmented, block or DOMAIN transfer under way (R363, R371, R379). -/
structure Transfer where
  path   : Path
  key    : Nat
  write  : Bool
  data   : List Byte
  next   : Nat
  tag    : Nat
  deriving DecidableEq, Repr

/-- A UDP response kept for 2 s (R380), with the time of its answer. -/
structure UdpDone where
  atNs  : Nat
  reply : Reply
  deriving DecidableEq, Repr

/-- A stored configuration generation: persisted values by key (R359, R361). -/
structure Generation where
  regs  : Sparse Nat := []
  blobs : Sparse (List Byte) := []
  deriving DecidableEq, Repr

/-- The dictionary machinery (R357 to R384). `supersede` counts superseded writes by entry, `storing` is a store under way,
`toDefault` lists the stored entries marked for default, `snapshot` the data memory at the last staking point, from which
exports are read (R378). -/
structure DictState where
  atClose    : List PendingWrite := []
  atBoundary : List PendingWrite := []
  supersede  : Sparse Nat := []
  unlocked   : List Path := []
  transfers  : List Transfer := []
  udpDone    : List UdpDone := []
  hostReply  : Option Reply := none
  relayed    : List Relayed := []
  loaded     : Bool := false
  generation : Option Generation := none
  storing    : Option Generation := none
  toDefault  : List Nat := []
  snapshot   : Sparse Byte := []
  deriving DecidableEq, Repr

/-- A level book record (R397) beside its code. -/
structure BookRecord where
  generation : Nat := 0
  unit       : Nat := 0
  origin     : Int := 0
  width      : Int := 1
  bins       : List Nat := []
  min        : Int := 0x7FFFFFFF
  minSec     : Nat := 0
  minCycle   : Nat := 0
  max        : Int := -0x80000000
  maxSec     : Nat := 0
  maxCycle   : Nat := 0
  count      : Nat := 0
  firstSec   : Nat := 0
  firstCycle : Nat := 0
  commitSec  : Nat := 0
  commitCycle : Nat := 0
  suppressed : Nat := 0
  deriving DecidableEq, Repr

/-- What the level book keeps per code beside its record (R393, R401, R402). -/
structure BookRt where
  occasions : Nat := 0
  lastCommit : Nat := 0
  dirty     : Bool := false
  due       : Bool := false
  retry     : Bool := false
  deriving DecidableEq, Repr

/-- The level book (R390 to R408). `startSec` is the operating second of the start, from which commit intervals run; `torn`
counts the copies in the partition that a power failure cut off (R403, R404). -/
structure BookState where
  live      : Sparse BookRecord := []
  committed : Sparse BookRecord := []
  codes     : Sparse BookRt := []
  headerSec : Nat := 0
  headerCycle : Nat := 0
  startSec : Nat := 0
  torn : Nat := 0
  deriving DecidableEq, Repr

/-- A rectangle request (R422). `counted` says that its overlap wait was counted, `recovery` that it drives to level 3. -/
structure RectRequest where
  x      : Nat
  y      : Nat
  width  : Nat
  height : Nat
  mode   : Nat
  tag    : Nat
  counted : Bool := false
  recovery : Bool := false
  deriving DecidableEq, Repr

/-- A rectangle in flight (R424, R425): its journal slot, the mode, band and extension it runs with, the table's scan count
and its own, the scan under way, and the table it latched. -/
structure Rect where
  request : RectRequest
  slot    : Nat
  mode    : Nat
  band    : Nat
  ext     : Nat
  n       : Nat
  total   : Nat
  scan    : Nat
  table   : List Byte
  deriving DecidableEq, Repr

/-- A journal slot (R429): rectangle, band, and operating seconds at its start. -/
structure JournalSlot where
  request : RectRequest
  band    : Nat
  seconds : Nat
  deriving DecidableEq, Repr

/-- The panel (R409 to R431). A plane lists the pixels that are not black, by y x columns + x. `tilesKnown` lists known
tiles, `tileScans` the driven scans of a tile since its counter moved, `recover` the recovery rectangles that wait with
their slots. `vcom` is the code in force of 2E00.06 and `vcomMv` what VCOM_OUT drives in mV; `driving` says that source and
gate outputs are on. -/
structure PanelState where
  target   : Sparse Nat := []
  current  : Sparse Nat := []
  shot     : Sparse Nat := []
  queue    : List RectRequest := []
  flight   : List Rect := []
  journal  : Sparse (Option JournalSlot) := []
  tilesKnown : List Nat := []
  tileScans : Sparse Nat := []
  stress   : Sparse Nat := []
  stressStored : Sparse Nat := []
  recover  : List (Nat × RectRequest) := []
  vcom     : Nat := 200
  vcomMv   : Int := 0
  railEnable : Bool := false
  railOk   : Bool := false
  driving  : Bool := false
  started  : Bool := false
  hostTemp : Int := 0
  deriving DecidableEq, Repr

/-- One block of R439 during a block reset. -/
inductive BlockStage where
  | running | waiting | held | fenced
  deriving DecidableEq, Repr

/-- An option block as chosen by the option reader (R443). -/
structure OptionBlock where
  role       : Nat := 0
  unit       : Nat := 0
  address    : Nat := 0
  startFlags : Nat := 0
  limit      : Nat := 3
  generation : Nat := 0
  deriving DecidableEq, Repr

/-- Reset, start-up and protection beside their entries (R432 to R455). `progress` holds the level of a reset in
progress, `commandDue` the source of a reset command that starts at the end of its closing point; `copy0` and `copy1` are
the valid copies of the option block in flash. The start points of R445 that are passed stand in the flags; `reasons` is
what the start decided under R447. -/
structure ResetState where
  progress     : Option Nat := none
  commandDue   : Option Nat := none
  startLevel   : Nat := 0
  options      : OptionBlock := {}
  copy0        : Option OptionBlock := some {}
  copy1        : Option OptionBlock := some {}
  optionsRead  : Bool := false
  firmwareUp   : Bool := false
  supervisorUp : Bool := false
  tested       : Bool := false
  imagesUp     : Bool := false
  reasons      : Nat := 0
  blocks       : Sparse BlockStage := []
  deriving DecidableEq, Repr

/-- Fuses, firmware copies and debug access (R451 to R455). `fieldBlown` and `retireBlown` are lifecycle fuses that are
blown, `limitHit` says that the failed-start counter reached its limit since the preferred copy was preferred, `refused`
counts refused debug responses. -/
structure FuseState where
  ownerSet     : Bool := false
  debugSet     : Bool := false
  fieldBlown   : Bool := false
  retireBlown  : Bool := false
  copy0        : FirmwareCopy := { version := Config.factory 0x2F3103, security := Config.factory 0x2F3106 % 65536 }
  copy1        : FirmwareCopy := { version := Config.factory 0x2F3104, security := Config.factory 0x2F3106 % 65536 }
  limitHit     : Bool := false
  refused      : Nat := 0
  jtagOpen     : Bool := false
  deriving DecidableEq, Repr

/-- What the module sends out at its balls and links. -/
inductive Emission where
  | reply (r : Reply)
  | udpReply (source port : Nat) (bytes : List Byte)
  | chainFrame (port : Nat) (bytes : List Byte)
  | forwardTraverse (port : Nat) (header : ChainHeader) (slots : List Slot)
  | forwardFrame (port : Nat) (header : ChainHeader) (body : List Byte)
  | tieImage (f : ImageFrame)
  | tieWrite (w : PendingWrite) (closing position : Nat)
  | tieRequest (path : Path) (key : Nat) (write : Option (List Byte))
  | tieRole (unit role checksum released sentNs : Nat) (echo : Option (Nat × Nat))
  | tieDigest (tick digest : Nat)
  | tieNotice (tick : Nat)
  | tieFullImage (tick : Nat) (data : List Byte)
  | tieCommand (c : TieCommand)
  | canFrame (controller : Nat) (frame : CanFrame)
  | emcy (group : Nat) (causes : Nat)
  | heartbeat (state : Nat)
  | addressClaim (controller address : Nat) (name : Nat)
  | sentence (path : Nat) (chars : List Byte)
  | datagram (plantPort group udpPort : Nat) (bytes : List Byte)
  | chainSync (port stampNs : Nat) (twoStep : Bool) (minor : Nat)
  | chainAnnounce (port identity stepsRemoved : Nat) (utcOffset : Int) (utcValid ptpTimescale : Bool) (minor : Nat)
  | delayRequest (port stampNs : Nat) (udp : Bool) (correction : Int) (minor : Nat)
  | forwardSync (port : Nat) (message : PtpEvent)
  | forwardFollowUp (port : Nat) (message : PtpEvent)
  | forwardAnnounce (port : Nat) (message : Announce)
  | ppsPulse (second widthUs : Nat) (high : Bool)
  | hartFrame (channel : Nat) (bytes : List Byte)
  | hostFrame (bytes : List Byte)
  deriving DecidableEq, Repr

/-- The module. -/
structure State where
  regs  : Sparse Nat
  blobs : Sparse (List Byte)
  mem   : Sparse Byte
  engines : Sparse Engine
  tasks : Sparse TaskRt
  tick  : TickState
  img   : ImageState
  mtx   : MatrixState
  loops : Sparse LoopRt
  pair  : PairState
  chain : ChainState
  ost   : OutstationState
  dig   : DigitalState
  ana   : AnalogState
  time  : TimeState
  keep  : KeeperState
  can   : Sparse CanRt
  open_ : CanopenState
  sent  : SentState
  dict  : DictState
  book  : BookState
  panel : PanelState
  rst   : ResetState
  fuse  : FuseState
  out   : List Emission
  free  : Nat
  pending : List Instr
  deriving DecidableEq, Repr

/-- The module right after the release of a power-on reset: OPTION-READ, cause bit 0 set, every other register at
the value of its Default column, and no command waiting (R432, R445; log entries 1 and 2).
Key 0x210001 is 2100.01, the module state. -/
def State.reset : State where
  regs := [(0x210001, 1)]
  blobs := []
  mem := []
  engines := []
  tasks := []
  tick := {}
  img := {}
  mtx := {}
  loops := []
  pair := {}
  chain := {}
  ost := {}
  dig := {}
  ana := {}
  time := {}
  keep := {}
  can := []
  open_ := {}
  sent := {}
  dict := { generation := some {} }
  book := {}
  panel := {}
  rst := {}
  fuse := {}
  out := []
  free := 0
  pending := []

end Sys2Proof.Machine
end

