-- ==== Sys2Proof/Machine/Store.lean ====
section
/-! DEFINITION. Sparse tables, byte strings and checksums: the helpers every other operation is written over. -/

namespace Sys2Proof.Machine

open Sys2Proof

/-- What a table reads at a key: the listed value, or `d`. -/
def Sparse.get {α : Type} (d : α) (m : Sparse α) (k : Nat) : α :=
  match m with
  | [] => d
  | (j, v) :: t => if j = k then v else Sparse.get d t k

/-- Removes a key. -/
def Sparse.erase {α : Type} (m : Sparse α) (k : Nat) : Sparse α := m.filter (fun c => decide (c.1 ≠ k))

/-- Lists a value at its place among rising keys. -/
def Sparse.insert {α : Type} (m : Sparse α) (k : Nat) (v : α) : Sparse α :=
  match m with
  | [] => [(k, v)]
  | (j, w) :: t =>
    if k < j then (k, v) :: (j, w) :: t
    else if j = k then (k, v) :: t
    else (j, w) :: Sparse.insert t k v

/-- Writes a key; a key whose value is the default is not listed. -/
def Sparse.set {α : Type} [DecidableEq α] (d : α) (m : Sparse α) (k : Nat) (v : α) : Sparse α :=
  if v = d then Sparse.erase m k else Sparse.insert m k v

/-- The keys of a table rise strictly, from `lo` on, and no entry holds the default. -/
def Sparse.wfFrom {α : Type} [DecidableEq α] (d : Nat → α) (lo : Nat) (m : Sparse α) : Bool :=
  match m with
  | [] => true
  | (j, v) :: t => decide (lo ≤ j) && !decide (v = d j) && Sparse.wfFrom d (j + 1) t

/-- The canonical form of a table. -/
def Sparse.wf {α : Type} [DecidableEq α] (d : Nat → α) (m : Sparse α) : Bool := Sparse.wfFrom d 0 m

/-- Memory reads 0 where no store has reached (R117: a byte that no run covers starts at 0; log entry 6). -/
def Memory.wf (m : Sparse Byte) : Bool := Sparse.wf (fun _ => (0 : Byte)) m

/-- Reads one byte of data memory. -/
def Memory.read (m : Sparse Byte) (a : Nat) : Byte := Sparse.get 0 m a

/-- Writes one byte of data memory. -/
def Memory.write (m : Sparse Byte) (a : Nat) (b : Byte) : Sparse Byte := Sparse.set 0 m a b

/-- Writes consecutive bytes from an address. -/
def Memory.writeBytes (m : Sparse Byte) (a : Nat) (bs : List Byte) : Sparse Byte :=
  match bs with
  | [] => m
  | b :: t => Memory.writeBytes (Memory.write m a b) (a + 1) t

/-- Reads `n` consecutive bytes from an address. -/
def Memory.readBytes (m : Sparse Byte) (a n : Nat) : List Byte :=
  match n with
  | 0 => []
  | n + 1 => Memory.read m a :: Memory.readBytes m (a + 1) n

/-- Sets a range of bytes to 0. -/
def Memory.clear (m : Sparse Byte) (lo n : Nat) : Sparse Byte :=
  m.filter (fun c => c.1 < lo || lo + n ≤ c.1)

/-- The number a byte string spells, least significant byte first (R9). -/
def leNat (bs : List Byte) : Nat :=
  match bs with
  | [] => 0
  | b :: t => b.toNat + 256 * leNat t

/-- The `n` bytes of a number, least significant byte first (R9). -/
def leBytes (n v : Nat) : List Byte :=
  match n with
  | 0 => []
  | n + 1 => BitVec.ofNat 8 v :: leBytes n (v / 256)

/-- The number a byte string spells, most significant byte first. -/
def beNat (bs : List Byte) : Nat := bs.foldl (fun a b => 256 * a + b.toNat) 0

/-- The field of `n` bytes at an offset of a byte string, least significant byte first. -/
def field (bs : List Byte) (off n : Nat) : Nat := leNat ((bs.drop off).take n)

/-- Pads with zero bytes to a multiple of four. -/
def pad4 (bs : List Byte) : List Byte := bs ++ List.replicate ((4 - bs.length % 4) % 4) 0

/-- The two's-complement value of an n-bit number. -/
def signed (bits v : Nat) : Int :=
  if v % 2 ^ bits < 2 ^ (bits - 1) then (v % 2 ^ bits : Nat) else ((v % 2 ^ bits : Nat) : Int) - (2 ^ bits : Nat)

/-- The n-bit two's-complement pattern of an integer. -/
def unsigned (bits : Nat) (v : Int) : Nat := (v % (2 ^ bits : Nat)).toNat

/-- An integer limited to a range. -/
def clampInt (lo hi v : Int) : Int := if v < lo then lo else if hi < v then hi else v

/-- A bit of a number set or cleared. -/
def withBit (v n : Nat) (b : Bool) : Nat :=
  if v.testBit n = b then v else if b then v + 2 ^ n else v - 2 ^ n

/-- One step of a reflected CRC: polynomial in reflected form, eight shifts. -/
def crcShift (poly : Nat) : Nat → Nat → Nat
  | 0, c => c
  | n + 1, c => crcShift poly n (if c % 2 = 1 then (c / 2) ^^^ poly else c / 2)

/-- A reflected CRC over bytes, from a register value. -/
def crcRun (poly : Nat) (c : Nat) (bs : List Byte) : Nat :=
  match bs with
  | [] => c
  | b :: t => crcRun poly (crcShift poly 8 (c ^^^ b.toNat)) t

/-- CRC-32C, Castagnoli polynomial 0x1EDC_6F41 reflected (R480). -/
def crc32c (bs : List Byte) : Nat := crcRun 0x82F63B78 0xFFFFFFFF bs ^^^ 0xFFFFFFFF

/-- CRC-32 of IEEE 802.3, polynomial 0x04C1_1DB7 reflected (R398). -/
def crc32 (bs : List Byte) : Nat := crcRun 0xEDB88320 0xFFFFFFFF bs ^^^ 0xFFFFFFFF

/-- One bit step of CRC-16, polynomial 0x1021, not reflected (R383). -/
def crc16Shift : Nat → Nat → Nat
  | 0, c => c
  | n + 1, c => crc16Shift n (if 0x8000 ≤ c then ((2 * c) % 0x10000) ^^^ 0x1021 else 2 * c)

/-- CRC-16 of the host port: polynomial 0x1021, initial value 0xFFFF, no reflection, no final XOR (R383). -/
def crc16 (bs : List Byte) : Nat :=
  bs.foldl (fun c b => crc16Shift 8 (c ^^^ (b.toNat * 256))) 0xFFFF

/-- Rounds a fraction to the nearest integer, ties away from zero (R149, R150). -/
def roundAway (num : Int) (den : Nat) : Int :=
  if 0 ≤ num then ((2 * num.toNat + den) / (2 * den) : Nat)
  else -((2 * num.natAbs + den) / (2 * den) : Nat)

/-- The quotient rounded up. -/
def ceilDiv (a b : Nat) : Nat := (a + b - 1) / b

end Sys2Proof.Machine
end

