-- ==== Sys2Proof/Machine/Dictionary.lean ====
section
/-! DEFINITION. The object dictionary's entries: type, access, default and plain value range of every subindex,
as the entry tables of the spec list them (R7, R10, R11, R357), and the persistence classes of R358. -/

namespace Sys2Proof.Machine

open Sys2Proof

/-- Entry types of R10. OCTET carries its size, VSTRING and DOMAIN their maximum. -/
inductive EntryType where
  | bool | u8 | u16 | u32 | u64 | i8 | i16 | i32 | i64 | f32 | ts96
  | octet (n : Nat)
  | vstring (n : Nat)
  | domain (n : Nat)
  deriving DecidableEq, Repr

/-- Access codes of R11. -/
inductive Access where
  | ro | rw | wo | const | rwf | rws
  deriving DecidableEq, Repr

/-- A row of an entry table: a range of indices of one layout, a range of subindices, and the columns.
`range` is the plain value range that the Description column gives, where it gives one (R366 step 8). -/
structure Entry where
  ixLo  : Nat
  ixHi  : Nat
  subLo : Nat
  subHi : Nat
  type  : EntryType
  access : Access
  dflt  : Nat
  range : Option (Int × Int)
  deriving DecidableEq, Repr

/-- A row without a plain value range. -/
def row (a b c d : Nat) (t : EntryType) (x : Access) (v : Nat) : Entry := ⟨a, b, c, d, t, x, v, none⟩

/-- A row with a plain value range. -/
def rowIn (a b c d : Nat) (t : EntryType) (x : Access) (v : Nat) (lo hi : Int) : Entry :=
  ⟨a, b, c, d, t, x, v, some (lo, hi)⟩

/-- The communication profile area (R375). The spec names the entries and cites CiA 301 for their layout and
defaults: PRESUMED (log entry 7). -/
def profileRows : List Entry :=
  [ row 0x1000 0x1000 0 0 .u32 .const 0, row 0x1001 0x1001 0 0 .u8 .ro 0,
    row 0x1005 0x1005 0 0 .u32 .rw 0x80, row 0x1006 0x1006 0 0 .u32 .ro 0,
    row 0x1008 0x1008 0 0 (.vstring 5) .const 0, row 0x1009 0x1009 0 0 (.vstring 32) .const 0,
    row 0x100A 0x100A 0 0 (.vstring 32) .const 0,
    row 0x1010 0x1010 0 0 .u8 .const 3, row 0x1010 0x1010 1 3 .u32 .rw 1,
    row 0x1011 0x1011 0 0 .u8 .const 3, row 0x1011 0x1011 1 3 .u32 .rw 1,
    row 0x1014 0x1014 0 0 .u32 .rw 0x80,
    row 0x1016 0x1016 0 0 .u8 .const 8, row 0x1016 0x1016 1 8 .u32 .rw 0,
    row 0x1017 0x1017 0 0 .u16 .rw 0,
    row 0x1018 0x1018 0 0 .u8 .const 4, row 0x1018 0x1018 1 4 .u32 .const 0,
    row 0x1200 0x1200 0 0 .u8 .const 2, row 0x1200 0x1200 1 1 .u32 .ro 0x600, row 0x1200 0x1200 2 2 .u32 .ro 0x580,
    row 0x1400 0x143F 0 0 .u8 .const 2, row 0x1400 0x143F 1 1 .u32 .rw 0x80000000, rowIn 0x1400 0x143F 2 2 .u8 .rw 255 0 255,
    row 0x1800 0x183F 0 0 .u8 .const 5, row 0x1800 0x183F 1 1 .u32 .rw 0x80000000, rowIn 0x1800 0x183F 2 2 .u8 .rw 255 0 255,
    row 0x1800 0x183F 3 3 .u16 .rw 0, row 0x1800 0x183F 5 5 .u16 .rw 0 ]

/-- Entry tables of 2000 to 20FF (R45). Part 1. -/
def tickRows1 : List Entry :=
  [ row 0x2000 0x2000 0x0 0x0 .u8 .const 7,
    rowIn 0x2000 0x2000 0x1 0x1 .u32 .rws 0xFA 50 20000,
    row 0x2000 0x2000 0x2 0x2 .u32 .rwf 0xFA0,
    row 0x2000 0x2000 0x3 0x3 .u32 .rws 0x46,
    row 0x2000 0x2000 0x4 0x4 .u32 .rws 0xD2,
    row 0x2000 0x2000 0x5 0x5 .u16 .rws 0xC,
    rowIn 0x2000 0x2000 0x6 0x6 .u32 .rw 0x3E8 50 100000,
    row 0x2000 0x2000 0x7 0x7 .bool .rws 1,
    row 0x2001 0x2001 0x0 0x0 .u8 .const 7,
    row 0x2001 0x2001 0x1 0x1 .u64 .ro 0,
    row 0x2001 0x2001 0x2 0x2 .u64 .ro 0,
    row 0x2001 0x2001 0x3 0x3 .u32 .ro 0,
    row 0x2001 0x2001 0x4 0x4 .u8 .ro 0,
    row 0x2001 0x2001 0x5 0x5 .u32 .ro 0,
    row 0x2001 0x2001 0x6 0x6 .u32 .ro 0,
    row 0x2001 0x2001 0x7 0x7 .u32 .ro 0x11170,
    row 0x2002 0x2002 0x0 0x0 .u8 .const 9,
    row 0x2002 0x2002 0x1 0x1 .u32 .ro 0,
    row 0x2002 0x2002 0x2 0x2 .i32 .ro 0xC350,
    row 0x2002 0x2002 0x3 0x3 .u32 .ro 0,
    row 0x2002 0x2002 0x4 0x4 .u32 .ro 0,
    row 0x2002 0x2002 0x5 0x5 .u32 .ro 0x222E0,
    row 0x2002 0x2002 0x6 0x6 .i32 .ro 0x61A8,
    row 0x2002 0x2002 0x7 0x7 .u8 .ro 0,
    row 0x2002 0x2002 0x8 0x8 .u32 .ro 0,
    row 0x2002 0x2002 0x9 0x9 .u32 .ro 0,
    row 0x2020 0x2020 0x0 0x0 .u8 .const 0xE,
    row 0x2020 0x2020 0x1 0x1 .u32 .ro 0,
    row 0x2020 0x2020 0x2 0x2 .u32 .ro 0,
    row 0x2020 0x2020 0x3 0x3 .u32 .ro 0,
    row 0x2020 0x2020 0x4 0x4 .u32 .ro 0,
    row 0x2020 0x2020 0x5 0x5 .u32 .ro 0,
    row 0x2020 0x2020 0x6 0x6 .u32 .ro 0,
    row 0x2020 0x2020 0x7 0x7 .u32 .ro 0,
    row 0x2020 0x2020 0x8 0x8 .u32 .ro 0,
    row 0x2020 0x2020 0x9 0x9 .u32 .ro 0xFFFFFFFF,
    row 0x2020 0x2020 0xA 0xA .u32 .ro 0xFFFFFFFF,
    row 0x2020 0x2020 0xB 0xB .u32 .ro 0,
    row 0x2020 0x2020 0xC 0xC .u32 .ro 0,
    row 0x2020 0x2020 0xD 0xD .u64 .ro 0 ]

/-- Entry tables of 2000 to 20FF (R45). Part 2. -/
def tickRows2 : List Entry :=
  [ row 0x2020 0x2020 0xE 0xE .u32 .ro 0 ]

/-- Entry tables of 2000 to 20FF (R45). -/
def tickRows : List Entry := tickRows1 ++ tickRows2

/-- Entry tables of 2100 to 21FF (R112 to R115). Part 1. -/
def taskRows1 : List Entry :=
  [ row 0x2100 0x2100 0x0 0x0 .u8 .const 0xA,
    row 0x2100 0x2100 0x1 0x1 .u8 .ro 3,
    rowIn 0x2100 0x2100 0x2 0x2 .u8 .wo 0 1 2,
    row 0x2100 0x2100 0x3 0x3 .u8 .ro 0,
    row 0x2100 0x2100 0x4 0x4 .u64 .ro 0,
    row 0x2100 0x2100 0x5 0x5 .u8 .ro 0xFF,
    row 0x2100 0x2100 0x6 0x6 .u8 .ro 0xFF,
    row 0x2100 0x2100 0x7 0x7 .u8 .ro 0,
    row 0x2100 0x2100 0x8 0x8 .bool .ro 0,
    row 0x2100 0x2100 0x9 0x9 .u32 .ro 0,
    row 0x2100 0x2100 0xA 0xA .u32 .ro 0,
    row 0x2101 0x2101 0x0 0x0 .u8 .const 0x20,
    row 0x2101 0x2101 0x1 0x10 .u32 .ro 0,
    row 0x2101 0x2101 0x11 0x20 .u32 .ro 0,
    row 0x2102 0x2102 0x0 0x0 .u8 .const 0x13,
    row 0x2102 0x2102 0x1 0x1 .u32 .ro 0x1B580,
    row 0x2102 0x2102 0x2 0x10 .u32 .ro 0,
    row 0x2102 0x2102 0x11 0x11 .u32 .ro 0x258,
    row 0x2102 0x2102 0x12 0x12 .u8 .ro 0,
    row 0x2102 0x2102 0x13 0x13 .u8 .ro 0xFF,
    row 0x2110 0x211F 0x0 0x0 .u8 .const 0xD,
    row 0x2110 0x211F 0x1 0x1 .bool .ro 0,
    row 0x2110 0x211F 0x2 0x2 .u16 .ro 0,
    row 0x2110 0x211F 0x3 0x3 .u16 .ro 0,
    row 0x2110 0x211F 0x4 0x4 .u8 .ro 0,
    row 0x2110 0x211F 0x5 0x5 .u32 .ro 0,
    row 0x2110 0x211F 0x6 0x6 .u32 .ro 0,
    row 0x2110 0x211F 0x7 0x7 .u32 .ro 0,
    row 0x2110 0x211F 0x8 0x8 .u32 .ro 0,
    row 0x2110 0x211F 0x9 0x9 .u32 .ro 0,
    row 0x2110 0x211F 0xA 0xA .u32 .ro 0,
    row 0x2110 0x211F 0xB 0xB .u32 .ro 0,
    row 0x2110 0x211F 0xC 0xC .u32 .ro 0,
    row 0x2110 0x211F 0xD 0xD .u32 .ro 0,
    row 0x2120 0x2120 0x0 0x0 .u8 .const 6,
    row 0x2120 0x2120 0x1 0x1 .bool .ro 0,
    row 0x2120 0x2120 0x2 0x2 .u8 .ro 0,
    row 0x2120 0x2120 0x3 0x3 .u32 .ro 0,
    row 0x2120 0x2120 0x4 0x4 .u16 .ro 0,
    row 0x2120 0x2120 0x5 0x5 .u32 .ro 0 ]

/-- Entry tables of 2100 to 21FF (R112 to R115). Part 2. -/
def taskRows2 : List Entry :=
  [ row 0x2120 0x2120 0x6 0x6 (.octet 16) .ro 0,
    row 0x2130 0x2130 0x0 0x0 .u8 .const 0x14,
    row 0x2130 0x2130 0x1 0x1 (.domain 33554432) .rws 0,
    row 0x2130 0x2130 0x2 0x2 .u32 .ro 0,
    row 0x2130 0x2130 0x3 0x3 .u16 .ro 0,
    row 0x2130 0x2130 0x4 0x4 .u16 .ro 0,
    row 0x2130 0x2130 0x5 0x5 .u32 .ro 0x258,
    row 0x2130 0x2130 0x6 0x6 (.octet 64) .ro 0,
    row 0x2130 0x2130 0x7 0x7 (.octet 64) .ro 0,
    row 0x2130 0x2130 0x8 0x8 (.octet 128) .ro 0,
    row 0x2130 0x2130 0x9 0x9 (.octet 128) .ro 0,
    row 0x2130 0x2130 0xA 0xA .u16 .wo 0,
    row 0x2130 0x2130 0xB 0xB (.octet 8) .wo 0,
    row 0x2130 0x2130 0xC 0xC .u32 .ro 0,
    row 0x2130 0x2130 0xD 0xD .u32 .ro 0,
    row 0x2130 0x2130 0xE 0xE .u32 .ro 0,
    row 0x2130 0x2130 0xF 0xF .u32 .ro 0,
    row 0x2130 0x2130 0x10 0x10 .u32 .ro 0,
    row 0x2130 0x2130 0x11 0x11 .u32 .ro 0,
    row 0x2130 0x2130 0x12 0x12 .u32 .ro 0,
    row 0x2130 0x2130 0x13 0x13 .u8 .ro 0,
    row 0x2130 0x2130 0x14 0x14 .u8 .ro 0 ]

/-- Entry tables of 2100 to 21FF (R112 to R115). -/
def taskRows : List Entry := taskRows1 ++ taskRows2

/-- Entry tables of 2200 to 22FF (R138). -/
def imageRows : List Entry :=
  [ row 0x2200 0x2200 0x0 0x0 .u8 .const 0xE,
    row 0x2200 0x2200 0x1 0x1 (.domain 33554432) .wo 0,
    row 0x2200 0x2200 0x2 0x2 .u8 .ro 0xFF,
    row 0x2200 0x2200 0x3 0x3 .u32 .ro 0,
    row 0x2200 0x2200 0x4 0x4 .u32 .ro 0,
    row 0x2200 0x2200 0x5 0x5 (.octet 48) .ro 0,
    row 0x2200 0x2200 0x6 0x6 .u32 .ro 0,
    row 0x2200 0x2200 0x7 0x7 .u32 .ro 0,
    row 0x2200 0x2200 0x8 0x8 (.octet 48) .ro 0,
    row 0x2200 0x2200 0x9 0x9 .u8 .ro 0,
    row 0x2200 0x2200 0xA 0xA .u8 .ro 0,
    row 0x2200 0x2200 0xB 0xB .bool .ro 1,
    row 0x2200 0x2200 0xC 0xC .u8 .ro 0,
    row 0x2200 0x2200 0xD 0xD .u32 .ro 0,
    row 0x2200 0x2200 0xE 0xE .bool .rws 1,
    row 0x2201 0x2201 0x0 0x0 .u8 .const 8,
    rowIn 0x2201 0x2201 0x1 0x1 .u8 .wo 0 1 4,
    row 0x2201 0x2201 0x2 0x2 .u8 .ro 0,
    row 0x2201 0x2201 0x3 0x3 .u8 .ro 0,
    row 0x2201 0x2201 0x4 0x4 .u64 .ro 0,
    row 0x2201 0x2201 0x5 0x5 .u64 .ro 0,
    rowIn 0x2201 0x2201 0x6 0x6 .u32 .rw 0xEA60 100 600000,
    rowIn 0x2201 0x2201 0x7 0x7 .u32 .rw 0x2000 1024 65536,
    row 0x2201 0x2201 0x8 0x8 .u32 .ro 0,
    row 0x2202 0x2202 0x0 0x0 .u8 .const 0xA,
    row 0x2202 0x2202 0x1 0x1 .u32 .ro 0x1ADB0,
    row 0x2202 0x2202 0x2 0x2 .u32 .ro 0,
    row 0x2202 0x2202 0x3 0x3 .u32 .ro 0,
    row 0x2202 0x2202 0x4 0x4 .u32 .ro 0,
    row 0x2202 0x2202 0x5 0x5 .u32 .ro 0,
    row 0x2202 0x2202 0x6 0x6 .u32 .ro 0,
    row 0x2202 0x2202 0x7 0x7 .u32 .ro 0,
    row 0x2202 0x2202 0x8 0x8 .u32 .ro 0,
    row 0x2202 0x2202 0x9 0x9 .u32 .ro 0,
    row 0x2202 0x2202 0xA 0xA .u32 .ro 0,
    row 0x2203 0x2203 0x0 0x0 .u8 .const 4,
    row 0x2203 0x2203 0x1 0x1 .u32 .ro 0,
    row 0x2203 0x2203 0x2 0x2 .u32 .ro 0,
    row 0x2203 0x2203 0x3 0x3 .u32 .ro 0,
    row 0x2203 0x2203 0x4 0x4 .u8 .ro 0 ]

/-- Entry tables of 2300 to 24FF (R165, R166). Part 1. -/
def loopRows1 : List Entry :=
  [ row 0x2300 0x2300 0x0 0x0 .u8 .const 0xA,
    row 0x2300 0x2300 0x1 0x1 .u8 .ro 0x20,
    row 0x2300 0x2300 0x2 0x2 .u8 .ro 0,
    row 0x2300 0x2300 0x3 0x6 .u32 .ro 0xF0,
    row 0x2300 0x2300 0x7 0x7 .u32 .ro 0,
    row 0x2300 0x2300 0x8 0x8 .u32 .ro 0,
    row 0x2300 0x2300 0x9 0x9 .u8 .ro 0xFF,
    row 0x2300 0x2300 0xA 0xA .u32 .const 0x4000,
    row 0x2301 0x2301 0x0 0x0 .u8 .const 5,
    row 0x2301 0x2301 0x1 0x1 (.octet 16) .ro 0,
    row 0x2301 0x2301 0x2 0x2 (.octet 16) .ro 0,
    row 0x2301 0x2301 0x3 0x3 (.octet 16) .ro 0,
    row 0x2301 0x2301 0x4 0x4 (.octet 16) .ro 0,
    row 0x2301 0x2301 0x5 0x5 (.octet 16) .ro 0,
    row 0x2400 0x247F 0x0 0x0 .u8 .const 0x3A,
    row 0x2400 0x247F 0x1 0x1 .bool .rws 0,
    rowIn 0x2400 0x247F 0x2 0x2 .u16 .rws 1 1 1024,
    row 0x2400 0x247F 0x3 0x3 .u16 .rws 0,
    row 0x2400 0x247F 0x4 0x4 .u32 .rws 0,
    row 0x2400 0x247F 0x5 0x5 .i32 .rws 0x10000,
    row 0x2400 0x247F 0x6 0x6 .i32 .rws 0,
    row 0x2400 0x247F 0x7 0x7 .u32 .rws 0,
    row 0x2400 0x247F 0x8 0x8 .u32 .rws 0,
    row 0x2400 0x247F 0x9 0x9 .i32 .rws 0x10000,
    row 0x2400 0x247F 0xA 0xA .i32 .rws 0,
    rowIn 0x2400 0x247F 0xB 0xB .u8 .rws 0 0 2,
    row 0x2400 0x247F 0xC 0xC .u8 .rws 0xFF,
    rowIn 0x2400 0x247F 0xD 0xD .u8 .rws 0 0 2,
    rowIn 0x2400 0x247F 0xE 0xE .u8 .rws 1 0 2,
    row 0x2400 0x247F 0xF 0xF .bool .rw 1,
    row 0x2400 0x247F 0x10 0x10 .i32 .rw 0,
    rowIn 0x2400 0x247F 0x11 0x11 .i32 .rw 0x10000 0 65536,
    row 0x2400 0x247F 0x12 0x12 .u32 .rw 0,
    row 0x2400 0x247F 0x13 0x13 .i32 .rw 0x7FFFFFFF,
    row 0x2400 0x247F 0x14 0x14 .i32 .rw 0x80000000,
    row 0x2400 0x247F 0x15 0x15 .i32 .rw 0,
    row 0x2400 0x247F 0x16 0x16 .i32 .rw 0,
    row 0x2400 0x247F 0x17 0x17 .i32 .rw 0,
    row 0x2400 0x247F 0x18 0x18 .i32 .rw 0x10000,
    rowIn 0x2400 0x247F 0x19 0x19 .i32 .rw 0x4000 1 2147483647 ]

/-- Entry tables of 2300 to 24FF (R165, R166). Part 2. -/
def loopRows2 : List Entry :=
  [ row 0x2400 0x247F 0x1A 0x1A .i32 .rw 0,
    row 0x2400 0x247F 0x1B 0x1B .u32 .rw 0,
    row 0x2400 0x247F 0x1C 0x1C .i32 .rw 0,
    row 0x2400 0x247F 0x1D 0x1D .i32 .rw 0,
    row 0x2400 0x247F 0x1E 0x1E .i32 .rw 0x10000,
    row 0x2400 0x247F 0x1F 0x1F .u32 .rw 0,
    row 0x2400 0x247F 0x20 0x20 .u32 .rw 0,
    row 0x2400 0x247F 0x21 0x21 .i32 .rw 0,
    row 0x2400 0x247F 0x22 0x22 .i32 .rw 0,
    row 0x2400 0x247F 0x23 0x23 .i32 .rw 0,
    row 0x2400 0x247F 0x24 0x24 .i32 .rw 0x7FFFFFFF,
    row 0x2400 0x247F 0x25 0x25 .i32 .rw 0x80000000,
    row 0x2400 0x247F 0x26 0x26 .i32 .ro 0,
    row 0x2400 0x247F 0x27 0x27 .i32 .ro 0,
    row 0x2400 0x247F 0x28 0x28 .i32 .ro 0,
    row 0x2400 0x247F 0x29 0x29 .u32 .rw 0,
    row 0x2400 0x247F 0x2A 0x2A .i32 .ro 0,
    row 0x2400 0x247F 0x2B 0x2B .i32 .ro 0,
    row 0x2400 0x247F 0x2C 0x2C .i32 .ro 0,
    row 0x2400 0x247F 0x2D 0x33 .u32 .ro 0,
    row 0x2400 0x247F 0x34 0x3A .u32 .ro 0 ]

/-- Entry tables of 2300 to 24FF (R165, R166). -/
def loopRows : List Entry := loopRows1 ++ loopRows2

/-- Entry tables of 2500 to 25FF (R199). Part 1. -/
def pairRows1 : List Entry :=
  [ row 0x2500 0x2500 0x0 0x0 .u8 .const 0xE,
    row 0x2500 0x2500 0x1 0x1 .u8 .ro 0,
    row 0x2500 0x2500 0x2 0x2 .u8 .ro 0,
    rowIn 0x2500 0x2500 0x3 0x3 .u8 .rws 1 1 2,
    row 0x2500 0x2500 0x4 0x4 .bool .rws 1,
    rowIn 0x2500 0x2500 0x5 0x5 .u32 .rw 0xEA60 1000 3600000,
    rowIn 0x2500 0x2500 0x6 0x6 .u8 .rws 3 1 16,
    row 0x2500 0x2500 0x7 0x7 .i32 .rw 0x4000,
    rowIn 0x2500 0x2500 0x8 0x8 .u8 .rws 0 0 1,
    rowIn 0x2500 0x2500 0x9 0x9 .u32 .rws 0x64 10 10000,
    row 0x2500 0x2500 0xA 0xA .bool .rw 1,
    rowIn 0x2500 0x2500 0xB 0xB .u8 .rw 3 1 255,
    rowIn 0x2500 0x2500 0xC 0xC .u32 .rw 0x7530 5000 600000,
    row 0x2500 0x2500 0xD 0xD .u32 .ro 0,
    row 0x2500 0x2500 0xE 0xE .bool .rws 0,
    row 0x2501 0x2501 0x0 0x0 .u8 .const 0x12,
    row 0x2501 0x2501 0x1 0x1 .u8 .ro 0,
    row 0x2501 0x2501 0x2 0x2 .u8 .ro 0xFF,
    row 0x2501 0x2501 0x3 0x3 .bool .ro 0,
    row 0x2501 0x2501 0x4 0x4 .bool .ro 0,
    row 0x2501 0x2501 0x5 0x5 .u8 .ro 0,
    row 0x2501 0x2501 0x6 0x6 .u8 .ro 3,
    row 0x2501 0x2501 0x7 0x7 .u16 .ro 0,
    row 0x2501 0x2501 0x8 0x8 .u8 .ro 0,
    row 0x2501 0x2501 0x9 0x9 .u8 .ro 0,
    row 0x2501 0x2501 0xA 0xA .u64 .ro 0,
    row 0x2501 0x2501 0xB 0xB .u8 .ro 0,
    row 0x2501 0x2501 0xC 0xC .u32 .ro 0,
    row 0x2501 0x2501 0xD 0xD .u32 .ro 0,
    row 0x2501 0x2501 0xE 0xE .u8 .ro 0,
    row 0x2501 0x2501 0xF 0xF .u32 .ro 0,
    row 0x2501 0x2501 0x10 0x10 .u32 .ro 0,
    row 0x2501 0x2501 0x11 0x11 .u32 .ro 0,
    rowIn 0x2501 0x2501 0x12 0x12 .u8 .wo 0 1 5,
    row 0x2510 0x2510 0x0 0x0 .u8 .const 9,
    row 0x2510 0x2510 0x1 0x1 .u8 .ro 0,
    row 0x2510 0x2510 0x2 0x2 .u8 .ro 0,
    row 0x2510 0x2510 0x3 0x3 .u64 .ro 0,
    row 0x2510 0x2510 0x4 0x4 .u64 .ro 0,
    row 0x2510 0x2510 0x5 0x5 .u32 .ro 0 ]

/-- Entry tables of 2500 to 25FF (R199). Part 2. -/
def pairRows2 : List Entry :=
  [ row 0x2510 0x2510 0x6 0x6 (.octet 64) .ro 0,
    row 0x2510 0x2510 0x7 0x7 (.octet 10) .ro 0,
    row 0x2510 0x2510 0x8 0x8 (.octet 10) .ro 0,
    row 0x2510 0x2510 0x9 0x9 .u8 .ro 0,
    row 0x2520 0x2520 0x0 0x0 .u8 .const 0xC,
    row 0x2520 0x2520 0x1 0x1 .u32 .ro 0,
    row 0x2520 0x2520 0x2 0x2 .u32 .ro 0,
    row 0x2520 0x2520 0x3 0x3 .u32 .ro 0,
    row 0x2520 0x2520 0x4 0x4 .u32 .ro 0,
    row 0x2520 0x2520 0x5 0x5 .u32 .ro 0,
    row 0x2520 0x2520 0x6 0x6 .u32 .ro 0,
    row 0x2520 0x2520 0x7 0x7 .u32 .ro 0,
    row 0x2520 0x2520 0x8 0x8 .u32 .ro 0,
    row 0x2520 0x2520 0x9 0x9 .u32 .ro 0,
    row 0x2520 0x2520 0xA 0xA .u32 .ro 0,
    row 0x2520 0x2520 0xB 0xB .u32 .ro 0,
    row 0x2520 0x2520 0xC 0xC .u32 .ro 0 ]

/-- Entry tables of 2500 to 25FF (R199). -/
def pairRows : List Entry := pairRows1 ++ pairRows2

/-- Entry tables of 2600 to 27FF (R227 to R229). Part 1. -/
def chainRows1 : List Entry :=
  [ row 0x2600 0x2600 0x0 0x0 .u8 .const 6,
    row 0x2600 0x2600 0x1 0x1 .bool .rws 0,
    rowIn 0x2600 0x2600 0x2 0x2 .u32 .rws 0 1 4294967295,
    row 0x2600 0x2600 0x3 0x3 .u32 .ro 0,
    row 0x2600 0x2600 0x4 0x4 .i32 .rws 0x30000,
    row 0x2600 0x2600 0x5 0x5 .i32 .rws 0x160000,
    rowIn 0x2600 0x2600 0x6 0x6 .u16 .rws 0x28 1 65535,
    row 0x2601 0x2601 0x0 0x0 .u8 .const 0xB,
    row 0x2601 0x2601 0x1 0x1 .u8 .ro 0,
    row 0x2601 0x2601 0x2 0x2 .bool .ro 0,
    row 0x2601 0x2601 0x3 0x3 .bool .ro 0,
    row 0x2601 0x2601 0x4 0x4 .u8 .ro 0,
    row 0x2601 0x2601 0x5 0x5 .u8 .ro 0,
    row 0x2601 0x2601 0x6 0x6 (.octet 32) .ro 0,
    row 0x2601 0x2601 0x7 0x7 .u32 .ro 0,
    row 0x2601 0x2601 0x8 0x8 .i32 .ro 0,
    row 0x2601 0x2601 0x9 0x9 .u32 .ro 0,
    row 0x2601 0x2601 0xA 0xA .u32 .ro 0,
    row 0x2601 0x2601 0xB 0xB .u32 .ro 0,
    row 0x2610 0x2610 0x0 0x0 .u8 .const 6,
    row 0x2610 0x2610 0x1 0x1 .u32 .ro 0,
    row 0x2610 0x2610 0x2 0x2 .u32 .ro 0,
    row 0x2610 0x2610 0x3 0x3 .u32 .ro 0,
    row 0x2610 0x2610 0x4 0x4 .u32 .ro 0,
    row 0x2610 0x2610 0x5 0x5 .u32 .ro 0,
    row 0x2610 0x2610 0x6 0x6 .u32 .ro 0,
    row 0x2700 0x2700 0x0 0x0 .u8 .const 0x1B,
    row 0x2700 0x2700 0x1 0x1 .u8 .ro 0,
    rowIn 0x2700 0x2700 0x2 0x2 .u8 .rws 3 1 255,
    row 0x2700 0x2700 0x3 0x3 (.domain 512) .rws 0,
    row 0x2700 0x2700 0x4 0x4 (.domain 512) .rws 0,
    rowIn 0x2700 0x2700 0x5 0x5 .u16 .rws 0 0 512,
    rowIn 0x2700 0x2700 0x6 0x6 .u16 .rws 0 0 512,
    row 0x2700 0x2700 0x7 0x7 (.octet 8) .rws 0,
    row 0x2700 0x2700 0x8 0x8 (.octet 64) .rws 0x38000000380000003800000038000000380000003800000038000000380000003800000038000000380000003800000038000000380000003800000038000,
    rowIn 0x2700 0x2700 0x9 0x9 .u32 .rws 0 0 0,
    rowIn 0x2700 0x2700 0xA 0xA .u32 .rw 0xFA 20 1000,
    row 0x2700 0x2700 0xB 0xB .u32 .ro 0,
    row 0x2700 0x2700 0xC 0xC .u32 .rws 0,
    row 0x2700 0x2700 0x10 0x10 .u8 .ro 0 ]

/-- Entry tables of 2600 to 27FF (R227 to R229). Part 2. -/
def chainRows2 : List Entry :=
  [ row 0x2700 0x2700 0x11 0x11 .bool .ro 0,
    row 0x2700 0x2700 0x12 0x12 .i32 .ro 0,
    row 0x2700 0x2700 0x13 0x13 .u64 .ro 0,
    row 0x2700 0x2700 0x14 0x14 .u8 .ro 0,
    row 0x2700 0x2700 0x15 0x15 (.octet 512) .ro 0,
    row 0x2700 0x2700 0x16 0x16 .u64 .ro 0,
    row 0x2700 0x2700 0x17 0x17 .u8 .ro 0,
    row 0x2700 0x2700 0x18 0x18 .u32 .ro 0,
    row 0x2700 0x2700 0x19 0x19 .u32 .ro 0,
    row 0x2700 0x2700 0x1A 0x1A .u32 .ro 0,
    row 0x2700 0x2700 0x1B 0x1B .u32 .ro 0,
    row 0x2701 0x2720 0x0 0x0 .u8 .const 0x17,
    row 0x2701 0x2720 0x1 0x1 .bool .rws 0,
    rowIn 0x2701 0x2720 0x2 0x2 .u16 .rws 0 0 512,
    rowIn 0x2701 0x2720 0x3 0x3 .u16 .rws 0 0 512,
    row 0x2701 0x2720 0x4 0x4 .u32 .rws 0,
    rowIn 0x2701 0x2720 0x5 0x5 .u8 .rws 3 1 255,
    row 0x2701 0x2720 0x6 0x6 (.octet 512) .rws 0,
    row 0x2701 0x2720 0x7 0x7 (.octet 64) .rws 0,
    row 0x2701 0x2720 0x8 0x8 (.octet 512) .rws 0,
    row 0x2701 0x2720 0x9 0x9 .u8 .ro 0,
    row 0x2701 0x2720 0xA 0xA .u16 .ro 0,
    row 0x2701 0x2720 0xB 0xB .u32 .ro 0,
    row 0x2701 0x2720 0xC 0xC .u8 .ro 0,
    row 0x2701 0x2720 0xD 0xD .u8 .ro 0,
    row 0x2701 0x2720 0xE 0xE .u64 .ro 0,
    row 0x2701 0x2720 0xF 0xF .u64 .ro 0,
    row 0x2701 0x2720 0x10 0x10 .u32 .ro 0,
    row 0x2701 0x2720 0x11 0x11 .u32 .ro 0,
    row 0x2701 0x2720 0x12 0x12 .u32 .ro 0,
    row 0x2701 0x2720 0x13 0x13 .u32 .ro 0,
    row 0x2701 0x2720 0x14 0x14 .u8 .ro 0,
    row 0x2701 0x2720 0x15 0x15 .u32 .rws 0xFFFFFFFF,
    row 0x2701 0x2720 0x16 0x16 .u32 .rws 0xFFFFFFFF,
    row 0x2701 0x2720 0x17 0x17 .u8 .ro 0 ]

/-- Entry tables of 2600 to 27FF (R227 to R229). -/
def chainRows : List Entry := chainRows1 ++ chainRows2

/-- Entry tables of 2800 to 28FF (R249 to R252). Part 1. -/
def digitalRows1 : List Entry :=
  [ row 0x2800 0x2800 0x0 0x0 .u8 .const 9,
    row 0x2800 0x2800 0x1 0x1 .u32 .rws 0,
    row 0x2800 0x2800 0x2 0x2 .u32 .rws 0,
    row 0x2800 0x2800 0x3 0x3 .u32 .rws 0xFFFFFFFF,
    rowIn 0x2800 0x2800 0x4 0x4 .u16 .rws 0 0 256,
    rowIn 0x2800 0x2800 0x5 0x5 .u8 .rws 4 2 255,
    row 0x2800 0x2800 0x6 0x6 .u8 .ro 0,
    row 0x2800 0x2800 0x7 0x7 (.octet 8) .ro 0,
    row 0x2800 0x2800 0x8 0x8 (.octet 8) .ro 0,
    row 0x2800 0x2800 0x9 0x9 (.octet 8) .ro 0,
    row 0x2801 0x2808 0x0 0x0 .u8 .const 7,
    row 0x2801 0x2808 0x1 0x1 .i32 .ro 0,
    row 0x2801 0x2808 0x2 0x2 .u8 .ro 1,
    row 0x2801 0x2808 0x3 0x3 .i32 .ro 0,
    row 0x2801 0x2808 0x4 0x4 .u32 .ro 0,
    row 0x2801 0x2808 0x5 0x5 .u32 .ro 0,
    rowIn 0x2801 0x2808 0x6 0x6 .u8 .wo 0 1 2,
    row 0x2801 0x2808 0x7 0x7 .bool .ro 0,
    row 0x2810 0x284F 0x0 0x0 .u8 .const 0x1A,
    rowIn 0x2810 0x284F 0x1 0x1 .u8 .rws 0 0 5,
    rowIn 0x2810 0x284F 0x2 0x2 .u8 .rws 3 0 5,
    row 0x2810 0x284F 0x3 0x3 .bool .rws 0,
    row 0x2810 0x284F 0x4 0x4 .bool .rws 0,
    row 0x2810 0x284F 0x5 0x5 .bool .rws 0,
    row 0x2810 0x284F 0x6 0x6 .bool .rws 1,
    row 0x2810 0x284F 0x7 0x7 .bool .rws 0,
    rowIn 0x2810 0x284F 0x8 0x8 .u8 .rws 2 1 16,
    rowIn 0x2810 0x284F 0x9 0x9 .u32 .rw 0 0 60000,
    rowIn 0x2810 0x284F 0xA 0xA .u8 .rw 3 0 15,
    row 0x2810 0x284F 0xB 0xB .u32 .ro 0,
    rowIn 0x2810 0x284F 0xC 0xC .u8 .wo 0 1 1,
    row 0x2810 0x284F 0xD 0xD .i32 .ro 0,
    row 0x2810 0x284F 0xE 0xE .u8 .ro 0,
    row 0x2810 0x284F 0xF 0xF .u32 .ro 0,
    row 0x2810 0x284F 0x10 0x10 .u32 .ro 0,
    row 0x2810 0x284F 0x11 0x11 .u32 .ro 0,
    row 0x2810 0x284F 0x12 0x12 .u32 .ro 0,
    row 0x2810 0x284F 0x13 0x13 .u32 .ro 0,
    row 0x2810 0x284F 0x14 0x14 .u32 .ro 0,
    row 0x2810 0x284F 0x15 0x15 .u32 .ro 0 ]

/-- Entry tables of 2800 to 28FF (R249 to R252). Part 2. -/
def digitalRows2 : List Entry :=
  [ row 0x2810 0x284F 0x16 0x16 .u32 .ro 0,
    row 0x2810 0x284F 0x17 0x17 .u32 .ro 0,
    row 0x2810 0x284F 0x18 0x18 .u32 .ro 0,
    row 0x2810 0x284F 0x19 0x19 .u32 .ro 0,
    row 0x2810 0x284F 0x1A 0x1A .u32 .ro 0,
    row 0x2880 0x2880 0x0 0x0 .u8 .const 5,
    row 0x2880 0x2880 0x1 0x1 .u16 .ro 0,
    row 0x2880 0x2880 0x2 0x2 (.domain 1024) .ro 0,
    row 0x2880 0x2880 0x3 0x3 .u32 .ro 0,
    row 0x2880 0x2880 0x4 0x4 .u16 .const 0x2000,
    rowIn 0x2880 0x2880 0x5 0x5 .u8 .wo 0 1 1 ]

/-- Entry tables of 2800 to 28FF (R249 to R252). -/
def digitalRows : List Entry := digitalRows1 ++ digitalRows2

/-- Entry tables of 2900 to 29FF (R279 to R283). Part 1. -/
def analogRows1 : List Entry :=
  [ row 0x2900 0x2900 0x0 0x0 .u8 .const 5,
    row 0x2900 0x2900 0x1 0x1 .u32 .rws 0x200,
    row 0x2900 0x2900 0x2 0x2 .u32 .rws 0x100,
    row 0x2900 0x2900 0x3 0x3 .u8 .ro 0,
    row 0x2900 0x2900 0x4 0x4 .u16 .ro 0,
    row 0x2900 0x2900 0x5 0x5 .u16 .ro 0,
    row 0x2901 0x2904 0x0 0x0 .u8 .const 3,
    row 0x2901 0x2904 0x1 0x1 .i32 .ro 0,
    row 0x2901 0x2904 0x2 0x2 .u8 .ro 0,
    row 0x2901 0x2904 0x3 0x3 .u32 .ro 0,
    row 0x2910 0x291F 0x0 0x0 .u8 .const 0x13,
    rowIn 0x2910 0x291F 0x1 0x1 .u8 .rws 0 0 3,
    rowIn 0x2910 0x291F 0x2 0x2 .u8 .rws 2 0 4,
    row 0x2910 0x291F 0x3 0x3 .bool .rws 1,
    rowIn 0x2910 0x291F 0x4 0x4 .u8 .rws 1 0 2,
    rowIn 0x2910 0x291F 0x5 0x5 .i32 .rws 0 0 1572864,
    rowIn 0x2910 0x291F 0x6 0x6 .i32 .rws 0x38000 209716 235929,
    rowIn 0x2910 0x291F 0x7 0x7 .i32 .rws 0x15C000 1376256 1507328,
    row 0x2910 0x291F 0x8 0x8 .u32 .ro 0,
    row 0x2910 0x291F 0x9 0x9 .i32 .ro 0,
    row 0x2910 0x291F 0xA 0xA .i32 .ro 0,
    row 0x2910 0x291F 0xB 0xB .u32 .ro 0x7A120,
    row 0x2910 0x291F 0xC 0xC .i32 .ro 0,
    row 0x2910 0x291F 0xD 0xD .u32 .ro 0,
    row 0x2910 0x291F 0xE 0xE .u32 .ro 0,
    row 0x2910 0x291F 0xF 0xF .u32 .ro 0,
    row 0x2910 0x291F 0x10 0x10 .u32 .ro 0,
    row 0x2910 0x291F 0x11 0x11 .u32 .ro 0,
    row 0x2910 0x291F 0x12 0x12 .u32 .ro 0,
    row 0x2910 0x291F 0x13 0x13 .u32 .ro 0,
    row 0x2980 0x298F 0x0 0x0 .u8 .const 0xE,
    rowIn 0x2980 0x298F 0x1 0x1 .u8 .rws 0 0 2,
    rowIn 0x2980 0x298F 0x2 0x2 .u8 .rws 1 0 1,
    rowIn 0x2980 0x298F 0x3 0x3 .u8 .rw 5 5 20,
    rowIn 0x2980 0x298F 0x4 0x4 .u8 .rw 2 0 5,
    rowIn 0x2980 0x298F 0x5 0x5 .u8 .rws 1 1 16,
    rowIn 0x2980 0x298F 0x6 0x6 .i32 .rws 0x40000 65536 262144,
    row 0x2980 0x298F 0x7 0x7 .i32 .ro 0,
    row 0x2980 0x298F 0x8 0x8 .u8 .ro 0,
    row 0x2980 0x298F 0x9 0x9 .u32 .ro 0 ]

/-- Entry tables of 2900 to 29FF (R279 to R283). Part 2. -/
def analogRows2 : List Entry :=
  [ row 0x2980 0x298F 0xA 0xA (.domain 270) .ro 0,
    row 0x2980 0x298F 0xB 0xB .u32 .ro 0,
    row 0x2980 0x298F 0xC 0xC .u32 .ro 0,
    row 0x2980 0x298F 0xD 0xD .u32 .ro 0,
    row 0x2980 0x298F 0xE 0xE .u32 .ro 0,
    row 0x2990 0x2990 0x0 0x0 .u8 .const 6,
    row 0x2990 0x2990 0x1 0x1 (.domain 270) .wo 0,
    row 0x2990 0x2990 0x2 0x2 (.domain 278) .ro 0,
    row 0x2990 0x2990 0x3 0x3 .u16 .ro 0,
    rowIn 0x2990 0x2990 0x4 0x4 .u8 .wo 0 0 15,
    row 0x2990 0x2990 0x5 0x5 .u32 .ro 0,
    row 0x2990 0x2990 0x6 0x6 .u16 .const 0x20 ]

/-- Entry tables of 2900 to 29FF (R279 to R283). -/
def analogRows : List Entry := analogRows1 ++ analogRows2

/-- Entry tables of 2A00 to 2AFF (R303 to R305). Part 1. -/
def timeRows1 : List Entry :=
  [ row 0x2A00 0x2A00 0x0 0x0 .u8 .const 0xB,
    rowIn 0x2A00 0x2A00 0x1 0x1 .u8 .rws 0 0 127,
    rowIn 0x2A00 0x2A00 0x2 0x2 .u8 .rws 0 0 1,
    rowIn 0x2A00 0x2A00 0x3 0x3 .i8 .rws 0xFC (-7) 0,
    row 0x2A00 0x2A00 0x4 0x4 .bool .rws 0,
    rowIn 0x2A00 0x2A00 0x5 0x5 .i8 .rws 0 (-4) 4,
    rowIn 0x2A00 0x2A00 0x6 0x6 .u32 .rw 0xC8 20 100000,
    row 0x2A00 0x2A00 0x7 0x7 .u32 .rw 0x3E8,
    rowIn 0x2A00 0x2A00 0x8 0x8 .i32 .rw 0 (-50000000) 50000000,
    rowIn 0x2A00 0x2A00 0x9 0x9 .u32 .rw 0x2710 100 500000,
    rowIn 0x2A00 0x2A00 0xA 0xA .u8 .rw 1 0 2,
    row 0x2A00 0x2A00 0xB 0xB .i16 .rw 0x25,
    row 0x2A01 0x2A01 0x0 0x0 .u8 .const 0x10,
    row 0x2A01 0x2A01 0x1 0x1 .u8 .ro 0,
    row 0x2A01 0x2A01 0x2 0x2 .u8 .ro 0,
    row 0x2A01 0x2A01 0x3 0x3 .i32 .ro 0,
    row 0x2A01 0x2A01 0x4 0x4 .u32 .ro 0,
    row 0x2A01 0x2A01 0x5 0x5 .i32 .ro 0,
    row 0x2A01 0x2A01 0x6 0x6 .i32 .ro 0,
    row 0x2A01 0x2A01 0x7 0x7 .u16 .ro 0,
    row 0x2A01 0x2A01 0x8 0x8 (.octet 8) .ro 0,
    row 0x2A01 0x2A01 0x9 0x9 .u16 .ro 0,
    row 0x2A01 0x2A01 0xA 0xA .i16 .ro 0x25,
    row 0x2A01 0x2A01 0xB 0xB .u32 .ro 0,
    row 0x2A01 0x2A01 0xC 0xC .u64 .ro 0,
    row 0x2A01 0x2A01 0xD 0xD .u64 .ro 0,
    row 0x2A01 0x2A01 0xE 0xE .i64 .ro 0,
    rowIn 0x2A01 0x2A01 0xF 0xF .u8 .wo 0 1 1,
    row 0x2A01 0x2A01 0x10 0x10 .ts96 .ro 0,
    row 0x2A10 0x2A13 0x0 0x0 .u8 .const 0x10,
    row 0x2A10 0x2A13 0x1 0x1 .bool .rws 1,
    rowIn 0x2A10 0x2A11 0x2 0x2 .u8 .rws 1 1 2,
    row 0x2A12 0x2A13 0x2 0x2 .u8 .rws 2,
    rowIn 0x2A10 0x2A13 0x3 0x3 .u8 .rws 0 0 1,
    rowIn 0x2A10 0x2A13 0x4 0x4 .i32 .rw 0 (-100000) 100000,
    row 0x2A10 0x2A13 0x5 0x5 .u32 .const 0,
    row 0x2A10 0x2A13 0x6 0x6 .u32 .const 0,
    row 0x2A10 0x2A13 0x7 0x7 .u32 .const 0,
    row 0x2A10 0x2A13 0x8 0x8 .u32 .const 0,
    row 0x2A10 0x2A13 0x9 0x9 .u32 .const 0 ]

/-- Entry tables of 2A00 to 2AFF (R303 to R305). Part 2. -/
def timeRows2 : List Entry :=
  [ row 0x2A10 0x2A13 0xA 0xA .u32 .const 0,
    row 0x2A10 0x2A13 0xB 0xB .u8 .ro 3,
    row 0x2A10 0x2A13 0xC 0xC .u16 .ro 0,
    row 0x2A10 0x2A13 0xD 0xD .u32 .ro 0,
    row 0x2A10 0x2A13 0xE 0xE .u8 .ro 0xFF,
    row 0x2A10 0x2A13 0xF 0xF .u32 .ro 0,
    row 0x2A10 0x2A13 0x10 0x10 .u32 .ro 0,
    row 0x2A20 0x2A20 0x0 0x0 .u8 .const 4,
    row 0x2A20 0x2A20 0x1 0x1 .u32 .ro 0,
    row 0x2A20 0x2A20 0x2 0x2 .u32 .ro 0,
    row 0x2A20 0x2A20 0x3 0x3 .u32 .ro 0,
    row 0x2A20 0x2A20 0x4 0x4 .u32 .ro 0,
    row 0x2A30 0x2A30 0x0 0x0 .u8 .const 4,
    row 0x2A30 0x2A30 0x1 0x1 .ts96 .ro 0,
    row 0x2A30 0x2A30 0x2 0x2 .i32 .ro 0,
    row 0x2A30 0x2A30 0x3 0x3 .u32 .ro 0,
    row 0x2A30 0x2A30 0x4 0x4 .bool .rw 0 ]

/-- Entry tables of 2A00 to 2AFF (R303 to R305). -/
def timeRows : List Entry := timeRows1 ++ timeRows2

/-- Entry tables of 2B00 to 2BFF (R326). -/
def keeperRows : List Entry :=
  [ row 0x2B00 0x2B00 0x0 0x0 .u8 .const 7,
    rowIn 0x2B00 0x2B00 0x1 0x1 .i32 .rw 0 (-100000) 100000,
    row 0x2B00 0x2B00 0x2 0x2 .bool .rw 1,
    rowIn 0x2B00 0x2B00 0x3 0x3 .u32 .rw 0 0 16777216,
    row 0x2B00 0x2B00 0x4 0x7 .f32 .const 0,
    row 0x2B01 0x2B01 0x0 0x0 .u8 .const 0xB,
    row 0x2B01 0x2B01 0x1 0x1 .u16 .ro 0,
    row 0x2B01 0x2B01 0x2 0x2 .i32 .ro 0,
    row 0x2B01 0x2B01 0x3 0x3 .i32 .ro 0,
    row 0x2B01 0x2B01 0x4 0x4 .i32 .ro 0,
    row 0x2B01 0x2B01 0x5 0x5 .i32 .ro 0,
    row 0x2B01 0x2B01 0x6 0x6 .u64 .ro 0,
    row 0x2B01 0x2B01 0x7 0x7 .u32 .ro 0,
    row 0x2B01 0x2B01 0x8 0x8 .i32 .ro 0,
    row 0x2B01 0x2B01 0x9 0x9 .u32 .ro 0,
    row 0x2B01 0x2B01 0xA 0xA .u32 .ro 0,
    row 0x2B01 0x2B01 0xB 0xB .u8 .ro 0,
    row 0x2B10 0x2B10 0x0 0x0 .u8 .const 4,
    row 0x2B10 0x2B10 0x1 0x1 (.octet 10) .ro 0,
    row 0x2B10 0x2B10 0x2 0x2 (.octet 10) .wo 0,
    rowIn 0x2B10 0x2B10 0x3 0x3 .u8 .wo 0 1 1,
    row 0x2B10 0x2B10 0x4 0x4 (.octet 10) .ro 0,
    row 0x2B11 0x2B11 0x0 0x0 .u8 .const 4,
    rowIn 0x2B11 0x2B11 0x1 0x1 .u8 .wo 0 1 1,
    row 0x2B11 0x2B11 0x2 0x2 .u32 .ro 0,
    row 0x2B11 0x2B11 0x3 0x3 .u32 .ro 0,
    row 0x2B11 0x2B11 0x4 0x4 .u32 .ro 0,
    row 0x2B20 0x2B20 0x0 0x0 .u8 .const 5,
    row 0x2B20 0x2B20 0x1 0x1 (.domain 2048) .rw 0,
    row 0x2B20 0x2B20 0x2 0x2 .u8 .ro 0,
    row 0x2B20 0x2B20 0x3 0x3 .u32 .ro 0,
    row 0x2B20 0x2B20 0x4 0x4 .u32 .ro 0,
    row 0x2B20 0x2B20 0x5 0x5 .u8 .ro 0 ]

/-- Entry tables of 2C00 to 2CFF (R356). Part 1. -/
def busRows1 : List Entry :=
  [ row 0x2C00 0x2C03 0x0 0x0 .u8 .const 0x1F,
    rowIn 0x2C00 0x2C03 0x1 0x1 .u8 .rw 0 0 2,
    rowIn 0x2C00 0x2C03 0x2 0x2 .u8 .rws 0 0 3,
    rowIn 0x2C00 0x2C03 0x3 0x3 .u8 .rws 1 0 15,
    row 0x2C00 0x2C03 0x4 0x4 .u16 .rws 4,
    row 0x2C00 0x2C03 0x5 0x5 .u16 .rws 0x45,
    row 0x2C00 0x2C03 0x6 0x6 .u8 .rws 0xA,
    row 0x2C00 0x2C03 0x7 0x7 .u8 .rws 0xA,
    row 0x2C00 0x2C03 0x8 0x8 .bool .rws 0,
    row 0x2C00 0x2C03 0x9 0x9 .u8 .rws 1,
    row 0x2C00 0x2C03 0xA 0xA .u8 .rws 0x1D,
    row 0x2C00 0x2C03 0xB 0xB .u8 .rws 0xA,
    row 0x2C00 0x2C03 0xC 0xC .u8 .rws 0xA,
    row 0x2C00 0x2C03 0xD 0xD .u8 .rws 0,
    rowIn 0x2C00 0x2C03 0xE 0xE .u8 .rws 1 1 127,
    row 0x2C00 0x2C03 0xF 0xF .u64 .rws 0,
    rowIn 0x2C00 0x2C03 0x10 0x10 .u8 .rws 0x80 0 251,
    row 0x2C00 0x2C03 0x11 0x11 .bool .rw 1,
    rowIn 0x2C00 0x2C03 0x12 0x12 .u8 .rws 1 0 1,
    rowIn 0x2C00 0x2C03 0x13 0x13 .u8 .rws 0 0 1,
    row 0x2C00 0x2C03 0x14 0x14 .u32 .rws 0xFFFFFFFF,
    row 0x2C00 0x2C03 0x15 0x15 .u32 .rws 0,
    row 0x2C00 0x2C03 0x16 0x16 .u32 .rws 0xFFFFFFFF,
    row 0x2C00 0x2C03 0x17 0x17 .u32 .rws 0,
    rowIn 0x2C00 0x2C03 0x18 0x18 .u8 .rws 0 0 2,
    row 0x2C00 0x2C03 0x19 0x19 .u16 .ro 0,
    row 0x2C00 0x2C03 0x1A 0x1A .u32 .ro 0,
    row 0x2C00 0x2C03 0x1B 0x1B .u8 .ro 0xFE,
    rowIn 0x2C00 0x2C03 0x1C 0x1C .u8 .wo 0 1 2,
    row 0x2C00 0x2C03 0x1D 0x1D .u32 .ro 0x3D090,
    row 0x2C00 0x2C03 0x1E 0x1E .u32 .ro 0x1E8480,
    row 0x2C00 0x2C03 0x1F 0x1F .u32 .ro 0,
    row 0x2C08 0x2C08 0x0 0x0 .u8 .const 7,
    row 0x2C08 0x2C08 0x1 0x1 .u8 .ro 0xFF,
    row 0x2C08 0x2C08 0x2 0x2 .u16 .rws 0,
    row 0x2C08 0x2C08 0x3 0x3 .u16 .rws 0,
    rowIn 0x2C08 0x2C08 0x4 0x4 .u8 .rws 0x7F 1 127,
    row 0x2C08 0x2C08 0x5 0x5 .u32 .ro 0,
    row 0x2C08 0x2C08 0x6 0x6 .u32 .ro 0,
    row 0x2C08 0x2C08 0x7 0x7 .u32 .ro 0 ]

/-- Entry tables of 2C00 to 2CFF (R356). Part 2. -/
def busRows2 : List Entry :=
  [ row 0x2C10 0x2C13 0x0 0x0 .u8 .const 0xC,
    row 0x2C10 0x2C13 0x1 0x1 .u32 .ro 0,
    row 0x2C10 0x2C13 0x2 0x2 .u32 .ro 0,
    row 0x2C10 0x2C13 0x3 0x3 .u32 .ro 0,
    row 0x2C10 0x2C13 0x4 0x4 .u32 .ro 0,
    row 0x2C10 0x2C13 0x5 0x5 .u32 .ro 0,
    row 0x2C10 0x2C13 0x6 0x6 .u32 .ro 0,
    row 0x2C10 0x2C13 0x7 0x7 .u32 .ro 0,
    row 0x2C10 0x2C13 0x8 0x8 .u32 .ro 0,
    row 0x2C10 0x2C13 0x9 0x9 .u32 .ro 0,
    row 0x2C10 0x2C13 0xA 0xA .u32 .ro 0,
    row 0x2C10 0x2C13 0xB 0xB .u32 .ro 0,
    row 0x2C10 0x2C13 0xC 0xC .u32 .ro 0,
    row 0x2C18 0x2C1B 0x0 0x0 .u8 .const 0x40,
    row 0x2C18 0x2C1B 0x1 0x40 (.octet 12) .rws 0,
    row 0x2C20 0x2C23 0x0 0x0 .u8 .const 8,
    row 0x2C20 0x2C23 0x1 0x1 (.domain 2084) .ro 0,
    row 0x2C20 0x2C23 0x2 0x2 (.domain 2084) .ro 0,
    rowIn 0x2C20 0x2C23 0x3 0x3 .u8 .wo 0 1 2,
    row 0x2C20 0x2C23 0x4 0x4 .u8 .ro 0,
    row 0x2C20 0x2C23 0x5 0x5 .u8 .ro 0,
    row 0x2C20 0x2C23 0x6 0x6 .u8 .ro 0,
    row 0x2C20 0x2C23 0x7 0x7 .u8 .ro 0,
    row 0x2C20 0x2C23 0x8 0x8 .u32 .ro 0,
    row 0x2C40 0x2C41 0x0 0x0 .u8 .const 0x40,
    rowIn 0x2C40 0x2C41 0x1 0x40 .u32 .rws 0 0 134217727,
    row 0x2C80 0x2C84 0x0 0x0 .u8 .const 0xE,
    row 0x2C80 0x2C84 0x1 0x1 .bool .rws 0,
    row 0x2C80 0x2C84 0x2 0x2 .u32 .rws 0x12C0,
    row 0x2C80 0x2C84 0x3 0x3 .bool .rws 0,
    row 0x2C80 0x2C84 0x4 0x4 .bool .rws 1,
    row 0x2C80 0x2C84 0x5 0x5 .u32 .rws 0xFFFFFFFF,
    row 0x2C80 0x2C84 0x6 0x6 .u32 .rws 0,
    row 0x2C80 0x2C84 0x7 0x7 .u32 .rws 0xFFFFFFFF,
    row 0x2C80 0x2C84 0x8 0x8 .u32 .rws 0,
    row 0x2C80 0x2C84 0x9 0x9 .bool .rws 0,
    row 0x2C80 0x2C84 0xA 0xA (.domain 16384) .ro 0,
    row 0x2C80 0x2C84 0xB 0xB .u16 .ro 0,
    row 0x2C80 0x2C84 0xC 0xC .u16 .ro 0,
    row 0x2C80 0x2C84 0xD 0xD .u32 .ro 0 ]

/-- Entry tables of 2C00 to 2CFF (R356). Part 3. -/
def busRows3 : List Entry :=
  [ row 0x2C80 0x2C84 0xE 0xE .u32 .ro 0,
    row 0x2C88 0x2C88 0x0 0x0 .u8 .const 0xC,
    rowIn 0x2C88 0x2C88 0x1 0x1 .u8 .rws 0 0 3,
    row 0x2C88 0x2C88 0x2 0x2 (.vstring 6) .rws 0,
    row 0x2C88 0x2C88 0x3 0x3 .u32 .rws 0,
    row 0x2C88 0x2C88 0x4 0x4 .u16 .rws 0,
    row 0x2C88 0x2C88 0x5 0xC (.octet 6) .rws 0,
    row 0x2C90 0x2C94 0x0 0x0 .u8 .const 6,
    row 0x2C90 0x2C94 0x1 0x1 .u32 .ro 0,
    row 0x2C90 0x2C94 0x2 0x2 .u32 .ro 0,
    row 0x2C90 0x2C94 0x3 0x3 .u32 .ro 0,
    row 0x2C90 0x2C94 0x4 0x4 .u32 .ro 0,
    row 0x2C90 0x2C94 0x5 0x5 .u32 .ro 0,
    row 0x2C90 0x2C94 0x6 0x6 .u32 .ro 0 ]

/-- Entry tables of 2C00 to 2CFF (R356). -/
def busRows : List Entry := busRows1 ++ busRows2 ++ busRows3

/-- Entry tables of 2D00 to 2DFF (R408). -/
def bookRows : List Entry :=
  [ row 0x2D00 0x2D00 0x0 0x0 .u8 .const 4,
    row 0x2D00 0x2D00 0x1 0x1 .bool .rws 1,
    rowIn 0x2D00 0x2D00 0x2 0x2 .u32 .rwf 0x258 10 86400,
    row 0x2D00 0x2D00 0x3 0x3 (.domain 8192) .rwf 0,
    row 0x2D00 0x2D00 0x4 0x4 (.domain 1024) .rwf 0,
    row 0x2D01 0x2D01 0x0 0x0 .u8 .const 0xE,
    row 0x2D01 0x2D01 0x1 0x1 .u32 .ro 0,
    row 0x2D01 0x2D01 0x2 0x2 .u32 .ro 0,
    row 0x2D01 0x2D01 0x3 0x3 .u16 .ro 0,
    row 0x2D01 0x2D01 0x4 0x4 .u16 .ro 0,
    row 0x2D01 0x2D01 0x5 0x5 .u32 .ro 0,
    row 0x2D01 0x2D01 0x6 0x6 .u32 .ro 0,
    row 0x2D01 0x2D01 0x7 0x7 .u16 .ro 0xFFFF,
    row 0x2D01 0x2D01 0x8 0x8 .u32 .ro 0,
    row 0x2D01 0x2D01 0x9 0x9 .u32 .ro 0,
    row 0x2D01 0x2D01 0xA 0xA .u32 .ro 0,
    row 0x2D01 0x2D01 0xB 0xB .u32 .ro 0,
    row 0x2D01 0x2D01 0xC 0xC .u8 .ro 0,
    row 0x2D01 0x2D01 0xD 0xD .u32 .ro 0,
    row 0x2D01 0x2D01 0xE 0xE (.octet 32) .ro 0,
    row 0x2D20 0x2D20 0x0 0x0 .u8 .const 3,
    row 0x2D20 0x2D20 0x1 0x1 (.domain 131072) .ro 0,
    row 0x2D20 0x2D20 0x2 0x2 (.domain 131072) .ro 0,
    row 0x2D20 0x2D20 0x3 0x3 .u16 .wo 0 ]

/-- Entry tables of 2E00 to 2EFF (R431). Part 1. -/
def panelRows1 : List Entry :=
  [ row 0x2E00 0x2E00 0x0 0x0 .u8 .const 0xC,
    row 0x2E00 0x2E00 0x1 0x1 .bool .rw 0,
    rowIn 0x2E00 0x2E00 0x2 0x2 .u16 .rws 0x400 64 1024,
    rowIn 0x2E00 0x2E00 0x3 0x3 .u16 .rws 0x300 64 768,
    rowIn 0x2E00 0x2E00 0x4 0x4 .u8 .rws 2 0 2,
    row 0x2E00 0x2E00 0x5 0x5 .u32 .rws 0x2DF5,
    rowIn 0x2E00 0x2E00 0x6 0x6 .u16 .rw 0xC8 20 500,
    rowIn 0x2E00 0x2E00 0x7 0x7 .u8 .rw 1 0 2,
    rowIn 0x2E00 0x2E00 0x8 0x8 .u8 .rw 0 0 1,
    row 0x2E00 0x2E00 0x9 0x9 .i32 .rw 0,
    row 0x2E00 0x2E00 0xA 0xA .i32 .wo 0,
    rowIn 0x2E00 0x2E00 0xB 0xB .u32 .rw 0x3E8 10 600000,
    rowIn 0x2E00 0x2E00 0xC 0xC .u16 .rws 0x14 1 1000,
    row 0x2E01 0x2E01 0x0 0x0 .u8 .const 0xB,
    row 0x2E01 0x2E01 0x1 0x1 .u8 .ro 0,
    row 0x2E01 0x2E01 0x2 0x2 .u16 .ro 0,
    row 0x2E01 0x2E01 0x3 0x3 .i32 .ro 0,
    row 0x2E01 0x2E01 0x4 0x4 .u8 .ro 0,
    row 0x2E01 0x2E01 0x5 0x5 .u8 .ro 0,
    row 0x2E01 0x2E01 0x6 0x6 .u8 .ro 0,
    row 0x2E01 0x2E01 0x7 0x7 .u32 .ro 0xADC,
    row 0x2E01 0x2E01 0x8 0x8 .u16 .ro 0,
    row 0x2E01 0x2E01 0x9 0x9 .u32 .ro 0,
    row 0x2E01 0x2E01 0xA 0xA .u32 .ro 0,
    row 0x2E01 0x2E01 0xB 0xB .u32 .ro 0,
    row 0x2E02 0x2E02 0x0 0x0 .u8 .const 6,
    row 0x2E02 0x2E02 0x1 0x1 .u32 .ro 0,
    row 0x2E02 0x2E02 0x2 0x2 .u32 .ro 0,
    row 0x2E02 0x2E02 0x3 0x3 .u32 .ro 0,
    row 0x2E02 0x2E02 0x4 0x4 .u32 .ro 0,
    row 0x2E02 0x2E02 0x5 0x5 .u32 .ro 0,
    row 0x2E02 0x2E02 0x6 0x6 .u32 .ro 0,
    row 0x2E10 0x2E10 0x0 0x0 .u8 .const 3,
    row 0x2E10 0x2E10 0x1 0x1 (.domain 1048576) .rws 0,
    row 0x2E10 0x2E10 0x2 0x2 .u32 .ro 0,
    row 0x2E10 0x2E10 0x3 0x3 .u8 .ro 0,
    row 0x2E11 0x2E11 0x0 0x0 .u8 .const 5,
    row 0x2E11 0x2E11 0x1 0x1 (.octet 32) .rw 0,
    rowIn 0x2E11 0x2E11 0x2 0x2 .i16 .rw 0 (-2500) 2500,
    rowIn 0x2E11 0x2E11 0x3 0x3 .u16 .rw 0x9C4 0 2500 ]

/-- Entry tables of 2E00 to 2EFF (R431). Part 2. -/
def panelRows2 : List Entry :=
  [ row 0x2E11 0x2E11 0x4 0x4 (.domain 1536) .ro 0,
    row 0x2E11 0x2E11 0x5 0x5 .u16 .ro 0,
    row 0x2E20 0x2E20 0x0 0x0 .u8 .const 2,
    row 0x2E20 0x2E20 0x1 0x1 (.octet 12) .wo 0,
    rowIn 0x2E20 0x2E20 0x2 0x2 .u8 .wo 0 1 1,
    row 0x2E30 0x2E30 0x0 0x0 .u8 .const 2,
    row 0x2E30 0x2E30 0x1 0x1 (.domain 196608) .wo 0,
    row 0x2E30 0x2E30 0x2 0x2 (.domain 196608) .ro 0 ]

/-- Entry tables of 2E00 to 2EFF (R431). -/
def panelRows : List Entry := panelRows1 ++ panelRows2

/-- Entry tables of 2F00 to 2F3F (R456). Part 1. -/
def resetRows1 : List Entry :=
  [ row 0x2F00 0x2F00 0x0 0x0 .u8 .const 8,
    row 0x2F00 0x2F00 0x1 0x1 .u16 .rw 1,
    row 0x2F00 0x2F00 0x2 0x2 .u8 .ro 0,
    row 0x2F00 0x2F00 0x3 0x3 .u8 .ro 0,
    row 0x2F00 0x2F00 0x4 0x4 .u32 .ro 0,
    row 0x2F00 0x2F00 0x5 0x5 .u32 .ro 0,
    row 0x2F00 0x2F00 0x6 0x6 .u32 .ro 0,
    row 0x2F00 0x2F00 0x7 0x7 .u32 .ro 0,
    row 0x2F00 0x2F00 0x8 0x8 .u8 .ro 0,
    row 0x2F01 0x2F01 0x0 0x0 .u8 .const 1,
    rowIn 0x2F01 0x2F01 0x1 0x1 .u8 .wo 0 1 2,
    row 0x2F02 0x2F02 0x0 0x0 .u8 .const 0x12,
    rowIn 0x2F02 0x2F02 0x1 0xE .u16 .rw 0x64 1 10000,
    row 0x2F02 0x2F02 0xF 0xF .u8 .ro 0,
    row 0x2F02 0x2F02 0x10 0x10 .u32 .ro 0,
    row 0x2F02 0x2F02 0x11 0x11 .u32 .ro 0,
    rowIn 0x2F02 0x2F02 0x12 0x12 .u8 .wo 0 0 13,
    row 0x2F03 0x2F03 0x0 0x0 .u8 .const 8,
    row 0x2F03 0x2F03 0x1 0x1 .u8 .ro 0,
    row 0x2F03 0x2F03 0x2 0x2 .u8 .ro 3,
    row 0x2F03 0x2F03 0x3 0x3 .u8 .ro 0,
    row 0x2F03 0x2F03 0x4 0x4 .u8 .ro 0,
    row 0x2F03 0x2F03 0x5 0x5 .u32 .ro 0,
    row 0x2F03 0x2F03 0x6 0x6 .u8 .ro 0,
    row 0x2F03 0x2F03 0x7 0x7 .u8 .ro 3,
    rowIn 0x2F03 0x2F03 0x8 0x8 .u8 .wo 0 1 3,
    row 0x2F10 0x2F10 0x0 0x0 .u8 .const 3,
    row 0x2F10 0x2F10 0x1 0x1 (.octet 256) .wo 0,
    row 0x2F10 0x2F10 0x2 0x2 (.octet 256) .ro 0,
    row 0x2F10 0x2F10 0x3 0x3 .u32 .ro 0,
    row 0x2F20 0x2F20 0x0 0x0 .u8 .const 0x12,
    row 0x2F20 0x2F20 0x1 0x1 .u8 .ro 0,
    row 0x2F20 0x2F20 0x2 0x2 .u8 .ro 0,
    row 0x2F20 0x2F20 0x3 0x3 .u8 .ro 0,
    row 0x2F20 0x2F20 0x4 0x4 .u8 .ro 1,
    row 0x2F20 0x2F20 0x5 0x5 .u8 .ro 1,
    row 0x2F20 0x2F20 0x6 0x6 .u8 .ro 1,
    row 0x2F20 0x2F20 0x7 0x7 .u8 .ro 7,
    row 0x2F20 0x2F20 0x8 0x8 .u8 .ro 2,
    row 0x2F20 0x2F20 0x9 0x9 .u8 .ro 7 ]

/-- Entry tables of 2F00 to 2F3F (R456). Part 2. -/
def resetRows2 : List Entry :=
  [ row 0x2F20 0x2F20 0xA 0xA .u8 .ro 2,
    row 0x2F20 0x2F20 0xB 0xB .u8 .ro 1,
    row 0x2F20 0x2F20 0xC 0xC .u8 .ro 3,
    row 0x2F20 0x2F20 0xD 0xD .u8 .ro 1,
    row 0x2F20 0x2F20 0xE 0xE .u8 .ro 0,
    row 0x2F20 0x2F20 0xF 0xF .u8 .ro 1,
    row 0x2F20 0x2F20 0x10 0x10 .u8 .ro 7,
    row 0x2F20 0x2F20 0x11 0x11 (.octet 16) .wo 0,
    row 0x2F20 0x2F20 0x12 0x12 .bool .ro 0,
    row 0x2F30 0x2F30 0x0 0x0 .u8 .const 7,
    row 0x2F30 0x2F30 0x1 0x1 .u8 .ro 1,
    row 0x2F30 0x2F30 0x2 0x2 (.octet 48) .ro 0,
    row 0x2F30 0x2F30 0x3 0x3 (.octet 48) .wo 0,
    row 0x2F30 0x2F30 0x4 0x4 (.octet 48) .ro 0,
    row 0x2F30 0x2F30 0x5 0x5 (.octet 48) .wo 0,
    row 0x2F30 0x2F30 0x6 0x6 .u32 .wo 0,
    row 0x2F30 0x2F30 0x7 0x7 .bool .ro 1,
    row 0x2F31 0x2F31 0x0 0x0 .u8 .const 8,
    row 0x2F31 0x2F31 0x1 0x1 (.domain 16777216) .wo 0,
    row 0x2F31 0x2F31 0x2 0x2 .u8 .ro 0,
    row 0x2F31 0x2F31 0x3 0x3 .u32 .ro 0,
    row 0x2F31 0x2F31 0x4 0x4 .u32 .ro 0,
    row 0x2F31 0x2F31 0x5 0x5 .u8 .ro 0,
    row 0x2F31 0x2F31 0x6 0x6 .u16 .ro 0,
    rowIn 0x2F31 0x2F31 0x7 0x7 .u8 .wo 0 1 2,
    row 0x2F31 0x2F31 0x8 0x8 .bool .ro 0,
    row 0x2F32 0x2F32 0x0 0x0 .u8 .const 4,
    row 0x2F32 0x2F32 0x1 0x1 (.octet 32) .ro 0,
    row 0x2F32 0x2F32 0x2 0x2 (.domain 193) .wo 0,
    row 0x2F32 0x2F32 0x3 0x3 .u8 .ro 0,
    row 0x2F32 0x2F32 0x4 0x4 .u32 .ro 0 ]

/-- Entry tables of 2F00 to 2F3F (R456). -/
def resetRows : List Entry := resetRows1 ++ resetRows2

/-- Entry tables of 2F40 to 2F6F (R389). -/
def irqRows : List Entry :=
  [ row 0x2F40 0x2F40 0x0 0x0 .u8 .const 1,
    row 0x2F40 0x2F40 0x1 0x1 .u16 .ro 0,
    row 0x2F41 0x2F4F 0x0 0x0 .u8 .const 1,
    row 0x2F41 0x2F4F 0x1 0x1 .u32 .rw 0,
    row 0x2F50 0x2F5F 0x0 0x0 .u8 .const 1,
    row 0x2F50 0x2F5F 0x1 0x1 .u32 .rw 0,
    row 0x2F60 0x2F60 0x0 0x0 .u8 .const 0xB,
    row 0x2F60 0x2F60 0x1 0x1 .u32 .wo 0,
    row 0x2F60 0x2F60 0x2 0x2 .u8 .ro 0,
    rowIn 0x2F60 0x2F60 0x3 0x3 .u16 .rw 0x3C 10 600,
    row 0x2F60 0x2F60 0x4 0x4 .u32 .ro 0,
    row 0x2F60 0x2F60 0x5 0x5 .u32 .rw 0,
    row 0x2F60 0x2F60 0x6 0x6 .u16 .ro 0,
    row 0x2F60 0x2F60 0x7 0x7 .u32 .ro 0,
    row 0x2F60 0x2F60 0x8 0x8 .u64 .ro 0,
    row 0x2F60 0x2F60 0x9 0x9 .u8 .ro 0,
    row 0x2F60 0x2F60 0xA 0xA .u32 .ro 0,
    row 0x2F60 0x2F60 0xB 0xB .u8 .ro 0,
    row 0x2F61 0x2F61 0x0 0x0 .u8 .const 3,
    row 0x2F61 0x2F61 0x1 0x1 .u8 .ro 0,
    row 0x2F61 0x2F61 0x2 0x2 .u8 .ro 0,
    row 0x2F61 0x2F61 0x3 0x3 .u32 .ro 0,
    row 0x2F62 0x2F62 0x0 0x0 .u8 .const 8,
    row 0x2F62 0x2F62 0x1 0x1 .u32 .rws 0,
    rowIn 0x2F62 0x2F62 0x2 0x2 .u8 .rws 0x18 8 30,
    row 0x2F62 0x2F62 0x3 0x3 .u32 .rws 0,
    row 0x2F62 0x2F62 0x4 0x4 .u32 .rws 0,
    rowIn 0x2F62 0x2F62 0x5 0x5 .u8 .rws 0x18 8 30,
    row 0x2F62 0x2F62 0x6 0x6 .u32 .rws 0,
    row 0x2F62 0x2F62 0x7 0x7 .u16 .rws 0x5A58,
    row 0x2F62 0x2F62 0x8 0x8 .bool .rws 1 ]

/-- Entry tables of 6000 to 67FF (R46, R47). -/
def viewRows : List Entry :=
  [ row 0x6000 0x6000 0x0 0x0 .u8 .const 5,
    row 0x6000 0x6000 0x1 0x1 .ts96 .ro 0,
    row 0x6000 0x6000 0x2 0x2 .u64 .ro 0,
    row 0x6000 0x6000 0x3 0x3 .u16 .ro 0,
    row 0x6000 0x6000 0x4 0x4 .u64 .ro 0,
    row 0x6000 0x6000 0x5 0x5 .u32 .ro 0,
    row 0x6010 0x6010 0x0 0x0 .u8 .const 2,
    row 0x6011 0x6011 0x0 0x0 .u8 .const 1,
    row 0x6010 0x6010 0x1 0x1 (.octet 8) .ro 0,
    row 0x6011 0x6011 0x1 0x1 (.octet 8) .ro 0,
    row 0x6010 0x6010 0x2 0x2 (.octet 8) .ro 0,
    row 0x6020 0x6021 0x0 0x0 .u8 .const 0x10,
    row 0x6020 0x6021 0x1 0x10 .i32 .ro 0,
    row 0x6101 0x6120 0x0 0x0 .u8 .const 2,
    row 0x6101 0x6120 0x1 0x1 (.domain 512) .ro 0,
    row 0x6101 0x6120 0x2 0x2 .u8 .ro 0,
    row 0x6201 0x6220 0x0 0x0 .u8 .const 2,
    row 0x6201 0x6220 0x1 0x1 (.domain 512) .ro 0,
    row 0x6201 0x6220 0x2 0x2 .u8 .ro 0 ]

/-- The rows of the range an index lies in (R357). -/
def rowsOf (ix : Nat) : List Entry :=
  if ix < 0x2000 then profileRows
  else if ix < 0x2100 then tickRows
  else if ix < 0x2200 then taskRows
  else if ix < 0x2300 then imageRows
  else if ix < 0x2500 then loopRows
  else if ix < 0x2600 then pairRows
  else if ix < 0x2800 then chainRows
  else if ix < 0x2900 then digitalRows
  else if ix < 0x2A00 then analogRows
  else if ix < 0x2B00 then timeRows
  else if ix < 0x2C00 then keeperRows
  else if ix < 0x2D00 then busRows
  else if ix < 0x2E00 then bookRows
  else if ix < 0x2F00 then panelRows
  else if ix < 0x2F40 then resetRows
  else if ix < 0x2F70 then irqRows
  else if 0x6000 ≤ ix then viewRows else []

/-- The row of a subindex, if the entry exists (R357, R366 steps 1 and 2). -/
def entryIn (rows : List Entry) (ix sub : Nat) : Option Entry :=
  match rows with
  | [] => none
  | x :: t =>
    if decide (x.ixLo ≤ ix) && decide (ix ≤ x.ixHi) && decide (x.subLo ≤ sub) && decide (sub ≤ x.subHi) then some x
    else entryIn t ix sub

/-- The row of a subindex of the module's own entries. -/
def entryOf (ix sub : Nat) : Option Entry := entryIn (rowsOf ix) ix sub

/-- Whether an index exists among the module's own entries. -/
def indexExists (ix : Nat) : Bool := (rowsOf ix).any (fun x => decide (x.ixLo ≤ ix) && decide (ix ≤ x.ixHi))

/-- Whether the Default column of an entry says 'Factory' (R360), or its value is assigned at manufacture (1018, R375). -/
def isFactory (ix sub : Nat) : Bool :=
  (ix == 0x1018 && decide (1 ≤ sub)) ||
  (decide (0x2A10 ≤ ix) && decide (ix ≤ 0x2A13) && decide (0x5 ≤ sub) && decide (sub ≤ 0x5)) ||
  (decide (0x2A10 ≤ ix) && decide (ix ≤ 0x2A13) && decide (0x6 ≤ sub) && decide (sub ≤ 0x6)) ||
  (decide (0x2A10 ≤ ix) && decide (ix ≤ 0x2A13) && decide (0x7 ≤ sub) && decide (sub ≤ 0x7)) ||
  (decide (0x2A10 ≤ ix) && decide (ix ≤ 0x2A13) && decide (0x8 ≤ sub) && decide (sub ≤ 0x8)) ||
  (decide (0x2A10 ≤ ix) && decide (ix ≤ 0x2A13) && decide (0x9 ≤ sub) && decide (sub ≤ 0x9)) ||
  (decide (0x2A10 ≤ ix) && decide (ix ≤ 0x2A13) && decide (0xA ≤ sub) && decide (sub ≤ 0xA)) ||
  (decide (0x2B00 ≤ ix) && decide (ix ≤ 0x2B00) && decide (0x4 ≤ sub) && decide (sub ≤ 0x7)) ||
  (decide (0x2D00 ≤ ix) && decide (ix ≤ 0x2D00) && decide (0x3 ≤ sub) && decide (sub ≤ 0x3)) ||
  (decide (0x2F31 ≤ ix) && decide (ix ≤ 0x2F31) && decide (0x3 ≤ sub) && decide (sub ≤ 0x3)) ||
  (decide (0x2F31 ≤ ix) && decide (ix ≤ 0x2F31) && decide (0x4 ≤ sub) && decide (sub ≤ 0x4)) ||
  (decide (0x2F31 ≤ ix) && decide (ix ≤ 0x2F31) && decide (0x6 ≤ sub) && decide (sub ≤ 0x6))

/-- The key of a subindex in the register store. -/
def keyOf (ix sub : Nat) : Nat := ix * 256 + sub

/-- Bytes of a value of a type (R10): the fixed size, or none for VSTRING and DOMAIN. -/
def EntryType.size (t : EntryType) : Option Nat :=
  match t with
  | .bool | .u8 | .i8 => some 1
  | .u16 | .i16 => some 2
  | .u32 | .i32 | .f32 => some 4
  | .u64 | .i64 => some 8
  | .ts96 => some 12
  | .octet n => some n
  | .vstring _ | .domain _ => none

/-- Width in bits of a value held in the register store: 0 where no entry stands, and for VSTRING and DOMAIN. -/
def entryBits (key : Nat) : Nat :=
  match entryOf (key / 256) (key % 256) with
  | some x => if x.type = .bool then 1 else 8 * x.type.size.getD 0
  | none => 0

/-- The default of a register: the Default column, the factory value, or 0 where no entry stands. -/
def defaultOf (key : Nat) : Nat :=
  if isFactory (key / 256) (key % 256) then Config.factory key % 2 ^ entryBits key
  else match entryOf (key / 256) (key % 256) with
    | some x => x.dflt % 2 ^ entryBits key
    | none => 0

/-- Whether a type is signed, with its width in bits. -/
def EntryType.signedBits (t : EntryType) : Option Nat :=
  match t with
  | .i8 => some 8
  | .i16 => some 16
  | .i32 => some 32
  | .i64 => some 64
  | _ => none

/-- Entries that a rule names guarded: R405, R452, R389, R444. -/
def isGuarded (key : Nat) : Bool :=
  key == 0x2D2003 || key == 0x2F1001 || key == 0x2F2011 || key == 0x2F3003 || key == 0x2F3005 || key == 0x2F3006 ||
  key == 0x2F3101 || key == 0x2F3107 || key == 0x2F0308 || (decide (0x2F6201 ≤ key) && decide (key ≤ 0x2F6208))

/-- RW entries that R358, R386 and R389 make volatile. -/
def isVolatileRw (key : Nat) : Bool :=
  let ix := key / 256
  let sub := key % 256
  (decide (0x2400 ≤ ix) && decide (ix ≤ 0x247F) && decide (0x1A ≤ sub) && decide (sub ≤ 0x29)) || key == 0x2B2001 ||
  (decide (0x2F41 ≤ ix) && decide (ix ≤ 0x2F4F)) || key == 0x2F6005 || key == 0x2F0001 ||
  ix == 0x1010 || ix == 0x1011

/-- Whether an entry is persisted (R358). -/
def isPersisted (key : Nat) : Bool :=
  match entryOf (key / 256) (key % 256) with
  | some x =>
    match x.access with
    | .rws | .rwf => true
    | .rw => !isVolatileRw key
    | _ => false
  | none => false

end Sys2Proof.Machine
end

