-- ==== Sys2Proof/Machine/Ops.lean ====
section
/-! DEFINITION. The named operations every meaning is written over: registers, counters, causes of the interrupt
tree, error-task records, replies, the data memory and the frame statistics. -/

namespace Sys2Proof.Machine

open Sys2Proof

/-- The answer of a meaning. -/
abbrev Result := Host.Outcome State Fault Refusal

/-- A command takes `s` to `t`; one whose operands name nothing that exists (a channel, port or block beyond the last, a
number too wide for its field) reaches nothing and leaves `s` (DESIGN CHOICE, log entry 97). -/
def whenValid (c : Bool) (s t : State) : Result := .next (if c then t else s)

/-! ## Registers -/

/-- A value cut to the width of its entry (R10). -/
def fit (key v : Nat) : Nat := v % 2 ^ entryBits key

/-- Reads a register: the value written last, or its default (R358, R361). -/
def State.reg (s : State) (key : Nat) : Nat := Sparse.get (defaultOf key) s.regs key

/-- Writes a register, cut to its width. A place without an entry holds nothing. -/
def State.setReg (s : State) (key v : Nat) : State :=
  { s with regs := Sparse.set (defaultOf key) s.regs key (fit key v) }

/-- The signed value of a register (R10: two's complement). -/
def State.regI (s : State) (key : Nat) : Int := signed (entryBits key) (s.reg key)

/-- Writes a signed value. -/
def State.setRegI (s : State) (key : Nat) (v : Int) : State := s.setReg key (unsigned (entryBits key) v)

/-- A bit of a register. -/
def State.bit (s : State) (key n : Nat) : Bool := (s.reg key).testBit n

/-- Sets or clears a bit of a register. -/
def State.setBit (s : State) (key n : Nat) (b : Bool) : State := s.setReg key (withBit (s.reg key) n b)

/-- Whether a BOOL register is 1. -/
def State.on (s : State) (key : Nat) : Bool := s.reg key != 0

/-- Adds to a saturating counter (R43, R44). -/
def State.countBy (s : State) (key n : Nat) : State :=
  s.setReg key (min (s.reg key + n) (2 ^ entryBits key - 1))

/-- Counts one event in a saturating counter. -/
def State.count (s : State) (key : Nat) : State := s.countBy key 1

/-- Raises a live maximum (R42). -/
def State.maxReg (s : State) (key v : Nat) : State := if s.reg key < v then s.setReg key v else s

/-- Lowers a live minimum (R42). -/
def State.minReg (s : State) (key v : Nat) : State := if v < s.reg key then s.setReg key v else s

/-- The unit code of a fixed record code of the level book; none for a reserved code (R391). -/
def fixedUnit (c : Nat) : Option Nat :=
  if c ≤ 0xF then some 1
  else if c = 0x10 ∨ c = 0xE8 then some 2
  else if 0x20 ≤ c ∧ c ≤ 0x2D then some 3
  else if 0x30 ≤ c ∧ c ≤ 0x34 then some 4
  else if (0x40 ≤ c ∧ c ≤ 0x47) ∨ (0x50 ≤ c ∧ c ≤ 0x5F) then some 5
  else if (0x60 ≤ c ∧ c ≤ 0xE2) ∨ (0xE4 ≤ c ∧ c ≤ 0xE7) ∨ c = 0xE9 ∨ c = 0xEA then some 6
  else none

/-- The default descriptor of a record code (R393): fixed codes enabled with factory bins and an interval of 0,
integrator codes disabled. -/
def defaultDescriptor (c : Nat) : List Byte :=
  let raw := (Config.factoryBytes 0x2D0003).drop (16 * c)
  leBytes 1 (if (fixedUnit c).isSome then 1 else 0) ++ leBytes 1 (if 0x100 ≤ c then 7 else (fixedUnit c).getD 0) ++
    leBytes 2 (max 1 (field raw 2 2)) ++ leBytes 4 0 ++ leBytes 4 (field raw 8 4) ++ leBytes 4 (max 1 (field raw 12 4 % 2 ^ 31))

/-- The default content of a DOMAIN or VSTRING entry. Device name 1008 is "ZX480" (R375). -/
def blobDefault (key : Nat) : List Byte :=
  if key = 0x100800 then [0x5A, 0x58, 0x34, 0x38, 0x30]
  else if key / 256 = 0x1009 ∨ key / 256 = 0x100A then Config.factoryBytes key
  else if key = 0x2D0003 then (List.range 512).flatMap defaultDescriptor
  else if key = 0x2D0004 then List.replicate 1024 0
  else []

/-- Reads a DOMAIN or VSTRING entry: the value written last, or its default. -/
def State.blob (s : State) (key : Nat) : List Byte := Sparse.get (blobDefault key) s.blobs key

/-- Writes a DOMAIN or VSTRING entry. -/
def State.setBlob (s : State) (key : Nat) (v : List Byte) : State :=
  { s with blobs := Sparse.set (blobDefault key) s.blobs key v }

/-- The keeper's interface is open, and a write to a start record crosses it as one unit; while it is locked the write is
refused (R320, R321, R324). -/
def State.setKeeper (s : State) (key v : Nat) : State :=
  if s.keep.locked then s
  else { s with keep := { s.keep with units := [⟨key, 0, leBytes 4 (s.reg key)⟩] } }.setReg key v

/-- Applies a step for each number of a list. -/
def State.each {α : Type} (s : State) (xs : List α) (f : State → α → State) : State := xs.foldl f s

/-! ## Emissions, causes, records -/

/-- Sends something out of the module. -/
def State.emit (s : State) (e : Emission) : State := { s with out := s.out ++ [e] }

/-- The module states of R81. -/
abbrev stOff : Nat := 0
abbrev stOption : Nat := 1
abbrev stSelfTest : Nat := 2
abbrev stStopped : Nat := 3
abbrev stRun : Nat := 4
abbrev stHalted : Nat := 5
abbrev stBench : Nat := 6

/-- The module state, 2100.01 (R81). -/
def State.mode (s : State) : Nat := s.reg 0x210001

/-- The tick sequencer runs in STOPPED, RUN, HALTED and BENCHMARK (R14). -/
def State.running (s : State) : Bool := decide (stStopped ≤ s.mode)

/-- The tick number, 2001.01 (R15). -/
def State.tickNo (s : State) : Nat := s.reg 0x200101

/-- The tick period T_D in microseconds in force, 2000.01 (R13). -/
def State.tD (s : State) : Nat := s.reg 0x200001

/-- The pair role, 2501.01 (R169). -/
def State.role (s : State) : Nat := s.reg 0x250101

/-- The stage of a block's reset (R440, R441). -/
def State.stage (s : State) (b : Nat) : BlockStage := Sparse.get .running s.rst.blocks b

/-- A block is neither held in reset nor fenced (R440, R441). -/
def State.blockUp (s : State) (b : Nat) : Bool := s.stage b == .running || s.stage b == .waiting

/-- The unit is one of a pair: unit A or B of the option block (2500.02, R443). -/
def State.inPair (s : State) : Bool := s.reg 0x250002 != 0

/-- The unit releases outputs: simplex or ACTIVE (R169, R170). -/
def State.active (s : State) : Bool := s.role == 0 || s.role == 1

/-- The unit computes the tick (R169). -/
def State.computes (s : State) : Bool := s.role == 0 || s.role == 1 || s.role == 2

/-- The module is an outstation (R223; option block, R443). -/
def State.outstation (s : State) : Bool := s.rst.options.role == 1

/-- The controller with the CANopen device, 2C08.01 (R343). -/
def State.canopen (s : State) : Option Nat := if s.reg 0x2C0801 ≤ 3 then some (s.reg 0x2C0801) else none

/-- The CANopen device may send its own messages: its controller is in normal operation, in a unit that is ACTIVE or
simplex, outside BENCHMARK, and NMT has not stopped it (R328, R343, R349, R376). -/
def State.deviceSends (s : State) : Bool :=
  match s.canopen with
  | some c => s.reg (keyOf (0x2C00 + c) 1) == 1 && s.active && s.running && s.mode != stBench && s.open_.nmt != .stopped
  | none => false

/-- Removes a bit from the writes of 1 that wait to clear a cause register: its event has occurred again (R386). -/
def keepCause (key n : Nat) (w : PendingWrite) : PendingWrite :=
  if w.key = key then { w with data := leBytes w.data.length (withBit (leNat w.data) n false) } else w

/-- The cause groups that send EMCY when a bit sets (R376). -/
def emcyGroup (g : Nat) : Bool := g == 1 || g == 5 || g == 7 || g == 8

/-- Sets bit `n` of cause group `g` (R386 to R388), with the EMCY of R376. -/
def State.setCause (s : State) (g n : Nat) : State :=
  let key := keyOf (0x2F40 + g) 1
  let old := s.reg key
  let s1 := (s.setReg key (withBit old n true))
  let s2 := { s1 with dict := { s1.dict with atClose := s1.dict.atClose.map (keepCause key n) } }
  if emcyGroup g && !old.testBit n && s.deviceSends then s2.emit (.emcy g (withBit old n true)) else s2

/-- Sets bit `n` of cause group `g` if `c` holds. -/
def State.causeIf (s : State) (c : Bool) (g n : Nat) : State := if c then s.setCause g n else s

/-- A group's bit of the summary: a cause bit is set whose mask bit is set (R385). -/
def State.groupBit (s : State) (g : Nat) : Bool :=
  (s.reg (keyOf (0x2F40 + g) 1) &&& s.reg (keyOf (0x2F50 + g) 1)) != 0

/-- The interrupt summary 2F40.01: bit g for group g from 1 to 15, bit 0 always 0 (R385). -/
def State.summary (s : State) : Nat :=
  (List.range 15).foldl (fun v g => if s.groupBit (g + 1) then v + 2 ^ (g + 1) else v) 0

/-- IRQ_N is asserted (R385). In reset it is high-impedance. -/
def State.irq (s : State) : Bool :=
  s.rst.progress.isNone && (s.summary &&& s.reg 0x2F5001) != 0

/-- The 16 bytes of an error-task record as one number, least significant byte first (R90). -/
def ErrRecord.number (r : ErrRecord) : Nat :=
  r.code % 256 + (r.param1 % 65536) * 2 ^ 16 + (r.param2 % 2 ^ 32) * 2 ^ 32 + (r.tick % 2 ^ 64) * 2 ^ 64

/-- The image in a bank. -/
def State.bank (s : State) (n : Nat) : Bank := if n = 0 then s.img.bankA else s.img.bankB

/-- The image of the active bank, if a bank is active and holds one (2200.02). -/
def State.activeImage (s : State) : Option Image :=
  if s.reg 0x220002 ≤ 1 then (s.bank (s.reg 0x220002)).image else none

/-- The header that the areas are sized by: the active image's, or an empty one. -/
def State.image (s : State) : Image := s.activeImage.getD {}

/-- The image has an error task (2120.01). -/
def State.hasErrorTask (s : State) : Bool := s.image.tasks.any (fun t => t.kind == 2)

/-- Records an error-task cause in RUN (R89, R91). Without an error task 2120.06 alone shows it. The record is
delivered in the next tick. -/
def State.recordError (s : State) (code p1 p2 : Nat) : State :=
  if s.mode = stRun then
    let r : ErrRecord := ⟨code, p1, p2, s.tickNo⟩
    let s1 := s.setReg 0x212006 r.number
    if s.hasErrorTask then { s1 with tick := { s1.tick with errNew := s1.tick.errNew ++ [r] } } else s1
  else s

/-- The module state changes: cause group 1 bit 0, with bit 1 for HALTED and bit 2 for BENCHMARK (R388). -/
def State.setMode (s : State) (m : Nat) : State :=
  if s.mode = m then s
  else (((s.setReg 0x210001 m).setCause 1 0).causeIf (m == stHalted) 1 1).causeIf (m == stBench) 1 2

/-- The UDP responses of the last 2 s (R380). -/
def State.recentUdp (s : State) : List UdpDone := s.dict.udpDone.filter (fun x => decide (s.tick.nowNs < x.atNs + 2000000000))

/-- The tag of a UDP request: transaction, source port, segment, flags, and whether it writes (R379, R380). -/
def udpTagOf (transaction port segment flags : Nat) (write : Bool) : Nat :=
  ((transaction * 65536 + port) * 65536 + segment) * 512 + flags % 256 * 2 + (if write then 1 else 0)

/-- The response datagram of R379: the request's header with opcode bit 7 set and the count of the data that follow, the
status, the data. -/
def udpReplyBytes (r : Reply) : List Byte :=
  leBytes 2 0x5A44 ++ leBytes 1 1 ++ leBytes 1 (0x81 + r.tag % 2) ++ leBytes 4 (r.tag / 2 ^ 41) ++ leBytes 2 (r.key / 256) ++
    leBytes 1 (r.key % 256) ++ leBytes 1 (r.tag / 2 % 256) ++ leBytes 2 (r.tag / 512 % 65536) ++ leBytes 2 r.data.length ++
    leBytes 4 r.code ++ r.data

/-- Sends a response on its path (R366, R379). -/
def State.sendReply (s : State) (r : Reply) : State :=
  match r.path with
  | .udp source => s.emit (.udpReply source (r.tag / 2 ^ 25 % 65536) (udpReplyBytes r))
  | _ => s.emit (.reply r)

/-- Answers a dictionary request (R366, R370). The host port holds the response until it is fetched, and a state of 0x04
until the next poll (R384); the UDP service keeps it for 2 s (R380); a forwarded write has no response (R372). -/
def State.answer (s : State) (r : Reply) : State :=
  match r.path with
  | .host =>
    let s1 := { s with dict := { s.dict with hostReply := some r } }
    (if s.reg 0x2F6101 = 4 then s1 else s1.setReg 0x2F6101 2).setCause 15 0
  | .forwarded => s
  | .udp _ =>
    let done : UdpDone := { atNs := s.tick.nowNs, reply := r }
    { s with dict := { s.dict with udpDone := s.recentUdp ++ [done] } }.sendReply r
  | _ => s.sendReply r

/-- A value the spec leaves open: the next one of a sequence nothing constrains (log entry 5). -/
def State.draw (s : State) : Nat × State := (Config.freeValue s.free, { s with free := s.free + 1 })

/-! ## Data memory (R3, R52) -/

/-- The flat key of a byte of an area. L areas stand 64 KiB apart by task number. -/
def memKey (area task off : Nat) : Nat := area * 0x1000000 + (if area = 4 then task * 0x10000 else 0) + off

/-- Reads bytes of an area as they stand committed, least significant byte first. -/
def State.memNat (s : State) (area off n : Nat) : Nat := leNat (Memory.readBytes s.mem (memKey area 0 off) n)

/-- Writes bytes of an area at once. -/
def State.memWrite (s : State) (area task off : Nat) (bs : List Byte) : State :=
  { s with mem := Memory.writeBytes s.mem (memKey area task off) bs }

/-- The size in bytes of the placed part of I or Q: the configured size, or 128 KiB while no image is active (R26). -/
def State.ioSize (s : State) (area : Nat) : Nat :=
  match s.activeImage with
  | some m => if area = 0 then m.iSize else m.qSize
  | none => 0x20000

/-! ## Frame statistics (R42 to R44) -/

/-- One live frame statistic, where its latched copy stands, and what the live one restarts from. -/
structure Statistic where
  live   : Nat
  latch  : Nat
  start  : Nat
  deriving DecidableEq, Repr

/-- Live subindices of one entry that each latch in the following subindex and restart from 0. -/
def statPairs (ix : Nat) (subs : List Nat) : List Statistic :=
  subs.map (fun n => ⟨keyOf ix n, keyOf ix (n + 1), 0⟩)

/-- `statPairs` for a range of entries of one layout. -/
def statRange (ix n : Nat) (subs : List Nat) : List Statistic :=
  (List.range n).flatMap (fun k => statPairs (ix + k) subs)

/-- Every frame statistic of R44. -/
def statistics : List Statistic :=
  statPairs 0x2020 [1, 3, 5, 7] ++ [⟨0x202009, 0x20200A, 0xFFFFFFFF⟩, ⟨0x20200B, 0x20200C, 0⟩] ++
  (List.range 16).map (fun k => ⟨keyOf 0x2101 (1 + k), keyOf 0x2101 (0x11 + k), 0⟩) ++
  statRange 0x2110 16 [7, 9, 0xB] ++
  statPairs 0x2130 [0xD, 0xF, 0x11] ++
  (List.range 128).flatMap (fun n => (List.range 7).map
    (fun k => ⟨keyOf (0x2400 + n) (0x2D + k), keyOf (0x2400 + n) (0x34 + k), 0⟩)) ++
  statPairs 0x2520 [1, 3, 5, 7, 9, 0xB] ++
  statPairs 0x2610 [1, 3, 5] ++
  statRange 0x2701 32 [0x10, 0x12] ++
  statRange 0x2810 64 [0xF, 0x11, 0x13, 0x15, 0x17, 0x19] ++
  statRange 0x2910 16 [0xE, 0x10, 0x12] ++
  statRange 0x2980 16 [0xB, 0xD] ++
  statRange 0x2A10 4 [0xF] ++ statPairs 0x2A20 [1, 3] ++
  statRange 0x2C10 4 [1, 3, 5, 7, 9, 0xB] ++
  statRange 0x2C90 5 [1, 3, 5] ++
  statPairs 0x2D01 [8, 0xA] ++ statPairs 0x2E02 [1, 3, 5]

/-- The statistic that is live at a key. -/
def statisticAt (key : Nat) : Option Statistic := statistics.find? (fun x => x.live == key)

/-- Latches one statistic and restarts it (R42). -/
def State.latchOne (s : State) (x : Statistic) : State := (s.setReg x.latch (s.reg x.live)).setReg x.live x.start

/-- Latches every statistic (R42). -/
def State.latchAll (s : State) : State := s.each statistics State.latchOne

end Sys2Proof.Machine
end

