-- ==== Sys2Proof/Machine/Digital.lean ====
section
/-! DEFINITION. Digital field channels: slices, input filters, output stages, protection, readback, sequence of
events and hold latches (R230 to R252). -/

namespace Sys2Proof.Machine

open Sys2Proof

/-- The entry of a channel. -/
def dch (n sub : Nat) : Nat := keyOf (0x2810 + n) sub

/-- The entry of a slice. -/
def dsl (k sub : Nat) : Nat := keyOf (0x2801 + k) sub

/-- The mode of a channel (R233). -/
def State.chanMode (s : State) (n : Nat) : Nat := s.reg (dch n 1)

/-- The channel is configured as an output (R233). -/
def State.isOutput (s : State) (n : Nat) : Bool := s.chanMode n == 4 || s.chanMode n == 5

/-- The channel is configured as an input. -/
def State.isInput (s : State) (n : Nat) : Bool := decide (1 ≤ s.chanMode n) && decide (s.chanMode n ≤ 3)

/-- The slice is in L+LOW (R250: slice state bit 0). -/
def State.sliceLow (s : State) (k : Nat) : Bool := s.bit (dsl k 2) 0

/-- The slice is in SLICE-OC (R250: slice state bit 1). -/
def State.sliceOc (s : State) (k : Nat) : Bool := s.bit (dsl k 2) 1

/-- Status bits of a channel (R251). -/
abbrev bOverload : Nat := 0
abbrev bOpenOn : Nat := 1
abbrev bOpenOff : Nat := 2
abbrev bOvertemp : Nat := 3
abbrev bOtLatched : Nat := 4
abbrev bWirebreak : Nat := 5
abbrev bReadback : Nat := 6
abbrev bDemag : Nat := 9
abbrev bPendingOn : Nat := 10
abbrev bStageOn : Nat := 12

/-- A stored bit of a channel's status word. -/
def State.chanBit (s : State) (n b : Nat) : Bool := s.bit (dch n 0xB) b

/-- What a channel keeps beside its entry. -/
def State.drt (s : State) (n : Nat) : DigitalRt := Sparse.get {} s.dig.channels n

/-- Writes what a channel keeps beside its entry. -/
def State.setDrt (s : State) (n : Nat) (r : DigitalRt) : State :=
  { s with dig := { s.dig with channels := Sparse.set {} s.dig.channels n r } }

/-- The hold latch has ended for the channel, with its field die or with the L+ of its slice: the output stays off until the
next release (R248). -/
def State.holdOver (s : State) (n : Nat) : Bool :=
  s.dig.holdOverSlices.testBit (n / 8) || (if n < 32 then s.dig.holdOverA else s.dig.holdOverB)

/-- A value has been released and the hold latch of the channel's die has not ended since. -/
def State.dieDriven (s : State) (n : Nat) : Bool := s.dig.everReleased && !s.holdOver n

/-- RETRYCLAMP: the retry delay of an output is clamped (R243). -/
def State.retryClamp (s : State) (n : Nat) : Bool := s.isOutput n && decide (60000 < 10 + s.reg (dch n 9))

/-- The status word of a channel (R251): the stored bits with L+LOW, SLICE-OC, RETRYCLAMP and HOLD. -/
def State.chanStatus (s : State) (n : Nat) : Nat :=
  let w := s.reg (dch n 0xB)
  let w := withBit w 7 (s.chanMode n != 0 && s.sliceLow (n / 8))
  let w := withBit w 8 (s.isOutput n && s.sliceOc (n / 8))
  let w := withBit w 11 (s.retryClamp n)
  withBit w 13 (s.isOutput n && decide (0 < s.dig.holdEdges) && s.dieDriven n)

/-- Wire-break monitoring decides the state of the channel by the current bands (R237). -/
def State.wireMonitored (s : State) (n : Nat) : Bool :=
  (s.chanMode n == 1 || s.chanMode n == 3) && s.on (dch n 3)

/-- A diagnostic of R242 is set on a configured channel. -/
def State.chanDiag (s : State) (n : Nat) : Bool := s.chanMode n != 0 && s.chanStatus n % 512 != 0

/-- The valid bit of a channel (R233, R237, R242): 1 while no diagnostic is set and the contact is not broken. -/
def State.chanValid (s : State) (n : Nat) : Bool := !s.chanDiag n && !(s.wireMonitored n && (s.drt n).broken)

/-- The diagnostic codes of R247 by status bit. -/
def diagCode (b : Nat) : Nat :=
  match b with
  | 0 => 1
  | 1 => 2
  | 2 => 3
  | 3 => 4
  | 4 => 9
  | 5 => 5
  | 6 => 6
  | 7 => 7
  | _ => 8

/-- The frame statistic that a diagnostic counts in (R251), or 0 for none. -/
def diagStat (b : Nat) : Nat :=
  match b with
  | 0 => 0xF
  | 1 | 2 => 0x11
  | 3 => 0x13
  | 5 => 0x15
  | _ => 0

/-- A diagnostic is raised: counted, recorded for the error task, and its cause set (R242, R388 group 7). -/
def State.noteDiag (s : State) (n b : Nat) : State :=
  (((if diagStat b = 0 then s else s.count (dch n (diagStat b))).recordError 4 n (diagCode b)).setCause 7 0)

/-- Sets a diagnostic bit of a channel. -/
def State.raiseDiag (s : State) (n b : Nat) : State :=
  if s.chanBit n b then s else (s.setBit (dch n 0xB) b true).noteDiag n b

/-- Clears a diagnostic bit of a channel. -/
def State.dropDiag (s : State) (n b : Nat) : State :=
  if s.chanBit n b then (s.setBit (dch n 0xB) b false).setCause 7 1 else s

/-- The stage switches off: DEMAG is set, and the diagnostics of a stage that is on clear (R240, R242). -/
def State.stageOff (s : State) (n : Nat) : State :=
  if s.chanBit n bStageOn then
    (((s.setBit (dch n 0xB) bStageOn false).setBit (dch n 0xB) bDemag true).dropDiag n bOverload).dropDiag n bOpenOn
  else s

/-- The stage switches on: OPENLOAD-OFF and OVERTEMP clear, and a pending re-enable ends (R241, R242). -/
def State.stageOn (s : State) (n : Nat) : State :=
  if s.chanBit n bStageOn then s
  else ((((s.setBit (dch n 0xB) bStageOn true).setBit (dch n 0xB) bPendingOn false).dropDiag n bOpenOff).dropDiag n
    bOvertemp).setDrt n { s.drt n with freed := false }

/-- The value that the stage of a channel is to drive: released, or last released while held (R241, R248). -/
def State.driveValue (s : State) (n : Nat) : Bool := s.isOutput n && s.tick.released.digital.testBit n

/-- OT-LATCHED clears and the trip count restarts (R243). -/
def State.unlatchOt (s : State) (n : Nat) : State :=
  if s.chanBit n bOtLatched then
    ((s.dropDiag n bOtLatched).setReg (dch n 0xE) 0).setDrt n { s.drt n with freed := true }
  else s

/-- The retry of R243 is due: cooled, the delay elapsed, below the limit. `cooled` names the stages whose junction
has cooled by the hysteresis. -/
def State.retryDue (s : State) (cooled n : Nat) : Bool :=
  cooled.testBit n && !s.chanBit n bOtLatched &&
    decide ((s.drt n).tripNs + min (10 + s.reg (dch n 9)) 60000 * 1000000 ≤ s.tick.datumNs) &&
    ((s.drt n).freed || decide (s.reg (dch n 0xE) < s.reg (dch n 0xA)))

/-- What lets the stage of a channel that is to drive 1 switch on at a datum edge: no L+LOW, no SLICE-OC, no trip whose retry
is not due, and a release, an ended demagnetisation or a due retry (R239, R241, R243). -/
def State.mayDrive (s : State) (release pending : Bool) (cooled n : Nat) : Bool :=
  s.active && !s.sliceLow (n / 8) && !s.sliceOc (n / 8) &&
    (if s.chanBit n bOvertemp then s.retryDue cooled n else release || pending)

/-- One stage at a datum edge (R239, R241, R243). `release` says whether a release reached the die at this edge. -/
def State.edgeStage (s : State) (release : Bool) (cooled n : Nat) : State :=
  let pending := s.chanBit n bPendingOn
  let s1 := s.setBit (dch n 0xB) bPendingOn false
  if !s.isOutput n then s
  else if !s.driveValue n then (if release then (s1.unlatchOt n).stageOff n else s1)
  else if s.chanBit n bStageOn then s
  else if s.chanBit n bDemag then (if release then s.setBit (dch n 0xB) bPendingOn true else s)
  else if pending && decide (s.tick.datumNs < (s.drt n).demagNs + 1000) then s
  else if s1.mayDrive release pending cooled n then s1.stageOn n
  else s1

/-- The channels of a slice. -/
def sliceChannels (k : Nat) : List Nat := (List.range 8).map (fun i => 8 * k + i)

/-- SLICE-OC of a slice clears (R242). -/
def State.clearSlice (s : State) (k : Nat) : State :=
  if s.sliceOc k then
    ((s.setBit (dsl k 2) 1 false).setCause 7 2).each (sliceChannels k)
      (fun t n => if t.isOutput n then t.setCause 7 1 else t)
  else s

/-- Every output of the slice is released as 0. -/
def State.sliceReleasedOff (s : State) (k : Nat) : Bool := (sliceChannels k).all (fun n => !s.driveValue n)

/-- What holds the stage, so that the readback comparison is skipped (R245). -/
def State.stageHeld (s : State) (n : Nat) : Bool :=
  s.chanBit n bDemag || s.chanBit n bPendingOn || s.chanBit n bOvertemp || s.chanBit n bOtLatched ||
    s.sliceLow (n / 8) || s.sliceOc (n / 8)

/-- A datum edge has left the stages as they are: a stage that is held now skips the comparison of the next edge too
(R245). -/
def State.markHeld (s : State) : State :=
  s.each (List.range 64) (fun t n =>
    if t.chanMode n = 5 then t.setDrt n { t.drt n with skipPrev := t.stageHeld n } else t)

/-- A release reaches the field dies: HOLD ends, slices released as 0 recover, every stage follows (R239 to R248). -/
def State.releaseStages (s : State) (cooled : Nat) : State :=
  let s1 := { s with dig := { s.dig with holdEdges := 0, holdOverA := false, holdOverB := false, holdOverSlices := 0,
                                           everReleased := true } }
  let s2 := s1.each (List.range 8) (fun t k => if t.sliceReleasedOff k then t.clearSlice k else t)
  (s2.each (List.range 64) (fun t n => t.edgeStage true cooled n)).markHeld

/-- The outputs of a field die switch off with demagnetisation and stay off until the next release (R248, R189). -/
def State.dropDie (s : State) (die : Nat) : State :=
  let s1 := { s with dig := if die = 0 then { s.dig with holdOverA := true } else { s.dig with holdOverB := true } }
  s1.each ((List.range 32).map (fun i => 32 * die + i))
    (fun t n => if t.chanMode n = 0 then t else (t.setBit (dch n 0xB) bPendingOn false).stageOff n)

/-- The hold-latch limit in force: 2800.05, in a pair at least 4 and the closure tolerance plus 2 (R248). -/
def State.holdLimit (s : State) : Nat :=
  if s.inPair then max (s.reg 0x280005) (max 4 (s.reg 0x250106 + 2)) else s.reg 0x280005

/-- The hold latch of a die ends when its limit is reached (R248). The field die counts its edges from REFCLK, so that the
limit is reached also while the sequencer does not run and the count here stands still. -/
def State.holdExpiry (s : State) (die : Nat) : State :=
  if s.dig.everReleased && !(if die = 0 then s.dig.holdOverA else s.dig.holdOverB) &&
      (!s.running || decide (s.holdLimit ≤ s.dig.holdEdges))
  then s.dropDie die else s

/-- A datum edge at which no release reaches the field dies: they hold (R248). -/
def State.holdStages (s : State) (cooled : Nat) : State :=
  if s.dig.everReleased then
    let s1 := { s with dig := { s.dig with holdEdges := s.dig.holdEdges + 1 } }
    let s2 := (s1.holdExpiry 0).holdExpiry 1
    (s2.each (List.range 64) (fun t n => if t.dieDriven n then t.edgeStage false cooled n else t)).markHeld
  else s.markHeld

/-- READBACK sets when the tolerance is reached (R245). -/
def State.readbackTrip (s : State) (n : Nat) : State :=
  if s.chanMode n == 5 && s.active && decide (s.reg (dch n 8) ≤ (s.drt n).mismatchRun) &&
      decide (0 < (s.drt n).mismatchRun)
  then s.raiseDiag n bReadback else s

/-- The readback comparison of a channel at a datum edge, before the release of that edge (R245). -/
def State.compareReadback (s : State) (n : Nat) : State :=
  if s.chanMode n ≠ 5 ∨ !s.active then s
  else
    let r := s.drt n
    if s.stageHeld n || r.skipPrev then s
    else if r.accepted = s.driveValue n then (s.setDrt n { r with mismatchRun := 0 }).dropDiag n bReadback
    else (s.setDrt n { r with mismatchRun := r.mismatchRun + 1 }).readbackTrip n

/-- The latched input value of a channel (R232, R233, R236, R237, R244). -/
def State.inputValue (s : State) (n : Nat) : Bool :=
  (s.isInput n || s.chanMode n == 5) && !s.sliceLow (n / 8) && !(s.wireMonitored n && s.chanBit n bWirebreak) &&
    (s.drt n).accepted

/-- A number with bit n set where `f n` holds, for the 64 channels. -/
def bits64 (f : Nat → Bool) : Nat := (List.range 64).foldl (fun v n => if f n then v + 2 ^ n else v) 0

/-- The order of stamped edges: by stamp, then by channel (R246). -/
def edgeBefore (a b : SoeEdge) : Bool := decide (a.stampNs < b.stampNs) || (a.stampNs == b.stampNs && decide (a.channel ≤ b.channel))

/-- Inserts an edge in order. -/
def insertEdge (a : SoeEdge) (l : List SoeEdge) : List SoeEdge :=
  match l with
  | [] => [a]
  | b :: t => if edgeBefore b a then b :: insertEdge a t else a :: b :: t

/-- Edges in order. -/
def sortEdges (l : List SoeEdge) : List SoeEdge := l.foldl (fun acc a => insertEdge a acc) []

/-- The SOE queue becomes `q`. -/
def State.setQueue (s : State) (q : List SoeEdge) : State :=
  ({ s with dig := { s.dig with queue := q } }).setReg 0x288001 q.length

/-- A delivered edge enters the SOE queue, or is counted when the queue holds 8,192 records (R246, R252). -/
def State.queueEdge (s : State) (e : SoeEdge) : State :=
  if 8192 ≤ s.dig.queue.length then (s.count 0x288003).setCause 7 4
  else
    let s1 := s.causeIf s.dig.queue.isEmpty 7 3
    ({ s1 with dig := { s1.dig with queue := s1.dig.queue ++ [e] } }).setReg 0x288001 (s.dig.queue.length + 1)

/-- The edges stamped since the previous datum edge are delivered at this one (R246). -/
def State.deliverEdges (s : State) (previousNs : Nat) : State :=
  let es := sortEdges s.dig.edges
  let s1 := { s with dig := { s.dig with edges := [], imageEdges := es, imageBaseNs := previousNs } }
  s1.each es (fun t e => (t.queueEdge e).count (dch e.channel 0x17))

/-- The digital inputs as latched at a datum edge, and their readback comparisons (R17, R236, R244, R245). -/
def State.latchDigital (s : State) (previousNs : Nat) : State :=
  let v := bits64 s.inputValue
  let ok := bits64 s.chanValid
  let s1 := { s with tick := { s.tick with latchedDigital := v, latchedValid := ok } }
  (s1.each (List.range 64) State.compareReadback).deliverEdges previousNs

/-- The bytes of the SOE block: count, edges not placed, 0, then the records (R246). -/
def State.soeBlock (s : State) (capacity : Nat) : List Byte :=
  let es := s.dig.imageEdges.take capacity
  let records := es.flatMap (fun e =>
    leBytes 1 (e.channel + (if e.rising then 128 else 0)) ++ leBytes 3 0 ++ leBytes 4 (e.stampNs - s.dig.imageBaseNs))
  leBytes 2 es.length ++ leBytes 2 (min (s.dig.imageEdges.length - es.length) 0xFFFF) ++ leBytes 4 0 ++
    records ++ List.replicate (8 * (capacity - es.length)) 0

/-- The 16 bytes of an SOE queue record (R246). -/
def SoeEdge.bytes (e : SoeEdge) : List Byte :=
  leBytes 1 (e.channel + (if e.rising then 128 else 0)) ++ leBytes 3 0 ++ leBytes 8 (e.stampNs / 1000000000) ++
    leBytes 4 (e.stampNs % 1000000000)

/-- The entries whose value follows from others: summaries and status words (R249, R251). -/
def State.digitalView (s : State) (key : Nat) : Option Nat :=
  if key = 0x280007 then some (bits64 (fun n => !s.chanValid n))
  else if key = 0x280008 then some (bits64 (fun n => s.driveValue n && !s.chanBit n bStageOn))
  else if key = 0x280009 then some (bits64 (fun n => s.chanBit n bPendingOn))
  else if 0x2810 ≤ key / 256 ∧ key / 256 ≤ 0x284F ∧ key % 256 = 0xB then some (s.chanStatus (key / 256 - 0x2810))
  else none

/-! ## The events -/

/-- Monitoring of a channel of a slice in L+LOW is suspended (R242). -/
def State.monitored (s : State) (n : Nat) : Bool := !s.sliceLow (n / 8)

/-- Output diagnostics are suspended in a unit that is not ACTIVE (R242). -/
def State.outputMonitored (s : State) (n : Nat) : Bool := s.isOutput n && s.monitored n && s.active

/-- The hold latch of a slice ends with the loss of its L+ (R248). -/
def State.endSliceHold (s : State) (k : Nat) : State :=
  { s with dig := { s.dig with holdOverSlices := withBit s.dig.holdOverSlices k true } }

/-- L+LOW sets: every output of the slice is off, every configured channel reports it (R231, R232, R242). -/
def execLPlusLowSet (slice : Nat) (s : State) : Result :=
  whenValid (decide (slice < 8)) s
    (if s.sliceLow slice then s
     else
       let s0 := (((s.setBit (dsl slice 2) 0 true).setReg (dsl slice 7) 0).count (dsl slice 4)).setCause 7 2
       let s1 := if 0 < s0.dig.holdEdges then s0.endSliceHold slice else s0
       s1.each (sliceChannels slice) (fun t n =>
         if t.chanMode n = 0 then t
         else ((t.setBit (dch n 0xB) bPendingOn false).stageOff n).noteDiag n 7))

/-- L+LOW clears; each output takes the value released at the next release edge (R231, R232). -/
def execLPlusLowClear (slice : Nat) (s : State) : Result :=
  whenValid (decide (slice < 8)) s
    (if s.sliceLow slice then
       let s1 := ((s.setBit (dsl slice 2) 0 false).setReg (dsl slice 7) 1).setCause 7 2
       s1.each (sliceChannels slice) (fun t n => if t.chanMode n = 0 then t else t.setCause 7 1)
     else s)

/-- The SOE stamp of an accepted change: 1 µs resolution, at most 4 edges of a channel per tick (R246). -/
def State.stampEdge (s : State) (n : Nat) (rising : Bool) (stampNs : Nat) : State :=
  if s.on (dch n 4) && s.isInput n then
    if 4 ≤ (s.dig.edges.filter (fun e => e.channel == n)).length then s.count (dch n 0x19)
    else { s with dig := { s.dig with edges := s.dig.edges ++ [⟨n, rising, stampNs / 1000 * 1000⟩] } }
  else s

/-- The filter accepts a raw state; between the bands the previous one stands (R236, R237, R244, R246). The bands exist only
while wire-break monitoring decides the channel; without it the stage knows low and high alone. -/
def execInputFilterAccept (channel : Nat) (level : RawLevel) (stampNs : Nat) (s : State) : Result :=
  let r := s.drt channel
  let v := level == .high
  let band := level == .between || (level == .broken && !s.wireMonitored channel)
  whenValid (decide (channel < 64)) s
    (if band || !(s.isInput channel || s.chanMode channel == 5) then s
     else
       let s1 := s.setDrt channel { r with accepted := v, broken := level == .broken }
       if v = r.accepted then s1 else s1.stampEdge channel v stampNs)

/-- DEMAG clears when the terminal rises above -1 V; a pending 1 waits for a datum edge (R240, R241). A
demagnetisation that has ended by the datum edge itself (a load that is not inductive) held no stage at that edge. -/
def execDemagEnd (channel atNs : Nat) (s : State) : Result :=
  whenValid (decide (channel < 64)) s
    (if s.chanBit channel bDemag then
       let s1 := s.setBit (dch channel 0xB) bDemag false
       let r := s1.drt channel
       s1.setDrt channel
         { r with demagNs := atNs, skipPrev := if atNs ≤ s.tick.datumNs then s1.stageHeld channel else r.skipPrev }
     else s)

/-- OVERLOAD sets: the stage in current limit for 100 µs (R242). -/
def execOverloadDetect (channel : Nat) (s : State) : Result :=
  whenValid (decide (channel < 64)) s
    (if s.outputMonitored channel && s.chanBit channel bStageOn then s.raiseDiag channel bOverload else s)

/-- OVERLOAD clears: out of limit for 10 ms (R242). -/
def execOverloadClear (channel : Nat) (s : State) : Result :=
  whenValid (decide (channel < 64)) s (s.dropDiag channel bOverload)

/-- An over-temperature trip: the stage is off at once, the trip is counted, and at the retry limit OT-LATCHED sets
(R242, R243). Monitored in every role. -/
def execOvertempTrip (channel atNs : Nat) (s : State) : Result :=
  whenValid (decide (channel < 64)) s
    (if s.isOutput channel && s.monitored channel then
       let s1 := (((s.stageOff channel).setBit (dch channel 0xB) bPendingOn false).raiseDiag channel bOvertemp).count
         (dch channel 0xE)
       let s2 := s1.setDrt channel { s1.drt channel with tripNs := atNs, freed := false }
       if s2.reg (dch channel 0xA) ≤ s2.reg (dch channel 0xE) then s2.raiseDiag channel bOtLatched else s2
     else s)

/-- The trip count clears after the stage has stayed on for 1 s without a trip (R243). -/
def execTripCountClear (channel : Nat) (s : State) : Result :=
  whenValid (decide (channel < 64)) s
    (if s.chanBit channel bStageOn then s.setReg (dch channel 0xE) 0 else s)

/-- OPENLOAD-ON sets: stage on, load current below 3 mA for 10 ms (R242). -/
def execOpenloadOnDetect (channel : Nat) (s : State) : Result :=
  whenValid (decide (channel < 64)) s
    (if s.outputMonitored channel && s.on (dch channel 6) && s.chanBit channel bStageOn
     then s.raiseDiag channel bOpenOn else s)

/-- OPENLOAD-OFF sets: stage off, DEMAG clear, terminal above 4 V for 10 ms (R242). -/
def execOpenloadOffDetect (channel : Nat) (s : State) : Result :=
  whenValid (decide (channel < 64)) s
    (if s.outputMonitored channel && s.on (dch channel 7) && !s.chanBit channel bStageOn && !s.chanBit channel bDemag
     then s.raiseDiag channel bOpenOff else s)

/-- An open-load diagnostic clears (R242). -/
def execOpenloadClear (channel : Nat) (s : State) : Result :=
  whenValid (decide (channel < 64)) s ((s.dropDiag channel bOpenOn).dropDiag channel bOpenOff)

/-- WIREBREAK sets: current below 0.35 mA for the filter time + 1 ms; value 0, valid 0 (R237, R242). -/
def execWirebreakDetect (channel : Nat) (s : State) : Result :=
  whenValid (decide (channel < 64)) s
    (if s.wireMonitored channel && s.monitored channel then s.raiseDiag channel bWirebreak else s)

/-- WIREBREAK clears (R242). -/
def execWirebreakClear (channel : Nat) (s : State) : Result :=
  whenValid (decide (channel < 64)) s (s.dropDiag channel bWirebreak)

/-- READBACK sets when the readback differed at the tolerance's number of edges (R245). -/
def execReadbackFault (channel : Nat) (s : State) : Result :=
  whenValid (decide (channel < 64)) s (s.readbackTrip channel)

/-- SLICE-OC sets: every output of the slice is off, latched; every configured channel of the slice records it (R242). -/
def execSliceOcTrip (slice : Nat) (s : State) : Result :=
  whenValid (decide (slice < 8)) s
    (if s.sliceOc slice || s.sliceLow slice || !s.active then s
     else
       let s1 := ((s.setBit (dsl slice 2) 1 true).count (dsl slice 5)).setCause 7 2
       s1.each (sliceChannels slice) (fun t n =>
         if t.chanMode n = 0 then t
         else ((t.setBit (dch n 0xB) bPendingOn false).stageOff n).noteDiag n 8))

/-- The hold latch of a field die reaches its limit (R248). -/
def execHoldLatchLimitExpiry (die : Nat) (s : State) : Result :=
  whenValid (decide (die < 2)) s (s.holdExpiry die)

/-! ## Writes and commands of the digital entries -/

/-- Steps 8 and 9 of R366 for the digital entries: value encodings, and wire-break monitoring against mode 0x02
(R233, R237, R249 to R252). -/
def State.digitalCheck (s : State) (key v : Nat) : Nat :=
  let ix := key / 256
  let sub := key % 256
  if 0x2810 ≤ ix ∧ ix ≤ 0x284F then
    let n := ix - 0x2810
    if sub = 1 then (if 5 < v then 0x06090030 else if v = 2 ∧ s.on (dch n 3) then 0x06040043 else 0)
    else if sub = 2 then (if 5 < v then 0x06090030 else 0)
    else if sub = 3 then (if v = 1 ∧ s.chanMode n = 2 then 0x06040043 else 0)
    else if sub = 0xC then (if v = 1 then 0 else 0x06090030)
    else 0
  else if 0x2801 ≤ ix ∧ ix ≤ 0x2808 ∧ sub = 6 then (if v = 1 ∨ v = 2 then 0 else 0x06090030)
  else if key = 0x280001 ∨ key = 0x280002 ∨ key = 0x280003 then
    (if v = 0xFFFFFFFF ∨ v % 4 = 0 then 0 else 0x06090030)
  else if key = 0x280004 then (if v ≤ 256 then 0 else 0x06090030)
  else if key = 0x280005 then (if 2 ≤ v ∧ v ≤ 255 then 0 else 0x06090030)
  else if key = 0x288005 then (if v = 1 then 0 else 0x06090030)
  else 0

/-- The commands of the digital entries as a closing point applies them (R242, R243, R250, R252). -/
def State.digitalApply (s : State) (key v : Nat) : Option State :=
  let ix := key / 256
  let sub := key % 256
  if 0x2810 ≤ ix ∧ ix ≤ 0x284F ∧ sub = 0xC then some (s.unlatchOt (ix - 0x2810))
  else if 0x2810 ≤ ix ∧ ix ≤ 0x284F ∧ sub = 1 then
    -- a stage whose channel leaves an output mode is off
    some (if v = 4 ∨ v = 5 then s.setReg key v
          else ((s.stageOff (ix - 0x2810)).setBit (dch (ix - 0x2810) 0xB) bPendingOn false).setReg key v)
  else if 0x2801 ≤ ix ∧ ix ≤ 0x2808 ∧ sub = 6 then
    some (if v = 1 then s.clearSlice (ix - 0x2801) else s.each (sliceChannels (ix - 0x2801)) State.unlatchOt)
  else if key = 0x288005 then some (s.setQueue [])
  else none

/-- A completed read of 2880.02 removes the records it returned, up to 64 of the oldest (R246, R252). -/
def State.soeRead (s : State) : List Byte × State :=
  ((s.dig.queue.take 64).flatMap SoeEdge.bytes, s.setQueue (s.dig.queue.drop 64))

/-- The records that a segmented read of 2880.02 returned leave the queue; edges queued meanwhile stay (R246, R252). -/
def State.dropRecords (s : State) (returned : List (List Byte)) : State :=
  s.setQueue (s.dig.queue.filter (fun e => !returned.contains e.bytes))

end Sys2Proof.Machine
end

