-- ==== Sys2Proof/Machine/Analog.lean ====
section
/-! DEFINITION. Current-loop channels and HART (R253 to R283). -/

namespace Sys2Proof.Machine

open Sys2Proof

/-- The entry of an analog channel. -/
def ach (n sub : Nat) : Nat := keyOf (0x2910 + n) sub

/-- The entry of a HART modem. -/
def hch (n sub : Nat) : Nat := keyOf (0x2980 + n) sub

/-- What a channel keeps beside its entry. -/
def State.art (s : State) (n : Nat) : AnalogRt := Sparse.get {} s.ana.channels n

/-- Writes what a channel keeps beside its entry. -/
def State.setArt (s : State) (n : Nat) (r : AnalogRt) : State :=
  { s with ana := { s.ana with channels := Sparse.set {} s.ana.channels n r } }

/-- The mode in the non-volatile cell of a channel (R478). -/
def State.storedMode (s : State) (n : Nat) : Nat := Sparse.get 0 s.ana.stored n

/-- A mode is applied: the terminal is in it, and the cell is written (R269, R478). -/
def State.useMode (s : State) (n m : Nat) : State :=
  let s1 := s.setArt n { s.art n with modeInForce := m }
  { s1 with ana := { s1.ana with stored := Sparse.set 0 s1.ana.stored n m } }

/-- The mode the terminal is in (R254, R269). -/
def State.anaMode (s : State) (n : Nat) : Nat := (s.art n).modeInForce

/-- The channel is an AO source. -/
def State.isAo (s : State) (n : Nat) : Bool := s.anaMode n == 3

/-- The channel is an input. -/
def State.isAi (s : State) (n : Nat) : Bool := s.anaMode n == 1 || s.anaMode n == 2

/-- The HART mode of a channel is multidrop on an input (R271, R273). -/
def State.multidrop (s : State) (n : Nat) : Bool := s.reg (hch n 1) == 2 && s.isAi n

/-- Status bits of R281. -/
abbrev bFailLow : Nat := 0
abbrev bFailHigh : Nat := 1
abbrev bMiswire : Nat := 2
abbrev bCompliance : Nat := 3
abbrev bAlarmUnsure : Nat := 4
abbrev bLimit : Nat := 5
abbrev bAnaOvertemp : Nat := 6
abbrev bSupply : Nat := 7
abbrev bClamp : Nat := 8
abbrev bModePending : Nat := 9

/-- A stored bit of a channel's status word. -/
def State.anaBit (s : State) (n b : Nat) : Bool := s.bit (ach n 8) b

/-- Whether the field die of an analog channel drives its outputs (R270): channels 0 to 7 on die A. -/
def State.anaDriven (s : State) (n : Nat) : Bool := s.dieDriven (if n < 8 then 0 else 32)

/-- STAGE-ON: a loop-powered input supplies, or an output is driven, neither isolated nor shut down (R254, R268). -/
def State.anaStageOn (s : State) (n : Nat) : Bool :=
  (s.anaMode n == 2 || (s.isAo n && s.anaDriven n)) && !(s.art n).isolated && !s.anaBit n bAnaOvertemp

/-- The status word of a channel (R281): the stored bits with HOLD, STAGE-ON, MULTIDROP and HART-BUSY. -/
def State.anaStatus (s : State) (n : Nat) : Nat :=
  let w := s.reg (ach n 8)
  let w := withBit w 10 (s.isAo n && decide (0 < s.dig.holdEdges) && s.anaDriven n)
  let w := withBit w 11 (s.anaStageOn n)
  let w := withBit w 12 (s.multidrop n)
  withBit w 13 (s.art n).hartNow.isSome

/-- The valid bit of a channel: 1 unless FAIL-LOW, FAIL-HIGH, MISWIRE or COMPLIANCE is set (R258). -/
def State.anaValid (s : State) (n : Nat) : Bool := s.reg (ach n 8) % 16 == 0

/-- The diagnostic codes of R268 by status bit. -/
def anaCode (b : Nat) : Nat :=
  match b with
  | 0 => 0x11
  | 1 => 0x12
  | 2 => 0x13
  | 3 => 0x14
  | 5 => 0x15
  | 6 => 0x16
  | _ => 0x17

/-- Sets a diagnostic: counted, recorded for the error task, its cause set (R268, R388 group 8). -/
def State.anaRaise (s : State) (n b : Nat) : State :=
  if s.anaBit n b then s
  else (((s.setBit (ach n 8) b true).count (ach n 0xD)).recordError 4 (0x100 + n) (anaCode b)).setCause 8 0

/-- Clears a diagnostic. -/
def State.anaDrop (s : State) (n b : Nat) : State :=
  if s.anaBit n b then (s.setBit (ach n 8) b false).setCause 8 1 else s

/-- Sets or clears a diagnostic. -/
def State.anaFlag (s : State) (n b : Nat) (on : Bool) : State := if on then s.anaRaise n b else s.anaDrop n b

/-- The measuring window of a channel in nanoseconds (R260). -/
def State.windowNs (s : State) (n : Nat) : Nat :=
  match s.reg (ach n 2) with
  | 0 => 50000
  | 1 => 250000
  | 2 => 1000000
  | 3 => 20000000
  | _ => 100000000

/-- The measured current of a channel from what the field delivers: 0 unused, and 0 while isolated (R254, R266). -/
def State.measured (s : State) (analog : List Word) (n : Nat) : Word :=
  if s.anaMode n = 0 ∨ (s.art n).isolated then 0 else analog.getD n 0

/-- The latched measurement of a channel. -/
def State.latchedMa (s : State) (n : Nat) : Int := (s.tick.latchedAnalog.getD n 0).toInt

/-- The expected current N × Ip of a multidrop loop (R273). -/
def State.expectedMa (s : State) (n : Nat) : Int := (s.reg (hch n 5) : Int) * s.regI (hch n 6)

/-- FAIL-LOW and FAIL-HIGH at a datum edge (R263; multidrop R273). Where neither rule applies the flags are clear
(log entry 11). -/
def State.checkNe43 (s : State) (n : Nat) : State :=
  let m := s.latchedMa n
  if s.multidrop n then
    let e := s.expectedMa n
    (s.anaFlag n bFailLow (decide (20 * m < 19 * e - 4 * 65536))).anaFlag n bFailHigh
      (decide (21 * e + 4 * 65536 < 20 * m))
  else if s.on (ach n 3) && s.isAi n then
    let s1 := if 10 * m < 36 * 65536 then s.anaRaise n bFailLow
      else if 38 * 65536 ≤ 10 * m then s.anaDrop n bFailLow else s
    if 21 * 65536 < m then s1.anaRaise n bFailHigh
    else if 2 * m ≤ 41 * 65536 then s1.anaDrop n bFailHigh else s1
  else (s.anaDrop n bFailLow).anaDrop n bFailHigh

/-- The released command of a channel. -/
def State.releasedMa (s : State) (n : Nat) : Int := (s.tick.released.analog.getD n 0).toInt

/-- The compliance comparison at a datum edge, before the release of that edge (R264, R265). -/
def State.checkCompliance (s : State) (n : Nat) : State :=
  let r := s.art n
  let c := s.releasedMa n
  let m := s.latchedMa n
  if !s.isAo n || !s.active || decide (c < 65536) ||
      decide (s.tick.datumNs < r.changedNs + s.windowNs n + 150000) then s
  else
    let short := if c < 100 * (c - m) then r.shortRun + 1 else 0
    let full := if 200 * (c - m) ≤ c then r.fullRun + 1 else 0
    let s1 := s.setArt n { r with shortRun := short, fullRun := full }
    if 3 ≤ short then (s1.anaRaise n bCompliance).setBit (ach n 8) bAlarmUnsure true
    else if 3 ≤ full then (s1.anaDrop n bCompliance).setBit (ach n 8) bAlarmUnsure false
    else s1

/-- Counts the fail-low, fail-high and COMPLIANCE ticks of a channel at a datum edge (R265, R281). -/
def State.countAnalog (s : State) (n : Nat) : State :=
  let s1 := if s.anaBit n bFailLow then s.count (ach n 0xE) else s
  let s2 := if s1.anaBit n bFailHigh then s1.count (ach n 0x10) else s1
  if s2.anaBit n bCompliance then s2.count (ach n 0x12) else s2

/-- A shutdown, an isolation or a HART transaction is in progress, which a mode change waits for (R267, R269). -/
def State.anaBusy (s : State) (n : Nat) : Bool :=
  (s.art n).isolated || s.anaBit n bAnaOvertemp || (s.art n).hartNow.isSome

/-- The diagnostics that R268 gives a mode. -/
def anaApplies (m b : Nat) : Bool :=
  if b = bFailLow ∨ b = bFailHigh then m == 1 || m == 2
  else if b = bCompliance then m == 3
  else if b = bLimit then m == 2
  else m != 0

/-- When the mode of a channel changes, the diagnostics fall that do not apply to the new one (log entry 11). SUPPLY stands
on every configured channel of a slice whose supply is out of regulation (R255). -/
def State.anaFresh (s : State) (n : Nat) : State :=
  let m := s.anaMode n
  let s1 := s.each ([bFailLow, bFailHigh, bCompliance, bLimit].filter (fun b => !anaApplies m b)) (fun t b => t.anaDrop n b)
  let s2 := if m = 3 then s1 else s1.each [bAlarmUnsure, bClamp] (fun t b => t.setBit (ach n 8) b false)
  s2.anaFlag n bSupply (m != 0 && s2.reg (keyOf (0x2901 + n / 4) 2) == 1)

/-- A pending mode change is made once no shutdown or transaction is in progress (R269). -/
def State.applyMode (s : State) (n : Nat) : State :=
  match (s.art n).pendingMode with
  | none => s
  | some m =>
    if s.anaBusy n then s
    else
      let s1 := (s.setArt n { s.art n with pendingMode := none }).setBit (ach n 8) bModePending false
      if m = s.anaMode n then s1.useMode n m
      else ((s1.setArt n { s1.art n with shortRun := 0, fullRun := 0 }).useMode n m).anaFresh n

/-- What an analog channel does at a datum edge beside its comparisons: a cooled stage comes back, an isolation that
has cleared ends, a pending mode change is made (R267, R269). -/
def State.anaEdge (s : State) (cooled n : Nat) : State :=
  let s1 := if cooled.testBit n then s.anaDrop n bAnaOvertemp else s
  let s2 := if (s1.art n).isolated && !s1.anaBit n bMiswire then s1.setArt n { s1.art n with isolated := false } else s1
  s2.applyMode n

/-- What the tracking supply of a slice regulates to, in Q15.16 V (R255). -/
def State.supplyTarget (s : State) (a : Nat) : Int :=
  let channels := (List.range 4).map (fun i => 4 * a + i)
  let powered : Int := if channels.any (fun n => s.anaMode n == 2) then 51 * 32768 else 8 * 65536
  clampInt (8 * 65536) (26 * 65536)
    ((channels.filter s.isAo).foldl (fun v n => max v (s.regI (ach n 0xA) + 3 * 65536)) powered)

/-- The terminal voltages of the channels, and the supplies that are in regulation, at a datum edge (R255, R280, R281). -/
def State.latchVolts (s : State) (volts : List Word) : State :=
  let s1 := s.each (List.range 16) (fun t n => t.setReg (ach n 0xA) (volts.getD n 0).toNat)
  s1.each (List.range 4) (fun t a =>
    if t.reg (keyOf (0x2901 + a) 2) = 1 then t else t.setRegI (keyOf (0x2901 + a) 1) (t.supplyTarget a))

/-- The analog channels at a datum edge: results latched, flags compared (R17, R260, R263, R264). -/
def State.latchAnalog (s : State) (field : FieldSample) : State :=
  let s1 := (s.each (List.range 16) (fun t n => t.anaEdge field.analogCooled n)).latchVolts field.volts
  let s2 := { s1 with tick := { s1.tick with latchedAnalog := (List.range 16).map (s1.measured field.analog) } }
  s2.each (List.range 16) (fun t n => ((t.checkNe43 n).checkCompliance n).countAnalog n)

/-- A release reaches the analog outputs: a changed command restarts the skip time of R264. -/
def State.releaseAnalog (s : State) (before : List Word) : State :=
  s.each (List.range 16) (fun t n =>
    if before.getD n 0 = t.tick.released.analog.getD n 0 then t
    else t.setArt n { t.art n with changedNs := t.tick.datumNs })

/-- The safe command of a channel (R262). -/
def State.safeMa (s : State) (n : Nat) : Int :=
  match s.reg (ach n 4) with
  | 0 => s.regI (ach n 5)
  | 1 => s.regI (ach n 6)
  | _ => s.regI (ach n 7)

/-! ## HART (R271 to R278) -/

/-- The bytes of a request as sent: preambles, the frame with the module's master bit, the check byte (R274). -/
def State.hartBytes (s : State) (n : Nat) (frame : List Byte) : List Byte :=
  let a := frame.getD 1 0
  let master : Byte := if s.reg (hch n 2) = 1 then a ||| 0x80 else a &&& 0x7F
  let f := frame.take 1 ++ [master] ++ frame.drop 2
  List.replicate (s.reg (hch n 3)) 0xFF ++ f ++ [f.foldl (fun x b => x ^^^ b) 0]

/-- A response record (R276). -/
def hartRecord (n tag result attempts durationUs : Nat) (response : List Byte) : List Byte :=
  leBytes 1 n ++ leBytes 1 tag ++ leBytes 1 result ++ leBytes 1 attempts ++ leBytes 4 (ceilDiv durationUs 1000) ++ response

/-- A record enters the response queue, or is lost when it holds 32 (R275). -/
def State.hartPlace (s : State) (record : List Byte) : State :=
  if 32 ≤ s.ana.responses.length then (s.count 0x299005).setCause 8 3
  else ({ s with ana := { s.ana with responses := s.ana.responses ++ [record] } }).setCause 8 2

/-- Starts the next queued request of a channel that is free to send (R170, R272, R275). -/
def State.hartStart (s : State) (n : Nat) : State :=
  let r := s.art n
  match r.hartNow, r.hartQueue with
  | none, q :: t =>
    if s.active && s.reg (hch n 1) != 0 && !r.isolated && !r.hartBarred then
      (s.setArt n { r with hartNow := some q, hartQueue := t, hartTries := 1, hartEnd := .none }).emit
        (.hartFrame n (s.hartBytes n q.frame))
    else s
  | _, _ => s

/-- A datum edge: what an ended abort held back may start (R272, R277). -/
def State.hartEdge (s : State) (n : Nat) : State :=
  (if (s.art n).hartBarred then s.setArt n { s.art n with hartBarred := false } else s).hartStart n

/-- The result of an abort (R276). -/
def HartEnding.result (e : HartEnding) : Nat := if e = .command then 3 else 4

/-- The queued requests that an abort found end with its result; those written since stay queued (R277). -/
def State.hartFlush (s : State) (n : Nat) : State :=
  let q := (s.art n).hartQueue
  (s.setArt n { s.art n with hartQueue := q.filter (fun x => x.ending == .none) }).each
    (q.filter (fun x => x.ending != .none)) (fun t x => t.hartPlace (hartRecord n x.tag x.ending.result 0 0 []))

/-- The transaction of a channel ends with a result (R275, R277, R282). -/
def State.hartFinish (s : State) (n result durationUs : Nat) (response : List Byte) : State :=
  let r := s.art n
  match r.hartNow with
  | none => s
  | some q =>
    let s1 := (s.setArt n { r with hartNow := none, hartTries := 0, hartEnd := .none }).count (hch n 0xB)
    let s2 := if result = 1 ∨ result = 2 then s1.count (hch n 0xD) else s1
    s2.hartPlace (hartRecord n q.tag result r.hartTries durationUs response)

/-- The transaction ends as its pending abort says, with every request that was queued at the abort; one written since
waits for the next datum edge (R277). -/
def State.hartAborted (s : State) (n durationUs : Nat) : State :=
  let s1 := (s.hartFinish n (s.art n).hartEnd.result durationUs []).hartFlush n
  s1.setArt n { s1.art n with hartBarred := true }

/-- A failed attempt: the whole request is repeated, or the transaction ends (R275). -/
def State.hartRetry (s : State) (n result durationUs : Nat) : State :=
  let r := s.art n
  match r.hartNow with
  | none => s
  | some q =>
    if r.hartEnd ≠ .none then s.hartAborted n durationUs
    else if r.hartTries ≤ s.reg (hch n 4) then
      (s.setArt n { r with hartTries := r.hartTries + 1 }).emit (.hartFrame n (s.hartBytes n q.frame))
    else (s.hartFinish n result durationUs []).hartStart n

/-- An abort, a mode change or a switch-over asks for the end of a channel's transactions (R277). -/
def State.hartStop (s : State) (n : Nat) (how : HartEnding) : State :=
  let r := s.art n
  let mark (x : HartRequest) : HartRequest := if x.ending = .none then { x with ending := how } else x
  let s1 := s.setArt n { r with
    hartEnd := if r.hartNow.isSome && r.hartEnd == .none then how else r.hartEnd, hartQueue := r.hartQueue.map mark }
  if r.hartNow.isSome then s1 else s1.hartFlush n

/-- A unit leaves ACTIVE: every channel's transactions end with 0x04 (R277). -/
def State.hartLeave (s : State) : State :=
  s.each (List.range 16) (fun t n => t.hartStop n .change)

/-- Whether a frame carries the module's own master bit (R278). -/
def State.ownMaster (s : State) (n : Nat) (frame : List Byte) : Bool :=
  (frame.getD 1 0).getLsbD 7 == (s.reg (hch n 2) == 1)

/-- A burst frame is stored as the last one and counted (R278). -/
def State.hartBurst (s : State) (n : Nat) (frame : List Byte) : State :=
  ((s.setBlob (hch n 0xA) frame).count (hch n 9)).setCause 8 4

/-! ## The events -/

/-- SUPPLY sets on every configured channel of the slice (R255). -/
def execSupplySet (supply : Nat) (s : State) : Result :=
  whenValid (decide (supply < 4)) s
    (if s.reg (keyOf (0x2901 + supply) 2) = 1 then s
     else
       ((s.setReg (keyOf (0x2901 + supply) 2) 1).count (keyOf (0x2901 + supply) 3)).each (List.range 4)
         (fun t i => if t.anaMode (4 * supply + i) = 0 then t else t.anaRaise (4 * supply + i) bSupply))

/-- SUPPLY clears after 10 ms back in regulation (R255). -/
def execSupplyClear (supply : Nat) (s : State) : Result :=
  whenValid (decide (supply < 4)) s
    ((s.setReg (keyOf (0x2901 + supply) 2) 0).each (List.range 4) (fun t i => t.anaDrop (4 * supply + i) bSupply))

/-- COMPLIANCE sets at the third consecutive short edge (R265). -/
def execComplianceSet (channel : Nat) (s : State) : Result :=
  whenValid (decide (channel < 16)) s
    (if s.isAo channel && s.active && decide (3 ≤ (s.art channel).shortRun)
     then (s.anaRaise channel bCompliance).setBit (ach channel 8) bAlarmUnsure true else s)

/-- COMPLIANCE clears at the third consecutive full edge (R265). -/
def execComplianceClear (channel : Nat) (s : State) : Result :=
  whenValid (decide (channel < 16)) s
    (if 3 ≤ (s.art channel).fullRun
     then (s.anaDrop channel bCompliance).setBit (ach channel 8) bAlarmUnsure false else s)

/-- MISWIRE sets: the channel isolates itself and its HART transaction ends with 0x05 (R266, R277). -/
def execMiswireDetect (channel : Nat) (s : State) : Result :=
  whenValid (decide (channel < 16)) s
    (if s.anaMode channel = 0 then s
     else
       let s1 := (s.anaRaise channel bMiswire).setArt channel { s.art channel with isolated := true, probes := 0 }
       (s1.hartFinish channel 5 0 []).hartFlush channel)

/-- A probe of an isolated channel; MISWIRE clears after 10 consecutive clean ones (R267). -/
def execMiswireProbe (channel : Nat) (clean : Bool) (s : State) : Result :=
  whenValid (decide (channel < 16)) s
    (if s.anaBit channel bMiswire then
       let n := if clean then (s.art channel).probes + 1 else 0
       let s1 := s.setArt channel { s.art channel with probes := n }
       if 10 ≤ n then s1.anaDrop channel bMiswire else s1
     else s)

/-- LIMIT sets: the current limit of a loop-powered input has acted for 10 ms (R268). -/
def execLimitDetect (channel : Nat) (s : State) : Result :=
  whenValid (decide (channel < 16)) s (if s.anaMode channel = 2 then s.anaRaise channel bLimit else s)

/-- LIMIT clears (R268). -/
def execLimitClear (channel : Nat) (s : State) : Result :=
  whenValid (decide (channel < 16)) s (s.anaDrop channel bLimit)

/-- OVERTEMP of an analog stage: the stage is off; of an AO only in an ACTIVE or simplex unit (R268). -/
def execAnalogOvertempTrip (channel : Nat) (s : State) : Result :=
  whenValid (decide (channel < 16)) s
    (if s.anaMode channel = 2 ∨ (s.isAo channel ∧ s.active) then s.anaRaise channel bAnaOvertemp else s)

/-- A pending mode change is made at a datum edge once nothing holds it (R269): at no instant past the edge. -/
def execAnalogModeChangeApplied (channel : Nat) (s : State) : Result :=
  whenValid (decide (channel < 16)) s
    (if s.tick.point = .d ∧ s.tick.nowNs = s.tick.datumNs then s.applyMode channel else s)

/-- A frame on the loop during a transaction (R275 to R278): a burst frame is stored, a reply to the other master
ignored, a damaged reply leads to a repeat, an intact one completes the transaction. -/
def execHartResponseFrame (channel : Nat) (frame : List Byte) (intact : Bool) (durationUs : Nat) (s : State) : Result :=
  whenValid (decide (channel < 16)) s
    (if intact && (frame.getD 0 0).toNat % 8 == 1 then s.hartBurst channel frame
     else if intact && !s.ownMaster channel frame then s
     else if !intact then s.hartRetry channel 2 durationUs
     else if (s.art channel).hartEnd ≠ .none then s.hartAborted channel durationUs
     else (s.hartFinish channel 0 durationUs frame).hartStart channel)

/-- No response within 300 ms: a repeat, or the end (R275, R277). -/
def execHartResponseTimeout (channel durationUs : Nat) (s : State) : Result :=
  whenValid (decide (channel < 16)) s (s.hartRetry channel 1 durationUs)

/-- A burst frame is received (R278). -/
def execHartBurstFrame (channel : Nat) (frame : List Byte) (s : State) : Result :=
  whenValid (decide (channel < 16)) s (if s.reg (hch channel 1) = 0 then s else s.hartBurst channel frame)

/-! ## Writes and reads of the analog entries -/

/-- The byte count of a HART request matches its data, and its frame type is STX (R274). -/
def hartRequestOk (frame : List Byte) : Bool :=
  let d := (frame.getD 0 0).toNat
  let addr := if d.testBit 7 then 5 else 1
  let expansion := d / 32 % 4
  let head := 1 + addr + expansion
  d % 8 == 2 && decide (head + 2 ≤ frame.length) &&
    frame.length == head + 2 + (frame.getD (head + 1) 0).toNat

/-- Steps 8 and 9 of R366 for the analog entries (R261, R262, R271, R273, R274, R279 to R283). -/
def State.analogCheck (s : State) (key : Nat) (data : List Byte) : Nat :=
  let ix := key / 256
  let sub := key % 256
  let v := leNat data
  if 0x2910 ≤ ix ∧ ix ≤ 0x291F then
    let n := ix - 0x2910
    let q := signed 32 v
    if sub = 1 then
      (if 3 < v then 0x06090030
       else if (v = 0 ∧ s.reg (hch n 1) ≠ 0) ∨ (v = 3 ∧ s.reg (hch n 1) = 2) then 0x06040043 else 0)
    else if sub = 2 then
      (if 4 < v then 0x06090030 else if v ≤ 1 ∧ s.reg (hch n 1) ≠ 0 then 0x06040043 else 0)
    else if sub = 4 then (if v ≤ 2 then 0 else 0x06090030)
    else if sub = 5 then (if 0 ≤ q ∧ q ≤ 24 * 65536 then 0 else 0x06090030)
    else if sub = 6 then (if 32 * 65536 ≤ 10 * q ∧ 10 * q ≤ 36 * 65536 then 0 else 0x06090030)
    else if sub = 7 then (if 21 * 65536 ≤ q ∧ q ≤ 23 * 65536 then 0 else 0x06090030)
    else 0
  else if 0x2980 ≤ ix ∧ ix ≤ 0x298F then
    let n := ix - 0x2980
    if sub = 1 then
      (if 2 < v then 0x06090030
       else if v ≠ 0 ∧ (s.reg (ach n 2) ≤ 1 ∨ s.reg (ach n 1) = 0 ∨ (v = 2 ∧ s.reg (ach n 1) = 3)) then 0x06040043
       else 0)
    else if sub = 2 then (if v ≤ 1 then 0 else 0x06090030)
    else if sub = 3 then (if 5 ≤ v ∧ v ≤ 20 then 0 else 0x06090030)
    else if sub = 4 then (if v ≤ 5 then 0 else 0x06090030)
    else if sub = 5 then
      (if v = 0 ∨ 16 < v then 0x06090030
       else if 24 * 65536 < (v : Int) * s.regI (hch n 6) then 0x06040043 else 0)
    else if sub = 6 then
      (if signed 32 v < 65536 ∨ 4 * 65536 < signed 32 v then 0x06090030
       else if 24 * 65536 < (s.reg (hch n 5) : Int) * signed 32 v then 0x06040043 else 0)
    else 0
  else if key = 0x290001 ∨ key = 0x290002 then (if v = 0xFFFFFFFF ∨ v % 4 = 0 then 0 else 0x06090030)
  else if key = 0x299001 then
    let n := (data.getD 0 0).toNat
    if 16 ≤ n ∨ field data 2 2 ≠ 0 ∨ !hartRequestOk (data.drop 4) then 0x06090030
    else if s.reg (hch n 1) = 0 then 0x06040043
    else if 4 ≤ (s.art n).hartQueue.length then 0x0F000007 else 0
  else if key = 0x299004 then (if v < 16 then 0 else 0x06090030)
  else 0

/-- What a closing point does for a mode write: latched while a shutdown or transaction is in progress, otherwise
made at the following datum edge (R269, R277). -/
def State.anaModeWrite (s : State) (n v : Nat) : State :=
  let s1 := (s.setReg (ach n 1) v).setBit (ach n 8) bModePending (s.anaBusy n)
  let s2 := s1.setArt n { s1.art n with pendingMode := some v }
  if v = (s.art n).modeInForce then s2 else s2.hartStop n .change

/-- The writes and commands of the analog entries as a closing point applies them. -/
def State.analogApply (s : State) (key : Nat) (data : List Byte) : Option State :=
  let ix := key / 256
  let v := leNat data
  if 0x2910 ≤ ix ∧ ix ≤ 0x291F ∧ key % 256 = 1 then some (s.anaModeWrite (ix - 0x2910) v)
  else if key = 0x299001 then
    let n := (data.getD 0 0).toNat
    let r := s.art n
    let asked : HartRequest := { tag := (data.getD 1 0).toNat, frame := data.drop 4 }
    some (if 4 ≤ r.hartQueue.length then s
          else (s.setArt n { r with hartQueue := r.hartQueue ++ [asked] }).hartStart n)
  else if key = 0x299004 then some (s.hartStop v .command)
  else none

/-- A completed read of 2990.02 removes the oldest record (R276). -/
def State.hartRead (s : State) : List Byte × State :=
  (s.ana.responses.headD [], { s with ana := { s.ana with responses := s.ana.responses.drop 1 } })

/-- The response that a segmented read returned leaves the queue. -/
def State.dropResponse (s : State) (bs : List Byte) : State :=
  if s.ana.responses.head? = some bs then s.hartRead.2 else s

/-- The entries whose value follows from others (R279 to R283). -/
def State.analogView (s : State) (key : Nat) : Option Nat :=
  let ix := key / 256
  let sub := key % 256
  if key = 0x290004 then some ((List.range 16).foldl (fun v n => if s.anaValid n then v else v + 2 ^ n) 0)
  else if key = 0x290005 then
    some ((List.range 16).foldl (fun v n => if (s.art n).hartNow.isSome then v + 2 ^ n else v) 0)
  else if 0x2910 ≤ ix ∧ ix ≤ 0x291F ∧ sub = 8 then some (s.anaStatus (ix - 0x2910))
  else if 0x2910 ≤ ix ∧ ix ≤ 0x291F ∧ sub = 9 then some (s.reg (keyOf 0x6020 (ix - 0x2910 + 1)))
  else if 0x2910 ≤ ix ∧ ix ≤ 0x291F ∧ sub = 0xB then some (s.windowNs (ix - 0x2910) / 2)
  else if 0x2910 ≤ ix ∧ ix ≤ 0x291F ∧ sub = 0xC then
    some (if s.isAo (ix - 0x2910) then unsigned 32 (s.releasedMa (ix - 0x2910)) else 0)
  else if 0x2980 ≤ ix ∧ ix ≤ 0x298F ∧ sub = 7 then
    some (if s.reg (keyOf ix 1) = 2 then unsigned 32 (s.expectedMa (ix - 0x2980)) else 0)
  else if 0x2980 ≤ ix ∧ ix ≤ 0x298F ∧ sub = 8 then some (s.art (ix - 0x2980)).hartQueue.length
  else if key = 0x299003 then some s.ana.responses.length
  else none

end Sys2Proof.Machine
end

