-- ==== Sys2Proof/Machine/Flags.lean ====
section
/-! DEFINITION. Saturation and the sticky flags OV, UF and DZ (R48, R66, R67, R70). -/

namespace Sys2Proof.Machine

open Sys2Proof

/-- The sticky flags that one instruction raises. -/
structure FlagSet where
  ov : Bool := false
  uf : Bool := false
  dz : Bool := false
  deriving DecidableEq, Repr

/-- Raises flags: a flag stays set until it is cleared (R49). -/
def Engine.raise (e : Engine) (f : FlagSet) : Engine :=
  { e with ov := e.ov || f.ov, uf := e.uf || f.uf, dz := e.dz || f.dz }

/-- The flags as the word of S byte 0x028: bit 0 OV, bit 1 UF, bit 2 DZ (R76). -/
def Engine.flagWord (e : Engine) : Nat :=
  (if e.ov then 1 else 0) + (if e.uf then 2 else 0) + (if e.dz then 4 else 0)

/-- The flag that LDF selects: 0 OV, 1 UF, 2 DZ (R64). -/
def Engine.flag (e : Engine) (n : Nat) : Bool := if n = 0 then e.ov else if n = 1 then e.uf else e.dz

/-- Clears each flag whose mask bit is set (R64, CLF). -/
def Engine.clearFlags (e : Engine) (mask : Nat) : Engine :=
  { e with ov := e.ov && !mask.testBit 0, uf := e.uf && !mask.testBit 1, dz := e.dz && !mask.testBit 2 }

/-- A result with the flags it raises. -/
abbrev Flagged := Word × FlagSet

/-- The signed word of an exact result, saturated, with OV on saturation (R66). -/
def satSigned (v : Int) : Flagged :=
  if 0x7FFFFFFF < v then (0x7FFFFFFF, { ov := true })
  else if v < -0x80000000 then (0x80000000, { ov := true })
  else (BitVec.ofInt 32 v, {})

/-- The unsigned word of an exact result, saturated at 0xFFFF_FFFF and 0, with OV on saturation (R66). -/
def satUnsigned (v : Int) : Flagged :=
  if 0xFFFFFFFF < v then (0xFFFFFFFF, { ov := true })
  else if v < 0 then (0, { ov := true })
  else (BitVec.ofInt 32 v, {})

/-- Clamps W0 to a range, with OV if clamped (R70: SAT16, SATU16). -/
def clampWord (lo hi : Int) (w : Word) : Flagged :=
  (BitVec.ofInt 32 (clampInt lo hi w.toInt), { ov := decide (w.toInt < lo) || decide (hi < w.toInt) })

/-- DIV, truncated toward zero, with the fixed results of R67. -/
def divWord (w1 w0 : Word) : Flagged :=
  if w0 = 0 then (if 0 ≤ w1.toInt then 0x7FFFFFFF else 0x80000000, { dz := true })
  else satSigned (w1.toInt.tdiv w0.toInt)

/-- MOD, whose sign follows W1, with the fixed results of R67. -/
def modWord (w1 w0 : Word) : Flagged :=
  if w0 = 0 then (0, { dz := true }) else (BitVec.ofInt 32 (w1.toInt.tmod w0.toInt), {})

end Sys2Proof.Machine
end

