-- ==== Sys2Proof/Machine/Operands.lean ====
section
/-! DEFINITION. Every operand form of the scan instructions: areas, static operand rules, addresses, reads, and the
store that each storing instruction ends in (R50 to R58, R72, R75, R76, R78, R79). -/

namespace Sys2Proof.Machine

open Sys2Proof

/-- Area codes of R52. -/
abbrev aI : Nat := 0
abbrev aQ : Nat := 1
abbrev aM : Nat := 2
abbrev aD : Nat := 3
abbrev aL : Nat := 4
abbrev aT : Nat := 5
abbrev aC : Nat := 6
abbrev aE : Nat := 7
abbrev aP : Nat := 8
abbrev aS : Nat := 9
abbrev aF : Nat := 15

/-! ## Static operand rules (R50, R52 to R54, R58 rules 1 to 3) -/

/-- An object address of area T or C with a field from `f`: bits [19:18] are 0, bits [1:0] the field (R54). -/
def objectOk (f : List Nat) (a : Nat) : Bool := decide (a < 0x40000) && f.contains (a % 4)

/-- An address of the 20-bit field, aligned to `n` bytes. -/
def plainOk (n a : Nat) : Bool := decide (a < 0x100000) && decide (a % n = 0)

/-- Operands of the bit reads. -/
def bitReadOk (x : Operand) : Bool :=
  match x.area with
  | 0 | 1 | 2 | 3 | 4 | 7 => plainOk 1 x.addr
  | 5 | 6 => objectOk [0, 1] x.addr
  | 9 => decide (x.addr < 0x1000)
  | 15 => decide (x.addr < 2)
  | _ => false

/-- Operands of the bit writes. -/
def bitWriteOk (x : Operand) : Bool := [1, 2, 3, 4, 7].contains x.area && plainOk 1 x.addr

/-- Operands of EDP and EDN. -/
def edgeOk (x : Operand) : Bool := x.area == 7 && plainOk 1 x.addr

/-- Operands of LDX. -/
def bitIndexReadOk (x : Operand) : Bool := [0, 1, 2, 3, 4, 7].contains x.area && plainOk 1 x.addr

/-- Operands of the timer instructions: area T, field 0. -/
def timerOk (x : Operand) : Bool := x.area == 5 && objectOk [0] x.addr

/-- Operands of the counter instructions: area C, field 0. -/
def counterOk (x : Operand) : Bool := x.area == 6 && objectOk [0] x.addr

/-- Operands of LDW. -/
def wordReadOk (x : Operand) : Bool :=
  match x.area with
  | 0 | 1 | 2 | 3 | 4 => plainOk 4 x.addr
  | 5 | 6 => objectOk [0, 1] x.addr
  | 8 => decide (x.addr < 0x4000) && decide (x.addr % 4 = 0)
  | 9 => decide (x.addr < 0x200) && decide (x.addr % 4 = 0)
  | 15 => decide (x.addr < 0x100000)
  | _ => false

/-- Operands of LDH, LDHU (`n` = 2), LDB and LDBU (`n` = 1). -/
def partReadOk (n : Nat) (x : Operand) : Bool :=
  match x.area with
  | 0 | 1 | 2 | 3 | 4 => plainOk n x.addr
  | 9 => decide (x.addr < 0x200) && decide (x.addr % n = 0)
  | _ => false

/-- Operands of STW: of area T only PT, of area S only the request word. -/
def wordWriteOk (x : Operand) : Bool :=
  match x.area with
  | 1 | 2 | 3 | 4 => plainOk 4 x.addr
  | 5 => objectOk [1] x.addr
  | 6 => objectOk [0, 1] x.addr
  | 8 => decide (x.addr < 0x4000) && decide (x.addr % 4 = 0)
  | 9 => x.addr == 0x100
  | _ => false

/-- Operands of STH (`n` = 2), STB (`n` = 1) and STWX (`n` = 4). -/
def partWriteOk (n : Nat) (x : Operand) : Bool := [1, 2, 3, 4].contains x.area && plainOk n x.addr

/-- Operands of STWC. -/
def condWriteOk (x : Operand) : Bool :=
  partWriteOk 4 x || (x.area == 8 && decide (x.addr < 0x4000) && decide (x.addr % 4 = 0))

/-- Operands of LDWX. -/
def wordIndexReadOk (x : Operand) : Bool := [0, 1, 2, 3, 4].contains x.area && plainOk 4 x.addr

/-- An immediate of which only the bits below `bound` may be used (R50). -/
def immediateOk (bound : Nat) (x : Operand) : Bool := x.area == 15 && decide (x.addr < bound)

/-- A control-transfer target (R51). -/
def targetOk (t : Nat) : Bool := decide (t < 2097152)

/-! ## Sizes -/

/-- The task whose activation runs on a pair; 0 where none runs. -/
def State.taskOn (s : State) (p : Nat) : Nat := ((Sparse.get {} s.engines p).running).getD 0

/-- The L size of a task of an image. -/
def Image.lSizeOf (m : Image) (task : Nat) : Nat :=
  match m.tasks.find? (fun t =>
    if t.kind = 1 then task == 0x10 else if t.kind = 2 then task == 0x11 else t.number == task) with
  | some t => t.lSize
  | none => 0

/-- The configured size of an area in bytes (R52, R116, R146). -/
def State.areaSize (s : State) (p area : Nat) : Nat :=
  match area with
  | 0 => s.ioSize 0
  | 1 => s.ioSize 1
  | 2 => s.image.mSize
  | 3 => s.image.dSize
  | 4 => s.image.lSizeOf (s.taskOn p)
  | 5 => 16 * s.image.timers
  | 6 => 16 * s.image.counters
  | 7 => s.image.edgeBits / 8
  | 8 => 0x4000
  | 9 => 0x200
  | _ => 0

/-- Whether a bit operand lies within its area. -/
def State.bitIn (s : State) (p : Nat) (x : Operand) : Bool :=
  match x.area with
  | 15 => true
  | 5 | 6 => decide (x.addr / 4 * 16 < s.areaSize p x.area)
  | _ => decide (x.addr / 8 < s.areaSize p x.area)

/-- Whether an operand of `n` bytes lies within its area. -/
def State.bytesIn (s : State) (p n : Nat) (x : Operand) : Bool :=
  match x.area with
  | 15 => true
  | 5 | 6 => decide (x.addr / 4 * 16 < s.areaSize p x.area)
  | _ => decide (x.addr + n ≤ s.areaSize p x.area)

/-! ## Reads -/

/-- The unit field of S and of the interfaces: 2500.02 (R76). -/
def State.unit (s : State) : Nat := s.reg 0x250002

/-- The fields of area S: byte, bytes, value (R76). The request word reads as 0 (R195). -/
def State.statusFields (s : State) (p : Nat) : List (Nat × Nat × Nat) :=
  let e := Sparse.get {} s.engines p
  let t := Sparse.get {} s.tasks (s.taskOn p)
  [ (0x000, 8, s.reg 0x600002), (0x008, 4, s.reg 0x200103), (0x00C, 4, s.reg 0x200102),
    (0x010, 8, s.reg 0x600001), (0x018, 4, s.reg 0x600001 / 2 ^ 64), (0x01C, 2, s.reg 0x600003),
    (0x020, 1, s.taskOn p), (0x021, 1, p), (0x022, 1, s.unit), (0x023, 1, s.role),
    (0x024, 4, t.activations), (0x028, 4, e.flagWord), (0x02C, 4, t.indexFaults),
    (0x030, 4, (if t.firstRun then 1 else 0) + (if t.firstExch then 2 else 0) + (if t.firstActive then 4 else 0)),
    (0x034, 4, s.tD), (0x038, 4, s.reg 0x200002), (0x040, 4, s.reg 0x260109), (0x044, 4, s.tick.substituted),
    (0x048, 4, (if s.mtx.anyActive then 1 else 0) + (if s.mtx.anyBypass then 2 else 0)), (0x100, 0x100, 0) ]

/-- A byte of area S. The bytes that R76 does not list have no stated content: they read a free value
(log entry 8). -/
def State.statusByte (s : State) (p off : Nat) : Byte :=
  match (s.statusFields p).find? (fun f => decide (f.1 ≤ off) && decide (off < f.1 + f.2.1)) with
  | some f => BitVec.ofNat 8 (f.2.2 / 256 ^ (off - f.1))
  | none => BitVec.ofNat 8 (Config.reservedByte s.tickNo s.free off)

/-- A field of the parameter window as the compute window shows it: as it stood before the tick's samples (R147). -/
def State.windowReg (s : State) (key : Nat) : Nat := (s.tick.window.lookup key).getD (s.reg key)

/-- A byte of area P: the window fields are the subindices 1A to 2C of the block's entry; the rest reads 0 (R146). -/
def State.windowByte (s : State) (off : Nat) : Byte :=
  if off % 128 < 0x4C then
    BitVec.ofNat 8 (s.windowReg (keyOf (0x2400 + off / 128) (0x1A + off % 128 / 4)) / 256 ^ (off % 4))
  else 0

/-- A byte of an area as a task on pair `p` sees it: its own pair's stores of the tick over the committed ones (R56). -/
def State.byteAt (s : State) (p area off : Nat) : Byte :=
  match area with
  | 8 => s.windowByte off
  | 9 => s.statusByte p off
  | _ =>
    let k := memKey area (s.taskOn p) off
    (Sparse.get none (Sparse.get {} s.engines p).overlay k).getD (Memory.read s.mem k)

/-- The number in `n` bytes of an area, least significant byte first (R53). -/
def State.natAt (s : State) (p area off n : Nat) : Nat :=
  match n with
  | 0 => 0
  | n + 1 => (s.byteAt p area off).toNat + 256 * s.natAt p area (off + 1) n

/-- The bit of an area at a bit address (R53). -/
def State.bitOf (s : State) (p area addr : Nat) : Bool := (s.byteAt p area (addr / 8)).toNat.testBit (addr % 8)

/-- The operand bit (R53, R54; area F: immediate bit 0). -/
def State.bitAt (s : State) (p : Nat) (x : Operand) : Bool :=
  match x.area with
  | 15 => x.addr.testBit 0
  | 5 => (s.natAt p 5 (x.addr / 4 * 16 + 14) 2).testBit (if x.addr % 4 = 0 then 1 else 0)
  | 6 => (s.natAt p 6 (x.addr / 4 * 16 + 12) 4).testBit (if x.addr % 4 = 0 then 2 else 3)
  | _ => s.bitOf p x.area x.addr

/-- The byte offset of a word operand: in T field 0 is ET and field 1 PT, in C field 0 is CV and field 1 PV (R54). -/
def wordOffset (x : Operand) : Nat :=
  match x.area with
  | 5 => x.addr / 4 * 16 + (if x.addr % 4 = 0 then 4 else 0)
  | 6 => x.addr / 4 * 16 + (if x.addr % 4 = 0 then 0 else 4)
  | _ => x.addr

/-- The operand word (R65; area F: the immediate sign-extended from bit 19). -/
def State.wordAt (s : State) (p : Nat) (x : Operand) : Word :=
  if x.area = 15 then (BitVec.ofNat 20 x.addr).signExtend 32
  else BitVec.ofNat 32 (s.natAt p x.area (wordOffset x) 4)

/-- A read of a byte of S without stated content takes the next free value. -/
def State.afterRead (s : State) (x : Operand) : State := if x.area = 9 then { s with free := s.free + 1 } else s

/-! ## Stores -/

/-- Whether a store is compared as it is issued: Q, P and the retained range of D (R52, R78). -/
def State.compared (s : State) (area off : Nat) : Bool :=
  area == 1 || area == 8 ||
    (area == 3 && decide (s.image.retStart ≤ off) && decide (off < s.image.retStart + s.image.retSize))

/-- What a store adds to the activation signature: area, byte address, width, value (R79; the layout of these bytes
is log entry 9). -/
def signStore (c area off width v : Nat) : Nat :=
  crcRun 0x82F63B78 c (leBytes 1 area ++ leBytes 4 off ++ leBytes 1 width ++ leBytes (max 1 width) v)

/-- Puts bytes into the overlay of a pair. -/
def overlayPut (o : Sparse (Option Byte)) (k : Nat) (bs : List Byte) : Sparse (Option Byte) :=
  match bs with
  | [] => o
  | b :: t => overlayPut (Sparse.set none o k (some b)) (k + 1) t

/-- The state of a pair's engine. -/
def State.engine (s : State) (p : Nat) : Engine := Sparse.get {} s.engines p

/-- Writes a pair's engine. -/
def State.setEngine (s : State) (p : Nat) (e : Engine) : State := { s with engines := Sparse.set {} s.engines p e }

/-- What a task keeps between activations. -/
def State.task (s : State) (k : Nat) : TaskRt := Sparse.get {} s.tasks k

/-- Writes what a task keeps. -/
def State.setTask (s : State) (k : Nat) (t : TaskRt) : State := { s with tasks := Sparse.set {} s.tasks k t }

/-- A pair mismatch at a comparison point: the pair executes no further instruction of the tick (R80). -/
def State.pairMismatch (s : State) (p : Nat) : State :=
  (s.setEngine p { s.engine p with stopped := true }).count (keyOf 0x2101 (p + 1))

/-- An engine whose activation signature took a store (R79). -/
def Engine.signed (e : Engine) (area off width v : Nat) : Engine :=
  { e with signature := signStore e.signature area off width v }

/-- An engine after a store to an area that is committed at the staking point (R56): its bytes stand in the overlay. -/
def Engine.stored (e : Engine) (task area off width v : Nat) : Engine :=
  { e.signed area off width v with overlay := overlayPut e.overlay (memKey area task off) (leBytes width v) }

/-- The effect of a store that the comparison let pass: the bytes enter the pair's overlay, a store to P waits for
the closing point, a store to S sets the request (R56, R76, R147). -/
def State.putStore (s : State) (p area off width v : Nat) : State :=
  let e := s.engine p
  let e1 := e.signed area off width v
  if area = 8 then s.setEngine p { e1 with pStores := e1.pStores ++ [(off, BitVec.ofNat 32 v)] }
  else if area = 9 then s.setEngine p { e1 with request := e1.request || v.testBit 0 }
  else s.setEngine p (e.stored (s.taskOn p) area off width v)

/-- A store by a task: `agree` says whether the checking engine issued the same one (R78, R80). -/
def State.store (s : State) (p area off width v : Nat) (agree : Bool) : State :=
  if s.compared area off && !agree then s.pairMismatch p else s.putStore p area off width v

/-- A store of one bit: the byte with that bit changed. -/
def State.storeBit (s : State) (p area addr : Nat) (b agree : Bool) : State :=
  s.store p area (addr / 8) 1 (withBit (s.byteAt p area (addr / 8)).toNat (addr % 8) b) agree

/-- QU and QD recomputed from CV and PV (R54, R63, R75). -/
def counterStatus (cu cd : Bool) (cv pv : Int) : Nat :=
  (if cu then 1 else 0) + (if cd then 2 else 0) + (if pv ≤ cv then 4 else 0) + (if cv ≤ 0 then 8 else 0)

/-- Recomputes QU and QD of a counter after a store to CV or PV (R54). -/
def State.recount (s : State) (p n : Nat) : State :=
  let st := s.natAt p 6 (n * 16 + 12) 4
  s.store p 6 (n * 16 + 12) 4
    (counterStatus (st.testBit 0) (st.testBit 1) (signed 32 (s.natAt p 6 (n * 16) 4)) (signed 32 (s.natAt p 6 (n * 16 + 4) 4))) true

/-- An index fault (R55): counted for the task, and for the record of this activation. -/
def State.indexFault (s : State) (p : Nat) : State :=
  let k := s.taskOn p
  let t := s.task k
  let s1 := s.setTask k { t with indexFaults := min (t.indexFaults + 1) 0xFFFFFFFF }
  s1.setEngine p { s1.engine p with tickFaults := (s1.engine p).tickFaults + 1 }

/-! ## The frame of a scan instruction -/

/-- The checks before a scan instruction runs. No engine beyond pair 14 executes application code. A word that breaks a
static rule stands in no image that verification accepts (R50, R51, R54, R58, R71), nor does a direct address beyond its
area. A pair that a mismatch stopped executes nothing more in the tick (R80). -/
def scanGuard (s : State) (p : Nat) (ok inside : Bool) (t : State) : Result :=
  if 14 < p then .next s
  else if ok then
    if inside then (if (s.engine p).stopped then .next s else .next t) else .fault .directAddressOutsideArea
  else .refused .illFormed

/-- The cycles of an access: one more for areas D and P (R59). -/
def cyclesOf (n area : Nat) : Nat := if area = 3 ∨ area = 8 then n + 1 else n

/-- An engine past an instruction: the cycle count and the next instruction index (R59). -/
def Engine.stepped (e : Engine) (n : Nat) : Engine :=
  { e with pc := e.pc + 1, actCycles := e.actCycles + n, cycles := e.cycles + n }

/-- Steps a pair past an instruction (R59). -/
def State.advance (s : State) (p n : Nat) : State := s.setEngine p ((s.engine p).stepped n)

/-- Steps past an instruction unless a mismatch stopped the pair at it (R80). -/
def State.advanceUnless (s : State) (p n : Nat) : State := if (s.engine p).stopped then s else s.advance p n

/-- Changes the accumulators and flags of a pair. -/
def State.onEngine (s : State) (p : Nat) (f : Engine → Engine) : State := s.setEngine p (f (s.engine p))

/-- A store that an index fault suppresses: counted, and entered in the activation signature (R55, R79). -/
def State.suppressStore (s : State) (p area off width v : Nat) : State :=
  (s.indexFault p).onEngine p (fun e => e.signed area off width v)

end Sys2Proof.Machine
end

