-- ==== Sys2Proof/Machine/Bits.lean ====
section
/-! DEFINITION. Bit logic and the branch stack (R60, R61). -/

namespace Sys2Proof.Machine

open Sys2Proof

/-- An instruction that reads a bit and sets A to a function of A and the bit. -/
def bitLogic (p : Nat) (x : Operand) (f : Bool → Bool → Bool) (s : State) : Result :=
  scanGuard s p (bitReadOk x) (s.bitIn p x)
    (((s.onEngine p (fun e => { e with a := f e.a (s.bitAt p x) })).afterRead x).advance p (cyclesOf 1 x.area))

/-- An instruction that changes A and the word accumulators alone. -/
def implied (p cycles : Nat) (f : Engine → Engine) (s : State) : Result :=
  scanGuard s p true true ((s.onEngine p f).advance p cycles)

/-- An instruction that stores a bit if `c` holds of A. -/
def bitStore (p : Nat) (x : Operand) (c v : Bool → Bool) (agree : Bool) (s : State) : Result :=
  let a := (s.engine p).a
  scanGuard s p (bitWriteOk x) (s.bitIn p x)
    ((if c a then s.storeBit p x.area x.addr (v a) agree else s).advanceUnless p (cyclesOf 1 x.area))

/-- EDP and EDN: A becomes `f A bit` and the edge memory the old A. -/
def edgeOp (p : Nat) (x : Operand) (f : Bool → Bool → Bool) (s : State) : Result :=
  let a := (s.engine p).a
  let r := f a (s.bitAt p x)
  scanGuard s p (edgeOk x) (s.bitIn p x)
    (((s.storeBit p x.area x.addr a true).onEngine p (fun e => { e with a := r })).advance p 2)

/-- NOP (R60). -/
def execNop (p : Nat) (s : State) : Result := implied p 1 id s

/-- LD (R60). -/
def execLd (p : Nat) (x : Operand) (s : State) : Result := bitLogic p x (fun _ b => b) s

/-- LDN (R60). -/
def execLdn (p : Nat) (x : Operand) (s : State) : Result := bitLogic p x (fun _ b => !b) s

/-- AND (R60). -/
def execAnd (p : Nat) (x : Operand) (s : State) : Result := bitLogic p x (fun a b => a && b) s

/-- ANDN (R60). -/
def execAndn (p : Nat) (x : Operand) (s : State) : Result := bitLogic p x (fun a b => a && !b) s

/-- OR (R60). -/
def execOr (p : Nat) (x : Operand) (s : State) : Result := bitLogic p x (fun a b => a || b) s

/-- ORN (R60). -/
def execOrn (p : Nat) (x : Operand) (s : State) : Result := bitLogic p x (fun a b => a || !b) s

/-- XOR (R60). -/
def execXor (p : Nat) (x : Operand) (s : State) : Result := bitLogic p x (fun a b => a != b) s

/-- XORN (R60). -/
def execXorn (p : Nat) (x : Operand) (s : State) : Result := bitLogic p x (fun a b => a != !b) s

/-- ST (R60). -/
def execSt (p : Nat) (x : Operand) (agree : Bool) (s : State) : Result :=
  bitStore p x (fun _ => true) (fun a => a) agree s

/-- STN (R60). -/
def execStn (p : Nat) (x : Operand) (agree : Bool) (s : State) : Result :=
  bitStore p x (fun _ => true) (fun a => !a) agree s

/-- SET (R60). -/
def execSet (p : Nat) (x : Operand) (agree : Bool) (s : State) : Result :=
  bitStore p x (fun a => a) (fun _ => true) agree s

/-- RST (R60). -/
def execRst (p : Nat) (x : Operand) (agree : Bool) (s : State) : Result :=
  bitStore p x (fun a => a) (fun _ => false) agree s

/-- NOT (R60). -/
def execNot (p : Nat) (s : State) : Result := implied p 1 (fun e => { e with a := !e.a }) s

/-- SETA (R60). -/
def execSeta (p : Nat) (s : State) : Result := implied p 1 (fun e => { e with a := true }) s

/-- CLRA (R60). -/
def execClra (p : Nat) (s : State) : Result := implied p 1 (fun e => { e with a := false }) s

/-- EDP (R60). -/
def execEdp (p : Nat) (x : Operand) (s : State) : Result := edgeOp p x (fun a b => a && !b) s

/-- EDN (R60). -/
def execEdn (p : Nat) (x : Operand) (s : State) : Result := edgeOp p x (fun a b => b && !a) s

/-- The effective bit address of LDX and STX: the address plus W0 as unsigned bit offset (R60). -/
def State.bitIndex (s : State) (p : Nat) (x : Operand) : Nat := x.addr + (s.engine p).w0.toNat

/-- The bytes of an area that an indexed bit reaches: of D, bit access has the first 128 KiB (R52, R53; log entry 14). -/
def State.bitAreaSize (s : State) (p area : Nat) : Nat :=
  if area = 3 then min (s.areaSize p 3) 0x20000 else s.areaSize p area

/-- LDX: an index outside the area is not performed, gives 0 in A and counts (R55, R60). -/
def execLdx (p : Nat) (x : Operand) (s : State) : Result :=
  let n := s.bitIndex p x
  scanGuard s p (bitIndexReadOk x) (s.bitIn p x)
    (if n / 8 < s.bitAreaSize p x.area
     then (s.onEngine p (fun e => { e with a := s.bitOf p x.area n })).advance p (cyclesOf 2 x.area)
     else ((s.indexFault p).onEngine p (fun e => { e with a := false })).advance p (cyclesOf 2 x.area))

/-- STX: an index outside the area suppresses the store and counts (R55, R60). -/
def execStx (p : Nat) (x : Operand) (agree : Bool) (s : State) : Result :=
  let n := s.bitIndex p x
  scanGuard s p (bitWriteOk x) (s.bitIn p x)
    ((if n / 8 < s.bitAreaSize p x.area then s.storeBit p x.area n (s.engine p).a agree
      else s.suppressStore p x.area (n / 8) 1 (if (s.engine p).a then 1 else 0)).advanceUnless p (cyclesOf 2 x.area))

/-- A push of A with an operation; A is unchanged (R61). -/
def pushBranch (p : Nat) (op : BranchOp) (s : State) : Result :=
  scanGuard s p (decide ((s.engine p).branch.length < 16)) true
    ((s.onEngine p (fun e => { e with branch := (e.a, op) :: e.branch })).advance p 1)

/-- PSA (R61). -/
def execPsa (p : Nat) (s : State) : Result := pushBranch p .and s

/-- PSO (R61). -/
def execPso (p : Nat) (s : State) : Result := pushBranch p .or s

/-- PSX (R61). -/
def execPsx (p : Nat) (s : State) : Result := pushBranch p .xor s

/-- PSK (R61). -/
def execPsk (p : Nat) (s : State) : Result := pushBranch p .keep s

/-- What POP makes of A (R61). -/
def branchResult (v : Bool) (op : BranchOp) (a : Bool) : Bool :=
  match op with
  | .and => v && a
  | .or => v || a
  | .xor => v != a
  | .keep => v

/-- POP (R61). -/
def popEngine (e : Engine) : Engine :=
  match e.branch with
  | [] => e
  | (v, op) :: t => { e with a := branchResult v op e.a, branch := t }

/-- POP (R61). -/
def execPop (p : Nat) (s : State) : Result :=
  scanGuard s p (!(s.engine p).branch.isEmpty) true ((s.onEngine p popEngine).advance p 1)

/-- PEEK: A becomes the top entry's bit; no pop (R61). -/
def peekEngine (e : Engine) : Engine :=
  match e.branch with
  | [] => e
  | (v, _) :: _ => { e with a := v }

/-- PEEK (R61). -/
def execPeek (p : Nat) (s : State) : Result :=
  scanGuard s p (!(s.engine p).branch.isEmpty) true ((s.onEngine p peekEngine).advance p 1)

end Sys2Proof.Machine
end

