-- ==== Sys2Proof/Machine/Float.lean ====
section
/-! DEFINITION. IEEE 754 single precision as R69 and R70 use it: exact values, one rounding, subnormal operands taken
as zero, tininess judged after rounding. -/

namespace Sys2Proof.Machine

open Sys2Proof

/-- A float by value. A finite value is `n` / 2^149 with its sign. -/
inductive FVal where
  | nan
  | inf (neg : Bool)
  | fin (neg : Bool) (n : Nat)
  deriving DecidableEq, Repr

/-- The result of every invalid operation: the quiet NaN 0x7FC0_0000 with UF (R69). -/
def fNaN : Flagged := (0x7FC00000, { uf := true })

/-- The word of an infinity. -/
def fInf (neg : Bool) : Word := if neg then 0xFF800000 else 0x7F800000

/-- The word of a zero. -/
def fZero (neg : Bool) : Word := if neg then 0x80000000 else 0

/-- The value of a word; a subnormal is zero of its sign (R69). -/
def fValue (w : Word) : FVal :=
  let neg := w.getLsbD 31
  let e := w.toNat / 2 ^ 23 % 256
  let f := w.toNat % 2 ^ 23
  if e = 255 then (if f = 0 then .inf neg else .nan)
  else if e = 0 then .fin neg 0
  else .fin neg ((2 ^ 23 + f) * 2 ^ (e - 1))

/-- The quotient rounded to the nearest integer, ties to even. -/
def divEven (num den : Nat) : Nat :=
  let q := num / den
  let r := num % den
  if den < 2 * r then q + 1 else if 2 * r = den then q + q % 2 else q

/-- The 24-bit significand and the exponent of its last bit, after rounding num / den with unbounded exponents. -/
def significand (num den : Nat) : Nat × Int :=
  let e0 : Int := (Nat.log2 num : Int) - (Nat.log2 den : Int) - 23
  let e : Int := if num * 2 ^ ((-e0).toNat) < 2 ^ 23 * (den * 2 ^ e0.toNat) then e0 - 1 else e0
  let q := divEven (num * 2 ^ ((-e).toNat)) (den * 2 ^ e.toNat)
  if q = 2 ^ 24 then (2 ^ 23, e + 1) else (q, e)

/-- The float nearest to num / den, which is not 0, with its overflow flag; a tiny result is zero (R69). -/
def fRound (neg : Bool) (num den : Nat) : Flagged :=
  let (q, e) := significand num den
  let biased : Int := e + 23 + 127
  if 254 < biased then (fInf neg, { ov := true })
  else if biased < 1 then (fZero neg, {})
  else (BitVec.ofNat 32 ((if neg then 2 ^ 31 else 0) + biased.toNat * 2 ^ 23 + (q - 2 ^ 23)), {})

/-- The signed numerator of a finite value. -/
def fSigned (neg : Bool) (n : Nat) : Int := if neg then -(n : Int) else n

/-- The sum of two values. -/
def fAddValues (x y : FVal) : Flagged :=
  match x, y with
  | .nan, _ => fNaN
  | _, .nan => fNaN
  | .inf a, .inf b => if a = b then (fInf a, {}) else fNaN
  | .inf a, .fin _ _ => (fInf a, {})
  | .fin _ _, .inf b => (fInf b, {})
  | .fin a m, .fin b n =>
    let v := fSigned a m + fSigned b n
    if v = 0 then (fZero (a && b), {}) else fRound (decide (v < 0)) v.natAbs (2 ^ 149)

/-- The value with its sign inverted. -/
def FVal.neg (x : FVal) : FVal :=
  match x with
  | .nan => .nan
  | .inf a => .inf !a
  | .fin a n => .fin (!a) n

/-- FADD. -/
def fAdd (w1 w0 : Word) : Flagged := fAddValues (fValue w1) (fValue w0)

/-- FSUB. -/
def fSub (w1 w0 : Word) : Flagged := fAddValues (fValue w1) (fValue w0).neg

/-- FMUL. -/
def fMul (w1 w0 : Word) : Flagged :=
  match fValue w1, fValue w0 with
  | .nan, _ => fNaN
  | _, .nan => fNaN
  | .inf a, .inf b => (fInf (a != b), {})
  | .inf a, .fin b n => if n = 0 then fNaN else (fInf (a != b), {})
  | .fin a m, .inf b => if m = 0 then fNaN else (fInf (a != b), {})
  | .fin a m, .fin b n => if m * n = 0 then (fZero (a != b), {}) else fRound (a != b) (m * n) (2 ^ 298)

/-- FDIV. -/
def fDiv (w1 w0 : Word) : Flagged :=
  match fValue w1, fValue w0 with
  | .nan, _ => fNaN
  | _, .nan => fNaN
  | .inf _, .inf _ => fNaN
  | .inf a, .fin b _ => (fInf (a != b), {})
  | .fin a _, .inf b => (fZero (a != b), {})
  | .fin a m, .fin b n =>
    if n = 0 then (if m = 0 then fNaN else (fInf (a != b), { dz := true }))
    else if m = 0 then (fZero (a != b), {}) else fRound (a != b) m n

/-- The integer square root of a number below 2^(2 b), found bit by bit. -/
def isqrt : Nat → Nat → Nat → Nat
  | 0, r, _ => r
  | b + 1, r, x => if (r + 2 ^ b) * (r + 2 ^ b) ≤ x then isqrt b (r + 2 ^ b) x else isqrt b r x

/-- FSQRT. The root of n / 2^149 is taken with 52 spare bits; a remainder is kept as one sticky bit. -/
def fSqrt (w0 : Word) : Flagged :=
  match fValue w0 with
  | .nan => fNaN
  | .inf a => if a then fNaN else (fInf false, {})
  | .fin a n =>
    if n = 0 then (fZero a, {}) else if a then fNaN else
    let x := n * 2 ^ 105
    let r := isqrt 192 0 x
    fRound false (2 * r + (if r * r = x then 0 else 1)) (2 ^ 128)

/-- The order of two values that are not NaN, as numbers scaled by 2^149; the infinities lie beyond every finite one. -/
def fOrder (x : FVal) : Int :=
  match x with
  | .nan => 0
  | .inf a => fSigned a (2 ^ 300)
  | .fin a n => fSigned a n

/-- Whether either value is NaN. -/
def fUnordered (w1 w0 : Word) : Bool := fValue w1 == .nan || fValue w0 == .nan

/-- FEQ: false if either is NaN. -/
def fEq (w1 w0 : Word) : Bool := !fUnordered w1 w0 && decide (fOrder (fValue w1) = fOrder (fValue w0))

/-- An ordered comparison: A = 0 and UF if unordered. -/
def fCompare (r : Int → Int → Bool) (w1 w0 : Word) : Bool × FlagSet :=
  if fUnordered w1 w0 then (false, { uf := true }) else (r (fOrder (fValue w1)) (fOrder (fValue w0)), {})

/-- ITF: the float of a signed word. -/
def fOfInt (w0 : Word) : Word :=
  if w0 = 0 then 0 else (fRound (decide (w0.toInt < 0)) w0.toInt.natAbs 1).1

/-- An integer result limited to I32, OV for range (R70). -/
def fRange (v : Int) : Flagged := satSigned v

/-- FTI and FTIT over a rounding of n / 2^149. -/
def fToInt (round : Nat → Nat) (w0 : Word) : Flagged :=
  match fValue w0 with
  | .nan => (0, { uf := true })
  | .inf a => (if a then 0x80000000 else 0x7FFFFFFF, { ov := true })
  | .fin a n => fRange (fSigned a (round n))

/-- Rounding of FTI: to nearest, ties to even. -/
def roundEven (n : Nat) : Nat := divEven n (2 ^ 149)

/-- Rounding of FTIT: toward zero. -/
def roundZero (n : Nat) : Nat := n / 2 ^ 149

end Sys2Proof.Machine
end

