-- ==== Sys2Proof/Machine/Words.lean ====
section
/-! DEFINITION. Word loads and stores, the accumulator moves, and the engine words they share (R65, R70). -/

namespace Sys2Proof.Machine

open Sys2Proof

/-- A load into W0 after a push: W1 := W0 (R65). -/
def Engine.push (e : Engine) (w : Word) : Engine := { e with w1 := e.w0, w0 := w }

/-- LDW: push, then the 32-bit word (R65). -/
def execLdw (p : Nat) (x : Operand) (s : State) : Result :=
  scanGuard s p (wordReadOk x) (s.bytesIn p 4 x)
    (((s.onEngine p (fun e => e.push (s.wordAt p x))).afterRead x).advance p (cyclesOf 1 x.area))

/-- A load of `n` bytes, sign-extended or zero-extended, after a push (R65). -/
def loadPart (n : Nat) (sign : Bool) (p : Nat) (x : Operand) (s : State) : Result :=
  let v := s.natAt p x.area x.addr n
  let w : Word := if sign then BitVec.ofInt 32 (signed (8 * n) v) else BitVec.ofNat 32 v
  scanGuard s p (partReadOk n x) (s.bytesIn p n x)
    (((s.onEngine p (fun e => e.push w)).afterRead x).advance p (cyclesOf 1 x.area))

/-- LDH (R65). -/
def execLdh (p : Nat) (x : Operand) (s : State) : Result := loadPart 2 true p x s

/-- LDHU (R65). -/
def execLdhu (p : Nat) (x : Operand) (s : State) : Result := loadPart 2 false p x s

/-- LDB (R65). -/
def execLdb (p : Nat) (x : Operand) (s : State) : Result := loadPart 1 true p x s

/-- LDBU (R65). -/
def execLdbu (p : Nat) (x : Operand) (s : State) : Result := loadPart 1 false p x s

/-- LDHI: bits 31 to 20 of W0 become the immediate; no push (R65). -/
def execLdhi (p : Nat) (x : Operand) (s : State) : Result :=
  scanGuard s p (immediateOk 4096 x) true
    ((s.onEngine p (fun e => { e with w0 := BitVec.ofNat 32 (e.w0.toNat % 2 ^ 20 + x.addr * 2 ^ 20) })).advance p 1)

/-- The store of a word operand; a store to CV or PV recomputes QU and QD at once (R54, R65). -/
def State.storeWord (s : State) (p : Nat) (x : Operand) (w : Word) (agree : Bool) : State :=
  let s1 := s.store p x.area (wordOffset x) 4 w.toNat agree
  if x.area = 6 then s1.recount p (x.addr / 4) else s1

/-- STW: the 32-bit word becomes W0 (R65). -/
def execStw (p : Nat) (x : Operand) (agree : Bool) (s : State) : Result :=
  scanGuard s p (wordWriteOk x) (s.bytesIn p 4 x)
    ((s.storeWord p x (s.engine p).w0 agree).advanceUnless p (cyclesOf 1 x.area))

/-- A store of the low `n` bytes of W0 (R65). -/
def storePart (n : Nat) (p : Nat) (x : Operand) (agree : Bool) (s : State) : Result :=
  scanGuard s p (partWriteOk n x) (s.bytesIn p n x)
    ((s.store p x.area x.addr n ((s.engine p).w0.toNat % 256 ^ n) agree).advanceUnless p (cyclesOf 1 x.area))

/-- STH (R65). -/
def execSth (p : Nat) (x : Operand) (agree : Bool) (s : State) : Result := storePart 2 p x agree s

/-- STB (R65). -/
def execStb (p : Nat) (x : Operand) (agree : Bool) (s : State) : Result := storePart 1 p x agree s

/-- STWC: if A = 1 the 32-bit word becomes W0 (R65). -/
def execStwc (p : Nat) (x : Operand) (agree : Bool) (s : State) : Result :=
  scanGuard s p (condWriteOk x) (s.bytesIn p 4 x)
    ((if (s.engine p).a then s.storeWord p x (s.engine p).w0 agree else s).advanceUnless p (cyclesOf 1 x.area))

/-- Whether an indexed word access is performed: in its area and aligned (R55). -/
def State.indexOk (s : State) (p area n : Nat) : Bool :=
  decide (n % 4 = 0) && decide (n + 4 ≤ s.areaSize p area)

/-- LDWX: the word at the address plus W0; a faulty index yields 0 and counts (R55, R65). -/
def execLdwx (p : Nat) (x : Operand) (s : State) : Result :=
  let n := x.addr + (s.engine p).w0.toNat
  scanGuard s p (wordIndexReadOk x) (s.bytesIn p 4 x)
    (if s.indexOk p x.area n
     then (s.onEngine p (fun e => { e with w0 := BitVec.ofNat 32 (s.natAt p x.area n 4) })).advance p (cyclesOf 2 x.area)
     else ((s.indexFault p).onEngine p (fun e => { e with w0 := 0 })).advance p (cyclesOf 2 x.area))

/-- STWX: the word at the address plus W1 becomes W0; a faulty index suppresses the store and counts (R55, R65). -/
def execStwx (p : Nat) (x : Operand) (agree : Bool) (s : State) : Result :=
  let n := x.addr + (s.engine p).w1.toNat
  scanGuard s p (partWriteOk 4 x) (s.bytesIn p 4 x)
    ((if s.indexOk p x.area n then s.store p x.area n 4 (s.engine p).w0.toNat agree
      else s.suppressStore p x.area n 4 (s.engine p).w0.toNat).advanceUnless p (cyclesOf 2 x.area))

end Sys2Proof.Machine
end

