-- ==== Sys2Proof/Machine/Arith.lean ====
section
/-! DEFINITION. Integer arithmetic, word logic, shifts, comparisons, floating point, conversions and moves
(R66 to R70). -/

namespace Sys2Proof.Machine

open Sys2Proof

/-- W0 becomes a flagged function of W1 and W0; W1 is unchanged (R66). -/
def wordOp (p cycles : Nat) (f : Word → Word → Flagged) (s : State) : Result :=
  implied p cycles (fun e => { e.raise (f e.w1 e.w0).2 with w0 := (f e.w1 e.w0).1 }) s

/-- W0 becomes a function of W1 and W0, without flags (R68). -/
def plainOp (p : Nat) (f : Word → Word → Word) (s : State) : Result := wordOp p 1 (fun a b => (f a b, {})) s

/-- A becomes a comparison of W1 and W0 (R68). -/
def compareOp (p : Nat) (f : Word → Word → Bool) (s : State) : Result :=
  implied p 1 (fun e => { e with a := f e.w1 e.w0 }) s

/-- A becomes a float comparison of W1 and W0, with its flags (R69). -/
def floatCompare (p : Nat) (f : Word → Word → Bool × FlagSet) (s : State) : Result :=
  implied p 2 (fun e => { e.raise (f e.w1 e.w0).2 with a := (f e.w1 e.w0).1 }) s

/-- ADD (R66). -/
def execAdd (p : Nat) (s : State) : Result := wordOp p 1 (fun a b => satSigned (a.toInt + b.toInt)) s

/-- SUB (R66). -/
def execSub (p : Nat) (s : State) : Result := wordOp p 1 (fun a b => satSigned (a.toInt - b.toInt)) s

/-- MUL, formed at 64 bits (R66). -/
def execMul (p : Nat) (s : State) : Result := wordOp p 2 (fun a b => satSigned (a.toInt * b.toInt)) s

/-- DIV (R66, R67). -/
def execDiv (p : Nat) (s : State) : Result := wordOp p 18 divWord s

/-- MOD (R66, R67). -/
def execMod (p : Nat) (s : State) : Result := wordOp p 18 modWord s

/-- NEG (R66). -/
def execNeg (p : Nat) (s : State) : Result := wordOp p 1 (fun _ b => satSigned (-b.toInt)) s

/-- ABS (R66). -/
def execAbs (p : Nat) (s : State) : Result := wordOp p 1 (fun _ b => satSigned b.toInt.natAbs) s

/-- MIN, signed (R66). -/
def execMin (p : Nat) (s : State) : Result := plainOp p (fun a b => if a.toInt < b.toInt then a else b) s

/-- MAX, signed (R66). -/
def execMax (p : Nat) (s : State) : Result := plainOp p (fun a b => if b.toInt < a.toInt then a else b) s

/-- ADDU (R66). -/
def execAddu (p : Nat) (s : State) : Result := wordOp p 1 (fun a b => satUnsigned (a.toNat + b.toNat)) s

/-- SUBU (R66). -/
def execSubu (p : Nat) (s : State) : Result := wordOp p 1 (fun a b => satUnsigned ((a.toNat : Int) - b.toNat)) s

/-- AW (R68). -/
def execAw (p : Nat) (s : State) : Result := plainOp p (fun a b => a &&& b) s

/-- OW (R68). -/
def execOw (p : Nat) (s : State) : Result := plainOp p (fun a b => a ||| b) s

/-- XW (R68). -/
def execXw (p : Nat) (s : State) : Result := plainOp p (fun a b => a ^^^ b) s

/-- INVW (R68). -/
def execInvw (p : Nat) (s : State) : Result := plainOp p (fun _ b => ~~~b) s

/-- A shift of W0 by the immediate count; bits 19 to 5 are 0 (R68). -/
def shiftOp (p : Nat) (x : Operand) (f : Word → Nat → Word) (s : State) : Result :=
  scanGuard s p (immediateOk 32 x) true
    ((s.onEngine p (fun e => { e with w0 := f e.w0 x.addr })).advance p 1)

/-- SHL (R68). -/
def execShl (p : Nat) (x : Operand) (s : State) : Result := shiftOp p x (fun w n => w <<< n) s

/-- SHR (R68). -/
def execShr (p : Nat) (x : Operand) (s : State) : Result := shiftOp p x (fun w n => w >>> n) s

/-- SAR (R68). -/
def execSar (p : Nat) (x : Operand) (s : State) : Result := shiftOp p x (fun w n => w.sshiftRight n) s

/-- ROL (R68). -/
def execRol (p : Nat) (x : Operand) (s : State) : Result := shiftOp p x (fun w n => w.rotateLeft n) s

/-- EQ (R68). -/
def execEq (p : Nat) (s : State) : Result := compareOp p (fun a b => a == b) s

/-- NE (R68). -/
def execNe (p : Nat) (s : State) : Result := compareOp p (fun a b => a != b) s

/-- GT, signed (R68). -/
def execGt (p : Nat) (s : State) : Result := compareOp p (fun a b => decide (b.toInt < a.toInt)) s

/-- GE, signed (R68). -/
def execGe (p : Nat) (s : State) : Result := compareOp p (fun a b => decide (b.toInt ≤ a.toInt)) s

/-- LT, signed (R68). -/
def execLt (p : Nat) (s : State) : Result := compareOp p (fun a b => decide (a.toInt < b.toInt)) s

/-- LE, signed (R68). -/
def execLe (p : Nat) (s : State) : Result := compareOp p (fun a b => decide (a.toInt ≤ b.toInt)) s

/-- GTU (R68). -/
def execGtu (p : Nat) (s : State) : Result := compareOp p (fun a b => decide (b.toNat < a.toNat)) s

/-- LTU (R68). -/
def execLtu (p : Nat) (s : State) : Result := compareOp p (fun a b => decide (a.toNat < b.toNat)) s

/-- FADD (R69). -/
def execFadd (p : Nat) (s : State) : Result := wordOp p 3 fAdd s

/-- FSUB (R69). -/
def execFsub (p : Nat) (s : State) : Result := wordOp p 3 fSub s

/-- FMUL (R69). -/
def execFmul (p : Nat) (s : State) : Result := wordOp p 3 fMul s

/-- FDIV (R69). -/
def execFdiv (p : Nat) (s : State) : Result := wordOp p 14 fDiv s

/-- FNEG: bit 31 of W0 inverted (R69). -/
def execFneg (p : Nat) (s : State) : Result := plainOp p (fun _ b => b ^^^ 0x80000000) s

/-- FABS: bit 31 of W0 cleared (R69). -/
def execFabs (p : Nat) (s : State) : Result := plainOp p (fun _ b => b &&& 0x7FFFFFFF) s

/-- FSQRT (R69). -/
def execFsqrt (p : Nat) (s : State) : Result := wordOp p 16 (fun _ b => fSqrt b) s

/-- FEQ (R69). -/
def execFeq (p : Nat) (s : State) : Result := floatCompare p (fun a b => (fEq a b, {})) s

/-- FNE (R69). -/
def execFne (p : Nat) (s : State) : Result := floatCompare p (fun a b => (!fEq a b, {})) s

/-- FGT (R69). -/
def execFgt (p : Nat) (s : State) : Result := floatCompare p (fCompare (fun x y => decide (y < x))) s

/-- FGE (R69). -/
def execFge (p : Nat) (s : State) : Result := floatCompare p (fCompare (fun x y => decide (y ≤ x))) s

/-- FLT (R69). -/
def execFlt (p : Nat) (s : State) : Result := floatCompare p (fCompare (fun x y => decide (x < y))) s

/-- FLE (R69). -/
def execFle (p : Nat) (s : State) : Result := floatCompare p (fCompare (fun x y => decide (x ≤ y))) s

/-- ITF (R70). -/
def execItf (p : Nat) (s : State) : Result := wordOp p 2 (fun _ b => (fOfInt b, {})) s

/-- FTI (R70). -/
def execFti (p : Nat) (s : State) : Result := wordOp p 2 (fun _ b => fToInt roundEven b) s

/-- FTIT (R70). -/
def execFtit (p : Nat) (s : State) : Result := wordOp p 2 (fun _ b => fToInt roundZero b) s

/-- SAT16 (R70). -/
def execSat16 (p : Nat) (s : State) : Result := wordOp p 1 (fun _ b => clampWord (-32768) 32767 b) s

/-- SATU16 (R70). -/
def execSatu16 (p : Nat) (s : State) : Result := wordOp p 1 (fun _ b => clampWord 0 65535 b) s

/-- SEXT16 (R70). -/
def execSext16 (p : Nat) (s : State) : Result := plainOp p (fun _ b => (b.setWidth 16).signExtend 32) s

/-- SWP (R70). -/
def execSwp (p : Nat) (s : State) : Result := implied p 1 (fun e => { e with w0 := e.w1, w1 := e.w0 }) s

/-- DUP (R70). -/
def execDup (p : Nat) (s : State) : Result := implied p 1 (fun e => { e with w1 := e.w0 }) s

/-- TSTW (R70). -/
def execTstw (p : Nat) (s : State) : Result := implied p 1 (fun e => { e with a := e.w0 != 0 }) s

/-- LDA (R70). -/
def execLda (p : Nat) (s : State) : Result := implied p 1 (fun e => e.push (if e.a then 1 else 0)) s

end Sys2Proof.Machine
end

