-- ==== Sys2Proof/Machine/Control.lean ====
section
/-! DEFINITION. Control transfer, the flag instructions, and the start and end of an activation
(R49, R64, R76, R78, R79, R87, R94, R113). -/

namespace Sys2Proof.Machine

open Sys2Proof

/-- Moves the PC to a target and counts the cycles (R59, R64). -/
def State.jumpTo (s : State) (p target cycles : Nat) : State :=
  s.onEngine p (fun e => { e with pc := target, actCycles := e.actCycles + cycles, cycles := e.cycles + cycles })

/-- A jump that is taken if `c` holds of A: 3 cycles taken, 1 not (R64). -/
def jumpIf (p target : Nat) (c : Bool → Bool) (s : State) : Result :=
  scanGuard s p (targetOk target) true
    (if c (s.engine p).a then s.jumpTo p target 3 else s.advance p 1)

/-- JMP (R64). -/
def execJmp (p target : Nat) (s : State) : Result := jumpIf p target (fun _ => true) s

/-- JC (R64). -/
def execJc (p target : Nat) (s : State) : Result := jumpIf p target (fun a => a) s

/-- JCN (R64). -/
def execJcn (p target : Nat) (s : State) : Result := jumpIf p target (fun a => !a) s

/-- A call: the return index is pushed, then the PC moves (R64). The call stack holds 8 entries (R48, R58 rule 6). -/
def State.callTo (s : State) (p target : Nat) : State :=
  (s.onEngine p (fun e => { e with calls := (e.pc + 1) :: e.calls })).jumpTo p target 3

/-- CALL (R64). -/
def execCall (p target : Nat) (s : State) : Result :=
  scanGuard s p (targetOk target && decide ((s.engine p).calls.length < 8)) true (s.callTo p target)

/-- CALLC (R64). -/
def execCallc (p target : Nat) (s : State) : Result :=
  scanGuard s p (targetOk target && (!(s.engine p).a || decide ((s.engine p).calls.length < 8))) true
    (if (s.engine p).a then s.callTo p target else s.advance p 1)

/-- RET: the PC becomes the popped return index (R64). -/
def execRet (p : Nat) (s : State) : Result :=
  scanGuard s p (!(s.engine p).calls.isEmpty) true
    ((s.onEngine p (fun e => { e with calls := e.calls.tail })).jumpTo p ((s.engine p).calls.headD 0) 3)

/-- LDF: A becomes the selected flag; 3 is refused (R64). -/
def execLdf (p : Nat) (x : Operand) (s : State) : Result :=
  scanGuard s p (immediateOk 3 x) true ((s.onEngine p (fun e => { e with a := e.flag x.addr })).advance p 1)

/-- CLF: clears each selected flag (R64). -/
def execClf (p : Nat) (x : Operand) (s : State) : Result :=
  scanGuard s p (immediateOk 8 x) true ((s.onEngine p (fun e => e.clearFlags x.addr)).advance p 1)

/-- The descriptor of a task: 0 to 15 cyclic, 0x10 start-up, 0x11 error (R118). -/
def Image.taskOf (m : Image) (k : Nat) : Option TaskDesc :=
  m.tasks.find? (fun t => if t.kind = 1 then k == 0x10 else if t.kind = 2 then k == 0x11 else t.number == k)

/-- Begins the activation of a task on a pair: accumulators and stacks cleared, flags restored, PC at the entry
index, 12 cycles of dispatch (R49, R87). -/
def State.beginTask (s : State) (p k : Nat) : State :=
  let t := s.task k
  let s1 := s.setTask k { t with activations := min (t.activations + 1) 0xFFFFFFFF }
  let s2 := s1.onEngine p (fun e =>
    { e with a := false, w0 := 0, w1 := 0, branch := [], calls := [], ov := t.ov, uf := t.uf, dz := t.dz
             pc := ((s.image.taskOf k).getD {}).entry, running := some k, actCycles := 12, cycles := e.cycles + 12
             signature := 0xFFFFFFFF, tickFaults := 0 })
  if k < 16 then s2.count (keyOf (0x2110 + k) 7) else s2

/-- Begins the next waiting activation of a pair, if there is one: the activations run back to back (R87). -/
def State.beginNext (s : State) (p : Nat) : State :=
  let e := s.engine p
  match e.waiting with
  | [] => s.setEngine p { e with running := none }
  | k :: t => (s.setEngine p { e with waiting := t }).beginTask p k

/-- Reports the index faults of an ending activation to the error task (R55, R91 code 0x03). -/
def State.reportFaults (s : State) (p k : Nat) : State :=
  let n := (s.engine p).tickFaults
  if n = 0 then s else s.recordError 3 k n

/-- The counters of an activation that ends: maximum cycles, budget exceedances, start-up cycles (R94, R112, R113). -/
def State.countEnd (s : State) (k cycles : Nat) : State :=
  if k < 16 then
    let s1 := s.maxReg (keyOf (0x2110 + k) 0xB) cycles
    if s.reg (keyOf (0x2110 + k) 5) < cycles - 12 then s1.count (keyOf (0x2110 + k) 0xD) else s1
  else if k = 0x10 then s.setReg 0x21000A cycles else s

/-- Ends an activation: the flags are saved, the first-activation bits fall, the counters move (R49, R76). -/
def State.endTask (s : State) (p k : Nat) : State :=
  let e := s.engine p
  let s1 := s.setTask k { s.task k with ov := e.ov, uf := e.uf, dz := e.dz, firstRun := false, firstExch := false
                                        firstActive := false }
  ((s1.reportFaults p k).countEnd k e.actCycles).beginNext p

/-- The bytes that END adds to the signature: A, W0, W1, flags, call depth (R79; layout in log entry 9). -/
def Engine.finalBytes (e : Engine) : List Byte :=
  leBytes 1 (if e.a then 1 else 0) ++ leBytes 4 e.w0.toNat ++ leBytes 4 e.w1.toNat ++ leBytes 1 e.flagWord ++
    leBytes 1 e.calls.length

/-- END: compares the signature, saves the flags and ends the activation (R64, R78, R79, R80). -/
def execEnd (p : Nat) (agree : Bool) (s : State) : Result :=
  let s1 := s.onEngine p (fun e =>
    { e with actCycles := e.actCycles + 6, cycles := e.cycles + 6, signature := crcRun 0x82F63B78 e.signature e.finalBytes })
  scanGuard s p true true
    (match (s.engine p).running with
     | none => s
     | some k => if agree then s1.endTask p k else (s1.reportFaults p k).pairMismatch p)

end Sys2Proof.Machine
end

