-- ==== Sys2Proof/Machine/Chain.lean ====
section
/-! DEFINITION. The Ivosh chain as its controller runs it: slots, dropout, re-integration, ring state, stake and token
frames (R200 to R213, R220 to R222, R227, R229). -/

namespace Sys2Proof.Machine

open Sys2Proof

/-- An entry of the record of outstation k. -/
def recK (k sub : Nat) : Nat := keyOf (0x2700 + k) sub

/-- The configured outstations in ascending address (R201). -/
def State.stations (s : State) : List Nat := ((List.range 32).map (fun i => i + 1)).filter (fun k => s.on (recK k 1))

/-- The bits k − 1 of the stations for which `f` holds. -/
def stationBits (ks : List Nat) (f : Nat → Bool) : Nat := ks.foldl (fun v k => if f k then v + 2 ^ (k - 1) else v) 0

/-- The record is LINKED (27xx.09). -/
def State.linked (s : State) (k : Nat) : Bool := s.on (recK k 9)

/-- The chain runs (R201). -/
def State.chainRuns (s : State) : Bool :=
  s.on 0x260001 && s.running && !s.outstation && s.mode != stBench

/-- The unit sends the frames of the chain (R170, R222). -/
def State.chainMaster (s : State) : Bool := s.chainRuns && s.active

/-- What the controller keeps of an outstation. -/
def State.outRec (s : State) (k : Nat) : OutRec := Sparse.get {} s.chain.records k

/-- Writes what the controller keeps of an outstation. -/
def State.setOutRec (s : State) (k : Nat) (r : OutRec) : State :=
  { s with chain := { s.chain with records := Sparse.set {} s.chain.records k r } }

/-- 2601.09 and 2601.0A follow the link states (R220, R221, R227). -/
def State.relink (s : State) : State :=
  (s.setReg 0x260109 (stationBits s.stations s.linked)).setReg 0x26010A
    (stationBits s.stations (fun k => !s.linked k))

/-- Sum of a payload size over the configured outstations (R19). -/
def State.sizeSum (s : State) (sub : Nat) : Nat := (s.stations.map (fun k => s.reg (recK k sub))).foldl (fun a b => a + b) 0

/-- The broken-ring traverse time in ns (R212). -/
def State.brokenNs (s : State) : Nat :=
  if s.stations.isEmpty then 0 else 3000 + 1800 * s.stations.length + 8 * s.sizeSum 2

/-- Every outstation UNLINKED again: the state before the first integration (R221). -/
def State.chainInit (s : State) : State :=
  ({ s with chain := {} }.each ((List.range 32).map (fun i => i + 1)) (fun t k => t.setReg (recK k 9) 0)).relink

/-! ## Frames on the wire (R202, R204 to R206, R209) -/

/-- A TS96 (R9): seconds since the PTP epoch, then nanoseconds. -/
def ts96 (ns : Nat) : List Byte := leBytes 8 (ns / 1000000000) ++ leBytes 4 (ns % 1000000000)

/-- Bytes 0 to 47 of a chain header (R205). -/
def chainHead (h : ChainHeader) (kind : Nat) : List Byte :=
  leBytes 1 kind ++ leBytes 1 h.version ++ leBytes 1 h.direction ++ leBytes 1 h.source ++ leBytes 4 h.station ++
    leBytes 8 h.tick ++ ts96 h.datumNs ++ ts96 h.nextNs ++ leBytes 4 h.period ++ leBytes 2 h.flags ++ leBytes 2 h.slots

/-- A chain frame as its controller sends it (R204, R205): addresses and EtherType most significant byte first, the header
with its CRC, a path word of 0, the body, and the FCS. -/
def frameBytes (h : ChainHeader) (kind : Nat) (body : List Byte) : List Byte :=
  let frame := [0x03, 0x5A, 0x58, 0x49, 0x56, 0x01] ++ (leBytes 6 (Config.portMac h.direction)).reverse ++ [0x88, 0xB5] ++
    chainHead h kind ++ leBytes 4 (crc32c (chainHead h kind)) ++ leBytes 4 0 ++ body
  frame ++ leBytes 4 (crc32 frame)

/-- The controller's part of a traverse slot (R206): address and length, and zeroes in the rest. -/
def State.emptySlot (s : State) (k : Nat) : List Byte :=
  leBytes 1 k ++ leBytes 1 0 ++ leBytes 2 (s.reg (recK k 2)) ++ List.replicate (8 + 4 * ((s.reg (recK k 2) + 3) / 4) + 4) 0

/-! ## The datum edge -/

/-- SYNC, STEPPED and STRETCHED of the tick (R30). -/
def State.tickFlags (s : State) : Nat :=
  (if s.tick.syncNow then 1 else 0) + (if s.tick.stepped then 2 else 0) + (if s.tick.stretched then 4 else 0)

/-- The header of a chain frame of the tick (R205). -/
def State.chainHeader (s : State) (direction slots : Nat) : ChainHeader :=
  { direction := direction, source := s.reg 0x250002, station := s.reg 0x260002, tick := s.tickNo
    datumNs := s.tick.datumNs, nextNs := s.tick.nextNs, period := s.tD, flags := s.tickFlags, slots := slots }

/-- A chain frame leaves on both chain ports, alike but for the direction byte (R202). -/
def State.sendChain (s : State) (kind slots : Nat) (body : List Byte) : State :=
  (s.emit (.chainFrame 0 (frameBytes (s.chainHeader 0 slots) kind body))).emit
    (.chainFrame 1 (frameBytes (s.chainHeader 1 slots) kind body))

/-- At a datum edge the traverse frame leaves on both ports (R202, R205). While the chain does not run, every
outstation is UNLINKED and the ring state reads 0. -/
def State.chainAtD (s : State) : State :=
  let s1 := { s with chain := { s.chain with
    back0 := none, back1 := none, portDown := !s.on 0x260102 || !s.on 0x260103
    records := List.map (fun (c : Nat × OutRec) => (c.1, { c.2 with rx0 := none, rx1 := none })) s.chain.records } }
  if !s1.chainRuns then
    let s2 := s1.chainInit
    if s2.reg 0x260101 = 0 then s2 else (s2.setReg 0x260101 0).setCause 6 2
  else if s1.active then
    s1.sendChain 1 s.stations.length (s.stations.flatMap s.emptySlot)
  else s1

/-- A frame boundary re-integrates the outstations whose slots settled (R41 step 3, R221). -/
def State.chainBoundary (s : State) : State :=
  if s.chainMaster then
    (s.each s.stations (fun t k =>
      if !t.linked k && decide (t.reg 0x260006 ≤ (t.outRec k).okTicks) then
        (((t.setReg (recK k 9) 1).setReg (recK k 0xF) t.tickNo).setOutRec k
          { t.outRec k with reintTick := some t.tickNo }).recordError 2 k 0 |>.setCause 6 1
      else t)).relink
  else s

/-! ## The closing point -/

/-- The copy of a slot that C takes: direction 0 first; a slot that nobody filled delivers nothing (R210). -/
def OutRec.pick (r : OutRec) : Option Slot := r.rx0 <|> r.rx1

/-- Two copies differ beyond what the direction itself changes (R210). -/
def slotsDiffer (a b : Slot) : Bool :=
  a.state != b.state || a.status != b.status || a.checksum != b.checksum || a.payload != b.payload

/-- The down reason of a slot, 0 where it is received (R210). -/
def State.slotFault (s : State) (k : Nat) (x : Option Slot) : Nat :=
  match x with
  | none => 1
  | some x =>
    if x.state = 0 then 1
    else if x.state = 2 ∧ s.linked k ∧ (s.outRec k).reintTick ≠ some s.tickNo then 5
    else if x.status.testBit 3 then 6
    else if x.status.testBit 5 then 7
    else if x.status.testBit 8 then 8
    else if !x.status.testBit 0 then 3
    else if x.checksum ≠ s.reg (recK k 4) then 4
    else 0

/-- A slot's report enters the record, with LATE-TOKEN and EXPIRED counted once (R210, R227). -/
def State.noteSlot (s : State) (k : Nat) (r : OutRec) : State :=
  let s1 := s.setReg (recK k 0xD) ((if r.rx0.isSome then 1 else 0) + (if r.rx1.isSome then 2 else 0))
  let s2 := match r.rx0, r.rx1 with
    | some a, some b => if slotsDiffer a b then s1.count 0x26010B else s1
    | _, _ => s1
  let s3 := match r.rx0 with
    | some a => s2.setReg (recK k 0xC) a.hop
    | none => s2
  match r.pick with
  | none => s3
  | some x =>
    let s4 := (s3.setReg (recK k 0xA) x.status).setReg (recK k 0xB) x.checksum
    let s5 := if x.status.testBit 1 then s4.count 0x202005 else s4
    if x.status.testBit 2 then s5.count (recK k 0x12) else s5

/-- Steps 2 to 4 of the dropout of a LINKED outstation (R220). -/
def State.dropStation (s : State) (k why : Nat) : State :=
  (((s.setReg (recK k 9) 0).setReg (recK k 0xE) s.tickNo).setReg (recK k 0x14) why).recordError 1 k 0 |>.setCause 6 0

/-- The substitute payload (R220 step 1): each 32-bit word takes the rule of its nibble in 27xx.07. -/
def State.substitute (s : State) (k : Nat) : List Byte :=
  let size := s.reg (recK k 2)
  let values := leBytes 512 (s.reg (recK k 6))
  let word (w : Nat) : List Byte :=
    match s.reg (recK k 7) / 16 ^ w % 16 with
    | 0 => (values.drop (4 * w)).take 4
    | 1 => (((s.outRec k).last.getD values).drop (4 * w)).take 4
    | 2 => leBytes 4 (s.reg 0x260004)
    | _ => leBytes 4 (s.reg 0x260005)
  ((List.range ((size + 3) / 4)).flatMap word).take size

/-- Places bytes in area I or Q, those within its size (R229). -/
def State.placeBytes (s : State) (area addr : Nat) (bs : List Byte) : State :=
  if addr = 0xFFFFFFFF then s else s.memWrite area 0 addr (bs.take (s.ioSize area - addr))

/-- The input payload of a station in the image: received or substituted (R210, R220, R229, R47). -/
def State.imageStation (s : State) (k : Nat) : State :=
  let r := s.outRec k
  let size := s.reg (recK k 2)
  let got := match r.pick with
    | some x => if s.linked k then some ((x.payload ++ List.replicate size 0).take size) else none
    | none => none
  match got with
  | some bs =>
    ((s.setOutRec k { r with last := some bs, received := true }).setBlob (keyOf (0x6100 + k) 1) bs).setReg
      (keyOf (0x6100 + k) 2) 0 |>.placeBytes 0 (s.reg (recK k 0x15)) bs
  | none =>
    let bs := s.substitute k
    ((s.setBlob (keyOf (0x6100 + k) 1) bs).setReg (keyOf (0x6100 + k) 2) 1).placeBytes 0 (s.reg (recK k 0x15)) bs

/-- One station at C (R210, R220, R221). -/
def State.closeStation (s : State) (k : Nat) : State :=
  let r := s.outRec k
  let why := s.slotFault k r.pick
  let s1 := (s.noteSlot k r).setOutRec k { r with okTicks := if why = 0 then r.okTicks + 1 else 0 }
  let s1 := if r.pick.isNone then s1.count 0x202003 else s1
  let s2 := if why = 0 then s1 else s1.count (recK k 0x10)
  let s3 := if why ≠ 0 && s2.linked k then s2.dropStation k why else s2
  s3.imageStation k

/-- A break is found: a port down at the datum edge, or a traverse frame reflected or missing (R213). -/
def State.ringBroken (s : State) : Bool :=
  s.chain.portDown || s.chain.back0 != some 0 || s.chain.back1 != some 0

/-- The ring state of a closing point (R213). -/
def State.ringState (s : State) : Nat :=
  if !s.ringBroken then 1
  else if s.chain.back0.isNone && s.chain.back1.isNone then 3
  else if s.stations.all (fun k => (s.outRec k).pick.isSome) then 2 else 4

/-- Inserts a station into the ring order by its hop. -/
def insertHop (x : Nat × Nat) (l : List (Nat × Nat)) : List (Nat × Nat) :=
  match l with
  | [] => [x]
  | y :: t => if y.1 ≤ x.1 then y :: insertHop x t else x :: y :: t

/-- The addresses in direction 0 order from the hop bytes (2601.06). -/
def State.ringOrder (s : State) : List Nat :=
  let xs := s.stations.filterMap (fun k => (s.outRec k).rx0.map (fun x => (x.hop, k)))
  (xs.foldl (fun l x => insertHop x l) []).map (fun x => x.2)

/-- The ring state and its entries at C (R213, R227). -/
def State.closeRing (s : State) : State :=
  let s1 := if s.ringBroken then s.count 0x261005 else s
  let s2 := (s1.setReg 0x260104 (s.chain.back0.getD 0)).setReg 0x260105 (s.chain.back1.getD 0)
  let s3 := if s.ringState = 1 then s2.setReg 0x260106 (leNat (s.ringOrder.map (BitVec.ofNat 8))) else s2
  if s3.reg 0x260101 = s.ringState then s3 else (s3.setReg 0x260101 s.ringState).setCause 6 2

/-- A partner controller enters in its records what the slots it forwarded reported (R222). -/
def State.noteForwarded (s : State) : State :=
  if s.chainRuns && !s.active then s.each s.stations (fun t k => t.noteSlot k (t.outRec k)) else s

/-- The chain at C (R210, R213, R220): in the unit that sends its frames the slots are taken. A standby in step takes its
inputs with the image (R222). -/
def State.chainAtC (s : State) : State :=
  let s := s.noteForwarded
  if s.chainMaster then
    let s1 := (s.each s.stations State.closeStation).relink.closeRing
    { s1 with tick := { s1.tick with substituted := stationBits s1.stations (fun k => !s1.linked k) } }
  else if s.role ≠ 2 then
    -- every configured outstation is UNLINKED where the chain does not run (R221), and for a unit that has no image yet
    let s1 := s.each s.stations State.imageStation
    { s1 with tick := { s1.tick with substituted := stationBits s1.stations (fun _ => true) } }
  else s

/-! ## Stake and token -/

/-- The body of the stake frame (R208). -/
def stakeBody (slots : List (Nat × List Byte)) : List Byte :=
  slots.flatMap (fun x =>
    let b := pad4 (leBytes 1 x.1 ++ leBytes 1 0 ++ leBytes 2 x.2.length ++ x.2)
    b ++ leBytes 4 (crc32c b))

/-- The output payload of a station from the Q bytes placed for it; 0 where unplaced or beyond the area (R208, R229). -/
def State.outputPayload (s : State) (k : Nat) : List Byte :=
  let size := s.reg (recK k 3)
  let at_ := s.reg (recK k 0x16)
  if at_ = 0xFFFFFFFF then List.replicate size 0
  else (List.range size).map (fun i => if at_ + i < s.ioSize 1 then Memory.read s.mem (memKey 1 0 (at_ + i)) else 0)

/-- The safe payload of a station (R100). -/
def State.safePayload (s : State) (k : Nat) : List Byte := (leBytes 512 (s.reg (recK k 8))).take (s.reg (recK k 3))

/-- At S the stake frame leaves on both ports (R208). -/
def State.chainAtS (s : State) : State :=
  if s.chainMaster then
    let body := stakeBody s.tick.staked.outs
    { s with chain := { s.chain with stakeBody := body } }.sendChain 2 s.stations.length body
  else s

/-- The body of the token frame: stake check, mask of the LINKED outstations, and the CRC of the two (R209). -/
def State.tokenBody (s : State) : List Byte :=
  let b := leBytes 4 (crc32c s.chain.stakeBody) ++ leBytes 4 (stationBits s.stations s.linked)
  b ++ leBytes 4 (crc32c b)

/-- At K the token frame leaves (R209). -/
def State.chainAtK (s : State) : State := if s.chainMaster then s.sendChain 3 0 s.tokenBody else s

/-- A station was released at the release edge: the unit's own token named it, or in a partner controller the token frame of
the tick that it forwarded (R209, R222). -/
def State.stationReleased (s : State) (token : Bool) (k : Nat) : Bool :=
  if s.active then token && s.linked k && (s.outRec k).reintTick != some s.tickNo
  else match s.chain.seen with
    | some (tick, mask) => tick == s.tick.staked.tick && mask.testBit (k - 1)
    | none => false

/-- The outputs released to the outstations at a release edge, or held without a token (R47). -/
def State.chainRelease (s : State) (token : Bool) : State :=
  if s.chainRuns then
    s.each s.tick.staked.outs (fun t x =>
      if t.stationReleased token x.1 then t.setOutRec x.1 { t.outRec x.1 with out := some x.2, outHeld := false }
      else t.setOutRec x.1 { t.outRec x.1 with outHeld := true })
  else s

/-- The views 6200 + k take what the last release edge released or held (R47). -/
def State.showOutputs (s : State) : State :=
  if s.chainRuns then
    s.each s.stations (fun t k =>
      let r := t.outRec k
      let t1 := match r.out with
        | some bs => t.setBlob (keyOf (0x6200 + k) 1) bs
        | none => t
      t1.setReg (keyOf (0x6200 + k) 2) (if r.outHeld then 2 else 0))
  else s

/-! ## The events -/

/-- Stores a returned slot in its direction's place, if it was filled. -/
def OutRec.take (r : OutRec) (direction : Nat) (x : Slot) : OutRec :=
  if x.state = 0 then r else if direction = 0 then { r with rx0 := some x } else { r with rx1 := some x }

/-- The slots of a frame enter the records of their stations. -/
def State.takeSlots (s : State) (direction : Nat) (slots : List Slot) : State :=
  s.each slots (fun t x => t.setOutRec x.address ((t.outRec x.address).take direction x))

/-- A traverse frame comes back (R210). A frame with a bad FCS counts, and only its slots with a valid CRC stand. What a
frame brings after C is too late for the tick (R23). -/
def execTraverseFrameReturn (header : ChainHeader) (slots : List Slot) (fcsOk : Bool) (s : State) : Result :=
  let port := if header.reflector = 0 then 1 - header.direction else header.direction
  let s1 := if fcsOk then s else s.count (if port = 0 then 0x261001 else 0x261003)
  let good := slots.filter (fun x => (fcsOk || x.valid) && s.on (recK x.address 1))
  whenValid (decide (header.direction < 2) && slots.all (fun x => decide (1 ≤ x.address) && decide (x.address ≤ 32))) s
    (if !s.chainMaster || header.tick != s.tickNo || s.tick.point != .d then s1
     else
       let s2 := { s1 with chain := if header.direction = 0 then { s1.chain with back0 := some header.reflector }
         else { s1.chain with back1 := some header.reflector } }
       s2.takeSlots header.direction good)

/-- A frame that is neither a chain frame nor an IEEE 1588 message is discarded (R203). -/
def execForeignFrameDiscard (port : Nat) (s : State) : Result := whenValid (decide (port < 2)) s s

/-! ## Entries -/

/-- Every nibble of the substitute rules is 0x0 to 0x3 (R220). -/
def rulesOk (v : Nat) : Bool := (List.range 128).all (fun w => decide (v / 16 ^ w % 16 ≤ 3))

/-- Step 8 of R366 for the chain entries (R220, R227, R229). -/
def State.chainCheck (_s : State) (key v : Nat) : Nat :=
  let ix := key / 256
  let sub := key % 256
  if 0x2701 ≤ ix ∧ ix ≤ 0x2720 then
    if sub = 7 then (if rulesOk v then 0 else 0x06090030)
    else if sub = 0x15 ∨ sub = 0x16 then (if v = 0xFFFFFFFF ∨ v % 4 = 0 then 0 else 0x06090030)
    else 0
  else 0

/-- The placement warning of a record (27xx.17). -/
def State.placementWarning (s : State) (k : Nat) : Nat :=
  let beyond (sub size area : Nat) : Bool :=
    s.reg (recK k sub) != 0xFFFFFFFF && decide (s.ioSize area < s.reg (recK k sub) + s.reg (recK k size))
  (if beyond 0x15 2 0 then 1 else 0) + (if beyond 0x16 3 1 then 2 else 0)

/-- The chain entries whose value follows from others (R227, R229). -/
def State.chainView (s : State) (key : Nat) : Option Nat :=
  let ix := key / 256
  if key = 0x260003 then some (stationBits s.stations (fun _ => true))
  else if key = 0x260107 then some s.brokenNs
  else if key = 0x260108 then some (unsigned 32 ((s.reg 0x200003 * 1000 : Nat) - (s.brokenNs : Int) - 2000))
  else if 0x2701 ≤ ix ∧ ix ≤ 0x2720 ∧ key % 256 = 0x17 then some (s.placementWarning (ix - 0x2700))
  else none

end Sys2Proof.Machine
end

