-- ==== Sys2Proof/Machine/Outstation.lean ====
section
/-! DEFINITION. The outstation role, and the forwarding of chain frames by every node (R202, R206 to R208, R211, R212,
R214 to R219, R222 to R226, R228, R480). -/

namespace Sys2Proof.Machine

open Sys2Proof

/-! ## Configuration checksums (R480) -/

/-- The value of an entry as it stands in force (R480 points 3 and 4). -/
def State.valueBytes (s : State) (key : Nat) : List Byte :=
  match entryOf (key / 256) (key % 256) with
  | some x =>
    match x.type.size with
    | some n => leBytes n (s.reg key)
    | none => s.blob key
  | none => []

/-- One covered subindex in the byte string of R480. -/
def State.checksumItem (s : State) (key : Nat) : List Byte :=
  let v := s.valueBytes key
  leBytes 2 (key / 256) ++ leBytes 1 (key % 256) ++ leBytes 1 0 ++ leBytes 4 v.length ++ v

/-- The persisted subindices of an index range, subindex 00 left out (R480 point 1). -/
def persistedKeys (lo hi : Nat) : List Nat :=
  ((List.range (hi + 1 - lo)).filter (fun i => indexExists (lo + i))).flatMap
    (fun i => ((List.range 254).map (fun n => keyOf (lo + i) (n + 1))).filter isPersisted)

/-- The CRC-32C over the persisted values of a list of keys (R480). -/
def State.checksumOf (s : State) (keys : List Nat) : Nat := crc32c (keys.flatMap s.checksumItem)

/-- The configuration checksum of an outstation, 2700.0B (R226). -/
def State.ownChecksum (s : State) : Nat :=
  s.checksumOf ([0x200001] ++ (List.range 9).map (fun n => keyOf 0x2700 (n + 2)) ++ [0x27000C] ++ persistedKeys 0x2800 0x29FF)

/-! ## Maps (R224) -/

/-- An entry of a map. -/
structure MapEntry where
  kind    : Nat
  offset  : Nat
  zero    : Nat
  channel : Nat
  deriving DecidableEq, Repr

/-- The entries of a map. -/
def mapEntries (bs : List Byte) : List MapEntry :=
  (List.range (bs.length / 4)).map (fun i =>
    let w := field bs (4 * i) 4
    ⟨w / 2 ^ 28, w / 2 ^ 16 % 4096, w / 256 % 256, w % 256⟩)

/-- The width of a kind in bits; 0 for a kind not listed. -/
def mapWidth (output : Bool) (kind : Nat) : Nat :=
  match kind with
  | 1 => 1
  | 2 => if output then 32 else 64
  | 3 => if output then 0 else 32
  | 4 => if output then 0 else 16
  | 5 => if output then 0 else 32
  | 6 => if output then 0 else 512
  | _ => 0

/-- The highest channel that a kind may name. -/
def mapLimit (output : Bool) (kind : Nat) : Nat :=
  if kind = 1 then 63 else if (kind = 2 ∧ output) ∨ kind = 3 then 15 else 0

/-- Whether an entry is well formed by itself. -/
def mapEntryOk (output : Bool) (m : MapEntry) : Bool :=
  mapWidth output m.kind != 0 && m.zero == 0 && decide (m.channel ≤ mapLimit output m.kind) &&
    (decide (mapWidth output m.kind < 32) || m.offset % 32 == 0)

/-- Two entries share a bit. -/
def mapOverlap (output : Bool) (a b : MapEntry) : Bool :=
  decide (a.offset < b.offset + mapWidth output b.kind) && decide (b.offset < a.offset + mapWidth output a.kind)

/-- No two entries overlap, and no two output entries name one channel. -/
def mapDistinct (output : Bool) (ms : List MapEntry) : Bool :=
  match ms with
  | [] => true
  | a :: t => t.all (fun b => !mapOverlap output a b && !(output && a.kind == b.kind && a.channel == b.channel)) &&
    mapDistinct output t

/-- The abort code of a map write, 0 where it is accepted (R224): a value rule, or one that depends on other entries. -/
def State.mapCheck (s : State) (output : Bool) (bs : List Byte) : Nat :=
  let ms := mapEntries bs
  if bs.length % 4 ≠ 0 ∨ 512 < bs.length then 0x06070010
  else if !ms.all (mapEntryOk output) || !mapDistinct output ms then 0x06090030
  else if ms.all (fun m => decide (m.offset + mapWidth output m.kind ≤ 8 * s.reg (if output then 0x270006 else 0x270005)) &&
      (!output || (if m.kind = 1 then s.isOutput m.channel else s.reg (ach m.channel 1) == 3))) then 0
  else 0x06040043

/-- Any digital diagnostic is active (R242). -/
def State.digitalDiag (s : State) : Bool := (List.range 64).any s.chanDiag

/-- Any analog diagnostic is active (R268). -/
def State.analogDiag (s : State) : Bool := (List.range 16).any (fun n => s.reg (ach n 8) &&& 0xEF != 0)

/-- The SOE block of an outstation payload (R225). -/
def State.soePayload (s : State) : Nat :=
  let es := s.dig.imageEdges.take 10
  leNat (leBytes 1 es.length ++ leBytes 1 (min (s.dig.imageEdges.length - es.length) 255) ++ leBytes 2 0 ++
    es.flatMap (fun e => leBytes 1 (e.channel + (if e.rising then 128 else 0)) ++ leBytes 1 0 ++
      leBytes 4 (e.stampNs - s.dig.imageBaseNs)))

/-- The value of an input map entry (R224). -/
def State.mapInput (s : State) (m : MapEntry) : Nat :=
  match m.kind with
  | 1 => if s.tick.latchedDigital.testBit m.channel then 1 else 0
  | 2 => s.tick.latchedValid
  | 3 => (s.tick.latchedAnalog.getD m.channel 0).toNat
  | 4 => (List.range 16).foldl (fun v n => if s.anaValid n then v + 2 ^ n else v) 0
  | 5 => (if s.digitalDiag then 1 else 0) + (if s.analogDiag then 2 else 0) +
      (List.range 8).foldl (fun v k => if s.sliceLow k then v else v + 2 ^ (8 + k)) 0
  | _ => s.soePayload

/-- The input payload latched at a datum edge; unmapped bits are 0 (R224). -/
def State.formPayload (s : State) : List Byte :=
  leBytes (s.reg 0x270005)
    ((mapEntries (s.blob 0x270003)).foldl (fun v m => v ||| (s.mapInput m <<< m.offset)) 0)

/-- The outputs that a payload carries; unmapped channels stay off (R224). -/
def State.mapOutputs (s : State) (value : MapEntry → Nat) : OutputSet :=
  let ms := mapEntries (s.blob 0x270004)
  { digital := ms.foldl (fun v m => if m.kind = 1 ∧ value m % 2 = 1 then v ||| 2 ^ m.channel else v) 0
    analog := (List.range 16).map (fun n =>
      match ms.find? (fun m => m.kind == 2 && m.channel == n) with
      | some m => BitVec.ofNat 32 (value m)
      | none => 0) }

/-- The outputs of a staked payload. -/
def State.payloadOutputs (s : State) (bs : List Byte) : OutputSet :=
  let v := leNat bs
  s.mapOutputs (fun m => (v >>> m.offset) % 2 ^ mapWidth true m.kind)

/-- The substitute values of 2700.07 and 2700.08 on every mapped output (R218). -/
def State.substituteOutputs (s : State) : OutputSet :=
  s.mapOutputs (fun m => if m.kind = 1 then s.reg 0x270007 / 2 ^ m.channel
    else s.reg 0x270008 / 2 ^ (32 * m.channel) % 2 ^ 32)

/-! ## Release (R216 to R219) -/

/-- 2700.10 with its cause (R388 group 6 bit 4). -/
def State.setOwnLink (s : State) (v : Nat) : State :=
  if s.reg 0x270010 = v then s else (s.setReg 0x270010 v).setCause 6 4

/-- Sets what the local outputs are released as. -/
def State.releaseSet (s : State) (o : OutputSet) : State :=
  { s with tick := { s.tick with prevReleased := s.tick.released, released := o } }

/-- Every output is off: digital outputs off, analog outputs at 0 mA (R219, R223). -/
def State.outputsOff (s : State) (cooled : Nat) : State :=
  if s.tick.released.digital = 0 && s.tick.released.analog.all (fun w => w == 0) then s.markHeld
  else ((s.releaseSet { tick := s.tick.released.tick, analog := List.replicate 16 0 }).releaseStages cooled).releaseAnalog
    s.tick.released.analog

/-- Chain time meets the synchronisation condition of R214: locked, and the last offset within 2700.0A. -/
def State.chainSynced (s : State) : Bool :=
  s.reg 0x2A0101 == 2 && decide ((s.regI 0x2A0103).natAbs ≤ s.reg 0x27000A)

/-- The hold limit is reached: EXPIRED, UNLINKED, and substitute values if there was ever a release (R218, R219). -/
def State.holdLimitExpiry (s : State) : State :=
  if s.ost.accepted && !s.ost.expired && decide (s.reg 0x270002 ≤ s.reg 0x270017) then
    let s1 := (((s.count 0x270018).setCause 6 3).setOwnLink 0)
    let s2 := { s1 with ost := { s1.ost with expired := true, carry := withBit s1.ost.carry 2 true } }
    if s2.ost.releasedOnce then { s2 with ost := { s2.ost with subst := true } }.releaseSet s2.substituteOutputs else s2
  else s

/-- The verdict on the stake of the tick that this edge ends (R216, R217): the payload and tick to release, and
whether a stake was refused. -/
def State.stakeVerdict (s : State) : Option (Nat × Nat × List Byte) × Bool :=
  let due := s.ost.tokens.filter (fun t => decide (t.nextNs ≤ s.tick.datumNs))
  let last := due.foldl (fun n t => max n t.tick) 0
  match due.filter (fun t => t.tick == last) with
  | [t] =>
    let x := Sparse.get ({} : StakeRx) s.ost.stakes t.unit
    if t.late then (none, false)
    else match if x.tick = t.tick then x.copies.find? (fun c => c.1 == t.check) else none with
      | none => (none, true)
      | some c => if t.mask.testBit (s.reg 0x270001 - 1) then (some (t.unit, t.tick, c.2), false) else (none, false)
  | _ => (none, false)

/-- Stakes whose edge has come without a release count in 2700.1A (R217). -/
def State.retireStakes (s : State) : State :=
  s.each s.ost.stakes (fun t c =>
    if !c.2.done && decide (c.2.nextNs ≤ t.tick.datumNs) then
      { t.count 0x27001A with ost := { t.ost with stakes := Sparse.set {} t.ost.stakes c.1 { c.2 with done := true } } }
    else t)

/-- The status of R207 as formed at a datum edge: what its edges reported, and the conditions of the edge. -/
def State.formStatus (s : State) (synced rejected : Bool) : State :=
  let kept := (if s.ost.inserted then 0 else s.ost.status &&& 6) ||| s.ost.carry
  let v := withBit (withBit (withBit (withBit kept 0 synced) 4 s.ost.subst) 6 (s.digitalDiag || s.analogDiag)) 7 rejected
  { s with ost := { s.ost with status := v, carry := 0, inserted := false } }

/-- The datum edge of an outstation, after its inputs were latched (R207, R211, R216 to R219). `cooled` names the
stages whose junction has cooled. -/
def State.outstationEdge (s : State) (cooled : Nat) : State :=
  let synced := s.chainSynced
  let s0 := { s with ost := { s.ost with payload := s.formPayload, dir0Was := s.ost.dir0Now, dir0Now := false } }
  let s1 := if s.mode = stBench then { s0 with ost := { s0.ost with tokens := [] } } else s0
  let v := s1.stakeVerdict
  let s2 := { s1 with ost := { s1.ost with tokens := s1.ost.tokens.filter (fun t => decide (s1.tick.datumNs < t.nextNs)) } }
  let s3 := if s2.mode = stBench then s2.outputsOff cooled else match v.1 with
    | some (unit, tick, payload) =>
      let x := Sparse.get ({} : StakeRx) s2.ost.stakes unit
      let t := { s2 with ost := { s2.ost with
        stakes := Sparse.set {} s2.ost.stakes unit { x with done := true }
        releasedOnce := true, expired := false, subst := false } }
      let u := (((t.setReg 0x270016 tick).setReg 0x270017 0).setOwnLink 1).releaseSet (t.payloadOutputs payload)
      (u.releaseStages cooled).releaseAnalog s2.tick.released.analog
    | none =>
      let t := if s2.ost.accepted then (s2.count 0x270017).holdLimitExpiry else s2
      if t.ost.subst then (t.releaseStages cooled).releaseAnalog s2.tick.released.analog
      else if t.ost.releasedOnce then t.holdStages cooled else t.outputsOff cooled
  s3.retireStakes.formStatus synced v.2

/-! ## Frames -/

/-- The outstation accepts a chain frame (R215). -/
def State.acceptsFrame (s : State) (h : ChainHeader) : Bool :=
  s.outstation && s.mode == stStopped && h.headerOk && h.version == 1 && h.station == s.reg 0x27000C && h.station != 0

/-- The node forwards chain frames: an outstation not in BENCHMARK, or the partner controller of a pair (R200, R222, R223).
-/
def State.forwards (s : State) : Bool :=
  s.running && (if s.outstation then s.mode != stBench else s.inPair && !s.active)

/-- The link of a chain port is up. -/
def State.portUp (s : State) (port : Nat) : Bool := s.on (if port = 0 then 0x260102 else 0x260103)

/-- The node's address in a path word: its own, or 0xFE for a controller (R212). -/
def State.nodeAddress (s : State) : Nat := if s.outstation then s.reg 0x270001 else 0xFE

/-- Where a frame goes on and what its path word becomes (R205, R211, R212): every frame is reflected where the onward port
is down; a return pass is otherwise forwarded without change, and a first pass counts its hop. -/
def State.passHeader (s : State) (port : Nat) (h : ChainHeader) : Nat × ChainHeader :=
  if !s.portUp (1 - port) then (port, { h with hops := min (h.hops + 1) 255, reflector := s.nodeAddress })
  else if h.reflector ≠ 0 then (1 - port, h)
  else (1 - port, { h with hops := min (h.hops + 1) 255 })

/-- Reflections count in an outstation (2700.1B). -/
def State.countReflection (s : State) (port : Nat) : State :=
  if s.outstation && !s.portUp (1 - port) then s.count 0x27001B else s

/-- The slot as the outstation fills it (R206, R207). -/
def State.fillSlot (s : State) (h : ChainHeader) (x : Slot) : Slot :=
  let fits := x.length == s.reg 0x270005
  let st := withBit (withBit (withBit s.ost.status 3 (h.period != s.reg 0x200001)) 5 (!fits)) 8 (x.state != 0)
  { x with state := if s.on 0x270010 then 1 else 2, status := st, hop := min (h.hops + 1) 255
           checksum := s.ownChecksum, payload := if fits then s.ost.payload else x.payload, valid := true }

/-- STEPPED and STRETCHED of the frame stand for the tick of the outstation too, once whichever direction brings them; a
stretched tick counts (R30, R215). -/
def State.takeFlags (s : State) (h : ChainHeader) : State :=
  let stretch := h.flags.testBit 2 && !s.tick.stretched
  let s1 := if stretch then ((s.count 0x200105).count 0x202007).setCause 2 1 else s
  { s1 with tick := { s1.tick with
    stepped := s1.tick.stepped || h.flags.testBit 1, stretched := s1.tick.stretched || h.flags.testBit 2 } }

/-- What the accepted header sets in an outstation: the coming datum edge, and a step of chain time to the frame's
datum time (R215, R219). -/
def State.takeHeader (s : State) (h : ChainHeader) : State :=
  let s0 := s.takeFlags h
  let s1 := if h.flags.testBit 1 then
      { s0 with tick := { s0.tick with datumNs := h.datumNs, nowNs := s0.tick.nowNs + h.datumNs - s0.tick.datumNs }
                time := { s0.time with ppsSecond := (s0.tick.nowNs + h.datumNs - s0.tick.datumNs) / 1000000000 } } else s0
  { s1 with tick := { s1.tick with nextNs := if s1.tick.datumNs < h.nextNs then h.nextNs else s1.tick.nextNs }
            ost := { s1.ost with accepted := true } }

/-- A partner controller reads the chain frames of its station for its diagnostic entries (R222). -/
def State.readsFrame (s : State) (h : ChainHeader) : Bool :=
  !s.outstation && s.chainRuns && h.headerOk && h.version == 1 && h.station == s.reg 0x260002 && h.tick == s.tickNo

/-- The slots that a forwarded traverse frame brings to a partner controller. -/
def State.readSlots (s : State) (h : ChainHeader) (slots : List Slot) : State :=
  if s.readsFrame h then s.takeSlots h.direction (slots.filter (fun x => x.valid && s.on (recK x.address 1))) else s

/-- The token that a partner controller forwards (R222). -/
def State.readToken (s : State) (h : ChainHeader) (body : List Byte) : State :=
  if s.readsFrame h && body.length == 12 && crc32c (body.take 8) == field body 8 4 then
    { s with chain := { s.chain with seen := some (h.tick, field body 4 4) } }
  else s

/-- A traverse frame arrives at a node on `port` (R206, R211, R212, R215). -/
def execTraverseFrame (port : Nat) (header : ChainHeader) (slots : List Slot) (s : State) : Result :=
  whenValid (decide (port < 2)) s
    (if !s.forwards then s
     else
       let (out, h) := s.passHeader port header
       if header.reflector ≠ 0 ∨ !s.acceptsFrame header then
         ((s.readSlots header slots).countReflection port).emit (.forwardTraverse out h slots)
       else
         let s0 := { s with ost := { s.ost with
           dir0Port := if header.direction = 0 then port else 1 - port, dir0Now := s.ost.dir0Now || header.direction == 0 } }
         let s1 := s0.takeHeader header
         let mine := slots.any (fun x => x.address == s1.reg 0x270001)
         let s2 := if mine then { s1 with ost := { s1.ost with inserted := true } } else s1
         (s2.countReflection port).emit
           (.forwardTraverse out h (slots.map (fun x => if x.address = s1.reg 0x270001 then s1.fillSlot header x else x))))

/-- The slot of an address in a stake frame body, if its CRC is valid (R208). -/
def findStake (n : Nat) (address : Nat) (bs : List Byte) : Option (List Byte) :=
  match n with
  | 0 => none
  | n + 1 =>
    let len := field bs 2 2
    let stop := 4 + (len + 3) / 4 * 4
    if bs.length < stop + 4 then none
    else if field bs 0 1 = address then
      if crc32c (bs.take stop) = field bs stop 4 then some ((bs.drop 4).take len) else none
    else findStake n address (bs.drop (stop + 4))

/-- The stake enters the record of its source unit (R217). The copy of the other direction is the same stake. -/
def State.keepStake (s : State) (h : ChainHeader) (body : List Byte) : State :=
  let slot := findStake 33 (s.reg 0x270001) body
  let old := Sparse.get ({} : StakeRx) s.ost.stakes h.source
  let same := old.tick == h.tick && !(old.done && old.copies.isEmpty)
  let add := match slot with
    | some p => [(crc32c body, p)]
    | none => []
  let s1 := if same || old.done then s else s.count 0x27001A
  let new : StakeRx := if same then { old with copies := old.copies ++ add.filter (fun c => !old.copies.any (fun d => d.1 == c.1)) }
    else { tick := h.tick, nextNs := h.nextNs, copies := add, done := add.isEmpty }
  let s2 := { s1 with ost := { s1.ost with stakes := Sparse.set {} s1.ost.stakes h.source new } }
  match slot with
  | some p => ((s2.setReg 0x270013 h.tick).setReg 0x270014 h.source).setReg 0x270015 (leNat p)
  | none => s2

/-- A stake frame arrives at a node (R208, R212, R217). -/
def execStakeFrame (port : Nat) (header : ChainHeader) (body : List Byte) (s : State) : Result :=
  whenValid (decide (port < 2)) s
    (if !s.forwards then s
     else
       let (out, h) := s.passHeader port header
       let s1 := if header.reflector = 0 ∧ s.acceptsFrame header then s.keepStake header body else s
       (s1.countReflection port).emit (.forwardFrame out h body))

/-- A token with a valid body CRC enters the state; after T_D − 2 µs it is late (R209, R216). -/
def State.keepToken (s : State) (h : ChainHeader) (body : List Byte) (atNs : Nat) : State :=
  if body.length ≠ 12 ∨ crc32c (body.take 8) ≠ field body 8 4 then s
  else if s.ost.tokens.any (fun t => t.tick == h.tick && t.unit == h.source) then s
  else
    let late := decide (h.nextNs < atNs + 2000)
    let s1 := { s with ost := { s.ost with
      tokens := s.ost.tokens ++ [⟨h.source, h.tick, h.nextNs, field body 0 4, field body 4 4, late⟩] } }
    if late then { s1.count 0x270019 with ost := { s1.ost with carry := withBit s1.ost.carry 1 true } } else s1

/-- A token frame arrives at a node (R209, R212, R216). -/
def execTokenFrame (port : Nat) (header : ChainHeader) (body : List Byte) (atNs : Nat) (s : State) : Result :=
  whenValid (decide (port < 2)) s
    (if !s.forwards then s
     else
       let (out, h) := s.passHeader port header
       let s1 := if header.reflector = 0 ∧ s.acceptsFrame header then s.keepToken header body atNs else s.readToken header body
       (s1.countReflection port).emit (.forwardFrame out h body))

/-- The hold limit of an outstation is reached at a release edge (R218). -/
def execHoldLimitExpiry (s : State) : Result := .next (if s.outstation then s.holdLimitExpiry else s)

/-! ## Entries -/

/-- Steps 5, 8 and 9 of R366 for entry 2700: in controller role writes are refused (R224, R228). -/
def State.ownCheck (s : State) (key : Nat) (data : List Byte) : Nat :=
  if key / 256 ≠ 0x2700 then 0
  else if !s.outstation then 0x0F000002
  else if key = 0x270003 then s.mapCheck false data
  else if key = 0x270004 then s.mapCheck true data
  else 0

/-- The values of entry 2700 that follow from others (R214, R226, R228). -/
def State.ownView (s : State) (key : Nat) : Option Nat :=
  if key = 0x27000B then some s.ownChecksum
  else if key = 0x270011 then some (if s.outstation && s.reg 0x2A0101 == 2 then 1 else 0)
  else if key = 0x270012 then some (if s.outstation then s.reg 0x2A0103 else 0)
  else none

end Sys2Proof.Machine
end

