-- ==== Sys2Proof/Machine/ScanCode.lean ====
section
/-! DEFINITION. The encoding of a scan instruction in its 32-bit word, both ways (R50, R51, and the opcodes of R60
to R70). Verification of a program image reads its code section with it (R58, R71). -/

namespace Sys2Proof.Machine

open Sys2Proof

/-- The area and address fields of an instruction word, bits 23 to 0 (R50). -/
def operandField (x : Operand) : Nat := x.area * 2 ^ 20 + x.addr

/-- The word of a scan instruction, or none for a command that no instruction word spells. -/
def scanEncode (i : Instr) : Option Nat :=
  match i with
  | .opNop _ => some (0x00 * 2 ^ 24)
  | .opLd _ x => some (0x01 * 2 ^ 24 + operandField x)
  | .opLdn _ x => some (0x02 * 2 ^ 24 + operandField x)
  | .opAnd _ x => some (0x03 * 2 ^ 24 + operandField x)
  | .opAndn _ x => some (0x04 * 2 ^ 24 + operandField x)
  | .opOr _ x => some (0x05 * 2 ^ 24 + operandField x)
  | .opOrn _ x => some (0x06 * 2 ^ 24 + operandField x)
  | .opXor _ x => some (0x07 * 2 ^ 24 + operandField x)
  | .opXorn _ x => some (0x08 * 2 ^ 24 + operandField x)
  | .opSt _ x _ => some (0x09 * 2 ^ 24 + operandField x)
  | .opStn _ x _ => some (0x0a * 2 ^ 24 + operandField x)
  | .opSet _ x _ => some (0x0b * 2 ^ 24 + operandField x)
  | .opRst _ x _ => some (0x0c * 2 ^ 24 + operandField x)
  | .opNot _ => some (0x0d * 2 ^ 24)
  | .opSeta _ => some (0x0e * 2 ^ 24)
  | .opClra _ => some (0x0f * 2 ^ 24)
  | .opEdp _ x => some (0x10 * 2 ^ 24 + operandField x)
  | .opEdn _ x => some (0x11 * 2 ^ 24 + operandField x)
  | .opLdx _ x => some (0x12 * 2 ^ 24 + operandField x)
  | .opStx _ x _ => some (0x13 * 2 ^ 24 + operandField x)
  | .opPsa _ => some (0x18 * 2 ^ 24)
  | .opPso _ => some (0x19 * 2 ^ 24)
  | .opPsx _ => some (0x1a * 2 ^ 24)
  | .opPsk _ => some (0x1b * 2 ^ 24)
  | .opPop _ => some (0x1c * 2 ^ 24)
  | .opPeek _ => some (0x1d * 2 ^ 24)
  | .opTon _ x => some (0x20 * 2 ^ 24 + operandField x)
  | .opTof _ x => some (0x21 * 2 ^ 24 + operandField x)
  | .opTp _ x => some (0x22 * 2 ^ 24 + operandField x)
  | .opTacc _ x => some (0x23 * 2 ^ 24 + operandField x)
  | .opTrs _ x => some (0x24 * 2 ^ 24 + operandField x)
  | .opCtu _ x => some (0x28 * 2 ^ 24 + operandField x)
  | .opCtd _ x => some (0x29 * 2 ^ 24 + operandField x)
  | .opCrs _ x => some (0x2a * 2 ^ 24 + operandField x)
  | .opCld _ x => some (0x2b * 2 ^ 24 + operandField x)
  | .opJmp _ t => some (0x30 * 2 ^ 24 + t)
  | .opJc _ t => some (0x31 * 2 ^ 24 + t)
  | .opJcn _ t => some (0x32 * 2 ^ 24 + t)
  | .opCall _ t => some (0x33 * 2 ^ 24 + t)
  | .opCallc _ t => some (0x34 * 2 ^ 24 + t)
  | .opRet _ => some (0x35 * 2 ^ 24)
  | .opEnd _ _ => some (0x36 * 2 ^ 24)
  | .opLdf _ x => some (0x38 * 2 ^ 24 + operandField x)
  | .opClf _ x => some (0x39 * 2 ^ 24 + operandField x)
  | .opLdw _ x => some (0x40 * 2 ^ 24 + operandField x)
  | .opLdh _ x => some (0x41 * 2 ^ 24 + operandField x)
  | .opLdhu _ x => some (0x42 * 2 ^ 24 + operandField x)
  | .opLdb _ x => some (0x43 * 2 ^ 24 + operandField x)
  | .opLdbu _ x => some (0x44 * 2 ^ 24 + operandField x)
  | .opLdhi _ x => some (0x45 * 2 ^ 24 + operandField x)
  | .opStw _ x _ => some (0x48 * 2 ^ 24 + operandField x)
  | .opSth _ x _ => some (0x49 * 2 ^ 24 + operandField x)
  | .opStb _ x _ => some (0x4a * 2 ^ 24 + operandField x)
  | .opStwc _ x _ => some (0x4b * 2 ^ 24 + operandField x)
  | .opLdwx _ x => some (0x4c * 2 ^ 24 + operandField x)
  | .opStwx _ x _ => some (0x4d * 2 ^ 24 + operandField x)
  | .opAdd _ => some (0x50 * 2 ^ 24)
  | .opSub _ => some (0x51 * 2 ^ 24)
  | .opMul _ => some (0x52 * 2 ^ 24)
  | .opDiv _ => some (0x53 * 2 ^ 24)
  | .opMod _ => some (0x54 * 2 ^ 24)
  | .opNeg _ => some (0x55 * 2 ^ 24)
  | .opAbs _ => some (0x56 * 2 ^ 24)
  | .opMin _ => some (0x57 * 2 ^ 24)
  | .opMax _ => some (0x58 * 2 ^ 24)
  | .opAddu _ => some (0x59 * 2 ^ 24)
  | .opSubu _ => some (0x5a * 2 ^ 24)
  | .opAw _ => some (0x60 * 2 ^ 24)
  | .opOw _ => some (0x61 * 2 ^ 24)
  | .opXw _ => some (0x62 * 2 ^ 24)
  | .opInvw _ => some (0x63 * 2 ^ 24)
  | .opShl _ x => some (0x64 * 2 ^ 24 + operandField x)
  | .opShr _ x => some (0x65 * 2 ^ 24 + operandField x)
  | .opSar _ x => some (0x66 * 2 ^ 24 + operandField x)
  | .opRol _ x => some (0x67 * 2 ^ 24 + operandField x)
  | .opEq _ => some (0x68 * 2 ^ 24)
  | .opNe _ => some (0x69 * 2 ^ 24)
  | .opGt _ => some (0x6a * 2 ^ 24)
  | .opGe _ => some (0x6b * 2 ^ 24)
  | .opLt _ => some (0x6c * 2 ^ 24)
  | .opLe _ => some (0x6d * 2 ^ 24)
  | .opGtu _ => some (0x6e * 2 ^ 24)
  | .opLtu _ => some (0x6f * 2 ^ 24)
  | .opFadd _ => some (0x70 * 2 ^ 24)
  | .opFsub _ => some (0x71 * 2 ^ 24)
  | .opFmul _ => some (0x72 * 2 ^ 24)
  | .opFdiv _ => some (0x73 * 2 ^ 24)
  | .opFneg _ => some (0x74 * 2 ^ 24)
  | .opFabs _ => some (0x75 * 2 ^ 24)
  | .opFsqrt _ => some (0x76 * 2 ^ 24)
  | .opFeq _ => some (0x78 * 2 ^ 24)
  | .opFne _ => some (0x79 * 2 ^ 24)
  | .opFgt _ => some (0x7a * 2 ^ 24)
  | .opFge _ => some (0x7b * 2 ^ 24)
  | .opFlt _ => some (0x7c * 2 ^ 24)
  | .opFle _ => some (0x7d * 2 ^ 24)
  | .opItf _ => some (0x80 * 2 ^ 24)
  | .opFti _ => some (0x81 * 2 ^ 24)
  | .opFtit _ => some (0x82 * 2 ^ 24)
  | .opSat16 _ => some (0x83 * 2 ^ 24)
  | .opSatu16 _ => some (0x84 * 2 ^ 24)
  | .opSext16 _ => some (0x85 * 2 ^ 24)
  | .opSwp _ => some (0x88 * 2 ^ 24)
  | .opDup _ => some (0x89 * 2 ^ 24)
  | .opTstw _ => some (0x8c * 2 ^ 24)
  | .opLda _ => some (0x8d * 2 ^ 24)
  | _ => none

/-- The scan instruction that a word spells for an engine pair, or none where a static rule of R50 to R54 or R71
refuses it. -/
def scanDecode (p w : Nat) : Option Instr :=
  let x : Operand := ⟨w / 2 ^ 20 % 16, w % 2 ^ 20⟩
  let t := w % 2 ^ 24
  match w / 2 ^ 24 with
  | 0x00 => if t = 0 then some (.opNop p) else none
  | 0x01 => if bitReadOk x then some (.opLd p x) else none
  | 0x02 => if bitReadOk x then some (.opLdn p x) else none
  | 0x03 => if bitReadOk x then some (.opAnd p x) else none
  | 0x04 => if bitReadOk x then some (.opAndn p x) else none
  | 0x05 => if bitReadOk x then some (.opOr p x) else none
  | 0x06 => if bitReadOk x then some (.opOrn p x) else none
  | 0x07 => if bitReadOk x then some (.opXor p x) else none
  | 0x08 => if bitReadOk x then some (.opXorn p x) else none
  | 0x09 => if bitWriteOk x then some (.opSt p x true) else none
  | 0x0a => if bitWriteOk x then some (.opStn p x true) else none
  | 0x0b => if bitWriteOk x then some (.opSet p x true) else none
  | 0x0c => if bitWriteOk x then some (.opRst p x true) else none
  | 0x0d => if t = 0 then some (.opNot p) else none
  | 0x0e => if t = 0 then some (.opSeta p) else none
  | 0x0f => if t = 0 then some (.opClra p) else none
  | 0x10 => if edgeOk x then some (.opEdp p x) else none
  | 0x11 => if edgeOk x then some (.opEdn p x) else none
  | 0x12 => if bitIndexReadOk x then some (.opLdx p x) else none
  | 0x13 => if bitWriteOk x then some (.opStx p x true) else none
  | 0x18 => if t = 0 then some (.opPsa p) else none
  | 0x19 => if t = 0 then some (.opPso p) else none
  | 0x1a => if t = 0 then some (.opPsx p) else none
  | 0x1b => if t = 0 then some (.opPsk p) else none
  | 0x1c => if t = 0 then some (.opPop p) else none
  | 0x1d => if t = 0 then some (.opPeek p) else none
  | 0x20 => if timerOk x then some (.opTon p x) else none
  | 0x21 => if timerOk x then some (.opTof p x) else none
  | 0x22 => if timerOk x then some (.opTp p x) else none
  | 0x23 => if timerOk x then some (.opTacc p x) else none
  | 0x24 => if timerOk x then some (.opTrs p x) else none
  | 0x28 => if counterOk x then some (.opCtu p x) else none
  | 0x29 => if counterOk x then some (.opCtd p x) else none
  | 0x2a => if counterOk x then some (.opCrs p x) else none
  | 0x2b => if counterOk x then some (.opCld p x) else none
  | 0x30 => if targetOk t then some (.opJmp p t) else none
  | 0x31 => if targetOk t then some (.opJc p t) else none
  | 0x32 => if targetOk t then some (.opJcn p t) else none
  | 0x33 => if targetOk t then some (.opCall p t) else none
  | 0x34 => if targetOk t then some (.opCallc p t) else none
  | 0x35 => if t = 0 then some (.opRet p) else none
  | 0x36 => if t = 0 then some (.opEnd p true) else none
  | 0x38 => if immediateOk 3 x then some (.opLdf p x) else none
  | 0x39 => if immediateOk 8 x then some (.opClf p x) else none
  | 0x40 => if wordReadOk x then some (.opLdw p x) else none
  | 0x41 => if partReadOk 2 x then some (.opLdh p x) else none
  | 0x42 => if partReadOk 2 x then some (.opLdhu p x) else none
  | 0x43 => if partReadOk 1 x then some (.opLdb p x) else none
  | 0x44 => if partReadOk 1 x then some (.opLdbu p x) else none
  | 0x45 => if immediateOk 4096 x then some (.opLdhi p x) else none
  | 0x48 => if wordWriteOk x then some (.opStw p x true) else none
  | 0x49 => if partWriteOk 2 x then some (.opSth p x true) else none
  | 0x4a => if partWriteOk 1 x then some (.opStb p x true) else none
  | 0x4b => if condWriteOk x then some (.opStwc p x true) else none
  | 0x4c => if wordIndexReadOk x then some (.opLdwx p x) else none
  | 0x4d => if partWriteOk 4 x then some (.opStwx p x true) else none
  | 0x50 => if t = 0 then some (.opAdd p) else none
  | 0x51 => if t = 0 then some (.opSub p) else none
  | 0x52 => if t = 0 then some (.opMul p) else none
  | 0x53 => if t = 0 then some (.opDiv p) else none
  | 0x54 => if t = 0 then some (.opMod p) else none
  | 0x55 => if t = 0 then some (.opNeg p) else none
  | 0x56 => if t = 0 then some (.opAbs p) else none
  | 0x57 => if t = 0 then some (.opMin p) else none
  | 0x58 => if t = 0 then some (.opMax p) else none
  | 0x59 => if t = 0 then some (.opAddu p) else none
  | 0x5a => if t = 0 then some (.opSubu p) else none
  | 0x60 => if t = 0 then some (.opAw p) else none
  | 0x61 => if t = 0 then some (.opOw p) else none
  | 0x62 => if t = 0 then some (.opXw p) else none
  | 0x63 => if t = 0 then some (.opInvw p) else none
  | 0x64 => if immediateOk 32 x then some (.opShl p x) else none
  | 0x65 => if immediateOk 32 x then some (.opShr p x) else none
  | 0x66 => if immediateOk 32 x then some (.opSar p x) else none
  | 0x67 => if immediateOk 32 x then some (.opRol p x) else none
  | 0x68 => if t = 0 then some (.opEq p) else none
  | 0x69 => if t = 0 then some (.opNe p) else none
  | 0x6a => if t = 0 then some (.opGt p) else none
  | 0x6b => if t = 0 then some (.opGe p) else none
  | 0x6c => if t = 0 then some (.opLt p) else none
  | 0x6d => if t = 0 then some (.opLe p) else none
  | 0x6e => if t = 0 then some (.opGtu p) else none
  | 0x6f => if t = 0 then some (.opLtu p) else none
  | 0x70 => if t = 0 then some (.opFadd p) else none
  | 0x71 => if t = 0 then some (.opFsub p) else none
  | 0x72 => if t = 0 then some (.opFmul p) else none
  | 0x73 => if t = 0 then some (.opFdiv p) else none
  | 0x74 => if t = 0 then some (.opFneg p) else none
  | 0x75 => if t = 0 then some (.opFabs p) else none
  | 0x76 => if t = 0 then some (.opFsqrt p) else none
  | 0x78 => if t = 0 then some (.opFeq p) else none
  | 0x79 => if t = 0 then some (.opFne p) else none
  | 0x7a => if t = 0 then some (.opFgt p) else none
  | 0x7b => if t = 0 then some (.opFge p) else none
  | 0x7c => if t = 0 then some (.opFlt p) else none
  | 0x7d => if t = 0 then some (.opFle p) else none
  | 0x80 => if t = 0 then some (.opItf p) else none
  | 0x81 => if t = 0 then some (.opFti p) else none
  | 0x82 => if t = 0 then some (.opFtit p) else none
  | 0x83 => if t = 0 then some (.opSat16 p) else none
  | 0x84 => if t = 0 then some (.opSatu16 p) else none
  | 0x85 => if t = 0 then some (.opSext16 p) else none
  | 0x88 => if t = 0 then some (.opSwp p) else none
  | 0x89 => if t = 0 then some (.opDup p) else none
  | 0x8c => if t = 0 then some (.opTstw p) else none
  | 0x8d => if t = 0 then some (.opLda p) else none
  | _ => none

/-- An instruction as its word spells it: the word says nothing of the checking engine. -/
def agreed (i : Instr) : Instr :=
  match i with
  | .opSt p x _ => .opSt p x true
  | .opStn p x _ => .opStn p x true
  | .opSet p x _ => .opSet p x true
  | .opRst p x _ => .opRst p x true
  | .opStx p x _ => .opStx p x true
  | .opEnd p _ => .opEnd p true
  | .opStw p x _ => .opStw p x true
  | .opSth p x _ => .opSth p x true
  | .opStb p x _ => .opStb p x true
  | .opStwc p x _ => .opStwc p x true
  | .opStwx p x _ => .opStwx p x true
  | i => i

end Sys2Proof.Machine
end

