-- ==== Sys2Proof/Machine/CodeCheck.lean ====
section
/-! DEFINITION. The static rules on the code of an image (R58, R71): verdict 0x06 with the instruction index. -/

namespace Sys2Proof.Machine

open Sys2Proof

/-- The operand of a scan instruction, where its word codes one. -/
def scanOperand (w : Nat) : Operand := ⟨w / 2 ^ 20 % 16, w % 2 ^ 20⟩

/-- The opcode of a word (R50). -/
def opcodeOf (w : Nat) : Nat := w / 2 ^ 24

/-- What control does after an instruction. -/
inductive Flow where
  | next
  | jump (t : Nat)
  | branch (t : Nat)
  | call (t : Nat)
  | ret
  | stop
  deriving DecidableEq, Repr

/-- The control flow of a word (R64). CALL and CALLC both continue at the following index in their own frame. -/
def flowOf (w : Nat) : Flow :=
  let t := w % 2 ^ 24
  match opcodeOf w with
  | 0x30 => .jump t
  | 0x31 | 0x32 => .branch t
  | 0x33 | 0x34 => .call t
  | 0x35 => .ret
  | 0x36 => .stop
  | _ => .next

/-- The indices control can reach next within the frame of the instruction at `i`. -/
def successors (i w : Nat) : List Nat :=
  match flowOf w with
  | .jump t => [t]
  | .branch t => [t, i + 1]
  | .ret | .stop => []
  | _ => [i + 1]

/-- The branch-stack depth after a word at depth `d`, or none where rule 5 forbids the word there. -/
def depthAfter (d w : Nat) : Option Nat :=
  match opcodeOf w with
  | 0x18 | 0x19 | 0x1A | 0x1B => if d ≤ 15 then some (d + 1) else none
  | 0x1C => if 1 ≤ d then some (d - 1) else none
  | 0x1D => if 1 ≤ d then some d else none
  | 0x33 | 0x34 | 0x35 | 0x36 => if d = 0 then some d else none
  | _ => some d

/-- The bytes a direct access covers: bit instructions one byte, LDH, LDHU and STH two, LDB, LDBU and STB one,
other word instructions four. -/
def accessWidth (w : Nat) : Nat :=
  match opcodeOf w with
  | 0x41 | 0x42 | 0x49 => 2
  | 0x43 | 0x44 | 0x4A => 1
  | 0x40 | 0x48 | 0x4B | 0x4C | 0x4D => 4
  | _ => 0

/-- Whether the operand of a word lies within the areas an image declares, with `l` for the size of area L
(R58 rule 2). -/
def operandInside (m : Image) (l w : Nat) : Bool :=
  let x := scanOperand w
  let size := match x.area with
    | 0 => m.iSize
    | 1 => m.qSize
    | 2 => m.mSize
    | 3 => m.dSize
    | 4 => l
    | _ => 0
  match flowOf w with
  | .jump _ | .branch _ | .call _ => true
  | _ =>
    match x.area with
    | 5 => decide (x.addr / 4 < m.timers)
    | 6 => decide (x.addr / 4 < m.counters)
    | 7 => decide (x.addr < m.edgeBits)
    | 0 | 1 | 2 | 3 | 4 =>
      if opcodeOf w < 0x10 ∨ opcodeOf w = 0x12 ∨ opcodeOf w = 0x13
      then decide (x.addr / 8 < size)
      else accessWidth w == 0 || decide (x.addr + accessWidth w ≤ size)
    | _ => true

/-- Whether an opcode is implied: its area and address are 0 and name nothing (R50). -/
def impliedOpcode (n : Nat) : Bool :=
  [0x00, 0x0D, 0x0E, 0x0F, 0x35, 0x36].contains n || (decide (0x18 ≤ n) && decide (n ≤ 0x1D)) ||
    (decide (0x50 ≤ n) && !(decide (0x64 ≤ n) && decide (n ≤ 0x67)))

/-- Rules 1 to 3, and the area sizes with the largest L size (R58). -/
def staticOk (m : Image) (w : Nat) : Bool :=
  let l := (m.tasks.map (fun t => t.lSize)).foldl max 0
  (scanDecode 0 w).isSome && (impliedOpcode (opcodeOf w) || operandInside m l w)

/-- The first index of a list of words that fails a test. -/
def firstBad (f : Nat → Bool) (i : Nat) (ws : List Nat) : Option Nat :=
  match ws with
  | [] => none
  | w :: t => if f w then firstBad f (i + 1) t else some i

/-- Walks the frame that starts at the head of `work`: index and depth. Answers the indices with their depths, or
the index that breaks rule 4, 5 or 6 (`sub` says that RET may be reached). -/
def walk (code : List Nat) (sub : Bool) : Nat → List (Nat × Nat) → Sparse Nat → Except Nat (Sparse Nat)
  | 0, _, seen => .ok seen
  | _ + 1, [], seen => .ok seen
  | n + 1, (i, d) :: work, seen =>
    match code[i]? with
    | none => .error i
    | some w =>
      match seen.lookup i with
      | some d' => if d = d' then walk code sub n work seen else .error i
      | none =>
        match depthAfter d w with
        | none => .error i
        | some d2 =>
          if flowOf w = .ret ∧ !sub then .error i
          else if (successors i w).any (fun j => decide (code.length ≤ j)) then .error i
          else walk code sub n ((successors i w).map (fun j => (j, d2)) ++ work) (Sparse.insert seen i d)

/-- The calls made from a set of indices: call site and target. -/
def callsFrom (code : List Nat) (seen : Sparse Nat) : List (Nat × Nat) :=
  seen.filterMap (fun c => match flowOf (code.getD c.1 0) with
    | .call t => some (c.1, t)
    | _ => none)

/-- A frame of the code: its entry, whether it is a subroutine, its indices with depths. -/
structure Frame where
  entry : Nat
  sub   : Bool
  body  : Sparse Nat
  deriving DecidableEq, Repr

/-- The frames of an image: those of the tasks first, then every subroutine that is called, each once; the entry of a task
may be called too. -/
def frames (code : List Nat) : Nat → List (Nat × Bool) → List Frame → Except Nat (List Frame)
  | 0, _, fs => .ok fs
  | _ + 1, [], fs => .ok fs
  | n + 1, (e, sub) :: work, fs =>
    match fs.find? (fun f => f.entry == e && f.sub == sub) with
    | some _ => frames code n work fs
    | none =>
      match walk code sub (3 * code.length + 3) [(e, 0)] [] with
      | .error i => .error i
      | .ok body =>
        frames code n (work ++ (callsFrom code body).map (fun c => (c.2, true))) (fs ++ [⟨e, sub, body⟩])

/-- An index that two frames reach at different depths (rule 5). Code that several frames reach is the code of each
(rule 4). -/
def clash (fs : List Frame) : Option Nat :=
  fs.findSome? (fun f => fs.findSome? (fun g =>
    if f.entry = g.entry then none
    else f.body.findSome? (fun c =>
      match g.body.lookup c.1 with
      | some d => if d != c.2 then some c.1 else none
      | none => none)))

/-- The call depth below a frame, with `n` calls of fuel; none where it exceeds the fuel (rule 6: a cycle, or more
than 8). -/
def callDepth (code : List Nat) (fs : List Frame) : Nat → Nat → Option Nat
  | 0, _ => none
  | n + 1, e =>
    match fs.find? (fun f => f.entry == e) with
    | none => some 0
    | some f => (callsFrom code f.body).foldl
        (fun a c => match a, callDepth code fs n c.2 with
          | some x, some y => some (max x (y + 1))
          | _, _ => none) (some 0)

/-- One round of rule 7: an index is good if it ends the frame or leads to a good one. -/
def goodRound (code : List Nat) (body : Sparse Nat) (good : List Nat) : List Nat :=
  (body.filter (fun c => (successors c.1 (code.getD c.1 0)).isEmpty ||
    (successors c.1 (code.getD c.1 0)).any (fun j => good.contains j))).map (fun c => c.1)

/-- The rounds of rule 7. -/
def goodSet (code : List Nat) (body : Sparse Nat) : Nat → List Nat → List Nat
  | 0, good => good
  | n + 1, good => goodSet code body n (goodRound code body good)

/-- The first index of a frame from which no path leads to END or RET (rule 7). -/
def trapped (code : List Nat) (f : Frame) : Option Nat :=
  let good := goodSet code f.body f.body.length []
  (f.body.find? (fun c => !good.contains c.1)).map (fun c => c.1)

/-- The entries a task reaches: its own frame and every subroutine below it, at most 8 calls deep. -/
def reached (code : List Nat) (fs : List Frame) : Nat → List Nat → List Nat
  | 0, es => es
  | n + 1, es =>
    reached code fs n ((es ++ es.flatMap (fun e => match fs.find? (fun f => f.entry == e) with
      | some f => (callsFrom code f.body).map (fun c => c.2)
      | none => [])).eraseDups)

/-- The indices a task can reach. -/
def taskIndices (code : List Nat) (fs : List Frame) (t : TaskDesc) : List Nat :=
  (reached code fs 8 [t.entry]).flatMap (fun e => match fs.find? (fun f => f.entry == e) with
    | some f => f.body.map (fun c => c.1)
    | none => [])

/-- The kind of a timer instruction that has one (rule 8; TRS has none). -/
def timerUse (w : Nat) : Option (Nat × Nat) :=
  if 0x20 ≤ opcodeOf w ∧ opcodeOf w ≤ 0x23 then some ((scanOperand w).addr / 4, opcodeOf w) else none

/-- The first index whose timer an earlier index uses with another kind (rule 8). -/
def timerClash (i : Nat) (ws : List Nat) (used : List (Nat × Nat)) : Option Nat :=
  match ws with
  | [] => none
  | w :: t =>
    match timerUse w with
    | none => timerClash (i + 1) t used
    | some (n, k) =>
      match used.lookup n with
      | some k' => if k = k' then timerClash (i + 1) t used else some i
      | none => timerClash (i + 1) t ((n, k) :: used)

/-- The bytes of Q that a direct store covers (rule 9). -/
def directQ (w : Nat) : List Nat :=
  let x := scanOperand w
  if x.area ≠ 1 then []
  else match opcodeOf w with
    | 0x09 | 0x0A | 0x0B | 0x0C => [x.addr / 8]
    | 0x48 | 0x4B => [x.addr, x.addr + 1, x.addr + 2, x.addr + 3]
    | 0x49 => [x.addr, x.addr + 1]
    | 0x4A => [x.addr]
    | _ => []

/-- An index of task `t` that stores directly to a byte of Q that a task on another pair also stores to (rule 9). -/
def qClash (code : List Nat) (fs : List Frame) (ts : List TaskDesc) (t : TaskDesc) : Option Nat :=
  let others := (ts.filter (fun u => u.pair != t.pair)).flatMap
    (fun u => (taskIndices code fs u).flatMap (fun i => directQ (code.getD i 0)))
  (taskIndices code fs t).find? (fun i => (directQ (code.getD i 0)).any (fun b => others.contains b))

/-- An index of task `t` whose L operand lies beyond that task's L size (rule 10). -/
def lClash (m : Image) (code : List Nat) (fs : List Frame) (t : TaskDesc) : Option Nat :=
  (taskIndices code fs t).find? (fun i =>
    let w := code.getD i 0
    (scanOperand w).area == 4 && !impliedOpcode (opcodeOf w) && !operandInside m t.lSize w)

/-- The first failure of a list of checks. -/
def firstOf (xs : List (Option Nat)) : Option Nat := xs.findSome? id

/-- The code check of verdict 0x06: the failing index, or none (R58). Among several failures the one shown is the
first of the rules in their order. -/
def codeFault (m : Image) (code : List Nat) : Option Nat :=
  match firstBad (staticOk m) 0 code with
  | some i => some i
  | none =>
    match timerClash 0 code [] with
    | some i => some i
    | none =>
      match frames code (2 * (code.length + 1) * (code.length + 18)) (m.tasks.map (fun t => (t.entry, false))) [] with
      | .error i => some i
      | .ok fs =>
        firstOf [ clash fs,
          m.tasks.findSome? (fun t => match callDepth code fs 9 t.entry with
            | some d => if d ≤ 8 then none else some t.entry
            | none => some t.entry),
          fs.findSome? (trapped code),
          m.tasks.findSome? (qClash code fs m.tasks),
          m.tasks.findSome? (lClash m code fs) ]

end Sys2Proof.Machine
end

