-- ==== Sys2Proof/Machine/Verify.lean ====
section
/-! DEFINITION. The container of program images and safety matrices, and its verification (R85, R90, R116 to R119,
R122, R126, R377). -/

namespace Sys2Proof.Machine

open Sys2Proof

/-- A section of the section table (R117). -/
structure Section where
  kind   : Nat
  flags  : Nat
  offset : Nat
  size   : Nat
  crc    : Nat
  deriving DecidableEq, Repr

/-- The content types of R116. -/
inductive Content where
  | program | matrix
  deriving DecidableEq, Repr

/-- The outcome of a verification: verdict and detail of R122. -/
structure Verdict where
  code   : Nat
  detail : Nat := 0
  deriving DecidableEq, Repr

/-- All bytes of a range are 0. -/
def zeros (bs : List Byte) (off n : Nat) : Bool := ((bs.drop off).take n).all (fun b => b == 0)

/-- The section table of a container. -/
def sectionTable (bs : List Byte) : List Section :=
  (List.range (field bs 12 2)).map (fun k =>
    let o := 256 + 16 * k
    ⟨field bs o 2, field bs (o + 2) 2, field bs (o + 4) 4, field bs (o + 8) 4, field bs (o + 12) 4⟩)

/-- The bytes of a section. -/
def sectionBytes (bs : List Byte) (x : Section) : List Byte := (bs.drop x.offset).take x.size

/-- The section of a type. -/
def sectionOf (bs : List Byte) (kind : Nat) : List Byte :=
  match (sectionTable bs).find? (fun x => x.kind == kind) with
  | some x => sectionBytes bs x
  | none => []

/-- Check 0x01: the header (R116, R122). A container shorter than its header fails here. -/
def headerOk (bs : List Byte) (c : Content) : Bool :=
  decide (256 ≤ bs.length) && field bs 0 4 == 0x5A584349 && field bs 4 2 == 1 &&
    field bs 6 1 == (match c with | .program => 1 | .matrix => 2) &&
    field bs 7 1 == 0 && field bs 14 2 == 0 && zeros bs 84 172 &&
    (match c with | .program => true | .matrix => zeros bs 24 48)

/-- Whether a section type is allowed in a container (R117). -/
def sectionAllowed (c : Content) (kind : Nat) : Bool :=
  (decide (0x100 ≤ kind) && decide (kind ≤ 0x1FF)) ||
    (match c with
     | .program => decide (1 ≤ kind) && decide (kind ≤ 5)
     | .matrix => kind == 6)

/-- How often a section type occurs. -/
def sectionCount (xs : List Section) (kind : Nat) : Nat := (xs.filter (fun x => x.kind == kind)).length

/-- Whether the required sections are present, and none is repeated (R117). -/
def sectionsComplete (c : Content) (xs : List Section) : Bool :=
  match c with
  | .program => sectionCount xs 1 == 1 && sectionCount xs 2 == 1 &&
      [3, 4, 5].all (fun k => decide (sectionCount xs k ≤ 1))
  | .matrix => sectionCount xs 6 == 1

/-- The padded end of a section. -/
def Section.stop (x : Section) : Nat := (x.offset + x.size + 15) / 16 * 16

/-- Whether one section is well placed, padded and checked (R116, R117, R122). -/
def sectionOk (bs : List Byte) (c : Content) (n : Nat) (x : Section) : Bool :=
  x.flags == 0 && sectionAllowed c x.kind && x.offset % 16 == 0 && decide (256 + 16 * n ≤ x.offset) &&
    decide (x.offset + x.size + 208 ≤ bs.length) &&
    zeros bs (x.offset + x.size) (min x.stop (bs.length - 208) - (x.offset + x.size)) &&
    crc32c (sectionBytes bs x) == x.crc

/-- The first section that overlaps an earlier one. -/
def sectionOverlap (k : Nat) (done xs : List Section) : Option Nat :=
  match xs with
  | [] => none
  | x :: t =>
    if done.any (fun y => decide (x.offset < y.offset + y.size) && decide (y.offset < x.offset + x.size)) then some k
    else sectionOverlap (k + 1) (x :: done) t

/-- The first section of a type other than the toolchain's that repeats an earlier one (R117). -/
def sectionRepeated (k : Nat) (done : List Nat) (xs : List Section) : Option Nat :=
  match xs with
  | [] => none
  | x :: t =>
    if decide (x.kind < 0x100) && done.contains x.kind then some k else sectionRepeated (k + 1) (x.kind :: done) t

/-- The first section that is not well formed. -/
def badSection (bs : List Byte) (c : Content) (n k : Nat) (xs : List Section) : Option Nat :=
  match xs with
  | [] => none
  | x :: t => if sectionOk bs c n x then badSection bs c n (k + 1) t else some k

/-- The signature block (R119). -/
def signatureBlock (bs : List Byte) : List Byte := bs.drop (bs.length - 208)

/-- Check 0x02: sizes, section table and the fixed fields of the signature block (R122). -/
def layoutFault (bs : List Byte) (c : Content) : Option Nat :=
  let n := field bs 12 2
  let xs := sectionTable bs
  let sig := signatureBlock bs
  if field bs 8 4 ≠ bs.length ∨ 0x2000000 < bs.length ∨ n = 0 ∨ 32 < n ∨ bs.length < 256 + 16 * n + 208 then some 0
  else match badSection bs c n 0 xs with
    | some k => some k
    | none =>
      match sectionOverlap 0 [] xs with
      | some k => some k
      | none =>
        match sectionRepeated 0 [] xs with
        | some k => some k
        | none =>
        if !sectionsComplete c xs then some 0
        else if field sig 0 4 ≠ 0x5A585347 ∨ field sig 4 4 ≠ 0 ∨ !zeros sig 105 3 ∨ field sig 204 4 ≠ 0 then some 0
        else none

/-- The task descriptors of a task table section (R118). -/
def parseTasks (bs : List Byte) : List TaskDesc :=
  (List.range (bs.length / 24)).map (fun k =>
    let o := 24 * k
    { kind := field bs o 1, number := field bs (o + 1) 1, pair := field bs (o + 2) 1, period := field bs (o + 4) 2
      phase := field bs (o + 6) 2, budget := field bs (o + 8) 4, entry := field bs (o + 12) 4
      lSize := field bs (o + 16) 4 })

/-- Whether a descriptor obeys R85, R90 and R118. -/
def taskOk (words : Nat) (t : TaskDesc) : Bool :=
  decide (t.budget ≠ 0) && decide (t.entry < words) && t.lSize % 4 == 0 && decide (t.lSize ≤ 65536) &&
    decide (t.pair ≤ 14) &&
    (match t.kind with
     | 0 => decide (t.number ≤ 15) && decide (1 ≤ t.period) && decide (t.phase < t.period)
     | 1 => t.number == 0x10 && t.pair == 0 && t.period == 0 && t.phase == 0
     | 2 => t.number == 0x11 && t.period == 0 && t.phase == 0 && decide (272 ≤ t.lSize)
     | _ => false)

/-- Check 0x05: the failing task number (R85, R118). -/
def taskFault (bs : List Byte) (ts : List TaskDesc) (words : Nat) : Option Nat :=
  if bs.length % 24 ≠ 0 then some 0
  else match (List.range ts.length).find? (fun k => field bs (24 * k + 3) 1 != 0 || field bs (24 * k + 20) 4 != 0) with
    | some k => some (ts.getD k {}).number
    | none =>
      match ts.find? (fun t => !taskOk words t || decide (1 < (ts.filter (fun u => u.number == t.number)).length) ||
          (t.kind == 0 && decide (4 < (ts.filter (fun u => u.kind == 0 && u.pair == t.pair)).length))) with
      | some t => some t.number
      | none => none

/-- The instruction words of a code section. -/
def codeWords (bs : List Byte) : List Nat := (List.range (bs.length / 4)).map (fun k => field bs (4 * k) 4)

/-- Check 0x07: area sizes, retained range and the data memory's total (R52, R116, R122). -/
def sizesOk (m : Image) : Bool :=
  let l := (m.tasks.map (fun t => t.lSize)).foldl (fun a b => a + b) 0
  decide (m.iSize ≤ 0x20000) && decide (m.qSize ≤ 0x20000) && decide (m.mSize ≤ 0x20000) &&
    decide (m.dSize ≤ 13056 * 1024) && decide (m.timers ≤ 65536) && decide (m.counters ≤ 65536) &&
    decide (m.edgeBits ≤ 1048576) && m.edgeBits % 32 == 0 && m.retStart % 256 == 0 && m.retSize % 256 == 0 &&
    decide (m.retStart + m.retSize ≤ m.dSize ∨ m.retSize = 0) && decide (l ≤ 0x100000) &&
    decide (m.mSize + m.dSize + 16 * m.timers + 16 * m.counters + m.edgeBits / 8 + l ≤ 0x1000000)

/-- The bytes an image declares for an area; for L those of a task. -/
def Image.sizeOf (m : Image) (area task : Nat) : Nat :=
  match area with
  | 0 => m.iSize
  | 1 => m.qSize
  | 2 => m.mSize
  | 3 => m.dSize
  | 4 => m.lSizeOf task
  | 5 => 16 * m.timers
  | 6 => 16 * m.counters
  | 7 => m.edgeBits / 8
  | _ => 0

/-- The runs of an initial data section, or none where a run is cut short (R117). -/
def parseRuns (n : Nat) (bs : List Byte) : Option (List DataRun) :=
  match n with
  | 0 => some []
  | n + 1 =>
    if bs.isEmpty then some []
    else if bs.length < 12 ∨ field bs 2 2 ≠ 0 then none
    else
      let len := field bs 8 4
      let padded := (len + 3) / 4 * 4
      if bs.length < 12 + padded then none
      else match parseRuns n (bs.drop (12 + padded)) with
        | some rs => some (⟨field bs 0 1, field bs 1 1, field bs 4 4, (bs.drop 12).take len⟩ :: rs)
        | none => none

/-- Whether a run lies in its declared area (R117). -/
def runOk (m : Image) (r : DataRun) : Bool :=
  decide (r.area ≤ 7) && decide (r.addr + r.data.length ≤ m.sizeOf r.area r.task) &&
    (if r.area = 4 then m.tasks.any (fun t => t.number == r.task) else r.task == 0)

/-- The monument records of a section (R126). -/
def parseMonuments (bs : List Byte) : List Monument :=
  (List.range (bs.length / 24)).map (fun k =>
    let o := 24 * k
    ⟨field bs o 4, field bs (o + 4) 1, field bs (o + 5) 1, field bs (o + 6) 1, field bs (o + 8) 4,
      field bs (o + 12) 4, field bs (o + 16) 4⟩)

/-- The area a monument type stands in. -/
def Monument.area (r : Monument) : Nat :=
  match r.kind with
  | 1 => 5
  | 2 => 6
  | 3 => 7
  | 4 => 2
  | 5 | 6 => 3
  | 7 => 4
  | _ => 15

/-- First byte and number of bytes of a monument in its area. -/
def Monument.range (r : Monument) : Nat × Nat :=
  match r.kind with
  | 1 | 2 => (16 * r.addr, 16 * r.size)
  | 3 => (r.addr / 8, r.size / 8)
  | _ => (r.addr, r.size)

/-- Whether a monument record obeys R126 within its image. A flag stands only with the types it is given for; no
record of type 0x05 overlaps the retained range (DEDUCED, log entry 37). -/
def monumentOk (m : Image) (r : Monument) : Bool :=
  decide (r.ident ≠ 0) && decide (1 ≤ r.kind) && decide (r.kind ≤ 7) && decide (r.flags ≤ 3) &&
    (r.flags % 2 == 0 || decide (r.kind ≤ 2)) && (r.flags / 2 == 0 || decide (4 ≤ r.kind)) &&
    (if r.kind = 7 then m.tasks.any (fun t => t.number == r.task) else r.task == 0xFF) &&
    (if r.kind = 3 then r.size % 32 == 0 else if 4 ≤ r.kind then r.size % 4 == 0 else true) &&
    (if r.kind = 3 then decide (r.addr + r.size ≤ m.edgeBits)
     else decide (r.range.1 + r.range.2 ≤ m.sizeOf r.area r.task)) &&
    (if r.kind = 6 then decide (m.retStart ≤ r.addr) && decide (r.addr + r.size ≤ m.retStart + m.retSize) else true) &&
    (if r.kind = 5 then decide (m.retSize = 0 ∨ m.retStart + m.retSize ≤ r.addr ∨ r.addr + r.size ≤ m.retStart) else true)

/-- The monument table is well formed: records and unique identifiers (R126). -/
def monumentsOk (m : Image) (bs : List Byte) (rs : List Monument) : Bool :=
  bs.length % 24 == 0 &&
    (List.range rs.length).all (fun k => field bs (24 * k + 7) 1 == 0 && field bs (24 * k + 20) 4 == 0) &&
    rs.all (monumentOk m) && decide ((rs.map (fun r => r.ident)).Nodup)

/-- The export records of a section (R377). -/
def parseExports (bs : List Byte) : List Export :=
  (List.range (min (field bs 0 4) (bs.length / 16))).map (fun k =>
    let o := 4 + 16 * k
    ⟨field bs o 2, field bs (o + 2) 1, field bs (o + 3) 1, field bs (o + 4) 1, field bs (o + 5) 1,
      field bs (o + 8) 4, field bs (o + 12) 4⟩)

/-- The bytes of an exported variable (R377). -/
def Export.bytes (x : Export) : Nat :=
  match x.kind with
  | 1 | 2 | 6 => 1
  | 3 | 7 => 2
  | 4 | 8 | 10 => 4
  | 5 | 9 => 8
  | 11 => x.size
  | _ => 0

/-- Whether an export record obeys R377. -/
def exportOk (m : Image) (x : Export) : Bool :=
  decide (0x3000 ≤ x.index) && decide (x.index ≤ 0x5FFF) && decide (1 ≤ x.sub) && decide (x.sub ≤ 254) &&
    decide (1 ≤ x.kind) && decide (x.kind ≤ 11) && decide (x.area ≤ 3) && decide (x.access ≤ 1) &&
    !(x.access == 1 && decide (x.area ≤ 1)) &&
    (if x.kind = 11 then decide (1 ≤ x.size) && decide (x.size ≤ 4096) else x.size == 0) &&
    (if x.kind = 1 then decide (x.addr / 8 < m.sizeOf x.area 0)
     else (x.kind == 11 || x.addr % x.bytes == 0) && decide (x.addr + x.bytes ≤ m.sizeOf x.area 0))

/-- The export table is well formed: records, and no entry twice (R377). -/
def exportsOk (m : Image) (bs : List Byte) (xs : List Export) : Bool :=
  decide (4 ≤ bs.length) && decide (field bs 0 4 ≤ 4096) && bs.length == 4 + 16 * field bs 0 4 &&
    (List.range xs.length).all (fun k => field bs (4 + 16 * k + 6) 2 == 0) &&
    xs.all (exportOk m) && decide ((xs.map (fun x => (x.index, x.sub))).Nodup)

/-- The image a program container spells, without its initial data. -/
def parseImage (bs : List Byte) : Image :=
  { ident := field bs 16 4, version := field bs 20 4, baseId := field bs 24 4, baseVersion := field bs 28 4
    iSize := field bs 32 4, qSize := field bs 36 4, mSize := field bs 40 4, dSize := field bs 44 4
    retStart := field bs 48 4, retSize := field bs 52 4, timers := field bs 56 4, counters := field bs 60 4
    edgeBits := field bs 64 4, layoutHash := field bs 68 4
    tasks := parseTasks (sectionOf bs 2)
    code := (codeWords (sectionOf bs 1)).map (BitVec.ofNat 32)
    monuments := parseMonuments (sectionOf bs 4)
    exports := parseExports (sectionOf bs 5) }

/-- Checks 0x03 and 0x04: the key's digest against the fused hash, then the signature (R119). `owner` is the fused
owner key hash, or none where none is fused. -/
def signatureFault (bs : List Byte) (owner : Option Nat) : Option Nat :=
  let sig := signatureBlock bs
  let key := (sig.drop 8).take 97
  if owner ≠ some (Config.sha384 key) then some 3
  else if !Config.ecdsaP384Valid key ((sig.drop 108).take 96) (Config.sha384 (bs.take (bs.length - 208))) then some 4
  else none

/-- Checks 0x01 to 0x04, which programs and matrices share (R122). -/
def containerVerdict (bs : List Byte) (c : Content) (owner : Option Nat) : Verdict :=
  if !headerOk bs c then ⟨1, 0⟩
  else match layoutFault bs c with
    | some k => ⟨2, k⟩
    | none =>
      match signatureFault bs owner with
      | some v => ⟨v, 0⟩
      | none => ⟨0, 0⟩

/-- The number of the section of a type in the section table (2200.0D). -/
def sectionIndex (bs : List Byte) (kind : Nat) : Nat := (sectionTable bs).findIdx (fun x => x.kind == kind)

/-- Checks 0x05 to 0x09 of a program image (R122). -/
def programVerdict (bs : List Byte) : Verdict × Option Image :=
  let code := sectionOf bs 1
  let words := codeWords code
  let m := parseImage bs
  match taskFault (sectionOf bs 2) m.tasks words.length with
  | some n => (⟨5, n⟩, none)
  | none =>
    if code.length % 4 ≠ 0 ∨ 0x800000 < code.length then (⟨6, 0⟩, none)
    else match codeFault m words with
      | some i => (⟨6, i⟩, none)
      | none =>
        if !sizesOk m then (⟨7, 0⟩, none)
        else match parseRuns ((sectionOf bs 3).length + 1) (sectionOf bs 3) with
          | none => (⟨8, sectionIndex bs 3⟩, none)
          | some rs =>
            if !rs.all (runOk m) then (⟨8, sectionIndex bs 3⟩, none)
            else if !monumentsOk m (sectionOf bs 4) m.monuments then (⟨8, sectionIndex bs 4⟩, none)
            else if sectionCount (sectionTable bs) 5 ≠ 0 ∧ !exportsOk m (sectionOf bs 5) m.exports then
              (⟨9, sectionIndex bs 5⟩, none)
            else (⟨0, 0⟩, some { m with data := rs })

/-- The verification of a program container (R122). -/
def verifyProgram (bs : List Byte) (owner : Option Nat) : Verdict × Option Image :=
  match containerVerdict bs .program owner with
  | ⟨0, _⟩ => programVerdict bs
  | v => (v, none)

end Sys2Proof.Machine
end

