-- ==== Sys2Proof/Machine/Matrix.lean ====
section
/-! DEFINITION. The safety matrix: its body, its verdicts, its commands and its evaluation by the witness pair
(R93, R102 to R111, R115). -/

namespace Sys2Proof.Machine

open Sys2Proof

/-- The fused owner key hash, if one is programmed (R119, R451). -/
def State.ownerHash (s : State) : Option Nat :=
  if s.fuse.ownerSet then some (beNat (leBytes 48 (s.reg 0x2F3002))) else none

/-! ## The body (R103 to R107) -/

/-- An input reference that is used: a known kind, reserved bits 0, a word address aligned (R104). -/
def inputOk (v : Nat) : Bool :=
  decide (1 ≤ v / 2 ^ 28) && decide (v / 2 ^ 28 ≤ 4) && v / 2 ^ 20 % 256 == 0 && (decide (v / 2 ^ 28 ≤ 2) || v % 4 == 0)

/-- The inputs that a vote uses (R105). -/
def voteInputs (vote : Nat) : Nat := if vote = 1 then 1 else if vote = 2 then 2 else if vote = 3 then 3 else 0

/-- A cause record, if it obeys R104 and R105. -/
def parseCause (b : List Byte) : Option Cause :=
  let ins := [field b 0 4, field b 4 4, field b 8 4]
  let used := voteInputs (field b 20 1)
  let hyst := signed 32 (field b 16 4)
  let flags := field b 21 1
  if used ≠ 0 ∧ (ins.take used).all inputOk ∧ (ins.drop used).all (fun v => v == 0) ∧ 0 ≤ hyst ∧ flags ≤ 3 ∧
      (flags.testBit 1 ∨ field b 24 4 = 0) ∧ field b 28 4 = 0
  then some { inputs := ins.take used, threshold := signed 32 (field b 12 4), hysteresis := hyst, vote := field b 20 1
              flags := flags, delay := field b 22 2, maxBypass := field b 24 4 }
  else none

/-- An output reference, if it obeys R107. -/
def parseOut (b : List Byte) : Option OutRef :=
  let kind := field b 0 1
  let st := field b 1 1
  let t := field b 4 4
  if field b 2 2 = 0 ∧ 1 ≤ kind ∧ kind ≤ 4 ∧ (if kind ≤ 2 then st = 0 else 1 ≤ st ∧ st ≤ 32) ∧
      (if kind = 1 then t ≤ 63 else if kind = 2 then t ≤ 15 else if kind = 4 then t % 4 = 0 else True)
  then some ⟨kind, st, t⟩ else none

/-- An effect record over the link and output arrays, if it obeys R106. -/
def parseEffect (links : List Nat) (outs : List OutRef) (b : List Byte) : Option Effect :=
  let f := field b 0 2
  let n := field b 2 2
  let o := field b 4 2
  let m := field b 6 1
  let r := field b 8 4
  if 1 ≤ n ∧ f + n ≤ links.length ∧ 1 ≤ m ∧ m ≤ 16 ∧ o + m ≤ outs.length ∧ field b 7 1 ≤ 3 ∧ field b 12 4 = 0 ∧
      (r = 0 ∨ (r.testBit 31 ∧ r / 2 ^ 20 % 2048 = 0))
  then some { links := (links.drop f).take n, outs := (outs.drop o).take m, flags := field b 7 1, resetInput := r }
  else none

/-- The results of a list of parses, if none failed. -/
def allSome {α : Type} (xs : List (Option α)) : Option (List α) :=
  match xs with
  | [] => some []
  | none :: _ => none
  | some x :: t => (allSome t).map (fun r => x :: r)

/-- `n` records of `w` bytes from an offset. -/
def records (bs : List Byte) (off w n : Nat) : List (List Byte) :=
  (List.range n).map (fun i => (bs.drop (off + w * i)).take w)

/-- A matrix body, if it obeys R103 to R107. -/
def parseMatrix (bs : List Byte) : Option Matrix :=
  let nc := field bs 6 2
  let ne := field bs 8 2
  let nl := field bs 10 2
  let no := field bs 12 2
  let eOff := 32 + 32 * nc
  let lOff := eOff + 16 * ne
  let oOff := lOff + (2 * nl + 3) / 4 * 4
  if bs.length < 32 ∨ field bs 0 4 ≠ 0x5A58534D ∨ field bs 4 2 ≠ 1 ∨ 1024 < nc ∨ 512 < ne ∨ 4096 < nl ∨ 2048 < no ∨
      field bs 14 2 ≠ 0 ∨ !zeros bs 20 12 ∨ bs.length ≠ oOff + 8 * no ∨ !zeros bs (lOff + 2 * nl) (oOff - lOff - 2 * nl)
  then none
  else
    let links := (records bs lOff 2 nl).map leNat
    match allSome ((records bs 32 32 nc).map parseCause), allSome ((records bs oOff 8 no).map parseOut) with
    | some causes, some outs =>
      if !links.all (fun c => decide (c < nc)) then none
      else match allSome ((records bs eOff 16 ne).map (parseEffect links outs)) with
        | some effects => some { ident := field bs 16 4, causes := causes, effects := effects, links := nl, outRefs := no,
                                         refs := outs }
        | none => none
    | _, _ => none

/-! ## Verdicts (R93, R102, R107) -/

/-- The witness load in cycles (R93). -/
def Matrix.load (m : Matrix) : Nat := 600 + 6 * m.causes.length + 3 * m.effects.length + 2 * m.links + 4 * m.outRefs

/-- The witness load in force, 2130.05. -/
def State.witnessLoad (s : State) : Nat := ((s.mtx.active.map Matrix.load).getD 600)

/-- The compute window N_W in cycles (R92). -/
def State.windowCycles (s : State) : Nat := s.reg 0x200205 * 4 / 5

/-- A reference to an output that is configured (R107). -/
def State.outRefOk (s : State) (r : OutRef) : Bool :=
  match r.kind with
  | 1 => s.isOutput r.target
  | 2 => s.reg (ach r.target 1) == 3
  | _ => s.on (recK r.station 1)

/-- Every output reference of a matrix is configured, whether an effect takes it or not (R107). -/
def State.refsOk (s : State) (m : Matrix) : Bool := m.refs.all s.outRefOk && m.effects.all (fun e => e.outs.all s.outRefOk)

/-- The verdict on a matrix with the configuration that stands: load, then references. -/
def State.matrixVerdict (s : State) (m : Matrix) : Nat :=
  if s.windowCycles < m.load then 3 else if s.refsOk m then 0 else 4

/-- The matrix of a container, or the verdict of R102. -/
def State.readMatrix (s : State) (bs : List Byte) : Except Nat Matrix :=
  match containerVerdict bs .matrix s.ownerHash with
  | ⟨0, _⟩ =>
    match parseMatrix (sectionOf bs 6) with
    | some m => .ok m
    | none => .error 2
  | ⟨v, _⟩ => .error (if v = 3 ∨ v = 4 then 1 else 2)

/-- 2130.02 to 2130.05 and 2130.13 follow the active matrix (R102, R115). -/
def State.showMatrix (s : State) : State :=
  let m := s.mtx.active.getD {}
  ((((s.setReg 0x213002 m.ident).setReg 0x213003 m.causes.length).setReg 0x213004 m.effects.length).setReg 0x213005
    s.witnessLoad).setReg 0x213013 ((s.mtx.active.map s.matrixVerdict).getD 0)

/-- What the witness pair keeps of an effect. -/
def State.effectRt (s : State) (e : Nat) : EffectRt := Sparse.get {} s.mtx.effects e

/-- A bit of the closed image. -/
def State.imageBit (s : State) (addr : Nat) : Bool := (s.memNat 0 (addr / 8) 1).testBit (addr % 8)

/-- What an effect of a new matrix starts from: the latch that its number had (R102), and its reset input in the image that
stands, so that an edge is one between two consecutive images (R111). -/
def State.carried (s : State) (n : Nat) (e : Effect) : EffectRt :=
  let r := s.effectRt n
  { latch := r.latch, active := r.latch && r.active, prevReset := e.resetInput != 0 && s.imageBit (e.resetInput % 2 ^ 20) }

/-- A matrix becomes active: every bypass ends, a latch stays where its effect exists (R102). -/
def State.activateMatrix (s : State) (m : Matrix) : State :=
  let effects := (List.zip (List.range m.effects.length) m.effects).map (fun x => (x.1, s.carried x.1 x.2))
  ({ s with mtx := { s.mtx with
      active := some m, waiting := none, causes := [], anyBypass := false, resets := []
      effects := effects.filter (fun c => c.2 != ({} : EffectRt)) } }).showMatrix

/-- A written container at its closing point: the verdict stands in 2130.14; a valid matrix is stored and awaits its
frame boundary (R102). -/
def State.matrixWritten (s : State) (bs : List Byte) : State :=
  match s.readMatrix bs with
  | .error v => s.setReg 0x213014 v
  | .ok m =>
    if s.refsOk m then ({ s with mtx := { s.mtx with waiting := some m, store := bs } }).setReg 0x213014 0
    else s.setReg 0x213014 4

/-- A frame boundary activates a waiting matrix if its load and references hold (R102, R107). -/
def State.matrixBoundary (s : State) : State :=
  match s.mtx.waiting with
  | none => s
  | some m =>
    let v := s.matrixVerdict m
    let s1 := s.setReg 0x213014 v
    if v = 0 then
      let s2 := s1.activateMatrix m
      { s2 with mtx := { s2.mtx with lastTick := if s.tickNo = 0 then none else some (s.tickNo - 1) } }
    else { s1 with mtx := { s1.mtx with waiting := none } }

/-! ## Evaluation (R104, R105, R108 to R111) -/

/-- What the witness pair keeps of a cause. -/
def State.causeRt (s : State) (c : Nat) : CauseRt := Sparse.get {} s.mtx.causes c

/-- Writes what the witness pair keeps of a cause. -/
def State.setCauseRt (s : State) (c : Nat) (r : CauseRt) : State :=
  { s with mtx := { s.mtx with causes := Sparse.set {} s.mtx.causes c r } }

/-- Writes what the witness pair keeps of an effect. -/
def State.setEffectRt (s : State) (e : Nat) (r : EffectRt) : State :=
  { s with mtx := { s.mtx with effects := Sparse.set {} s.mtx.effects e r } }

/-- Byte `a` of I lies in a placed block of `n` bytes from `base`. -/
def inBlock (a base n : Nat) : Bool := base != 0xFFFFFFFF && decide (base ≤ a) && decide (a < base + n)

/-- The I byte `a`, of which the bits of `mask` are used, holds an invalid value (R105): a local digital value whose
valid bit is 0, an analog one flagged fail-low, fail-high or MISWIRE, or a payload of an outstation that is UNLINKED or
met in BENCHMARK, whose values are substitutes. -/
def State.invalidByte (s : State) (a mask : Nat) : Bool :=
  (inBlock a (s.reg 0x280001) 8 &&
    (s.tick.latchedValid / 256 ^ (a - s.reg 0x280001) % 256 &&& mask) != mask) ||
  (inBlock a (s.reg 0x290001) 64 && s.tick.imageBad.testBit ((a - s.reg 0x290001) / 4)) ||
  s.stations.any (fun k => inBlock a (s.reg (recK k 0x15)) (s.reg (recK k 2)) && (!s.linked k || s.mode == stBench))

/-- An input reference reads an invalid value (R105). -/
def State.invalidInput (s : State) (v : Nat) : Bool :=
  if v / 2 ^ 28 ≤ 2 then s.invalidByte (v % 2 ^ 20 / 8) (2 ^ (v % 8))
  else (List.range 4).any (fun i => s.invalidByte (v % 2 ^ 20 + i) 255)

/-- The state of an input (R104): `prev` is the one it keeps between the limits. -/
def State.inputState (s : State) (c : Cause) (v : Nat) (prev : Bool) : Bool :=
  if s.invalidInput v then c.flags.testBit 0
  else
    let w := signed 32 (s.memNat 0 (v % 2 ^ 20) 4)
    match v / 2 ^ 28 with
    | 1 => s.imageBit (v % 2 ^ 20)
    | 2 => !s.imageBit (v % 2 ^ 20)
    | 3 => if w < c.threshold then true else if c.threshold + c.hysteresis < w then false else prev
    | _ => if c.threshold < w then true else if w < c.threshold - c.hysteresis then false else prev

/-- The hysteresis state that an input keeps: an invalid input keeps the one before. -/
def State.inputKept (s : State) (c : Cause) (v : Nat) (prev : Bool) : Bool :=
  if s.invalidInput v then prev else s.inputState c v prev

/-- One cause in an evaluation (R105, R108 step 1). -/
def State.evalCause (s : State) (n : Nat) (c : Cause) : State :=
  let r := s.causeRt n
  let kept := [r.input0, r.input1, r.input2]
  let tripped := (List.zipWith (s.inputState c) c.inputs kept).filter (fun b => b)
  let vote := decide ((if c.vote = 3 then 2 else 1) ≤ tripped.length)
  let count := if vote then min (r.count + 1) 0x10000 else 0
  let now := decide (c.delay + 1 ≤ count)
  let keep := List.zipWith (s.inputKept c) c.inputs kept
  let s1 := s.setCauseRt n { r with input0 := keep.getD 0 false, input1 := keep.getD 1 false
                                    input2 := keep.getD 2 false, count := count, tripped := now }
  if now && !r.tripped then s1.count 0x213011 else s1

/-- A bypass counts down by one tick (R108 step 2). -/
def State.countBypass (s : State) (n : Nat) : State :=
  let r := s.causeRt n
  match r.bypass with
  | some k => s.setCauseRt n { r with bypass := some (k - 1) }
  | none => s

/-- A bypass that counted down to 0 ends after the evaluation, with its record (R91, R110). -/
def State.endBypass (s : State) (n : Nat) : State :=
  let r := s.causeRt n
  if r.bypass = some 0 then (s.setCauseRt n { r with bypass := none }).recordError 8 n 0 else s

/-- A reset of an effect's latch is asked for in this evaluation (R111). -/
def State.resetAsked (s : State) (n : Nat) (e : Effect) : Bool :=
  s.mtx.resets.contains n || s.mtx.resets.contains 0xFFFF ||
    (e.resetInput != 0 && s.mtx.lastTick == some (s.tickNo - 1) && decide (0 < s.tickNo) &&
      !(s.effectRt n).prevReset && s.imageBit (e.resetInput % 2 ^ 20))

/-- One effect in an evaluation (R108 step 3, R111). -/
def State.evalEffect (s : State) (n : Nat) (e : Effect) : State :=
  let r := s.effectRt n
  let tripped := e.links.any (fun c => (s.causeRt c).tripped)
  let asked := s.resetAsked n e
  let refused := asked && e.flags.testBit 1 && tripped
  let set := e.links.any (fun c => (s.causeRt c).tripped && (s.causeRt c).bypass.isNone)
  let latch := (r.latch && !(asked && !refused)) || (set && e.flags.testBit 0)
  let act := set || latch
  let s1 := if refused then s.count 0x21300C else s
  let s2 := s1.setEffectRt n { latch := latch, active := act
                               prevReset := e.resetInput != 0 && s.imageBit (e.resetInput % 2 ^ 20) }
  if act && !r.active then s2.recordError 7 n 0 else s2

/-- Applies a step to each element of a list with its number. -/
def State.eachAt {α : Type} (s : State) (n : Nat) (xs : List α) (f : State → Nat → α → State) : State :=
  match xs with
  | [] => s
  | x :: t => State.eachAt (f s n x) (n + 1) t f

/-- The causes that are bypassed. -/
def State.bypassed (s : State) : List Nat :=
  s.mtx.causes.filterMap (fun c => if c.2.bypass.isSome then some c.1 else none)

/-- An effect is active. -/
def State.anyEffect (s : State) : Bool := s.mtx.effects.any (fun c => c.2.active)

/-- The latches that a reset found set come back with matrix start latched (R438, R443 option flag bit 1). -/
def State.restoreLatches (s : State) (m : Matrix) : State :=
  let s1 := { s with mtx := { s.mtx with kept := [] } }
  if s.rst.options.startFlags.testBit 1 then
    s1.each (s.mtx.kept.filter (fun n => decide (n < m.effects.length)))
      (fun t n => t.setEffectRt n { t.effectRt n with latch := true, active := true })
  else s1

/-- The evaluation of a tick (R108). A witness pair that a mismatch stopped evaluates nothing (R98). -/
def State.evaluateMatrix (s : State) : State :=
  if s.mtx.stopped then s
  else match s.mtx.active with
    | none => { s with mtx := { s.mtx with resets := [] } }
    | some m =>
      let s0 := s.restoreLatches m
      let s1 := s0.eachAt 0 m.causes (fun t n c => if s.mtx.early.contains (s.tickNo, n) then t else t.evalCause n c)
      let during := !s1.bypassed.isEmpty
      let s2 := s1.each s1.bypassed State.countBypass
      let s3 := s2.eachAt 0 m.effects State.evalEffect
      let s4 := s3.each s3.bypassed State.endBypass
      let s5 := if during then s4.count 0x21300F else s4
      let s6 := if s5.anyEffect then s5.count 0x21300D else s5
      { s6 with mtx := { s6.mtx with resets := [], early := [], lastTick := some s6.tickNo, anyActive := s6.anyEffect
                                     anyBypass := !s6.bypassed.isEmpty } }

/-- The outputs of every active effect (R109). -/
def State.overridden (s : State) : List OutRef :=
  if s.mtx.stopped then []
  else match s.mtx.active with
    | none => []
    | some m => (List.zip (List.range m.effects.length) m.effects).flatMap (fun x =>
        if (s.effectRt x.1).active then x.2.outs else [])

/-! ## The events and commands -/

/-- The cause was evaluated in this tick: each is evaluated once per tick (R108). -/
def State.causeDone (s : State) (cause : Nat) : Bool :=
  s.mtx.lastTick == some s.tickNo || s.mtx.early.contains (s.tickNo, cause)

/-- CAUSE_TRIP: a cause is evaluated on the closed image (R105, R108 step 1), ahead of the rest of its tick's evaluation,
which does not evaluate it again. -/
def execCauseTrip (cause : Nat) (s : State) : Result :=
  .next (match s.mtx.active with
     | some m =>
       match m.causes[cause]? with
       | some c =>
         if s.mtx.stopped || !s.running || s.causeDone cause then s
         else
           let s1 := s.evalCause cause c
           { s1 with mtx := { s1.mtx with early := s1.mtx.early.filter (fun x => x.1 == s.tickNo) ++ [(s.tickNo, cause)] } }
       | none => s
     | none => s)

/-- A bypass that has counted down to 0 ends (R110). -/
def execBypassExpiry (cause : Nat) (s : State) : Result := .next (s.endBypass cause)

/-- Whether a reset command names an effect of the active matrix (R111). -/
def State.resetOk (s : State) (v : Nat) : Bool :=
  match s.mtx.active with
  | some m => v == 0xFFFF || decide (v < m.effects.length)
  | none => false

/-- Whether a bypass command is accepted (R110). -/
def State.bypassOk (s : State) (data : List Byte) : Bool :=
  let c := field data 0 2
  let d := field data 4 4
  match s.mtx.active with
  | none => false
  | some m =>
    match m.causes[c]? with
    | none => false
    | some x =>
      field data 2 2 == 0 && s.mode != stBench &&
        (d == 0 || (x.flags.testBit 1 && decide (d ≤ x.maxBypass) &&
          (decide (s.bypassed.length < 32) || (s.causeRt c).bypass.isSome)))

/-- Step 9 of R366 for the commands of 2130 as they take effect; a refusal is counted (R110, R111). -/
def State.matrixRefused (s : State) (key : Nat) (data : List Byte) : Bool :=
  (key == 0x21300A && !s.resetOk (leNat data)) || (key == 0x21300B && !s.bypassOk data)

/-- The writes of 2130 as a closing point applies them (R102, R110, R111). -/
def State.matrixApply (s : State) (key : Nat) (data : List Byte) : Option State :=
  if key = 0x213001 then some (s.matrixWritten data)
  else if key = 0x21300A then
    some (if s.resetOk (leNat data) then { s with mtx := { s.mtx with resets := s.mtx.resets ++ [leNat data] } }
          else s.count 0x21300C)
  else if key = 0x21300B then
    let c := field data 0 2
    let d := field data 4 4
    some (if s.bypassOk data then s.setCauseRt c { s.causeRt c with bypass := if d = 0 then none else some d }
          else s.count 0x21300C)
  else none

/-- Every bypass ends, on entry to BENCHMARK (R110). -/
def State.endBypasses (s : State) : State :=
  s.each s.bypassed (fun t n => t.setCauseRt n { t.causeRt n with bypass := none })

/-- A number with a bit for each key of a table at which `f` holds. -/
def tableBits {α : Type} (m : Sparse α) (f : α → Bool) : Nat := m.foldl (fun v c => if f c.2 then v + 2 ^ c.1 else v) 0

/-- The entries of 2130 whose value follows from others (R115). -/
def State.matrixView (s : State) (key : Nat) : Option Nat :=
  if key = 0x213006 then some (tableBits s.mtx.effects (fun e => e.active))
  else if key = 0x213007 then some (tableBits s.mtx.effects (fun e => e.latch))
  else if key = 0x213008 then some (tableBits s.mtx.causes (fun c => c.tripped))
  else if key = 0x213009 then some (tableBits s.mtx.causes (fun c => c.bypass.isSome))
  else none

end Sys2Proof.Machine
end

