-- ==== Sys2Proof/Machine/Loops.lean ====
section
/-! DEFINITION. Loop engines: references, the parameter window, arithmetic, samples and modes (R139 to R166). -/

namespace Sys2Proof.Machine

open Sys2Proof

/-- An entry of loop block n. -/
def lb (n sub : Nat) : Nat := keyOf (0x2400 + n) sub

/-- What a block keeps beside its window. -/
def State.lrt (s : State) (n : Nat) : LoopRt := Sparse.get {} s.loops n

/-- Writes what a block keeps beside its window. -/
def State.setLrt (s : State) (n : Nat) (r : LoopRt) : State := { s with loops := Sparse.set {} s.loops n r }

/-- The configured blocks in ascending number. -/
def State.blocks (s : State) : List Nat := (List.range 128).filter (fun n => s.on (lb n 1))

/-- The sample time in µs (R140). -/
def State.loopTs (s : State) (n : Nat) : Nat := s.reg (lb n 2) * s.tD

/-- A block is sampled in a tick (R140). -/
def State.loopDue (s : State) (n : Nat) : Bool := s.on (lb n 1) && s.tickNo % s.reg (lb n 2) == s.reg (lb n 3)

/-! ## References (R144, R145) -/

/-- The form of a source or destination reference (R144). -/
def refFormOk (v : Nat) : Bool :=
  match v / 2 ^ 28 with
  | 0 => v == 0
  | 1 => decide (v % 2 ^ 28 < 16)
  | 2 => decide (v % 2 ^ 28 < 2 ^ 20) && v % 4 == 0
  | _ => false

/-- The raw value of a source, from the values latched at D and the closed image (R143, R144). -/
def State.sourceRaw (s : State) (v : Nat) : Word :=
  match v / 2 ^ 28 with
  | 1 => s.tick.latchedAnalog.getD (v % 16) 0
  | 2 => BitVec.ofNat 32 (s.memNat 0 (v % 2 ^ 20) 4)
  | _ => 0

/-- The word of I at a byte address lies in the payload of an outstation that is UNLINKED (R145). -/
def State.substWord (s : State) (a : Nat) : Bool :=
  s.stations.any (fun k => !s.linked k && (List.range 4).any (fun i => inBlock (a + i) (s.reg (recK k 0x15)) (s.reg (recK k 2))))

/-- A measurement is invalid (R145). -/
def State.sourceBad (s : State) (v : Nat) : Bool :=
  match v / 2 ^ 28 with
  | 1 => s.reg (ach (v % 16) 8) % 8 != 0
  | 2 => s.substWord (v % 2 ^ 20)
  | _ => false

/-- A destination is faulty (R145). -/
def State.destFaulty (s : State) (n : Nat) : Bool :=
  let v := s.reg (lb n 8)
  (v / 2 ^ 28 == 1 && !s.isAo (v % 16)) ||
    (v / 2 ^ 28 == 2 && decide (s.ioSize 1 < v % 2 ^ 20 + 4)) ||
    (s.reg (lb n 9) == 0 && s.reg (lb n 0xD) == 1)

/-- At C the raw inputs of every configured block are taken (R143). -/
def State.loopsAtC (s : State) : State :=
  s.each s.blocks (fun t n =>
    t.setLrt n { t.lrt n with raw := t.sourceRaw (t.reg (lb n 4)), raw2 := t.sourceRaw (t.reg (lb n 7))
                              rawBad := t.sourceBad (t.reg (lb n 4)) })

/-! ## Fixed-point arithmetic (R149, R150) -/

/-- A term rounded once, to nearest with ties away from zero, and saturated to the I32 range; whether it saturated. -/
def term (num : Int) (den : Nat) : Int × Bool :=
  let v := roundAway num den
  (clampInt (-0x80000000) 0x7FFFFFFF v, decide (v < -0x80000000) || decide (0x7FFFFFFF < v))

/-- A value with 32 fractional bits, limited to the Q15.16 range; whether it was limited. -/
def long (num : Int) (den : Nat) : Int × Bool :=
  let v := roundAway num den
  let lo : Int := -0x800000000000
  let hi : Int := 0x7FFFFFFF0000
  (clampInt lo hi v, decide (v < lo) || decide (hi < v))

/-- A Q15.16 number with 32 fractional bits. -/
def widen (v : Int) : Int := v * 65536

/-- A coefficient with 32 fractional bits (R150). -/
def coefficient (num : Int) (den : Nat) : Int := if den = 0 then 0 else roundAway (num * 2 ^ 32) den

/-- A rate or acceleration: a negative one is taken as 0 (R150). -/
def rateOf (v : Int) : Int := if v < 0 then 0 else v

/-- A largest step per sample from a rate in Q15.16 per second (R150). -/
def stepLimit (rate : Int) (ts : Nat) : Int := roundAway (rateOf rate * 65536 * ts) 1000000

/-- g_A (R150). -/
def accLimit (acc : Int) (ts : Nat) : Int := roundAway (rateOf acc * 65536 * ts * ts) 1000000000000

/-- The root of a number, to nearest. -/
def rootNearest (x : Nat) : Nat := let r := isqrt 80 0 x; if r < x - r * r then r + 1 else r

/-- The setpoint generator: the new w and the change of w in this sample (R153). -/
def generator (gR gA r wOld sOld : Int) : Int × Int :=
  let d := r - wOld
  if gR = 0 then (r, 0)
  else
    let s := if gA = 0 then clampInt (-gR) gR d
      else
        let want := d.sign * min gR (rootNearest (2 * gA.toNat * d.natAbs))
        sOld + clampInt (-gA) gA (want - sOld)
    if d = 0 ∨ (s.sign = d.sign ∧ d.natAbs ≤ s.natAbs) then (r, 0) else (wOld + s, s)

/-! ## The status word (R148) -/

/-- The flags that a sample raises. -/
structure LoopFlags where
  p : Bool := false
  i : Bool := false
  d : Bool := false
  ff : Bool := false
  out : Bool := false
  rate : Bool := false
  sp : Bool := false
  req : Bool := false
  deriving DecidableEq, Repr

/-- The sticky bits of the flags, in their places. -/
def LoopFlags.bits (f : LoopFlags) : Nat :=
  let b (c : Bool) (n : Nat) : Nat := if c then 2 ^ n else 0
  b f.p 8 + b f.i 9 + b f.d 10 + b f.ff 11 + b f.out 12 + b f.rate 13 + b f.sp 14 + b f.req 15

/-- Sets sticky bits of a block, with the causes of R388 group 4. -/
def State.stick (s : State) (n bits : Nat) : State :=
  let old := s.reg (lb n 0x29)
  let new := old ||| bits
  ((s.setReg (lb n 0x29) new).causeIf (new != old) 4 0).causeIf (new.testBit 15 && !old.testBit 15) 4 2

/-- Counts the samples in which a flag's condition occurred (R164). -/
def State.countFlags (s : State) (n : Nat) (f : LoopFlags) : State :=
  let flags := [f.p, f.i, f.d, f.ff, f.out, f.rate, f.sp]
  let s1 := s.each (List.range 7) (fun t k => if flags.getD k false then t.count (lb n (0x2D + k)) else t)
  if flags.contains true then s1.setLrt n { s1.lrt n with sat := (s1.lrt n).sat + 1 } else s1

/-- REQ sets: a written value or mode request was refused (R147, R148). -/
def State.loopRefuse (s : State) (n : Nat) : State := s.stick n (2 ^ 15)

/-! ## Writes to the window (R146, R147) -/

/-- The range of a window field (R146); `sub` is its dictionary subindex. -/
def State.windowOk (s : State) (n sub v : Nat) : Bool :=
  let q := signed 32 v
  match sub with
  | 0x1B => decide (v ≤ 4)
  | 0x1F => v == 0 || decide (s.loopTs n ≤ v)
  | 0x23 => decide (0 ≤ q)
  | 0x24 => decide (s.regI (lb n 0x25) ≤ q)
  | 0x25 => decide (q ≤ s.regI (lb n 0x24))
  | _ => true

/-- The bits of the status word that show a latched request: a soft stop latches a request other than OFF, and it stays
latched in the OFF that ends the soft stop until it is entered (R148, R161). -/
def State.showPending (s : State) (n : Nat) : State :=
  let q := s.reg (lb n 0x1B)
  let w := s.reg (lb n 0x29)
  let base := w - w / 16 % 16 * 16
  s.setReg (lb n 0x29) (if ((s.lrt n).mode = 5 ∨ ((s.lrt n).mode = 0 ∧ w.testBit 4)) ∧ q ≠ 0 then base + 16 + 32 * q
    else base)

/-- A change of Kp or b to new values while bumpless changes are on is kept for the next sample in AUTO or CASCADE (R156). -/
def State.noteBump (s : State) (n : Nat) (kp b : Int) : State :=
  let r := s.lrt n
  let kp0 := s.regI (lb n 0x1E)
  if s.on (lb n 0xF) then
    s.setLrt n { r with bumpK := r.bumpK + (kp0 - kp), bumpB := r.bumpB + (kp0 * s.regI (lb n 0x11) - kp * b) }
  else s

/-- A value applied to a window field: out of range it is refused with REQ; read-only fields keep theirs; a write to
the status clears the sticky bits written as 1 (R146 to R148, R160). -/
def State.windowApply (s : State) (n sub v : Nat) : State :=
  if sub = 0x29 then s.setReg (lb n 0x29) (s.reg (lb n 0x29) - (s.reg (lb n 0x29) &&& v &&& 0xFF00))
  else if sub < 0x1A ∨ 0x25 < sub then s
  else if !s.windowOk n sub v then s.loopRefuse n
  else
    let s1 := if sub = 0x1E then s.noteBump n (signed 32 v) (s.regI (lb n 0x11)) else s
    let s2 := s1.setReg (lb n sub) v
    if sub = 0x1B then (if v = 0 then s2 else s2.setBit (lb n 0x29) 23 false).showPending n else s2

/-- A committed store to area P reaches the window at the closing point (R147). -/
def State.applyPStore (s : State) (x : Nat × Word) : State :=
  s.windowApply (x.1 / 128) (0x1A + x.1 % 128 / 4) x.2.toNat

/-! ## Samples -/

/-- The mode a sample runs in and whether the request was refused (R159, R161). -/
def State.nextMode (s : State) (n : Nat) : Nat × Bool :=
  let cur := (s.lrt n).mode
  let q := s.reg (lb n 0x1B)
  let o := s.reg (lb n 0xC)
  if cur = 5 then (5, false)
  else if q = 4 ∧ (127 < o ∨ o = n ∨ !s.on (lb o 1)) then (cur, true)
  else if q = 0 ∧ 1 ≤ cur ∧ 0 < s.regI (lb n 0x17) then (5, false)
  else (q, false)

/-- λ as a fraction: Vn / max(Vm, Vmin), at most 4; and whether it was limited or Vm lies below Vmin (R154). -/
def State.voltage (s : State) (n : Nat) : Int × Int × Bool :=
  let vm := (term (s.regI (lb n 5) * (s.lrt n).raw2.toInt + widen (s.regI (lb n 6))) 65536).1
  let m := max vm (s.regI (lb n 0x19))
  let vn := s.regI (lb n 0x18)
  if 4 * m < vn then (4, 1, true) else (vn, m, decide (vm < s.regI (lb n 0x19)))

/-- The terms that every mode forms from y, w and the filter. -/
structure LoopTerms where
  y    : Int
  w    : Int
  yf   : Int
  p    : Int
  d    : Int
  flags : LoopFlags
  deriving DecidableEq, Repr

/-- P and D of a sample (R151 steps 5 and 6). `yf` and `yf0` are the filtered measurement now and before. -/
def State.loopTerms (s : State) (n : Nat) (y w yf yf0 : Int) (f : LoopFlags) : LoopTerms :=
  let kp := s.regI (lb n 0x1E)
  let p := term (kp * (s.regI (lb n 0x11) * w - widen (widen y))) (2 ^ 48)
  let gD := coefficient (s.reg (lb n 0x20)) (s.loopTs n)
  let d := term (-(kp * gD * (yf - yf0))) (2 ^ 64)
  { y := y, w := w, yf := yf, p := p.1, d := d.1, flags := { f with p := f.p || p.2, d := f.d || d.2 } }

/-- The filtered measurement (R151 step 4). -/
def State.filtered (s : State) (n : Nat) (y yf : Int) : Int :=
  let a := coefficient (s.loopTs n) (s.reg (lb n 0x12) + s.loopTs n)
  (long (yf * 2 ^ 32 + a * (widen y - yf)) (2 ^ 32)).1

/-- An output clamped to its limits and moved by at most g_O from the one before (R151 step 10): the output, whether
it was clamped, whether the rate limit acted. -/
def State.limitOut (s : State) (n : Nat) (u : Int) : Int × Bool × Bool :=
  let c := clampInt (s.regI (lb n 0x25)) (s.regI (lb n 0x24)) u
  let prev := s.regI (lb n 0x27)
  if 0 < s.regI (lb n 0x16) then
    let g := stepLimit (s.regI (lb n 0x16)) (s.loopTs n)
    let m := widen (c - prev)
    if g < m.natAbs then (roundAway (widen prev + m.sign * g) 65536, c != u, true) else (c, c != u, false)
  else (c, c != u, false)

/-- The destination value of an output (R151 step 12). -/
def State.destValue (s : State) (n : Nat) (out : Int) : Int × Bool :=
  term (s.regI (lb n 9) * out + widen (s.regI (lb n 0xA))) 65536

/-- A sample's results enter the window and the block's state (R146, R148, R151). -/
structure LoopResult where
  y     : Int
  w     : Int
  step  : Int
  v     : Int
  a     : Int
  yf    : Int
  integ : Int
  out   : Int
  mode  : Nat
  frozen : Bool := false
  ramping : Bool := false
  outerOff : Bool := false
  wasAuto : Bool := false
  wasInvalid : Bool := false
  flags : LoopFlags
  deriving DecidableEq, Repr

/-- Writes a sample's results (R146, R148, R164). -/
def State.finishSample (s : State) (n : Nat) (x : LoopResult) : State :=
  let r := s.lrt n
  let d := s.destValue n x.out
  let faulty := s.destFaulty n
  let f := { x.flags with out := x.flags.out || d.2 }
  let old := s.reg (lb n 0x29)
  let b (c : Bool) (k : Nat) : Nat := if c then 2 ^ k else 0
  let status := x.mode + b (r.mode == 5) 4 + (old &&& 0xFF00) + b x.frozen 16 + b (x.out == s.regI (lb n 0x24)) 17 +
    b (x.out == s.regI (lb n 0x25)) 18 + b r.rawBad 19 + b x.ramping 20 + b r.overridden 21 + b faulty 22 +
    b (old.testBit 23) 23 + b x.outerOff 24
  let s1 := s.setLrt n { r with integ := x.integ, yf := x.yf, w := x.w, step := x.step, mode := x.mode
                                wasAuto := x.wasAuto, wasInvalid := x.wasInvalid
                                dest := if faulty then none else some (BitVec.ofInt 32 d.1) }
  let s2 := ((((((s1.setRegI (lb n 0x26) x.y).setRegI (lb n 0x27) x.out).setRegI (lb n 0x28) (roundAway x.w 65536)).setRegI
    (lb n 0x2A) x.v).setRegI (lb n 0x2B) x.a).setRegI (lb n 0x2C) (term x.integ 65536).1).setReg (lb n 0x29) status
  (((s2.stick n f.bits).countFlags n f).causeIf (r.rawBad && !old.testBit 19) 4 3).showPending n

/-- I back-calculated from an output (R158): OUT − P − D, in feed-forward mode 0x01 OUT / λ − P − D; and whether it was
limited or λ was (R148, R154). Where λ is 0 the quotient is not stated: it is a free value. -/
def State.backCalc (s : State) (n : Nat) (t : LoopTerms) (out : Int) : (Int × Bool × Bool) × State :=
  if s.reg (lb n 0xB) = 1 then
    let (vn, m, lim) := s.voltage n
    if vn = 0 then
      let (v, s1) := s.draw
      (((long (signed 48 v) 1).1, false, lim), s1)
    else
      let q := if 0 < vn then widen out * m else -(widen out * m)
      let i := long (q - widen (t.p + t.d) * vn.natAbs) vn.natAbs
      ((i.1, i.2, lim), s)
  else
    let i := long (widen (out - t.p - t.d)) 1
    ((i.1, i.2, false), s)

/-- The working setpoint that track source 0x02 follows: of the lowest block that names this one (R158). -/
def State.trackSetpoint (base : State) (n : Nat) : Option Int :=
  (base.blocks.find? (fun c => base.reg (lb c 0xC) == n)).map (fun c => base.regI (lb c 0x28))

/-- The value released for a block's destination at the most recent release edge, the safety matrix's included (R158). -/
def State.releasedFor (s : State) (n : Nat) : Int :=
  let v := s.reg (lb n 8)
  if v / 2 ^ 28 = 1 then s.releasedMa (v % 16)
  else match s.tick.released.words.find? (fun x => x.1 == v % 2 ^ 20) with
    | some x => x.2.toInt
    | none => 0

/-- What TRACK follows (R158). With source 0x01 and an output scale of 0 the quotient is not stated, and with source 0x02 and
no block that names this one nothing is: a free value. -/
def State.trackValue (s base : State) (n : Nat) : Int × State :=
  match s.reg (lb n 0xD) with
  | 0 => (s.regI (lb n 0x1D), s)
  | 1 =>
    let ko := s.regI (lb n 9)
    if ko = 0 then (let (v, s1) := s.draw; (signed 32 v, s1))
    else
      let d := widen (s.releasedFor n - s.regI (lb n 0xA))
      ((term (if 0 < ko then d else -d) ko.natAbs).1, s)
  | _ =>
    match base.trackSetpoint n with
    | some v => (v, s)
    | none => (let (v, s1) := s.draw; (signed 32 v, s1))

/-- yf and yf′ of a sample: at the first valid sample after the reaction 0x01 both are y (R151 step 4, R157). -/
def State.filterPair (s : State) (n : Nat) (y : Int) : Int × Int :=
  let r := s.lrt n
  if r.wasInvalid && !r.rawBad then (widen y, widen y) else (s.filtered n y r.yf, r.yf)

/-- A sample in MANUAL or TRACK: the output follows `target`, unmoved where `held`, and I is back-calculated (R157, R158). -/
def State.sampleFollow (s : State) (n mode : Nat) (y target : Int) (held : Bool) (f : LoopFlags) : State :=
  let r := s.lrt n
  let yf := s.filterPair n y
  let t := s.loopTerms n y (widen y) yf.1 yf.2 f
  let o := if held then (target, false, false) else s.limitOut n target
  let (i, s1) := s.backCalc n t o.1
  s1.finishSample n { y := y, w := widen y, step := 0, v := 0, a := 0, yf := yf.1, integ := i.1, out := o.1, mode := mode
                      wasInvalid := r.wasInvalid && r.rawBad
                      flags := { t.flags with i := i.2.1, ff := i.2.2, out := o.2.1, rate := o.2.2 } }

/-- A sample in OFF or STOPPING (R158, R161). -/
def State.sampleStop (s : State) (n mode : Nat) (y : Int) (f : LoopFlags) : State :=
  let r := s.lrt n
  let stop := s.regI (lb n 0x10)
  if mode = 0 then
    s.finishSample n { y := y, w := widen y, step := 0, v := 0, a := 0, yf := widen y, integ := 0, out := stop, mode := 0
                       flags := f }
  else
    let prev := s.regI (lb n 0x27)
    let g := stepLimit (s.regI (lb n 0x17)) (s.loopTs n)
    let m := widen (stop - prev)
    let out := if m.natAbs ≤ g then stop else roundAway (widen prev + m.sign * g) 65536
    s.finishSample n { y := y, w := widen y, step := 0, v := 0, a := 0, yf := (s.filterPair n y).1, integ := 0
                       out := out, mode := if out = stop then 0 else 5, wasInvalid := r.wasInvalid && r.rawBad, flags := f }

/-- u* of a sample, with the integrator value `i` (R151 step 9). -/
def State.loopSum (s : State) (n : Nat) (t : LoopTerms) (ff i : Int) : Int :=
  let sum := widen (t.p + t.d) + i
  if s.reg (lb n 0xB) = 1 then
    let (vn, m, _) := s.voltage n
    (term (sum * vn) (65536 * m.toNat)).1
  else (term (sum + widen ff) 65536).1

/-- The output of a block as another block takes it: of this tick from a lower position of the same pair, else of the
last sample before the tick (R163). `base` is the state before the tick's samples. -/
def State.cascadeOut (s base : State) (n o : Nat) : Int × Nat :=
  if o / 32 = n / 32 ∧ o < n then (s.regI (lb o 0x27), (s.lrt o).mode) else (base.regI (lb o 0x27), (base.lrt o).mode)

/-- A sample in AUTO or CASCADE (R151 to R157). -/
def State.sampleAuto (s base : State) (n mode : Nat) (y : Int) (f0 : LoopFlags) : State :=
  let r := s.lrt n
  let ts := s.loopTs n
  let src := if mode = 4 then s.cascadeOut base n (s.reg (lb n 0xC)) else (s.regI (lb n 0x1A), 2)
  let target := clampInt (s.regI (lb n 0x14)) (s.regI (lb n 0x13)) src.1
  let outer := mode == 4 && (src.2 == 0 || src.2 == 5)
  let wOld := if r.wasAuto then r.w else widen y
  let sOld := if r.wasAuto then r.step else 0
  let gen := generator (stepLimit (s.regI (lb n 0x23)) ts) (accLimit (s.regI (lb n 0x15)) ts) (widen target) wOld sOld
  let w := long gen.1 1
  let v := term (gen.2 * 1000000) (ts * 65536)
  let a := term ((gen.2 - sOld) * 1000000000000) (ts * ts * 65536)
  let f1 := { f0 with sp := decide (target ≠ src.1) || w.2 || v.2 || a.2 }
  let yf := if r.wasInvalid then widen y else s.filtered n y r.yf
  let yf0 := if r.wasInvalid then widen y else r.yf
  let t := s.loopTerms n y w.1 yf yf0 f1
  let kp := s.regI (lb n 0x1E)
  let bump := r.bumpB * r.w - r.bumpK * widen (widen (s.regI (lb n 0x26)))
  let i0 := long (r.integ * 2 ^ 32 + bump) (2 ^ 32)
  let ff := if s.reg (lb n 0xB) = 2 then term (s.regI (lb n 0x21) * v.1 + s.regI (lb n 0x22) * a.1) 65536 else (0, false)
  let gI := if s.reg (lb n 0x1F) = 0 then 0 else coefficient ts (s.reg (lb n 0x1F))
  let di := long (kp * gI * (w.1 - widen y)) (2 ^ 48)
  let i1 := long (i0.1 + di.1) 1
  let u := s.loopSum n t ff.1 i1.1
  let o := s.limitOut n u
  let c := clampInt (s.regI (lb n 0x25)) (s.regI (lb n 0x24)) u
  let drop := (decide (s.regI (lb n 0x24) < u) && decide (0 < di.1)) || (decide (u < s.regI (lb n 0x25)) && decide (di.1 < 0)) ||
    (o.2.2 && decide ((c - o.1).sign = di.1.sign)) || r.overridden
  let u' := if drop then s.loopSum n t ff.1 i0.1 else u
  let o' := if drop then s.limitOut n u' else o
  let volt := s.reg (lb n 0xB) == 1 && (s.voltage n).2.2
  let f2 := { t.flags with i := di.2 || i0.2 || (i1.2 && !drop), ff := ff.2 || volt, out := o'.2.1, rate := o'.2.2 }
  let x : LoopResult :=
    { y := y, w := w.1, step := gen.2, v := v.1, a := a.1, yf := yf
      integ := if drop then i0.1 else i1.1
      out := o'.1, mode := mode, frozen := drop, ramping := w.1 != widen target, outerOff := outer
      wasAuto := true, flags := f2 }
  (s.setLrt n { r with bumpK := 0, bumpB := 0 }).finishSample n x

/-- The reaction 0x01 to an invalid measurement: everything stands (R157). -/
def State.sampleHeld (s base : State) (n mode : Nat) (y : Int) (f : LoopFlags) : State :=
  let r := s.lrt n
  let src := if mode = 4 then s.cascadeOut base n (s.reg (lb n 0xC)) else (s.regI (lb n 0x1A), 2)
  let target := clampInt (s.regI (lb n 0x14)) (s.regI (lb n 0x13)) src.1
  s.finishSample n { y := y, w := r.w, step := r.step, v := s.regI (lb n 0x2A), a := s.regI (lb n 0x2B), yf := r.yf
                     integ := r.integ, out := s.regI (lb n 0x27), mode := mode, ramping := r.w != widen target
                     outerOff := mode == 4 && (src.2 == 0 || src.2 == 5), wasAuto := r.wasAuto, wasInvalid := true
                     flags := f }

/-- One sample of a block (R151, R157 to R159). `base` is the state before the tick's samples. -/
def State.sample (base s : State) (n : Nat) : State :=
  let r := s.lrt n
  let ym := term (s.regI (lb n 5) * r.raw.toInt + widen (s.regI (lb n 6))) 65536
  let f : LoopFlags := { p := ym.2 }
  let (mode, refused) := s.nextMode n
  let s1 := if refused then (s.loopRefuse n).setReg (lb n 0x1B) mode else s
  match mode with
  | 1 => s1.sampleFollow n 1 ym.1 (s1.regI (lb n 0x1C)) false f
  | 3 =>
    let (v, s2) := s1.trackValue base n
    s2.sampleFollow n 3 ym.1 v false f
  | 2 | 4 =>
    if r.rawBad && s1.reg (lb n 0xE) == 1 then s1.sampleHeld base n mode ym.1 f
    else if r.rawBad && s1.reg (lb n 0xE) == 2 then
      let out := s1.regI (lb n 0x27)
      ((s1.setReg (lb n 0x1B) 1).setRegI (lb n 0x1C) out).sampleFollow n 1 ym.1 out true f
    else s1.sampleAuto base n mode ym.1 f
  | _ => s1.sampleStop n mode ym.1 f

/-- The window registers of a block (R146). -/
def windowSubs : List Nat := (List.range 19).map (fun i => 0x1A + i)

/-- A loop pair mismatch (R142). -/
def State.loopMismatch (s : State) (pair : Nat) : State :=
  (({ s with pair := { s.pair with mismatches := s.pair.mismatches ++ [pair] } }.count 0x230008).setReg 0x230009
    (pair - 16)).setCause 4 1

/-- The samples of a tick (R140, R141). `bad` names by 16 + n the blocks n whose comparison fails: their pair makes no
further sample in the tick (R142). -/
def State.sampleLoops (s : State) (bad : List Nat) : State :=
  let due := (List.range 128).filter s.loopDue
  let stop (q : Nat) : Option Nat := due.find? (fun n => n / 32 == q && bad.contains (16 + n))
  let base := { s with tick := { s.tick with window := due.flatMap (fun n => windowSubs.map (fun k => (lb n k, s.reg (lb n k)))) } }
  let made := due.filter (fun n => match stop (n / 32) with
    | some m => decide (n ≤ m)
    | none => true)
  (base.each made (State.sample base)).each ((List.range 4).filter (fun q => (stop q).isSome)) (fun t q => t.loopMismatch (16 + q))

/-! ## Entry to and exit from RUN (R160) -/

/-- On entry to RUN every configured block starts OFF: I is 0, w and yf follow the y of its last sample (log entry 98). -/
def State.loopsStart (s : State) : State :=
  s.each s.blocks (fun t n =>
    let y := widen (t.regI (lb n 0x26))
    ((t.setLrt n { t.lrt n with integ := 0, yf := y, w := y, step := 0, dest := none, mode := 0, wasAuto := false
                                wasInvalid := false }).setReg (lb n 0x1B) 0).setReg
      (lb n 0x29) (t.reg (lb n 0x29) &&& 0xFF0000))

/-- On leaving RUN every block is forced OFF, with FORCED set; the bits of the last sample stand. -/
def State.loopsForceOff (s : State) : State :=
  s.each (List.range 128) (fun t n =>
    let r := t.lrt n
    ((t.setLrt n { r with mode := 0, wasAuto := false, wasInvalid := false, dest := none }).setReg (lb n 0x1B) 0).setReg
      (lb n 0x29) ((t.reg (lb n 0x29) &&& 0x7FFF00) + 2 ^ 23))

/-- The bytes of Q that an override of an output reference reaches, by block number: OVERRIDDEN of R162. -/
def State.overrides (s : State) (refs : List OutRef) (n : Nat) : Bool :=
  let v := s.reg (lb n 8)
  let a := v % 2 ^ 20
  match v / 2 ^ 28 with
  | 1 => refs.any (fun r => r.kind == 2 && r.target == v % 16)
  | 2 => refs.any (fun r =>
      match r.kind with
      | 1 => inBlock (s.reg 0x280002 + r.target / 8) a 4
      | 2 => inBlock (s.reg 0x290002 + 4 * r.target) a 4
      | 3 => s.reg (recK r.station 0x16) != 0xFFFFFFFF && inBlock (s.reg (recK r.station 0x16) + r.target / 8) a 4
      | _ => s.reg (recK r.station 0x16) != 0xFFFFFFFF && inBlock (s.reg (recK r.station 0x16) + r.target) a 4)
  | _ => false

/-- Notes the loops whose destination the safety matrix replaced (R162). -/
def State.noteOverrides (s : State) (refs : List OutRef) : State :=
  s.each s.blocks (fun t n =>
    let o := t.overrides refs n
    if (t.lrt n).overridden = o then t else t.setLrt n { t.lrt n with overridden := o })

/-! ## Entries -/

/-- Steps 8 and 9 of R366 for the entries of a loop block (R139, R140, R144, R166). -/
def State.loopCheck (s : State) (key v : Nat) : Nat :=
  let ix := key / 256
  let sub := key % 256
  if 0x2400 ≤ ix ∧ ix ≤ 0x247F then
    let n := ix - 0x2400
    if sub = 1 then (if v = 1 ∧ 16 ≤ n % 32 ∧ s.reg 0x200001 < 100 then 0x06040043 else 0)
    else if sub = 2 then (if v ≤ s.reg (lb n 3) then 0x06040043 else 0)
    else if sub = 3 then (if s.reg (lb n 2) ≤ v then 0x06040043 else 0)
    else if sub = 4 ∨ sub = 7 then (if refFormOk v then 0 else 0x06090030)
    else if sub = 8 then
      (if !refFormOk v then 0x06090030
       else if v ≠ 0 ∧ s.blocks.any (fun m => m != n && s.reg (lb m 8) == v) then 0x06040043 else 0)
    else if sub = 0xC then (if v ≤ 127 ∨ v = 0xFF then 0 else 0x06090030)
    else if sub = 0x13 then (if signed 32 v < s.regI (lb n 0x14) then 0x06040043 else 0)
    else if sub = 0x14 then (if s.regI (lb n 0x13) < signed 32 v then 0x06040043 else 0)
    else 0
  else if key = 0x200001 then
    (if v < 100 ∧ s.blocks.any (fun n => decide (16 ≤ n % 32)) then 0x06040043 else 0)
  else 0

/-- The writes of a loop block as a closing point applies them (R147, R150, R156). -/
def State.loopApply (s : State) (key v : Nat) : Option State :=
  let ix := key / 256
  let sub := key % 256
  if 0x2400 ≤ ix ∧ ix ≤ 0x247F then
    let n := ix - 0x2400
    if 0x1A ≤ sub ∧ sub ≤ 0x2C then some (s.windowApply n sub v)
    else if sub = 0x11 then some ((s.noteBump n (s.regI (lb n 0x1E)) (signed 32 v)).setReg key v)
    else if (sub = 0x15 ∨ sub = 0x16 ∨ sub = 0x17) ∧ signed 32 v < 0 then some ((s.setReg key v).loopRefuse n)
    else none
  else none

/-- The largest number of elements that are pairwise compatible. -/
def largestSet {α : Type} (f : α → α → Bool) (w : α → Nat) (n : Nat) (xs : List α) : Nat :=
  match n, xs with
  | 0, _ => 0
  | _, [] => 0
  | n + 1, x :: t =>
    let rest := t.filter (f x)
    let inn := w x + largestSet f w n rest
    if rest.length = t.length then inn else max inn (largestSet f w n t)

/-- Two due patterns meet in some tick (R92). -/
def canMeet (a b : Nat × Nat) : Bool := a.2 % Nat.gcd a.1 b.1 == b.2 % Nat.gcd a.1 b.1

/-- The load of a loop pair (R165). -/
def State.loopLoad (s : State) (p : Nat) : Nat :=
  let xs := (s.blocks.filter (fun n => n / 32 == p)).map (fun n => (s.reg (lb n 2), s.reg (lb n 3)))
  240 + 240 * largestSet canMeet (fun _ => 1) 32 xs

/-- A number with bit n set for each block at which `f` holds. -/
def blockBits (f : Nat → Bool) : Nat := (List.range 128).foldl (fun v n => if f n then v + 2 ^ n else v) 0

/-- The loop entries whose value follows from others (R165). -/
def State.loopView (s : State) (key : Nat) : Option Nat :=
  if key = 0x230001 then some (if s.tD < 100 then 16 else 32)
  else if key = 0x230002 then some s.blocks.length
  else if 0x230003 ≤ key ∧ key ≤ 0x230006 then some (s.loopLoad (key - 0x230003))
  else if key = 0x230007 then some (8 * s.blocks.length)
  else if key = 0x230101 then some (blockBits (fun n => s.on (lb n 1)))
  else if key = 0x230102 then some (blockBits (fun n => (s.lrt n).mode == 2 || (s.lrt n).mode == 4))
  else if key = 0x230103 then some (blockBits (fun n => s.reg (lb n 0x29) / 256 % 256 != 0))
  else if key = 0x230104 then some (blockBits (fun n => (s.lrt n).mode == 5 || s.bit (lb n 0x29) 4))
  else if key = 0x230105 then some (blockBits (fun n => s.bit (lb n 0x29) 19))
  else none

end Sys2Proof.Machine
end

