-- ==== Sys2Proof/Machine/Budget.lean ====
section
/-! DEFINITION. The tick budget, the task capacity and the conditions for RUN (R13, R18 to R22, R38, R39, R82, R92, R479). -/

namespace Sys2Proof.Machine

open Sys2Proof

/-- The value of an entry that will be in force at the next frame boundary: the pending one, else the current one
(R21, R39). -/
def State.pendingValue (s : State) (key : Nat) : Nat :=
  match s.dict.atBoundary.reverse.find? (fun w => w.key == key) with
  | some w => leNat w.data
  | none => s.reg key

/-- A write to an entry waits for the frame boundary. -/
def State.isPending (s : State) (key : Nat) : Bool := s.dict.atBoundary.any (fun w => w.key == key)

/-- The tick-shape entries (R22). -/
def tickShape : List Nat := [0x200001, 0x200003, 0x200004, 0x200005]

/-- The tick period is one of R13. -/
def periodOk (us : Nat) : Bool := decide (50 ≤ us) && decide (us ≤ 20000) && 1000000 % us == 0

/-- The frame is one of R38. -/
def frameOk (us n : Nat) : Bool := decide (10000 ≤ us * n) && decide (us * n ≤ 60000000)

/-- Rounds a fraction of a nanosecond up to the next 5 ns (R19). -/
def upTo5 (num den : Nat) : Nat := 5 * ceilDiv num (5 * den)

/-- The shipped image size I (R26). -/
def State.shippedSize (s : State) : Nat :=
  (match s.activeImage with
   | some m => m.iSize
   | none => 0) + 8 * s.blocks.length

/-- The budget of R19 and R20 in ns. -/
structure Budget where
  tTrav : Nat
  cMin  : Nat
  size  : Nat
  tShip : Nat
  c     : Nat
  x     : Nat
  s     : Nat
  k     : Nat
  td    : Nat
  tTok  : Nat
  bIn   : Nat
  bOut  : Nat
  n     : Nat
  deriving DecidableEq, Repr

/-- The budget formed on the values that `v` gives the tick entries (R19, R184). -/
def State.budgetOn (s : State) (v : Nat → Nat) : Budget :=
  let n := s.stations.length
  let bIn := s.sizeSum 2
  let bOut := s.sizeSum 3
  let size := if s.inPair then s.shippedSize else 0
  let tTrav := if n = 0 then 0 else upTo5 (3000 + 900 * n + 8 * bIn) 1
  let tShip := if s.inPair then upTo5 (5000 + (if s.on 0x25000E then 8 else 4) * size) 10 else 0
  let c := v 0x200003 * 1000
  let st := v 0x200004 * 1000
  let k := st + v 0x200005 * 1000
  { tTrav := tTrav, cMin := if n = 0 then 20000 else max 20000 (tTrav + 2000), size := size, tShip := tShip
    c := c, x := c + tShip, s := st, k := k, td := v 0x200001 * 1000
    tTok := if n = 0 then 0 else upTo5 (max k (st + 8 * bOut) + 3000 + 900 * n) 1, bIn := bIn, bOut := bOut, n := n }

/-- The first failing condition (2002.07), 0 where all hold; `us` and `nf` are tick period and frame length. -/
def Budget.verdict (b : Budget) (us nf : Nat) (pair : Bool) : Nat :=
  if !periodOk us then 1
  else if !frameOk us nf then 2
  else if b.c < b.cMin then 3
  else if b.s < b.x + 10000 then 4
  else if b.k < b.s + 4000 then 5
  else if b.td < b.k + 3000 then 6
  else if b.n ≠ 0 ∧ b.td < b.tTok + 2000 then 7
  else if pair && decide (65536 < b.size) then 8
  else 0

/-- The budget on the values for the next frame boundary (R21). -/
def State.budget (s : State) : Budget := s.budgetOn s.pendingValue

/-- The verdict of 2002.07 (R21). -/
def State.budgetVerdict (s : State) : Nat :=
  let v := s.budget.verdict (s.pendingValue 0x200001) (s.pendingValue 0x200002) s.inPair
  if v = 0 && tickShape.any s.isPending then 9 else v

/-- The tick shape holds its points in order (R479). -/
def State.shapeOk (s : State) : Bool :=
  let b := s.budget
  decide (20000 ≤ b.c) && decide (b.c + 10000 ≤ b.s) && decide (b.s + 4000 ≤ b.k) && decide (b.k + 3000 ≤ b.td)

/-- Steps 8 and 9 of R366 for the tick entries: the period is one of R13, and period and frame length, each as it will be in
force at the next frame boundary, give a frame of R38 (R39). -/
def State.tickCheck (s : State) (key v : Nat) : Nat :=
  if key = 0x200001 then
    (if !periodOk v then 0x06090030 else if frameOk v (s.pendingValue 0x200002) then 0 else 0x06040043)
  else if key = 0x200002 then (if frameOk (s.pendingValue 0x200001) v then 0 else 0x06040043)
  else 0

/-- A signed difference in an I32. -/
def diff32 (a b : Nat) : Nat := unsigned 32 ((a : Int) - (b : Int))

/-- The release margin (2002.06). -/
def Budget.release (b : Budget) : Int :=
  let m := (b.td : Int) - 3000 - b.k
  if b.n = 0 then m else min m ((b.td : Int) - 2000 - b.tTok)

/-- The gap G in ns (R133). -/
def State.gapNs (s : State) : Nat := s.tD * 1000 - s.reg 0x200004 * 1000 + s.reg 0x200107

/-- 2001.07, 2002 and the gap of 2202.01 follow the configuration; a change of 2002.07 sets its cause (R21, R138, R388). X in
force lies at the earlier of C + t_ship and S (R479). -/
def State.refreshBudget (s : State) : State :=
  let b := s.budget
  let cur := s.budgetOn s.reg
  let v := s.budgetVerdict
  let s1 := (((((s.setReg 0x200107 (min cur.x cur.s)).setReg 0x200201 b.tTrav).setReg 0x200202 (diff32 b.c b.cMin)).setReg
    0x200203 b.size).setReg 0x200204 b.tShip).setReg 0x200205 (b.s - b.x)
  let s2 := (((s1.setReg 0x200206 (unsigned 32 b.release)).setReg 0x200208 b.bIn).setReg 0x200209 b.bOut).setReg 0x220201
    s1.gapNs
  if s2.reg 0x200207 = v then s2 else (s2.setReg 0x200207 v).setCause 2 2

/-! ## Capacity (R92) -/

/-- The load of an engine pair: the largest sum over tasks that can be due in one tick, with the error task (R92). -/
def Image.pairLoad (m : Image) (p : Nat) : Nat :=
  let cyc := m.tasks.filter (fun t => t.kind == 0 && t.pair == p)
  let err := m.tasks.filter (fun t => t.kind == 2 && t.pair == p)
  largestSet (fun a b => canMeet (a.period, a.phase) (b.period, b.phase)) (fun t => t.budget + 12) 16 cyc +
    (err.map (fun t => t.budget + 12)).foldl (fun a b => a + b) 0

/-- The start-up task's budget, if the image has one. -/
def Image.startTask (m : Image) : Option TaskDesc := m.tasks.find? (fun t => t.kind == 1)

/-- The capacity verdict and the first failing pair, in the order of R92. -/
def State.capacityOf (s : State) (m : Image) : Nat × Nat :=
  match (List.range 15).find? (fun p => decide (s.windowCycles < m.pairLoad p)) with
  | some p => (2, p)
  | none =>
    if s.windowCycles < s.witnessLoad then (3, 15)
    else match m.startTask with
      | some t => if s.windowCycles < t.budget + 12 then (4, 0) else (0, 0xFF)
      | none => (0, 0xFF)

/-- 2102 follows image, matrix and budget. -/
def State.refreshCapacity (s : State) : State :=
  let v := s.capacityOf s.image
  let s1 := ((s.setReg 0x210201 s.windowCycles).setReg 0x210211 s.witnessLoad).each (List.range 15)
    (fun t p => t.setReg (keyOf 0x2102 (2 + p)) (s.image.pairLoad p))
  (s1.setReg 0x210212 v.1).setReg 0x210213 v.2

/-- Everything that follows from the configuration in force. -/
def State.refresh (s : State) : State := s.refreshBudget.refreshCapacity.showMatrix

/-! ## RUN (R82) -/

/-- The conditions for RUN beside state and role (R82). -/
def State.runConditions (s : State) : Nat :=
  if s.mtx.stopped then 5
  else if s.budgetVerdict ≠ 0 then 1
  else if s.activeImage.isNone then 2
  else if (s.capacityOf s.image).1 ≠ 0 then 3
  else if (s.mtx.active.map s.matrixVerdict).getD 0 ≠ 0 then 4
  else 0

/-- The reason of 2100.07 that a request to enter RUN meets, 0 where every condition holds (R82). -/
def State.runRefusal (s : State) : Nat :=
  if s.mode ≠ stStopped ∨ !(s.role == 0 || s.role == 1) then 6 else s.runConditions

end Sys2Proof.Machine
end

