-- ==== Sys2Proof/Machine/Images.lean ====
section
/-! DEFINITION. Program banks: download, verification, activation, initial data, online exchange (R121 to R138, R377). -/

namespace Sys2Proof.Machine

open Sys2Proof

/-! ## Banks (R121 to R124, R138) -/

/-- Writes a bank. -/
def State.setBank (s : State) (n : Nat) (b : Bank) : State :=
  if n = 0 then { s with img := { s.img with bankA := b } } else { s with img := { s.img with bankB := b } }

/-- The state of a bank: 0 empty, 1 valid, 2 invalid (2200.09, 2200.0A). -/
def State.bankState (s : State) (n : Nat) : Nat := s.reg (if n = 0 then 0x220009 else 0x22000A)

/-- The entries of a bank follow its content. -/
def State.showBank (s : State) (n st : Nat) : State :=
  let b := s.bank n
  let m := b.image.getD {}
  let hash := if b.image.isSome then leNat (leBytes 48 (Config.sha384 b.container)).reverse else 0
  if n = 0 then (((s.setReg 0x220003 m.ident).setReg 0x220004 m.version).setReg 0x220005 hash).setReg 0x220009 st
  else (((s.setReg 0x220006 m.ident).setReg 0x220007 m.version).setReg 0x220008 hash).setReg 0x22000A st

/-- The bank that command 0x01 and the exchange reach: the inactive one (R121, R124). -/
def State.inactiveBank (s : State) : Nat :=
  if s.reg 0x220002 ≤ 1 then 1 - s.reg 0x220002 else s.img.lastLoaded.getD 0

/-- The bank that a download loads (R121). -/
def State.loadBank (s : State) : Nat :=
  if s.reg 0x220002 ≤ 1 then 1 - s.reg 0x220002
  else if s.bankState 0 = 1 ∧ s.bankState 1 ≠ 1 then 1 else 0

/-- A bank's content is discarded; a cold activation that waits for it finds it gone (R121, R124). -/
def State.emptyBank (s : State) (n : Nat) : State :=
  let s1 := (s.setBank n {}).showBank n 0
  match s1.img.coldPending with
  | some (b, _) => if b = n then { s1 with img := { s1.img with coldPending := some (b, false) } } else s1
  | none => s1

/-- The exchange state with a bank ready or not: LOADED or IDLE. -/
def State.restState (s : State) : Nat := if s.bankState s.inactiveBank = 1 then 3 else 0

/-- The entries that follow the active image's tasks and retained range (R112 to R114, R138). -/
def State.showImage (s : State) : State :=
  let m := s.image
  let st := m.startTask
  let err := m.tasks.find? (fun t => t.kind == 2)
  let s1 := (s.setReg 0x210008 (if st.isSome then 1 else 0)).setReg 0x210009 ((st.map (fun t => t.budget)).getD 0)
  let s2 := s1.each (List.range 16) (fun t k =>
    match m.tasks.find? (fun x => x.kind == 0 && x.number == k) with
    | some x => (((((t.setReg (keyOf (0x2110 + k) 1) 1).setReg (keyOf (0x2110 + k) 2) x.period).setReg (keyOf (0x2110 + k) 3)
        x.phase).setReg (keyOf (0x2110 + k) 4) x.pair).setReg (keyOf (0x2110 + k) 5) x.budget).setReg
        (keyOf (0x2110 + k) 6) x.entry
    | none => [1, 2, 3, 4, 5, 6].foldl (fun u n => u.setReg (keyOf (0x2110 + k) n) 0) t)
  let s3 := ((s2.setReg 0x212001 (if err.isSome then 1 else 0)).setReg 0x212002 ((err.map (fun t => t.pair)).getD 0)).setReg
    0x212003 ((err.map (fun t => t.budget)).getD 0)
  ((s3.setReg 0x220301 m.retStart).setReg 0x220302 m.retSize).refreshCapacity

/-- A bank becomes the active one; its record in flash is not yet committed (R124, R134, R137). -/
def State.makeActive (s : State) (n : Nat) : State :=
  let s1 := (s.setReg 0x220002 n).setReg 0x22000B 0
  (s1.setReg 0x220102 s1.restState).showImage

/-- A frame boundary makes an accepted cold activation (R124). -/
def State.coldBoundary (s : State) : State :=
  match s.img.coldPending with
  | none => s
  | some (n, whole) =>
    let s1 := { s with img := { s.img with coldPending := none } }
    if s.mode ≠ stStopped then s1.setReg 0x220103 3
    else if !whole || s.bankState n != 1 then s1.setReg 0x220103 4
    else (s1.makeActive n).setReg 0x220103 1

/-! ## Initial data (R72, R75, R117, R125) -/

/-- Timers at their initial state: PT of the initial data, ET 0, IN and Q 0, FRESH 1 (R72). -/
def initTimers (n : Nat) (mem : Sparse Byte) : Sparse Byte :=
  (List.range n).foldl (fun m k =>
    let a := memKey 5 0 (16 * k)
    let kind := leNat (Memory.readBytes m (a + 14) 2) &&& 0x70
    Memory.writeBytes m (a + 4) (leBytes 10 0 ++ leBytes 2 (kind + 4))) mem

/-- Counters at their initial state: CU and CD 0, QU and QD computed (R75). -/
def initCounters (n : Nat) (mem : Sparse Byte) : Sparse Byte :=
  (List.range n).foldl (fun m k =>
    let a := memKey 6 0 (16 * k)
    let cv := signed 32 (leNat (Memory.readBytes m a 4))
    let pv := signed 32 (leNat (Memory.readBytes m (a + 4) 4))
    Memory.writeBytes m (a + 8) (leBytes 4 0 ++ leBytes 4 (counterStatus false false cv pv))) mem

/-- The initial data of an image, in every area. -/
def Image.initMem (m : Image) : Sparse Byte :=
  initCounters m.counters (initTimers m.timers
    (m.data.foldl (fun mem r => Memory.writeBytes mem (memKey r.area r.task r.addr) r.data) []))

/-- The data memory that an entry to RUN initialises: that of the image, with every edge memory at 0 (R60, R125). -/
def Image.runMem (m : Image) : Sparse Byte := Memory.clear m.initMem (memKey 7 0 0) 0x20000

/-- Copies bytes between two memories. -/
def copyBytes (src dst : Sparse Byte) (a b n : Nat) : Sparse Byte := Memory.writeBytes dst b (Memory.readBytes src a n)

/-- Whether the retained range is kept at an entry to RUN, with the outcome of 2203.04 (R125). -/
def State.retainedOutcome (s : State) : Nat :=
  let m := s.image
  if s.img.retLost then 3
  else if s.img.retWriter ≠ some (m.retStart, m.retSize, m.layoutHash) then 1
  else if s.img.retEccBad then 2 else 0

/-- The data memory at an entry to RUN (R125): areas from the initial data, I as it stands, the retained range kept
where its outcome allows. -/
def State.initData (s : State) : State :=
  let m := s.image
  let v := s.retainedOutcome
  let fresh := copyBytes s.mem m.runMem (memKey 0 0 0) (memKey 0 0 0) m.iSize
  let mem := if v = 0 then copyBytes s.mem fresh (memKey 3 0 m.retStart) (memKey 3 0 m.retStart) m.retSize else fresh
  ({ s with mem := mem, img := { s.img with retWriter := some (m.retStart, m.retSize, m.layoutHash)
                                            retLost := false, retEccBad := false } }.setReg 0x220303 m.layoutHash).setReg
    0x220304 v

/-! ## Online exchange (R126 to R136) -/

/-- A matched pair of monuments: the old record, or none, and how it is transferred (R128). -/
inductive Transfer' where
  | full (old : Monument)
  | part (old : Monument)
  | initial
  deriving DecidableEq, Repr

/-- How a new monument is transferred (R128). -/
def matchMonument (old : Image) (n : Monument) : Transfer' :=
  match old.monuments.find? (fun o => o.ident == n.ident && o.kind == n.kind) with
  | none => .initial
  | some o =>
    if o.size = n.size ∧ o.layout = n.layout then .full o
    else if n.flags.testBit 1 then .part o
    else .initial

/-- A retained monument that stays in place (R131). -/
def stays (n : Monument) (t : Transfer') : Bool :=
  match t with
  | .full o => n.kind == 6 && o.addr == n.addr
  | .part o => n.kind == 6 && o.addr == n.addr
  | .initial => false

/-- The source of a moved retained monument and its bytes (R131, R132). -/
def movedFrom (n : Monument) (t : Transfer') : Option (Nat × Nat × Nat) :=
  match t with
  | .full o => if n.kind = 6 ∧ o.addr ≠ n.addr then some (o.addr, n.addr, n.size) else none
  | .part o => if n.kind = 6 ∧ o.addr ≠ n.addr then some (o.addr, n.addr, min o.size n.size) else none
  | .initial => none

/-- The moved retained monuments of an exchange: source, destination, bytes. -/
def movedList (old new : Image) : List (Nat × Nat × Nat) :=
  new.monuments.filterMap (fun n => movedFrom n (matchMonument old n))

/-- A retained monument whose address differs from its old one (R131), also where it takes initial values. -/
def addressDiffers (old : Image) (n : Monument) : Bool :=
  n.kind == 6 && old.monuments.any (fun o => o.ident == n.ident && o.kind == 6 && o.addr != n.addr)

/-- Every byte of a retained monument whose address differs lies in bytes that no monument of the old image uses (R131). -/
def movedOk (old new : Image) : Bool :=
  (new.monuments.filter (addressDiffers old)).all (fun n => old.monuments.all (fun o =>
    !(o.area == 3 && decide (n.addr < o.addr + o.size) && decide (o.addr < n.addr + n.size))))

/-- The bytes of a monument in the gap (R133). -/
def Monument.gapBytes (n : Monument) : Nat := n.range.2

/-- M_g and the static B_g: every monument but retained ones that stay, moved ones without their bytes (R133). -/
def gapLoad (old new : Image) : Nat × Nat :=
  new.monuments.foldl (fun a n =>
    let t := matchMonument old n
    if stays n t then a
    else if (movedFrom n t).isSome then (a.1 + 1, a.2)
    else (a.1 + 1, a.2 + n.gapBytes)) (0, 0)

/-- t_xfer in ns (R133). -/
def xferNs (m b : Nat) : Nat := upTo5 (20000 + 300 * m + 8 * b) 10

/-- The gap condition (R133). -/
def State.gapOk (s : State) (m b : Nat) : Bool := decide (xferNs m b + 5000 ≤ s.gapNs) && decide (b ≤ 262144)

/-- The image that an exchange installs. -/
def State.newImage (s : State) : Image := ((s.bank s.inactiveBank).image).getD {}

/-- The bytes of background transfer. -/
def State.bgTotal (s : State) : Nat := ((movedList s.image s.newImage).map (fun x => x.2.2)).foldl (fun a b => a + b) 0

/-- 2202 for an exchange, with `dirty` bytes outstanding (R138). -/
def State.showTransfer (s : State) (dirty : Nat) : State :=
  let old := s.image
  let new := s.newImage
  let g := gapLoad old new
  let ts := new.monuments.map (matchMonument old)
  let s1 := (((s.setReg 0x220201 s.gapNs).setReg 0x220202 g.1).setReg 0x220203 (g.2 + dirty)).setReg 0x220204
    (xferNs g.1 (g.2 + dirty))
  let count (f : Transfer' → Bool) : Nat := (ts.filter f).length
  let s2 := ((s1.setReg 0x220205 s.img.bgDone).setReg 0x220206 dirty).setReg 0x220207
    (count (fun t => match t with | .full _ => true | _ => false))
  let s3 := (s2.setReg 0x220208 (count (fun t => match t with | .part _ => true | _ => false))).setReg 0x220209
    (count (fun t => t == .initial))
  s3.setReg 0x22020A ((old.monuments.filter (fun o => !new.monuments.any
    (fun n => n.ident == o.ident && n.kind == o.kind && matchMonument old n != .initial))).length)

/-- The SHA-384 hash that the partner reports of a bank (R135, R191). -/
def State.partnerHash (s : State) (n : Nat) : Option Nat := s.pair.partner.map (fun p => if n = 0 then p.hashA else p.hashB)

/-- The exchange may run in a pair: in the ACTIVE, with a standby in step that holds the same image in its inactive bank,
or with a partner that is NOT-READY or not reached; a standby in step follows the active's decision (R135). -/
def State.partnerReady (s : State) : Bool :=
  s.role == 2 || (s.role == 1 &&
    (if s.reg 0x250102 = 2 then
      s.partnerHash s.inactiveBank == some (s.reg (if s.inactiveBank = 0 then 0x220005 else 0x220008))
     else s.reg 0x250102 == 4 || s.reg 0x250102 == 0xFF || s.reg 0x250105 == 0))

/-- The reason that refuses command 0x02, 0 where it is accepted (R127, R131, R135, 2201.03). -/
def State.exchangeRefusal (s : State) : Nat :=
  let old := s.image
  let new := s.newImage
  let g := gapLoad old new
  if s.mode ≠ stRun ∨ s.reg 0x220102 ≠ 3 then 3
  else if !s.on 0x22000E then 0x10
  else if !((new.baseId = 0 ∨ new.baseId = old.ident) ∧ (new.baseVersion = 0 ∨ new.baseVersion = old.version)) then 5
  else if new.iSize ≠ old.iSize ∨ new.qSize ≠ old.qSize then 6
  else if !movedOk old new then 7
  else if (s.capacityOf new).1 ≠ 0 then 0xF
  else if !s.gapOk g.1 g.2 then 8
  else if s.inPair && !s.partnerReady then 9
  else 0

/-- PREPARING begins (R127, R132). -/
def State.startExchange (s : State) : State :=
  ({ s with img := { s.img with bgDone := 0, bgComplete := decide (s.bgTotal = 0), dirtyPages := [] } }.setReg 0x220102 4).showTransfer 0

/-- An exchange is aborted with a result; the inactive bank keeps its image (R136). -/
def State.abortExchange (s : State) (result : Nat) : State :=
  if s.reg 0x220102 = 4 ∨ s.reg 0x220102 = 5 then
    ((({ s with img := { s.img with bgDone := 0, bgComplete := false, dirtyPages := [] } }.setReg 0x220102 3).setReg 0x220103
      result).setReg 0x220206 0).setCause 3 2
  else s

/-- The pieces of a background transfer within a range of its bytes. -/
def pieces (lo n : Nat) (xs : List (Nat × Nat × Nat)) : List (Nat × Nat × Nat) :=
  match xs with
  | [] => []
  | (a, b, k) :: t =>
    let skip := min lo k
    let take := min n (k - skip)
    (if take = 0 then [] else [(a + skip, b + skip, take)]) ++ pieces (lo - skip) (n - take) t

/-- What is copied so far of the moved retained monuments. -/
def State.copied (s : State) : List (Nat × Nat × Nat) := pieces 0 s.img.bgDone (movedList s.image s.newImage)

/-- The copied pieces of a 256-byte page of D. -/
def inPage (page : Nat) (xs : List (Nat × Nat × Nat)) : List (Nat × Nat × Nat) :=
  xs.filterMap (fun x =>
    let lo := max x.1 (256 * page)
    let hi := min (x.1 + x.2.2) (256 * page + 256)
    if lo < hi then some (lo, x.2.1 + (lo - x.1), hi - lo) else none)

/-- Copies pieces of D to their new places. -/
def State.copyPieces (s : State) (xs : List (Nat × Nat × Nat)) : State :=
  { s with mem := xs.foldl (fun m x => copyBytes s.mem m (memKey 3 0 x.1) (memKey 3 0 x.2.1) x.2.2) s.mem }

/-- The dirty pages, with the bytes outstanding in 2202.06 (R132, R138). -/
def State.setDirty (s : State) (pages : List Nat) : State :=
  { s with img := { s.img with dirtyPages := pages } }.setReg 0x220206 (256 * pages.length)

/-- Dirty pages are copied again, the oldest first (R132). -/
def State.recopy (s : State) (n : Nat) : State :=
  (s.copyPieces ((s.img.dirtyPages.take n).flatMap (fun p => inPage p s.copied))).setDirty (s.img.dirtyPages.drop n)

/-- Bytes not yet copied, up to `n` (R132). -/
def State.copyOn (s : State) (n : Nat) : State :=
  let s1 := s.copyPieces (pieces s.img.bgDone n (movedList s.image s.newImage))
  { s1 with img := { s1.img with bgDone := s.img.bgDone + n, bgComplete := decide (s.bgTotal ≤ s.img.bgDone + n) } }.setReg
    0x220205 (s.img.bgDone + n)

/-- Background transfer of one tick: first what was never copied, then dirty pages, within 2201.07 bytes (R132; log entry
93). -/
def State.backgroundCopy (s : State) : State :=
  if s.reg 0x220102 = 4 then
    let n := min (s.reg 0x220107) (s.bgTotal - s.img.bgDone)
    let s1 := if s.img.bgComplete then s else s.copyOn n
    if s1.img.dirtyPages.isEmpty then s1 else s1.recopy ((s.reg 0x220107 - n) / 256)
  else s

/-- The pages of D that stores of a tick make dirty: those of which some byte is already copied (R132). -/
def State.noteDirty (s : State) (keys : List Nat) : State :=
  if s.reg 0x220102 = 4 ∨ s.reg 0x220102 = 5 then
    let hit := (keys.filter (fun k => decide (memKey 3 0 0 ≤ k) && decide (k < memKey 4 0 0))).map
      (fun k => (k - memKey 3 0 0) / 256)
    let pages := hit.filter (fun p => !(inPage p s.copied).isEmpty)
    if pages.isEmpty then s else s.setDirty (s.img.dirtyPages ++ pages).eraseDups
  else s

/-- At S of the last tick before a boundary the gap condition decides whether the exchange is armed (R133, R134). In a pair
in step it is armed only for the frame that the active named at C; a standby whose own copy is not complete cannot follow
(R135). -/
def State.armExchange (s : State) : State :=
  let next := s.reg 0x200102 + 1
  let alone := s.role != 2 && !(s.role == 1 && s.reg 0x250102 == 2)
  if s.reg 0x220102 = 4 && (alone || s.reg 0x220104 == next) then
    let dirty := 256 * s.img.dirtyPages.length
    let g := gapLoad s.image s.newImage
    let s1 := s.showTransfer dirty
    if s.img.bgComplete then
      if s.gapOk g.1 (g.2 + dirty) then (s1.setReg 0x220102 5).setReg 0x220104 next else s1
    else if s.role = 2 then { s1 with pair := { s1.pair with gapMissed := true } }
    else s1
  else s

/-- The active's verdict on R133 governs the standby (R135): armed, it arms the standby too, or finds it unable; not armed,
the standby stays in PREPARING. -/
def State.followVerdict (s : State) (armed : Bool) : State :=
  if armed then
    if s.reg 0x220102 = 5 then s
    else if s.reg 0x220102 = 4 ∧ s.img.bgComplete then s.setReg 0x220102 5
    else { s with pair := { s.pair with gapMissed := true } }
  else if s.reg 0x220102 = 5 then s.setReg 0x220102 4
  else s

/-- Copies bits between two memories, from bit `a` on to bit `b` on, counted from one byte (R129). -/
def copyBits (src dst : Sparse Byte) (base a b n : Nat) : Sparse Byte :=
  (List.range n).foldl (fun m k =>
    let at_ := base + (b + k) / 8
    let bit := (Memory.read src (base + (a + k) / 8)).toNat.testBit ((a + k) % 8)
    Memory.write m at_ (BitVec.ofNat 8 (withBit (Memory.read m at_).toNat ((b + k) % 8) bit))) dst

/-- A timer object across the exchange: everything but PT moves, PT too where the old preset is kept (R129). -/
def moveTimer (keep : Bool) (old new : List Byte) : List Byte := (if keep then old.take 4 else new.take 4) ++ old.drop 4

/-- A counter object across the exchange (R129). -/
def moveCounter (keep : Bool) (old new : List Byte) : List Byte :=
  let pv := if keep then (old.drop 4).take 4 else (new.drop 4).take 4
  let st := field old 12 4
  old.take 4 ++ pv ++ leBytes 4 0 ++
    leBytes 4 (counterStatus (st.testBit 0) (st.testBit 1) (signed 32 (field old 0 4)) (signed 32 (leNat pv)))

/-- The first key of a monument. -/
def Monument.key (n : Monument) : Nat := memKey n.area (if n.kind = 7 then n.task else 0) n.range.1

/-- One monument of the gap transfer: bytes of the old memory into the new one (R128, R129). -/
def moveMonument (old : Image) (src dst : Sparse Byte) (n : Monument) : Sparse Byte :=
  match matchMonument old n with
  | .initial => dst
  | .full o | .part o =>
    let whole := o.size == n.size && o.layout == n.layout
    if n.kind = 1 ∧ whole then
      (List.range n.size).foldl (fun m k => Memory.writeBytes m (n.key + 16 * k)
        (moveTimer (n.flags.testBit 0) (Memory.readBytes src (o.key + 16 * k) 16) (Memory.readBytes m (n.key + 16 * k) 16))) dst
    else if n.kind = 2 ∧ whole then
      (List.range n.size).foldl (fun m k => Memory.writeBytes m (n.key + 16 * k)
        (moveCounter (n.flags.testBit 0) (Memory.readBytes src (o.key + 16 * k) 16) (Memory.readBytes m (n.key + 16 * k) 16))) dst
    else if n.kind ≤ 3 ∧ !whole then dst
    else if n.kind = 3 ∧ (o.addr % 8 ≠ 0 ∨ n.addr % 8 ≠ 0) then copyBits src dst (memKey 7 0 0) o.addr n.addr n.size
    else copyBytes src dst o.key n.key (min o.range.2 n.range.2)

/-- The bytes of a block monument that come from the old image; the rest takes initial data (R128). -/
def carriedBytes (old : Image) (n : Monument) : Nat :=
  match matchMonument old n with
  | .full _ => n.size
  | .part o => min o.size n.size
  | .initial => 0

/-- The data memory after an exchange (R128 to R131): areas I and Q byte for byte, the retained range outside monuments
as it stands, every other byte from a matched monument or the initial data. -/
def exchangeMem (old new : Image) (src : Sparse Byte) : Sparse Byte :=
  let base := new.initMem
  let i := copyBytes src base (memKey 0 0 0) (memKey 0 0 0) old.iSize
  let q := copyBytes src i (memKey 1 0 0) (memKey 1 0 0) old.qSize
  let kept := copyBytes src q (memKey 3 0 new.retStart) (memKey 3 0 new.retStart) new.retSize
  let fresh := new.monuments.foldl (fun m n =>
    let from_ := carriedBytes old n
    if n.kind = 6 then copyBytes base m (n.key + from_) (n.key + from_) (n.size - from_) else m) kept
  new.monuments.foldl (fun m n => moveMonument old src m n) fresh

/-- A frame boundary makes an armed exchange take effect (R130, R134, R137). -/
def State.exchangeBoundary (s : State) : State :=
  if s.reg 0x220102 = 5 then
    let new := s.newImage
    let s1 := { s with
      mem := exchangeMem s.image new s.mem
      img := { s.img with bgDone := 0, bgComplete := false, dirtyPages := []
                          retWriter := some (new.retStart, new.retSize, new.layoutHash) }
      tasks := List.map (fun (c : Nat × TaskRt) => (c.1, { c.2 with ov := false, uf := false, dz := false })) s.tasks }
    let s2 := (s1.makeActive s1.inactiveBank).each (new.tasks.map (fun t => t.number))
      (fun t k => t.setTask k { t.task k with firstExch := true })
    (((((s2.setReg 0x220103 1).setReg 0x220105 s.tickNo).count 0x220108).setReg 0x220303 new.layoutHash).setReg 0x220206 0).setCause
      3 1
  else s

/-! ## The events -/

/-- The verification of a downloaded container ends (R122). -/
def State.finishVerification (s : State) : State :=
  match s.img.download with
  | none => s
  | some bs =>
    let (v, m) := verifyProgram bs s.ownerHash
    let n := s.img.target
    let s1 := ({ s with img := { s.img with download := none } }.setReg 0x22000C v.code).setReg 0x22000D v.detail
    let s2 := match m with
      | some x => ((s1.setBank n ⟨some x, bs⟩).showBank n 1).setReg 0x220102 3
      | none => (s1.emptyBank n).setReg 0x220102 0
    s2.setCause 3 0

/-- IMAGE_VERIFICATION_DONE (R122). -/
def execImageVerificationDone (s : State) : Result := .next s.finishVerification

/-- The background transfer of the moved retained monuments is complete (R132): every byte not yet copied is. -/
def execBackgroundTransferDone (s : State) : Result :=
  .next (if s.reg 0x220102 = 4 && !s.img.bgComplete then
    s.copyOn (s.bgTotal - s.img.bgDone)
  else s)

/-- PREPARING lasts longer than 2201.06 (R136). -/
def execPreparationLimitExpiry (s : State) : Result :=
  .next (if s.reg 0x220102 = 4 then s.abortExchange 0xD else s)

/-- The active-bank record is committed in flash (R137). -/
def execBankRecordCommitted (s : State) : Result :=
  .next (if s.reg 0x22000B = 0 then
    ({ s with img := { s.img with committedBank := s.reg 0x220002 } }.setReg 0x22000B 1).setCause 3 4
  else s)

/-! ## Commands and entries -/

/-- The abort of a first segment written to 2200.01 (R121, R371, R451). A write that meets VERIFYING is turned away as one
that meets an exchange is (DESIGN CHOICE, log entry 95). -/
def State.downloadRefusal (s : State) : Nat :=
  if s.role = 2 ∨ s.role = 3 then 0x0F000002
  else if s.mode = stBench then 0x0F000004
  else if s.reg 0x2F3001 = 0 ∨ s.reg 0x2F3001 = 3 then 0x0F000018
  else if !(s.mode == stStopped || s.mode == stRun || s.mode == stHalted) then 0x08000022
  else if s.reg 0x220102 = 1 then 0x0F000008
  else if s.reg 0x220102 ≠ 0 ∧ s.reg 0x220102 ≠ 3 then 0x0F000006
  else 0

/-- An accepted download: the inactive bank's content is discarded, the image awaits verification (R121, R122). -/
def State.startDownload (s : State) (bs : List Byte) : State :=
  let n := s.loadBank
  ({ s with img := { s.img with download := some bs, target := n, lastLoaded := some n } }.emptyBank n).setReg 0x220102 2

/-- The reason that refuses a command in 2201.01, 0 where it is accepted (R124, R127, R136, R138). -/
def State.exchangeCommandRefusal (s : State) (v : Nat) : Nat :=
  match v with
  | 1 => if s.mode ≠ stStopped then 3 else if s.bankState s.inactiveBank ≠ 1 then 4 else 0
  | 2 => s.exchangeRefusal
  | 3 => if s.reg 0x220102 = 4 ∨ s.reg 0x220102 = 5 then 0 else 3
  | _ => if s.reg 0x220102 = 0 ∨ s.reg 0x220102 = 3 then 0 else 3

/-- A command in 2201.01 at its closing point (R124, R127, R136, R138). -/
def State.exchangeCommand (s : State) (v : Nat) : State :=
  match v with
  | 1 => if s.img.coldPending.isSome then s
         else { s with img := { s.img with coldPending := some (s.inactiveBank, true) } }
  | 2 => s.startExchange
  | 3 => s.abortExchange 2
  | _ => (s.emptyBank s.inactiveBank).setReg 0x220102 0

/-- The commands of 2201 as a closing point applies them. -/
def State.imageApply (s : State) (key v : Nat) : Option State :=
  if key = 0x220101 then
    some (if s.exchangeCommandRefusal v = 0 then s.exchangeCommand v else s.setReg 0x220103 (s.exchangeCommandRefusal v))
  else none

/-- Step 8 of R366 for 2201. -/
def State.imageCheck (_s : State) (key v : Nat) : Nat :=
  if key = 0x220101 then (if 1 ≤ v ∧ v ≤ 4 then 0 else 0x06090030) else 0

/-! ## Exported variables (R377, R378) -/

/-- The export at an index and subindex of the active image. -/
def State.exportAt (s : State) (ix sub : Nat) : Option Export :=
  s.image.exports.find? (fun x => x.index == ix && x.sub == sub)

/-- The value of an exported variable, in its bytes. -/
def State.exportRead (s : State) (x : Export) : List Byte :=
  if x.kind = 1 then
    leBytes 1 (if (s.memNat x.area (x.addr / 8) 1).testBit (x.addr % 8) then 1 else 0)
  else Memory.readBytes s.mem (memKey x.area 0 x.addr) x.bytes

/-- Writes an exported variable in the committed data. -/
def State.exportWrite (s : State) (x : Export) (data : List Byte) : State :=
  if x.kind = 1 then
    s.memWrite x.area 0 (x.addr / 8) (leBytes 1 (withBit (s.memNat x.area (x.addr / 8) 1) (x.addr % 8) (leNat data != 0)))
  else s.memWrite x.area 0 x.addr (data.take x.bytes)

end Sys2Proof.Machine
end

