-- ==== Sys2Proof/Machine/Buses.lean ====
section
/-! DEFINITION. Vessel buses: the CAN controllers, the CANopen device, NMEA 2000 address claiming, and the sentence paths
(R327 to R356, R375, R376). -/

namespace Sys2Proof.Machine

open Sys2Proof

/-! ## Controllers (R328 to R332) -/

/-- An entry of controller c. -/
def cc (c sub : Nat) : Nat := keyOf (0x2C00 + c) sub

/-- A frame statistic of controller c. -/
def cst (c sub : Nat) : Nat := keyOf (0x2C10 + c) sub

/-- An entry of the windows of controller c. -/
def cw (c sub : Nat) : Nat := keyOf (0x2C20 + c) sub

/-- What a controller keeps. -/
def State.crt (s : State) (c : Nat) : CanRt := Sparse.get {} s.can c

/-- Writes what a controller keeps. -/
def State.setCrt (s : State) (c : Nat) (r : CanRt) : State := { s with can := Sparse.set {} s.can c r }

/-- Status bits that are stored; the others follow from entries (R356). -/
abbrev bErrorPassive : Nat := 0
abbrev bBusOff : Nat := 1
abbrev bRecovering : Nat := 2
abbrev bModeHeld : Nat := 5
abbrev bClaimLost : Nat := 6

/-- A stored status bit of controller c. -/
def State.canBit (s : State) (c b : Nat) : Bool := s.bit (cc c 0x19) b

/-- Time quanta in a nominal bit, times the prescaler. -/
def State.nominalDiv (s : State) (c : Nat) : Nat := s.reg (cc c 4) * (1 + s.reg (cc c 5) + s.reg (cc c 6))

/-- Time quanta in a data bit, times the prescaler. -/
def State.dataDiv (s : State) (c : Nat) : Nat := s.reg (cc c 9) * (1 + s.reg (cc c 0xA) + s.reg (cc c 0xB))

/-- A value between two bounds. -/
def between (lo v hi : Nat) : Bool := decide (lo ≤ v) && decide (v ≤ hi)

/-- The nominal timing lies in its ranges: 10 kbit/s to 1 Mbit/s of an 80 MHz clock (R329). -/
def State.nominalOk (s : State) (c : Nat) : Bool :=
  between 1 (s.reg (cc c 4)) 256 && between 2 (s.reg (cc c 5)) 256 && between 1 (s.reg (cc c 6)) 128 &&
    between 1 (s.reg (cc c 7)) (s.reg (cc c 6)) && between 80 (s.nominalDiv c) 8000

/-- The data timing lies in its ranges: the nominal rate to 8 Mbit/s in CAN FD, to 10 Mbit/s in CAN XL (R329). -/
def State.dataOk (s : State) (c : Nat) : Bool :=
  between 1 (s.reg (cc c 9)) 32 && between 1 (s.reg (cc c 0xA)) 32 && between 1 (s.reg (cc c 0xB)) 16 &&
    between 1 (s.reg (cc c 0xC)) (s.reg (cc c 0xB)) && decide (s.dataDiv c ≤ s.nominalDiv c) &&
    decide ((if s.bit (cc c 3) 1 then 10 else 8) ≤ s.dataDiv c)

/-- A frame format is in use on a controller (R349, R356): those enabled, and Classical CAN alone in BENCHMARK. -/
def State.usesFormat (s : State) (c bit : Nat) : Bool := if s.mode = stBench then bit == 0 else s.bit (cc c 3) bit

/-- The timing values stand in their ranges; data timing where a format uses it (R329, R349). -/
def State.timingOk (s : State) (c : Nat) : Bool := s.nominalOk c && ((!s.usesFormat c 1 && !s.usesFormat c 2) || s.dataOk c)

/-- The mode in force: 0 off, 1 normal, 2 restricted (R328, R329, R349). -/
def State.canMode (s : State) (c : Nat) : Nat :=
  if !s.running || !s.timingOk c || !s.blockUp c then 0
  else if s.mode = stBench then (if c = 0 then 1 else 0)
  else if s.reg (cc c 1) = 1 ∧ !s.active then 2
  else s.reg (cc c 1)

/-- The protocol in force: in BENCHMARK CAN 0 is an SDO server (R343, R349). -/
def State.protocol (s : State) (c : Nat) : Nat := if s.mode = stBench then 1 else s.reg (cc c 2)

/-- The controller may send a frame: normal operation, neither bus-off nor without an address (R328, R332, R348). -/
def State.canSends (s : State) (c : Nat) : Bool :=
  s.canMode c == 1 && !s.canBit c bBusOff && !s.canBit c bClaimLost

/-- The status word of controller c (R356). -/
def State.canStatus (s : State) (c : Nat) : Nat :=
  let w := withBit (s.reg (cc c 0x19)) 3 (s.canMode c == 2)
  let w := withBit w 4 (s.on (cc c 8) && decide (s.nominalDiv c < 640))
  withBit w 7 (!s.timingOk c)

/-- The transmit error counter. -/
def State.tecCount (s : State) (c : Nat) : Nat := s.reg (cc c 0x1A) % 512

/-- The receive error counter. -/
def State.recCount (s : State) (c : Nat) : Nat := s.reg (cc c 0x1A) / 65536 % 512

/-- The controller enters error passive (R332, R388). -/
def State.errorPassive (s : State) (c : Nat) : State :=
  if s.canBit c bErrorPassive then s else (s.setBit (cc c 0x19) bErrorPassive true).setCause 11 (4 * c + 1)

/-- The recovery sequence starts (R332). -/
def State.startRecovery (s : State) (c : Nat) : State :=
  if s.canBit c bBusOff then s.setBit (cc c 0x19) bRecovering true else s

/-- Bus-off: the queue is discarded, the event counted and reported, and recovery starts if automatic (R332). -/
def State.busOff (s : State) (c : Nat) : State :=
  if s.canBit c bBusOff then s
  else
    let s1 := ((s.setBit (cc c 0x19) bBusOff true).setCrt c { s.crt c with txq := [] }).count (cst c 7)
    let s2 := (s1.recordError 5 c 0).setCause 11 (4 * c)
    if s2.on (cc c 0x11) then s2.startRecovery c else s2

/-- Writes the error counters, with the error states that follow (R332). -/
def State.setErrors (s : State) (c t r : Nat) : State :=
  let s1 := s.setReg (cc c 0x1A) (min t 511 + min r 511 * 65536)
  let s2 := if 127 < t ∨ 127 < r then s1.errorPassive c
    else if s1.canBit c bBusOff then s1 else s1.setBit (cc c 0x19) bErrorPassive false
  if 255 < t then s2.busOff c else s2

/-- One error or success moves the counters as ISO 11898-1 states (R332). After a success with the receive counter above
127 the standard gives a value from 119 to 127 and no more: it is free. -/
def State.protocolEvent (s : State) (c : Nat) (kind : CanErrorKind) : State :=
  match kind with
  | .transmit => s.setErrors c (s.tecCount c + 8) (s.recCount c)
  | .receive => s.setErrors c (s.tecCount c) (s.recCount c + 1)
  | .receivePrimary => s.setErrors c (s.tecCount c) (s.recCount c + 8)
  | .transmitOk => s.setErrors c (s.tecCount c - 1) (s.recCount c)
  | .receiveOk =>
    if 127 < s.recCount c then s.draw.2.setErrors c (s.tecCount c) (119 + s.draw.1 % 9) else s.setErrors c (s.tecCount c) (s.recCount c - 1)

/-! ## Frame records (R335) and filters (R334) -/

/-- The bytes of a frame record (R335). -/
def CanRecord.bytes (r : CanRecord) : List Byte :=
  leBytes 4 r.frame.ident ++ leBytes 1 r.frame.format ++ leBytes 1 r.frame.flags ++ leBytes 2 r.frame.data.length ++
    leBytes 1 r.frame.sdt ++ leBytes 1 r.frame.vcid ++ leBytes 2 r.filter ++ leBytes 4 r.frame.accept ++ ts96 r.stampNs ++
    leBytes 4 0 ++ pad4 r.frame.data

/-- The format's bit in 2C00+c.03 and in a filter's format set (R334). -/
def formatBit (format : Nat) : Nat := if format = 0 then 0 else if format = 3 then 2 else 1

/-- A length is one of its format (R335). -/
def lengthOk (format n : Nat) : Bool :=
  if format = 0 then decide (n ≤ 8) else if format ≤ 2 then decide (n ≤ 64) else format == 3 && between 1 n 2048

/-- A filter tests a frame: its action, or none (R334). -/
def State.filterAction (s : State) (c k : Nat) (f : CanFrame) : Option Nat :=
  let x := s.reg (keyOf (0x2C18 + c) (k + 1))
  let action := x / 2 ^ 64 % 256
  if action ≠ 0 ∧ (x / 2 ^ 72 % 256).testBit (formatBit f.format) ∧
      (f.ident ^^^ x % 2 ^ 32) &&& (x / 2 ^ 32 % 2 ^ 32) = 0 then some action else none

/-- The action on a received frame and the filter that decided (R333, R334). -/
def State.frameAction (s : State) (c : Nat) (f : CanFrame) : Nat × Nat :=
  match (List.range 64).findSome? (fun k => (s.filterAction c k f).map (fun a => (a, k))) with
  | some x => x
  | none => (s.reg (cc c 0x18), 0xFFFF)

/-- A CANopen identifier of 1005 or of a PDO names this frame. -/
def cobMatches (cob ident : Nat) : Bool := cob % 2 ^ 29 == ident % 2 ^ 29 && cob.testBit 29 == ident.testBit 29

/-- The node-ID in force (R343, R349). -/
def State.nodeId (s : State) (c : Nat) : Nat := if s.mode = stBench then s.reg 0x2C0804 else s.reg (cc c 0xE)

/-- The CANopen layer takes a frame: NMT, SYNC and RPDO on the device's controller, SDO requests on every server (R333).
What such a frame does is the command of its own that it stands for. -/
def State.openTakes (s : State) (c : Nat) (f : CanFrame) : Bool :=
  let sdo := (s.protocol c == 1 || s.protocol c == 2) && f.ident == 0x600 + s.nodeId c
  let device := s.protocol c == 2 && (f.ident == 0 || cobMatches (s.reg 0x100500) f.ident ||
    (List.range 64).any (fun n => !s.bit (keyOf (0x1400 + n) 1) 31 && cobMatches (s.reg (keyOf (0x1400 + n) 1)) f.ident))
  decide (f.format < 3) && (sdo || device)

/-! ## Receive queues (R337 to R339) -/

/-- The queue goes to the host (R337). -/
def State.hostQueue (s : State) (c q : Nat) : Bool := s.reg (cc c (0x12 + q)) == 0

/-- Frames in a queue. -/
def CanRt.level (r : CanRt) (q : Nat) : Nat := (r.rxq.filter (fun x => x.1 == q)).length

/-- The queue's window is held. -/
def CanRt.held (r : CanRt) (q : Nat) : Bool := if q = 0 then r.held0 else r.held1

/-- The queue's shadow buffer. -/
def CanRt.shadow (r : CanRt) (q : Nat) : Option CanRecord := if q = 0 then r.shadow0 else r.shadow1

/-- Writes the queue's shadow buffer. -/
def CanRt.setShadow (r : CanRt) (q : Nat) (x : Option CanRecord) : CanRt :=
  if q = 0 then { r with shadow0 := x } else { r with shadow1 := x }

/-- Holds or frees the queue's window. -/
def CanRt.setHeld (r : CanRt) (q : Nat) (b : Bool) : CanRt := if q = 0 then { r with held0 := b } else { r with held1 := b }

/-- A frame enters its queue, the shadow buffer of a held window, or is lost (R337, R339). -/
def State.queueFrame (s : State) (c q : Nat) (x : CanRecord) : State :=
  let r := s.crt c
  if r.level q < 64 then
    (s.setCrt c { r with rxq := r.rxq ++ [(q, x)] }).causeIf (s.hostQueue c q && r.level q == 0) 11 (4 * c + 2)
  else if r.held q && (r.shadow q).isNone then (s.setCrt c (r.setShadow q (some x))).count (cst c 0xB)
  else (s.count (cst c 9)).setCause 11 (4 * c + 3)

/-- A window read: the oldest record, which the window then holds (R339). -/
def State.windowRead (s : State) (c q : Nat) : List Byte × State :=
  match (s.crt c).rxq.find? (fun x => x.1 == q) with
  | some x => (x.2.bytes, s.setCrt c ((s.crt c).setHeld q true))
  | none => ([], s)

/-- Removes the oldest frame of a queue. -/
def dropFirst (q : Nat) (l : List (Nat × CanRecord)) : List (Nat × CanRecord) :=
  match l with
  | [] => []
  | x :: t => if x.1 = q then t else x :: dropFirst q t

/-- The release of a held window: the frame leaves, the shadow's frame joins the tail (R339). -/
def State.windowRelease (s : State) (c q : Nat) : State :=
  let r := s.crt c
  if r.held q then
    let r1 := { r with rxq := dropFirst q r.rxq ++ ((r.shadow q).map (fun x => (q, x))).toList }
    s.setCrt c ((r1.setHeld q false).setShadow q none)
  else s

/-- The records that fit in `room` bytes, and what stays (R337). -/
def takeFitting {α : Type} (size : α → Nat) (room : Nat) (l : List α) : List α × List α :=
  match l with
  | [] => ([], [])
  | x :: t =>
    if size x ≤ room then
      let p := takeFitting size (room - size x) t
      (x :: p.1, p.2)
    else ([], l)

/-- The bytes of a receive area: header, records, zeros (R338, R352). -/
def areaBytes (size left : Nat) (records : List (List Byte)) : List Byte :=
  let bs := records.flatten
  (leBytes 2 records.length ++ leBytes 2 left ++ leBytes 4 0 ++ bs ++ List.replicate (size - 8 - bs.length) 0).take size

/-- The frames of the image queues enter the receive area (R337, R338). -/
def State.closeCan (s : State) (c : Nat) : State :=
  let r := s.crt c
  let image := r.rxq.filter (fun x => !s.hostQueue c x.1)
  let host := r.rxq.filter (fun x => s.hostQueue c x.1)
  let size := s.reg (cc c 0x15)
  if s.reg (cc c 0x14) = 0xFFFFFFFF ∨ size = 0 then s
  else
    let p := takeFitting (fun (x : Nat × CanRecord) => x.2.bytes.length) (size - 8) image
    (s.setCrt c { r with rxq := p.2 ++ host }).placeBytes 0 (s.reg (cc c 0x14))
      (areaBytes size p.2.length (p.1.map (fun x => x.2.bytes)))

/-! ## The CANopen device (R344 to R347, R376) -/

/-- What RPDO n keeps. -/
def State.rpdo (s : State) (n : Nat) : RpdoRt := Sparse.get {} s.open_.rpdos n

/-- Writes what RPDO n keeps. -/
def State.setRpdo (s : State) (n : Nat) (r : RpdoRt) : State :=
  { s with open_ := { s.open_ with rpdos := Sparse.set {} s.open_.rpdos n r } }

/-- What TPDO n keeps. -/
def State.tpdo (s : State) (n : Nat) : TpdoRt := Sparse.get {} s.open_.tpdos n

/-- Writes what TPDO n keeps. -/
def State.setTpdo (s : State) (n : Nat) (r : TpdoRt) : State :=
  { s with open_ := { s.open_ with tpdos := Sparse.set {} s.open_.tpdos n r } }

/-- A placement: byte address and length (R344). -/
def placement (v : Nat) : Nat × Nat := (v % 2 ^ 20, v / 2 ^ 20 % 128)

/-- The CANopen device is on a controller that runs (R343, R349). -/
def State.deviceRuns (s : State) : Bool :=
  match s.canopen with
  | some c => s.canMode c != 0 && s.mode != stBench
  | none => false

/-- The device is operational on a controller that runs (R376). -/
def State.operational (s : State) : Bool := s.open_.nmt == .operational && s.deviceRuns

/-- RPDO n exists: its COB-ID is valid. -/
def State.rpdoOn (s : State) (n : Nat) : Bool := !s.bit (keyOf (0x1400 + n) 1) 31

/-- TPDO n is placed (R344). -/
def State.tpdoPlaced (s : State) (n : Nat) : Bool := (placement (s.reg (keyOf 0x2C41 (n + 1)))).2 != 0

/-- TPDO n exists and is placed. -/
def State.tpdoOn (s : State) (n : Nat) : Bool := !s.bit (keyOf (0x1800 + n) 1) 31 && s.tpdoPlaced n

/-- The transmission type of TPDO n. -/
def State.tpdoType (s : State) (n : Nat) : Nat := s.reg (keyOf (0x1800 + n) 2)

/-- A SYNC event for the RPDOs: data that waited may enter the image (R345). -/
def State.syncRpdos (s : State) : State :=
  (s.count 0x2C0805).each (s.open_.rpdos.map (fun x => x.1)) (fun t n =>
    match (t.rpdo n).fresh with
    | some d => t.setRpdo n { t.rpdo n with fresh := none, ready := some d }
    | none => t)

/-- RPDO data enters the image at C, and stands until it is replaced (R345). -/
def State.closeRpdos (s : State) : State :=
  s.each s.open_.rpdos (fun t x =>
    let r := t.rpdo x.1
    let d := r.ready <|> r.standing
    match d with
    | some bs => (t.setRpdo x.1 { r with ready := none, standing := some bs }).placeBytes 0
        (placement (t.reg (keyOf 0x2C40 (x.1 + 1)))).1 bs
    | none => t)

/-- The Q bytes of a range, 0 beyond the area. -/
def State.qBytes (s : State) (addr n : Nat) : List Byte :=
  (List.range n).map (fun i => if addr + i < s.ioSize 1 then Memory.read s.mem (memKey 1 0 (addr + i)) else 0)

/-- The staked payload of TPDO n. -/
def State.tpdoPayload (s : State) (n : Nat) : List Byte :=
  let p := placement (s.reg (keyOf 0x2C41 (n + 1)))
  s.qBytes p.1 p.2

/-! ## Transmit areas (R340, R342, R353) -/

/-- Splits a transmit area into the records that its count names, as far as they lie in it. `sizeOf` gives the bytes of the
record that starts the string. -/
def splitRecords (sizeOf : List Byte → Nat) : Nat → List Byte → List (List Byte)
  | 0, _ => []
  | n + 1, bs =>
    if sizeOf bs ≤ bs.length ∧ bs ≠ [] then bs.take (sizeOf bs) :: splitRecords sizeOf n (bs.drop (sizeOf bs)) else []

/-- The bytes of a frame record from its length field. -/
def frameSize (bs : List Byte) : Nat := 32 + (field bs 6 2 + 3) / 4 * 4

/-- The bytes of a transmit sentence record from its length field. -/
def sentenceSize (bs : List Byte) : Nat := 4 + (field bs 0 2 + 3) / 4 * 4

/-- The records of a staked transmit area. -/
def areaRecords (sizeOf : List Byte → Nat) (area : List Byte) : List (List Byte) :=
  splitRecords sizeOf (field area 0 2) (area.drop 8)

/-- The frame of a record in a transmit area. -/
def recordFrame (bs : List Byte) : CanFrame :=
  { ident := field bs 0 4, format := field bs 4 1, flags := field bs 5 1, sdt := field bs 8 1, vcid := field bs 9 1
    accept := field bs 12 4, data := (bs.drop 32).take (field bs 6 2) }

/-- A transmit area up to the end of its last record (R342). -/
def areaPrefix (sizeOf : List Byte → Nat) (area : List Byte) : List Byte :=
  if area = [] then [] else area.take (8 + ((areaRecords sizeOf area).map (fun r => r.length)).foldl (fun a b => a + b) 0)

/-- The bytes of a transmit area as they stand in Q; nothing where it is not placed. -/
def State.transmitArea (s : State) (addrKey sizeKey : Nat) : List Byte :=
  if s.reg addrKey = 0xFFFFFFFF then [] else s.qBytes (s.reg addrKey) (s.reg sizeKey)

/-- Sentence paths: what a path keeps. -/
def State.srt (s : State) (p : Nat) : SentRt := Sparse.get {} s.sent.paths p

/-- Writes what a path keeps. -/
def State.setSrt (s : State) (p : Nat) (r : SentRt) : State :=
  { s with sent := { s.sent with paths := Sparse.set {} s.sent.paths p r } }

/-- An entry of a sentence path. -/
def sp (p sub : Nat) : Nat := keyOf (0x2C80 + p) sub

/-- At S the synchronous transmit data is staked (R340, R346, R353). -/
def State.stakeBuses (s : State) : State :=
  let s1 := s.each (List.range 4) (fun t c =>
    t.setCrt c { t.crt c with staked := t.transmitArea (cc c 0x16) (cc c 0x17) })
  let s2 := s1.each ((List.range 64).filter s1.tpdoPlaced) (fun t n => t.setTpdo n { t.tpdo n with staked := t.tpdoPayload n })
  s2.each (List.range 5) (fun t p => t.setSrt p { t.srt p with staked := t.transmitArea (sp p 7) (sp p 8) })

/-- The staked synchronous transmit data in the order of R342. -/
def State.stakedBusBytes (s : State) : List Byte :=
  let tpdos := (List.range 64).filter s.tpdoPlaced
  (List.range 4).flatMap (fun c =>
    (if s.canopen = some c then tpdos.flatMap (fun n => (s.tpdo n).staked) else []) ++
      areaPrefix frameSize (s.crt c).staked) ++
    (List.range 5).flatMap (fun p => areaPrefix sentenceSize (s.srt p).staked)

/-! ## The release edge (R340, R341, R346, R347, R353, R354) -/

/-- A frame joins the transmit queue if it has room. -/
def State.pushFrame (s : State) (c : Nat) (x : CanTx) : State :=
  if (s.crt c).txq.length < 64 then s.setCrt c { s.crt c with txq := (s.crt c).txq ++ [x] } else s

/-- The frame of TPDO n. -/
def State.tpdoFrame (s : State) (n : Nat) (bs : List Byte) : CanFrame :=
  let cob := s.reg (keyOf (0x1800 + n) 1)
  { ident := cob % 2 ^ 30, format := if bs.length ≤ 8 then 0 else 1, data := bs }

/-- TPDO n waits in the queue. -/
def CanRt.waits (r : CanRt) (n : Nat) : Bool := r.txq.any (fun x => x.tpdo == some n)

/-- A synchronous TPDO at a release edge: due on its SYNC events; one not yet sent is discarded and counted (R346). -/
def State.edgeSyncTpdo (s : State) (c : Nat) (send : Bool) (events n : Nat) : State :=
  let r := s.tpdo n
  let k := s.tpdoType n
  let total := r.syncs + events
  if events = 0 then s
  else if total < k then s.setTpdo n { r with syncs := total }
  else
    let s1 := s.setTpdo n { r with syncs := total % k }
    let s2 := if (s1.crt c).waits n then
        (s1.setCrt c { s1.crt c with txq := (s1.crt c).txq.filter (fun x => x.tpdo != some n) }).count 0x2C0807
      else s1
    if send && (k != 0 || r.lastSent != some r.staked) then
      s2.pushFrame c { tpdo := some n, fromQ := true, frame := s2.tpdoFrame n r.staked }
    else s2

/-- An event-driven TPDO at a release edge (R346): its payload changed and its inhibit time, in 100 µs, has run out, or its
event timer has expired. -/
def State.edgeEventTpdo (s : State) (c : Nat) (send : Bool) (n : Nat) : State :=
  let r := s.tpdo n
  let changed := r.lastSent != some r.staked && decide (r.sentNs + s.reg (keyOf (0x1800 + n) 3) * 100000 ≤ s.tick.datumNs)
  if send && (changed || r.expired) && !(s.crt c).waits n then
    (s.setTpdo n { r with expired := false }).pushFrame c { tpdo := some n, fromQ := true, frame := s.tpdoFrame n r.staked }
  else s

/-- The address in force goes into an extended identifier on an NMEA 2000 controller (R340). -/
def State.addressed (s : State) (c : Nat) (f : CanFrame) : CanFrame :=
  if s.reg (cc c 2) = 3 ∧ f.ident.testBit 29 then { f with ident := f.ident / 256 * 256 + s.reg (cc c 0x1B) } else f

/-- The records of a transmit area at a release edge (R340). -/
def State.edgeArea (s : State) (c : Nat) : State :=
  let r := s.crt c
  if r.staked.length < 8 ∨ r.lastSeq = some (field r.staked 2 2) then s
  else
    let frames := (areaRecords frameSize r.staked).map recordFrame
    let good := frames.filter (fun f => s.bit (cc c 3) (formatBit f.format) && lengthOk f.format f.data.length)
    let s1 := (s.setCrt c { r with lastSeq := some (field r.staked 2 2) }).countBy (cc c 0x1F) (frames.length - good.length)
    if 64 < r.txq.length + good.length then s1.count (cc c 0x1F)
    else s1.each good (fun t f => t.pushFrame c { fromQ := true, frame := t.addressed c f })

/-- The producer's SYNC is due at this datum edge (R347). -/
def State.producesSync (s : State) : Bool :=
  let k := s.reg 0x2C0802
  k != 0 && s.tickNo % k == s.reg 0x2C0803 && s.active && s.mode != stBench &&
    match s.canopen with
    | some c => s.canMode c == 1
    | none => false

/-- The checksum of a line: the exclusive or of its characters. -/
def xorChecksum (bs : List Byte) : Nat := bs.foldl (fun c b => c ^^^ b.toNat) 0

/-- A hexadecimal digit in ASCII. -/
def hexDigit (n : Nat) : Byte := BitVec.ofNat 8 (if n < 10 then 0x30 + n else 0x37 + n)

/-- "*" and a checksum in two hexadecimal digits. -/
def starChecksum (bs : List Byte) : List Byte :=
  [0x2A, hexDigit (xorChecksum bs / 16), hexDigit (xorChecksum bs % 16)]

/-- The line of a transmit record: its text, with "*", its checksum and CR LF where flag bit 0 asks for them (R353). -/
def recordText (bs : List Byte) : List Byte :=
  let text := (bs.drop 4).take (field bs 0 2)
  if (field bs 2 1).testBit 0 then text ++ starChecksum (text.drop 1) ++ [0x0D, 0x0A] else text

/-- A number in decimal ASCII, up to three digits. -/
def decimal (n : Nat) : List Byte :=
  let d (k : Nat) : Byte := BitVec.ofNat 8 (0x30 + k % 10)
  if n < 10 then [d n] else if n < 100 then [d (n / 10), d n] else [d (n / 100), d (n / 10), d n]

/-- The tag block of a line that path 4 sends: source and line count (R354). -/
def tagBlock (source : List Byte) (line : Nat) : List Byte :=
  let body := [0x73, 0x3A] ++ source ++ [0x2C, 0x6E, 0x3A] ++ decimal line
  [0x5C] ++ body ++ starChecksum body ++ [0x5C]

/-- The header of a datagram: "UdPbC" and a zero byte (R354). -/
def udpbc : List Byte := [0x55, 0x64, 0x50, 0x62, 0x43, 0x00]

/-- Lines gathered into datagrams of at most 1,472 bytes, split between sentences (R354). -/
def gather (now : List Byte) (lines : List (List Byte)) : List (List Byte) :=
  match lines with
  | [] => if now = udpbc then [] else [now]
  | x :: t =>
    if now.length + x.length ≤ 1472 ∨ now = udpbc then gather (now ++ x) t else now :: gather (udpbc ++ x) t

/-- Line counts run from 1 to 999 (R354). -/
def nextLine (n : Nat) : Nat := n % 999 + 1

/-- Lines with their tag blocks, and the last line count. -/
def tagLines (source : List Byte) (line : Nat) (xs : List (List Byte)) : List (List Byte) × Nat :=
  match xs with
  | [] => ([], line)
  | x :: t =>
    let r := tagLines source (nextLine line) t
    ((tagBlock source (nextLine line) ++ x) :: r.1, r.2)

/-- A set of path 4 leaves on every selected port. -/
def State.sendDatagrams (s : State) (texts : List (List Byte)) : State :=
  let r := tagLines (s.blob 0x2C8802) (s.srt 4).line texts
  let s1 := s.setSrt 4 { s.srt 4 with line := r.2 }
  s1.each ((List.range 2).filter (s1.bit 0x2C8801)) (fun t port =>
    t.each (gather udpbc r.1) (fun u d => u.emit (.datagram port (s.reg 0x2C8803) (s.reg 0x2C8804) d)))

/-- Bytes in a path's transmit buffer. -/
def State.txLevel (s : State) (p : Nat) : Nat := ((s.srt p).tx.map (fun x => x.length)).foldl (fun a b => a + b) 0

/-- A set of a sentence path at a release edge (R353, R354). -/
def State.edgeSentences (s : State) (p : Nat) : State :=
  let r := s.srt p
  if !s.on (sp p 1) ∨ r.staked.length < 8 ∨ r.lastSeq = some (field r.staked 2 2) then s
  else
    let texts := (areaRecords sentenceSize r.staked).map recordText
    let size := (texts.map (fun x => x.length)).foldl (fun a b => a + b) 0
    let s1 := s.setSrt p { r with lastSeq := some (field r.staked 2 2) }
    if 4096 < s.txLevel p + size then s1.count (sp p 0xD)
    else if p = 4 then s1.sendDatagrams texts
    else s1.setSrt p { s1.srt p with tx := r.tx ++ texts }

/-- Application data may be sent: RUN, in a unit that is ACTIVE or simplex (R84, R170). -/
def State.sendsQ (s : State) : Bool := s.mode == stRun && s.active

/-- The buses at a datum edge, in the order of R341. `token` says that the staked outputs are released. -/
def State.busesAtD (s : State) (token : Bool) : State :=
  let send := token && s.sendsQ
  let s1 := s.each ((List.range 4).filter (fun c => s.canBit c bErrorPassive)) (fun t c => t.count (cst c 5))
  let produced := s1.producesSync
  let c := s1.canopen.getD 0
  let events := s1.open_.syncs + (if produced then 1 else 0)
  let s2 := { s1 with open_ := { s1.open_ with syncs := 0 } }
  let s3 := if produced then
      (s2.pushFrame c { frame := { ident := s2.reg 0x100500 % 2 ^ 30, data := [] } }).syncRpdos
    else s2
  let pdo := send && s3.operational
  let on := (List.range 64).filter s3.tpdoOn
  let s4 := if s3.canopen.isSome then
      s3.each (on.filter (fun n => decide (s3.tpdoType n ≤ 240))) (fun t n => t.edgeSyncTpdo c pdo events n)
    else s3
  let s5 := if send then s4.each ((List.range 4).filter (fun k => s4.canMode k == 1)) State.edgeArea else s4
  let s6 := if s5.canopen.isSome then
      s5.each (on.filter (fun n => decide (254 ≤ s5.tpdoType n))) (fun t n => t.edgeEventTpdo c pdo n)
    else s5
  if send then s6.each (List.range 5) State.edgeSentences else s6

/-- A unit that leaves ACTIVE sends nothing that it had queued (R170, R328). -/
def State.busesLeave (s : State) : State :=
  let s1 := s.each (List.range 4) (fun t c => t.setCrt c { t.crt c with txq := [], claimed := false })
  s1.each (List.range 5) (fun t p => t.setSrt p { t.srt p with tx := [] })

/-- Outside RUN nothing of area Q is sent: what was queued of it is dropped, a SYNC stays (R84). -/
def State.busesStop (s : State) : State :=
  let s1 := s.each (List.range 4) (fun t c => t.setCrt c { t.crt c with txq := (t.crt c).txq.filter (fun x => !x.fromQ) })
  s1.each (List.range 5) (fun t p => t.setSrt p { t.srt p with tx := [] })

/-! ## NMEA 2000 address claiming (R348) -/

/-- Claims an address and says so on the bus. -/
def State.claim (s : State) (c address : Nat) : State :=
  let s1 := s.setCrt c { s.crt c with claimed := true }
  ((s1.setReg (cc c 0x1B) address).setBit (cc c 0x19) bClaimLost (address == 254)).emit
    (.addressClaim c address (s.reg (cc c 0xF)))

/-- The next higher address that no other node holds, wrapping within 0 to 251. -/
def nextFree (others : List (Nat × Nat)) (after : Nat) : Option Nat :=
  ((List.range 252).map (fun i => (after + 1 + i) % 252)).find? (fun a => !others.any (fun o => o.2 == a))

/-- The closing point of an NMEA 2000 controller: the first claim, or none while it does not send (R348). -/
def State.closeClaim (s : State) (c : Nat) : State :=
  if s.protocol c = 3 ∧ s.canMode c = 1 then (if (s.crt c).claimed then s else s.claim c (s.reg (cc c 0x10)))
  else if (s.crt c).claimed then
    ((s.setCrt c { s.crt c with claimed := false }).setReg (cc c 0x1B) 254).setBit (cc c 0x19) bClaimLost false
  else s

/-! ## Received sentences (R350 to R354) -/

/-- The tag block at the front of a line, with both backslashes, and the rest. -/
def splitTag (chars : List Byte) : List Byte × List Byte :=
  match chars with
  | b :: t => if b = 0x5C then
      let inner := t.takeWhile (fun x => x != 0x5C)
      ([0x5C] ++ inner ++ (t.drop inner.length).take 1, t.drop (inner.length + 1))
    else ([], chars)
  | [] => ([], [])

/-- The checksum field of a sentence: none, or whether it is right (R351). -/
def lineChecksum (body : List Byte) : Option Bool :=
  let text := (body.drop 1).takeWhile (fun x => x != 0x2A)
  let rest := (body.drop 1).drop text.length
  if rest = [] then none
  else some ((rest.map (fun b => if 0x61 ≤ b.toNat ∧ b.toNat ≤ 0x66 then b - 0x20 else b)) == starChecksum text)

/-- The bytes of a sentence record (R352). -/
def Sentence.bytes (x : Sentence) : List Byte :=
  leBytes 2 x.chars.length ++ leBytes 1 ((if x.checked then 1 else 0) + (if x.tagged then 2 else 0)) ++ leBytes 1 x.path ++
    ts96 x.stampNs ++ pad4 x.chars

/-- A line is a sentence: it starts at "$" or "!", after a closed tag block if it has one (R351). -/
def lineOk (chars : List Byte) : Bool :=
  let p := splitTag chars
  (p.2.head? == some 0x24 || p.2.head? == some 0x21) && (p.1 == [] || (decide (2 ≤ p.1.length) && p.1.getLast? == some 0x5C))

/-- A delivered sentence enters the image queue, and the host queue where the path has one (R352). -/
def State.deliverSentence (s : State) (p : Nat) (x : Sentence) : State :=
  let s1 := s.count (keyOf (0x2C90 + p) 1)
  let r := s1.srt p
  let s2 := if r.imageQ.length < 64 then s1.setSrt p { r with imageQ := r.imageQ ++ [x] } else s1
  if !s2.on (sp p 9) then s2
  else
    let r := s2.srt p
    if r.hostQ.length < 64 then
      (s2.setSrt p { r with hostQ := r.hostQ ++ [x] }).causeIf r.hostQ.isEmpty 12 (2 * p)
    else (s2.count (sp p 0xE)).setCause 12 (2 * p + 1)

/-- One sentence line, without its CR LF, is checked and delivered (R351). -/
def State.takeLine (s : State) (p : Nat) (chars : List Byte) (framingError : Bool) (stampNs : Nat) : State :=
  let t := splitTag chars
  if framingError || decide (82 < t.2.length + 2) || decide (100 < t.1.length) then s.count (keyOf (0x2C90 + p) 5)
  else
    let bad := match lineChecksum t.2 with
      | some ok => !ok
      | none => s.on (sp p 4)
    if bad then s.count (keyOf (0x2C90 + p) 3)
    else s.deliverSentence p ⟨p, stampNs, chars, (lineChecksum t.2).isSome, !t.1.isEmpty⟩

/-- The sentences of a path enter its receive area (R352). -/
def State.closePath (s : State) (p : Nat) : State :=
  let r := s.srt p
  let size := s.reg (sp p 6)
  if s.reg (sp p 5) = 0xFFFFFFFF ∨ size = 0 then s
  else
    let x := takeFitting (fun (x : Sentence) => x.bytes.length) (size - 8) r.imageQ
    (s.setSrt p { r with imageQ := x.2 }).placeBytes 0 (s.reg (sp p 5)) (areaBytes size x.2.length (x.1.map Sentence.bytes))

/-- A read of the host queue: up to 16 of the oldest records, which it removes (R352). -/
def State.sentenceRead (s : State) (p : Nat) : List Byte × State :=
  let r := s.srt p
  ((r.hostQ.take 16).flatMap Sentence.bytes, s.setSrt p { r with hostQ := r.hostQ.drop 16 })

/-- A parameter of a tag block, such as the text after "s:". -/
def tagField (letter : Byte) (tag : List Byte) : Option (List Byte) :=
  let body := (tag.drop 1).takeWhile (fun x => x != 0x2A && x != 0x5C)
  ((body.splitOn 0x2C).find? (fun f => f.take 2 == [letter, 0x3A])).map (fun f => f.drop 2)

/-- The lines of a datagram after its header, without CR LF. -/
def datagramLines (bytes : List Byte) : List (List Byte) :=
  (((bytes.drop 6).splitOn 0x0A).map (fun l => if l.getLast? = some 0x0D then l.dropLast else l)).filter (fun l => l != [])

/-- The key by which a datagram repeats another: source and line count of its tag block (R354). -/
def datagramKey (bytes : List Byte) : Option (List Byte) :=
  match datagramLines bytes with
  | [] => none
  | l :: _ =>
    let tag := (splitTag l).1
    match tagField 0x73 tag, tagField 0x6E tag with
    | some a, some b => some (a ++ [0] ++ b)
    | _, _ => none

/-- The closing point of the buses: pending modes, first claims, received data into the image (R332, R337, R345, R352). -/
def State.busesAtC (s : State) : State :=
  let s1 := s.each (List.range 4) (fun t c =>
    match (t.crt c).pendingMode with
    | some m => if t.canBit c bRecovering then t
        else ((t.setCrt c { t.crt c with pendingMode := none }).setReg (cc c 1) m).setBit (cc c 0x19) bModeHeld false
    | none => t)
  let s2 := s1.each (List.range 4) State.closeClaim
  let s3 := s2.each (List.range 4) State.closeCan
  s3.closeRpdos.each (List.range 5) State.closePath

/-! ## The events -/

/-- CAN_FRAME_RECEIVED (R333): the CANopen layer takes its frames; the filters and the unmatched action decide the rest. A
frame whose format is not enabled is not received. -/
def execCanFrameReceived (c : Nat) (f : CanFrame) (stampNs : Nat) (s : State) : Result :=
  whenValid (decide (c < 4) && decide (f.format < 4) && lengthOk f.format f.data.length) s
    (if s.canMode c = 0 ∨ !s.usesFormat c (formatBit f.format) then s
     else
       let s1 := s.count (cst c 1)
       if s1.openTakes c f then s1
       else
         let a := s1.frameAction c f
         if a.1 = 1 ∨ a.1 = 2 then s1.queueFrame c (a.1 - 1) ⟨f, a.2, stampNs⟩ else s1.count (cw c 8))

/-- CAN_FRAME_SENT (R341): the frame at the head of the queue has left. -/
def execCanFrameSent (c : Nat) (s : State) : Result :=
  whenValid (decide (c < 4)) s
    (match (s.crt c).txq with
     | [] => s
     | x :: rest =>
       if !s.canSends c then s
       else
         let s1 := ((s.setCrt c { s.crt c with txq := rest }).count (cst c 3)).emit (.canFrame c x.frame)
         match x.tpdo with
         | some n => s1.setTpdo n { s1.tpdo n with lastSent := some x.frame.data, sentNs := s1.tick.nowNs }
         | none => s1)

/-- CAN_BUS_OFF (R332). -/
def execCanBusOff (c : Nat) (s : State) : Result :=
  whenValid (decide (c < 4)) s (if s.canMode c = 1 then s.busOff c else s)

/-- CAN_ERROR_PASSIVE (R332). -/
def execCanErrorPassive (c : Nat) (s : State) : Result :=
  whenValid (decide (c < 4)) s (if s.canMode c = 1 then s.errorPassive c else s)

/-- CAN_PROTOCOL_ERROR (R332): restricted operation leaves the counters as they are (R328). -/
def execCanProtocolError (c : Nat) (kind : CanErrorKind) (s : State) : Result :=
  whenValid (decide (c < 4)) s (if s.canMode c = 1 ∧ !s.canBit c bBusOff then s.protocolEvent c kind else s)

/-- BUS_OFF_RECOVERY_END (R332): the controller is error active again; a pending mode waits for the closing point. -/
def execBusOffRecoveryEnd (c : Nat) (s : State) : Result :=
  whenValid (decide (c < 4)) s
    (if s.canBit c bRecovering then
       (((s.setBit (cc c 0x19) bRecovering false).setBit (cc c 0x19) bBusOff false).setBit (cc c 0x19) bErrorPassive false).setReg
         (cc c 0x1A) 0
     else s)

/-- SYNC_RECEIVED (R345): an event where the module consumes SYNC. -/
def execSyncReceived (s : State) : Result :=
  .next (if s.reg 0x2C0802 = 0 && s.deviceRuns then
    { s with open_ := { s.open_ with syncs := s.open_.syncs + 1 } }.syncRpdos else s)

/-- RPDO_RECEIVED (R344, R345): data of another length than placed is discarded and counted. -/
def execRpdoReceived (n : Nat) (data : List Byte) (s : State) : Result :=
  whenValid (decide (n < 64)) s
    (if !s.operational || !s.rpdoOn n then s
     else if data.length ≠ (placement (s.reg (keyOf 0x2C40 (n + 1)))).2 then s.count 0x2C0806
     else if data = [] then s
     else if 254 ≤ s.reg (keyOf (0x1400 + n) 2) then s.setRpdo n { s.rpdo n with ready := some data }
     else s.setRpdo n { s.rpdo n with fresh := some data })

/-- TPDO_EVENT_TIMER_EXPIRY (R346). -/
def execTpdoEventTimerExpiry (n : Nat) (s : State) : Result :=
  whenValid (decide (n < 64)) s
    (if s.operational && s.tpdoOn n && decide (254 ≤ s.tpdoType n) && s.reg (keyOf (0x1800 + n) 5) != 0 then
       s.setTpdo n { s.tpdo n with expired := true }
     else s)

/-- An NMT command reaches this node: 0 names every node. -/
def State.nmtHere (s : State) (node : Nat) : Bool :=
  match s.canopen with
  | some c => s.canMode c != 0 && s.mode != stBench && (node == 0 || node == s.nodeId c)
  | none => false

/-- The NMT state of the device changes. -/
def State.setNmt (s : State) (node : Nat) (n : NmtState) : State :=
  if s.nmtHere node then { s with open_ := { s.open_ with nmt := n } } else s

/-- NMT_START_REMOTE_NODE (R376). -/
def execNmtStartRemoteNode (node : Nat) (s : State) : Result := whenValid (decide (node < 128)) s (s.setNmt node .operational)

/-- NMT_STOP_REMOTE_NODE (R376). -/
def execNmtStopRemoteNode (node : Nat) (s : State) : Result := whenValid (decide (node < 128)) s (s.setNmt node .stopped)

/-- NMT_ENTER_PRE_OPERATIONAL (R376). -/
def execNmtEnterPreOperational (node : Nat) (s : State) : Result :=
  whenValid (decide (node < 128)) s (s.setNmt node .preOperational)

/-- The NMT state as a heartbeat carries it (CiA 301). -/
def NmtState.code (n : NmtState) : Nat :=
  match n with
  | .preOperational => 127
  | .operational => 5
  | .stopped => 4

/-- HEARTBEAT_PRODUCER_EXPIRY (R375). -/
def execHeartbeatProducerExpiry (s : State) : Result :=
  .next (match s.canopen with
    | some c => if s.canSends c && s.reg 0x101700 != 0 && s.mode != stBench then s.emit (.heartbeat s.open_.nmt.code) else s
    | none => s)

/-- HEARTBEAT_CONSUMER_EXPIRY (R375): the spec gives the missing heartbeat of another node no effect on the module. -/
def execHeartbeatConsumerExpiry (number : Nat) (s : State) : Result := whenValid (between 1 number 8) s s

/-- ADDRESS_CLAIM_RECEIVED (R348): the lower NAME keeps a contended address. -/
def execAddressClaimReceived (c address name : Nat) (s : State) : Result :=
  whenValid (decide (c < 4) && decide (address < 256) && decide (name < 2 ^ 64)) s
    (let r := s.crt c
     if s.protocol c ≠ 3 ∨ s.canMode c = 0 then s
     else
       let others := (r.others.filter (fun o => o.1 != name)) ++ [(name, address)]
       let s1 := s.setCrt c { r with others := others }
       if !r.claimed ∨ address ≠ s.reg (cc c 0x1B) ∨ address = 254 then s1
       else if s.reg (cc c 0xF) < name then s1.claim c address
       else if (s.reg (cc c 0xF)).testBit 63 then s1.claim c ((nextFree others address).getD 254)
       else s1.claim c 254)

/-- REQUEST_FOR_ADDRESS_CLAIM (R348). -/
def execRequestForAddressClaim (c : Nat) (s : State) : Result :=
  whenValid (decide (c < 4)) s
    (if s.protocol c = 3 ∧ s.canMode c = 1 ∧ (s.crt c).claimed then
       s.emit (.addressClaim c (s.reg (cc c 0x1B)) (s.reg (cc c 0xF)))
     else s)

/-- SENTENCE_RECEIVED (R350, R351, R448): ignored while a half-duplex port drives its line, and in BENCHMARK. `chars` are
the characters from the first one up to but not including CR LF. -/
def execSentenceReceived (port : Nat) (chars : List Byte) (framingError : Bool) (stampNs : Nat) (s : State) : Result :=
  whenValid (decide (port < 4) && lineOk chars) s
    (if !s.running || s.mode == stBench || !s.on (sp port 1) || !s.blockUp (4 + port) ||
        (s.on (sp port 3) && !(s.srt port).tx.isEmpty) then s
     else s.takeLine port chars framingError stampNs)

/-- SENTENCE_TRANSMITTED (R350, R353): the oldest sentence leaves the transmit buffer. -/
def execSentenceTransmitted (port : Nat) (s : State) : Result :=
  whenValid (decide (port < 4)) s
    (match (s.srt port).tx with
     | [] => s
     | x :: rest => (s.setSrt port { s.srt port with tx := rest }).emit (.sentence port x))

/-- DATAGRAM_61162_450 (R354): header, duplicate and groups are checked, and its sentences delivered. -/
def execDatagram61162450 (plantPort group : Nat) (bytes : List Byte) (stampNs : Nat) (s : State) : Result :=
  whenValid (decide (plantPort < 2) && decide (group < 8)) s
    (if !s.running || s.mode == stBench || !s.on (sp 4 1) || !s.blockUp (8 + plantPort) ||
        !s.bit 0x2C8801 plantPort || s.reg (keyOf 0x2C88 (5 + group)) == 0 ||
        bytes.take 6 != udpbc then s
     else
       let recent := s.sent.seen.filter (fun x => decide (stampNs < x.2.2 + 100000000))
       let again := match datagramKey bytes with
         | some k => recent.any (fun x => x.1 != plantPort && x.2.1 == k)
         | none => false
       if again then { s with sent := { s.sent with seen := recent } }
       else
         let seen := match datagramKey bytes with
           | some k => recent ++ [(plantPort, k, stampNs)]
           | none => recent
         { s with sent := { s.sent with seen := seen } }.each ((datagramLines bytes).filter lineOk)
           (fun t l => t.takeLine 4 l false stampNs))

/-! ## Entries -/

/-- An area address is none or aligned to 4. -/
def areaAddressOk (v : Nat) : Bool := v == 0xFFFFFFFF || v % 4 == 0

/-- An area size is a multiple of 4, 0 or 8 to 65,536. -/
def areaSizeOk (v : Nat) : Bool := v == 0 || (v % 4 == 0 && between 8 v 65536)

/-- A filter's bytes are well formed (R334). -/
def filterOk (v : Nat) : Bool :=
  decide (v / 2 ^ 64 % 256 ≤ 3) && decide (v / 2 ^ 72 % 256 ≤ 7) && v / 2 ^ 80 == 0

/-- A PDO transmission type is one of R375. -/
def pdoTypeOk (v : Nat) : Bool := decide (v ≤ 240) || v == 254 || v == 255

/-- The CANopen device's controller sends CAN FD. -/
def State.deviceFd (s : State) : Bool :=
  match s.canopen with
  | some c => s.bit (cc c 3) 1
  | none => false

/-- A placement is well formed (R344): 0, or the abort code. -/
def State.placementCheck (s : State) (v : Nat) : Nat :=
  let p := placement v
  if 2 ^ 27 ≤ v ∨ p.1 % 4 ≠ 0 ∨ 64 < p.2 then 0x06090030
  else if 8 < p.2 ∧ !s.deviceFd then 0x06040043
  else 0

/-- A SYNC phase agrees with an interval (R347). -/
def phaseOk (k phase : Nat) : Bool := k == 0 || decide (phase < k)

/-- Steps 8 and 9 of R366 for the bus entries. -/
def State.busCheck (s : State) (key v : Nat) : Nat :=
  let ix := key / 256
  let sub := key % 256
  let range (ok : Bool) : Nat := if ok then 0 else 0x06090030
  let agree (ok : Bool) : Nat := if ok then 0 else 0x06040043
  if 0x2C00 ≤ ix ∧ ix ≤ 0x2C03 then
    if sub = 0x14 ∨ sub = 0x16 then range (areaAddressOk v)
    else if sub = 0x15 ∨ sub = 0x17 then range (areaSizeOk v)
    else if sub = 2 then agree (v != 2 || s.canopen.isNone || s.canopen == some (ix - 0x2C00))
    else 0
  else if key = 0x2C0802 then agree (phaseOk v (s.reg 0x2C0803))
  else if key = 0x2C0803 then agree (phaseOk (s.reg 0x2C0802) v)
  else if 0x2C18 ≤ ix ∧ ix ≤ 0x2C1B then range (filterOk v)
  else if ix = 0x2C40 ∨ ix = 0x2C41 then s.placementCheck v
  else if 0x2C80 ≤ ix ∧ ix ≤ 0x2C84 then
    if sub = 2 then range (ix != 0x2C84 && [4800, 9600, 19200, 38400, 115200].contains v)
    else if sub = 3 then range (ix != 0x2C84)
    else if sub = 5 ∨ sub = 7 then range (areaAddressOk v)
    else if sub = 6 ∨ sub = 8 then range (v % 4 == 0)
    else 0
  else if key = 0x2C8801 then range (decide (v ≤ 3))
  else if ((0x1400 ≤ ix ∧ ix ≤ 0x143F) ∨ (0x1800 ≤ ix ∧ ix ≤ 0x183F)) ∧ sub = 2 then range (pdoTypeOk v)
  else 0

/-- Entries that an outstation refuses (R349). -/
def busOutstationRefuses (key v : Nat) : Bool :=
  let ix := key / 256
  let sub := key % 256
  (decide (0x2C00 ≤ ix) && decide (ix ≤ 0x2C03) &&
      ((sub == 2 && decide (2 ≤ v)) || ((sub == 0x14 || sub == 0x16) && v != 0xFFFFFFFF))) ||
    (decide (0x2C80 ≤ ix) && decide (ix ≤ 0x2C84) && (sub == 5 || sub == 7) && v != 0xFFFFFFFF)

/-- The controller with protocol 0x02 is shown in 2C08.01 (R343). -/
def State.showDevice (s : State) : State :=
  s.setReg 0x2C0801 (((List.range 4).find? (fun c => s.reg (cc c 2) == 2)).getD 0xFF)

/-- The bus entries as a closing point applies them (R328, R332, R339, R343, R356). -/
def State.busApply (s : State) (key v : Nat) : Option State :=
  let ix := key / 256
  let sub := key % 256
  if 0x2C00 ≤ ix ∧ ix ≤ 0x2C03 then
    let c := ix - 0x2C00
    if sub = 1 then
      if s.canBit c bRecovering then
        some ((s.setCrt c { s.crt c with pendingMode := some v }).setBit (cc c 0x19) bModeHeld true)
      else some (s.setReg key v)
    else if sub = 2 then some (s.setReg key v).showDevice
    else if sub = 0x1C then
      some (if v = 1 then s.startRecovery c else s.setCrt c { s.crt c with txq := [] })
    else none
  else if 0x2C20 ≤ ix ∧ ix ≤ 0x2C23 ∧ sub = 3 then some (s.windowRelease (ix - 0x2C20) (v - 1))
  else none

/-- The bus entries whose value follows from others (R329, R356, R375). -/
def State.busView (s : State) (key : Nat) : Option Nat :=
  let ix := key / 256
  let sub := key % 256
  if 0x2C00 ≤ ix ∧ ix ≤ 0x2C03 then
    let c := ix - 0x2C00
    if sub = 0x19 then some (s.canStatus c)
    else if sub = 0x1D then some (80000000 / s.nominalDiv c)
    else if sub = 0x1E then some (80000000 / s.dataDiv c)
    else none
  else if 0x2C20 ≤ ix ∧ ix ≤ 0x2C23 then
    let r := s.crt (ix - 0x2C20)
    match sub with
    | 4 => some (r.level 0)
    | 5 => some (r.level 1)
    | 6 => some ((if r.held0 then 1 else 0) + (if r.held1 then 2 else 0))
    | 7 => some ((if r.shadow0.isSome then 1 else 0) + (if r.shadow1.isSome then 2 else 0))
    | _ => none
  else if 0x2C80 ≤ ix ∧ ix ≤ 0x2C84 then
    if sub = 0xB then some (s.srt (ix - 0x2C80)).hostQ.length
    else if sub = 0xC then some (s.txLevel (ix - 0x2C80))
    else none
  else if key = 0x100500 then some (withBit (s.reg key) 30 (s.reg 0x2C0802 != 0))
  else if key = 0x100600 then some (s.reg 0x2C0802 * s.tD)
  else none

end Sys2Proof.Machine
end

