-- ==== Sys2Proof/Machine/Book.lean ====
section
/-! DEFINITION. The level book: descriptors, samples, records, commits and stamps (R390 to R408). -/

namespace Sys2Proof.Machine

open Sys2Proof

/-! ## Descriptors (R390 to R394) -/

/-- A code descriptor (R393). -/
structure Descriptor where
  flags    : Nat
  unit     : Nat
  divider  : Nat
  interval : Nat
  origin   : Int
  width    : Int
  deriving DecidableEq, Repr

/-- The descriptor in 16 bytes. -/
def parseDescriptor (bs : List Byte) : Descriptor :=
  { flags := field bs 0 1, unit := field bs 1 1, divider := field bs 2 2, interval := field bs 4 4
    origin := signed 32 (field bs 8 4), width := signed 32 (field bs 12 4) }

/-- The bytes of a code's descriptor. -/
def State.descriptorBytes (s : State) (c : Nat) : List Byte :=
  match Sparse.get [] s.blobs 0x2D0003 with
  | [] => defaultDescriptor c
  | bs => (bs.drop (16 * c)).take 16

/-- The descriptor of a code. -/
def State.descriptor (s : State) (c : Nat) : Descriptor := parseDescriptor (s.descriptorBytes c)

/-- A descriptor of code c is well formed (R390, R393). -/
def descriptorOk (c : Nat) (d : Descriptor) : Bool :=
  decide (d.flags ≤ 3) &&
    (match if 0x100 ≤ c then some 7 else fixedUnit c with
     | some u => d.unit == u
     | none => !d.flags.testBit 0) &&
    decide (1 ≤ d.divider) && (d.interval == 0 || (decide (10 ≤ d.interval) && decide (d.interval ≤ 86400))) &&
    decide (0 < d.width)

/-- Operating seconds, 2D01.01 (R400). -/
def State.opSeconds (s : State) : Nat := s.reg 0x2D0101

/-- The power-cycle count, 2D01.02 (R400). -/
def State.powerCycle (s : State) : Nat := s.reg 0x2D0102

/-- The commit interval of a code. -/
def State.commitInterval (s : State) (c : Nat) : Nat :=
  if (s.descriptor c).interval = 0 then s.reg 0x2D0002 else (s.descriptor c).interval

/-- The level book runs: from the end of SELF-TEST while 2D00.01 is 1 (R392). -/
def State.bookRuns (s : State) : Bool := s.running && s.on 0x2D0001

/-! ## Records (R395 to R399) -/

/-- What the book keeps of a code. -/
def State.bookRt (s : State) (c : Nat) : BookRt := Sparse.get {} s.book.codes c

/-- Writes what the book keeps of a code. -/
def State.setBookRt (s : State) (c : Nat) (r : BookRt) : State :=
  { s with book := { s.book with codes := Sparse.set {} s.book.codes c r } }

/-- A record that has taken no sample, of a generation. -/
def emptyRecord (d : Descriptor) (generation : Nat) : BookRecord :=
  { generation := generation, unit := d.unit, origin := d.origin, width := d.width, bins := List.replicate 16 0 }

/-- The live record of a code; one that was never formed is empty. -/
def State.liveRecord (s : State) (c : Nat) : BookRecord :=
  let r := Sparse.get {} s.book.live c
  if r.bins = [] then emptyRecord (s.descriptor c) r.generation else r

/-- Writes the live record of a code. -/
def State.setLive (s : State) (c : Nat) (r : BookRecord) : State :=
  { s with book := { s.book with live := Sparse.set {} s.book.live c r } }

/-- The bin of a sample (R395). -/
def binOf (origin width x : Int) : Nat :=
  if x < origin then 0 else if origin + 14 * width ≤ x then 15 else ((x - origin) / width).toNat + 1

/-- Adds to a bin, saturating. -/
def addBin (bins : List Nat) (k : Nat) : List Nat :=
  (List.range 16).map (fun i => if i = k then min (bins.getD i 0 + 1) 0xFFFFFFFF else bins.getD i 0)

/-- A sample enters a record at a stamp (R395, R397, R399). -/
def BookRecord.add (r : BookRecord) (x : Int) (sec cyc : Nat) : BookRecord :=
  let low := decide (x < r.min)
  let high := decide (r.max < x)
  { r with
    generation := (r.generation + 1) % 2 ^ 32
    bins := addBin r.bins (binOf r.origin r.width x)
    min := if low then x else r.min, minSec := if low then sec else r.minSec, minCycle := if low then cyc else r.minCycle
    max := if high then x else r.max, maxSec := if high then sec else r.maxSec, maxCycle := if high then cyc else r.maxCycle
    count := Nat.min (r.count + 1) (2 ^ 64 - 1)
    firstSec := if r.count = 0 then sec else r.firstSec, firstCycle := if r.count = 0 then cyc else r.firstCycle }

/-- The bytes of a record before its CRC (R397). -/
def BookRecord.body (r : BookRecord) (c : Nat) : List Byte :=
  leBytes 4 r.generation ++ leBytes 2 c ++ leBytes 1 1 ++ leBytes 1 r.unit ++ leBytes 4 (unsigned 32 r.origin) ++
    leBytes 4 (unsigned 32 r.width) ++ ((List.range 16).flatMap (fun i => leBytes 4 (r.bins.getD i 0))) ++
    leBytes 4 (unsigned 32 r.min) ++ leBytes 4 r.minSec ++ leBytes 4 r.minCycle ++
    leBytes 4 (unsigned 32 r.max) ++ leBytes 4 r.maxSec ++ leBytes 4 r.maxCycle ++ leBytes 8 r.count ++
    leBytes 4 r.firstSec ++ leBytes 4 r.firstCycle ++ leBytes 4 r.commitSec ++ leBytes 4 r.commitCycle ++
    leBytes 4 r.suppressed ++ List.replicate 116 0

/-- The 256 bytes of a record (R397, R398). -/
def BookRecord.bytes (r : BookRecord) (c : Nat) : List Byte :=
  r.body c ++ leBytes 4 (crc32 (r.body c)) ++ leBytes 4 r.generation

/-- The live view, 2D20.01 (R406). -/
def State.liveView (s : State) : List Byte := (List.range 512).flatMap (fun c => (s.liveRecord c).bytes c)

/-- The committed view, 2D20.02 (R406): a code without a copy shows an empty record. -/
def State.committedView (s : State) : List Byte :=
  (List.range 512).flatMap (fun c =>
    let r := Sparse.get ({} : BookRecord) s.book.committed c
    (if r.bins = [] then emptyRecord (s.descriptor c) 0 else r).bytes c)

/-! ## Commits (R401, R402, R405) -/

/-- A code's interval has passed since its last commit, or since the start (R401). -/
def State.intervalOver (s : State) (c : Nat) : Bool :=
  decide (max (s.bookRt c).lastCommit s.book.startSec + s.commitInterval c ≤ s.opSeconds)

/-- A new extreme asks for a commit: at once after the interval, else suppressed (R401). -/
def State.requestCommit (s : State) (c : Nat) : State :=
  if !(s.descriptor c).flags.testBit 1 then s
  else if s.intervalOver c then s.setBookRt c { s.bookRt c with due := true }
  else
    let r := s.liveRecord c
    ((s.setLive c { r with suppressed := min (r.suppressed + 1) 0xFFFFFFFF }).count 0x2D010A).setCause 13 1

/-- One sample of a code taken (R395). -/
def State.takeSample (s : State) (c : Nat) (x : Int) : State :=
  let r := s.liveRecord c
  let extreme := decide (x < r.min) || decide (r.max < x)
  let s1 := (s.setLive c (r.add x s.opSeconds s.powerCycle)).setBookRt c { s.bookRt c with dirty := true, occasions := 0 }
  if extreme then (s1.setCause 13 0).requestCommit c else s1

/-- An occasion of R391: every k-th one is sampled (R392, R393). Every sample is an I32. -/
def State.sampleBook (s : State) (c : Nat) (x : Int) : State :=
  if !s.bookRuns || !(s.descriptor c).flags.testBit 0 then s
  else
    let r := s.bookRt c
    if r.occasions + 1 < (s.descriptor c).divider then s.setBookRt c { r with occasions := r.occasions + 1 }
    else s.takeSample c (clampInt (-2147483648) 2147483647 x)

/-- A sample of a count or a time. -/
def State.sampleNat (s : State) (c x : Nat) : State := s.sampleBook c (x : Int)

/-- A commit is due (R401). -/
def State.markDue (s : State) (c : Nat) : State :=
  let r := s.bookRt c
  if r.dirty && !r.retry && s.intervalOver c then s.setBookRt c { r with due := true } else s

/-- Writes a copy of the live record to the partition, of the generation of the update that puts the commit's stamp into the
live record (R397, R399, R402; log entry 105). -/
def State.commitRecord (s : State) (c : Nat) : State :=
  let live := s.liveRecord c
  let r := { live with generation := (live.generation + 1) % 2 ^ 32, commitSec := s.opSeconds, commitCycle := s.powerCycle }
  let s1 := { s.setLive c r with book := { (s.setLive c r).book with committed := Sparse.set {} s.book.committed c r } }
  (s1.setBookRt c { s.bookRt c with due := false, retry := false, dirty := false, lastCommit := s.opSeconds }).count 0x2D0108

/-- A record restarts: cleared, its generation increased, and the empty record committed at once (R396, R405). -/
def State.restartRecord (s : State) (c : Nat) : State :=
  ((s.setLive c (emptyRecord (s.descriptor c) (s.liveRecord c).generation)).setBookRt c {}).commitRecord c

/-- The record restart of 2D20.03 (R405). -/
def State.restartRecords (s : State) (code : Nat) : State :=
  if code = 0xFFFF then s.each (List.range 512) State.restartRecord
  else if code < 512 then s.restartRecord code else s

/-- New descriptors take effect; each code whose descriptor changed restarts (R393, R396). -/
def State.setDescriptors (s : State) (bs : List Byte) : State :=
  let old := s.descriptorBytes
  let s1 := s.setBlob 0x2D0003 bs
  s1.each ((List.range 512).filter (fun c => old c != s1.descriptorBytes c)) State.restartRecord

/-! ## Occasions (R391, R394) -/

/-- The sources of the integrator codes are sampled at S of a RUN tick; one beyond its area is shown (R394). -/
def State.sampleSources (s : State) : State :=
  s.each ((List.range 256).filter (fun j => (s.descriptor (0x100 + j)).flags.testBit 0)) (fun t j =>
    let v := field (t.blob 0x2D0004) (4 * j) 4
    let area := v / 2 ^ 20 % 16
    let a := v % 2 ^ 20
    let size := if area ≤ 1 then t.ioSize area else if area = 2 then t.image.mSize else t.image.dSize
    if a + 4 ≤ size then (t.setBit 0x2D010E j false).sampleBook (0x100 + j) (signed 32 (t.memNat area a 4))
    else t.setBit 0x2D010E j true)

/-- The samples of a datum edge: slice currents, and shortfalls of channels with COMPLIANCE set (R391). -/
def State.sampleEdge (s : State) : State :=
  if !s.bookRuns then s
  else
    let s1 := s.each (List.range 8) (fun t k => t.sampleBook (0x40 + k) (t.regI (dsl k 3)))
    s1.each ((List.range 16).filter (fun n => s.anaBit n bCompliance)) (fun t n =>
      t.sampleBook (0x50 + n) (t.releasedMa n - t.latchedMa n))

/-- The samples of a frame boundary: the latched values, after step 1 of R41 (R391). -/
def State.sampleFrame (s : State) : State :=
  let s1 := s.each s.blocks (fun t n => (t.sampleNat (0x60 + n) (t.lrt n).sat).setLrt n { t.lrt n with sat := 0 })
  let s2 := if s1.chainRuns then
      ((s1.sampleNat 0xE0 (s1.reg 0x261002)).sampleNat 0xE1 (s1.reg 0x261004)).sampleNat 0xE2 (s1.reg 0x261006)
    else s1
  let s3 := s2.each ((List.range 4).filter (fun c => s2.canMode c != 0)) (fun t c => t.sampleNat (0xE4 + c) (t.reg (cst c 6)))
  if s3.inPair then (s3.sampleNat 0xE9 (s3.reg 0x25200C)).sampleNat 0xEA (s3.reg 0x252002) else s3

/-! ## The events -/

/-- The header is written: every 600 operating seconds and at each start (R400). -/
def State.writeBookHeader (s : State) : State :=
  { s with book := { s.book with headerSec := s.opSeconds, headerCycle := s.powerCycle } }

/-- LEVEL_BOOK_COMMIT_DUE (R401): the interval has passed and the record has taken a sample since. -/
def execLevelBookCommitDue (code : Nat) (s : State) : Result :=
  whenValid (decide (code < 512)) s (if s.bookRuns then s.markDue code else s)

/-- LEVEL_BOOK_COMMIT_DONE (R402): a due commit is written, or fails and waits 10 s. -/
def execLevelBookCommitDone (code : Nat) (success : Bool) (s : State) : Result :=
  whenValid (decide (code < 512)) s
    (if !(s.bookRt code).due then s
     else if success then s.commitRecord code
     else (((s.setBookRt code { s.bookRt code with due := false, retry := true }).count 0x2D0106).setReg 0x2D0107
       code).setCause 13 2)

/-- COMMIT_RETRY_EXPIRY (R402). -/
def execCommitRetryExpiry (code : Nat) (s : State) : Result :=
  whenValid (decide (code < 512)) s
    (if (s.bookRt code).retry then s.setBookRt code { s.bookRt code with retry := false, due := true } else s)

/-- OPERATING_SECOND (R391, R400, R401): the counts and mirrors move, the supplies and temperatures are measured and
sampled, commits fall due. -/
def execOperatingSecond (x : SecondSample) (s : State) : Result :=
  .next (if !s.rst.supervisorUp then s
  else
    let s1 := s.count 0x2D0101
    let s2 := s1.setKeeper 0x2B2004 s1.opSeconds
    let s3 := if s2.opSeconds % 600 = 0 then s2.writeBookHeader else s2
    let s4 := s3.each (List.range 8) (fun t k => t.setReg (dsl k 1) (x.lplus.getD k 0).toNat)
    let s5 := (s4.each (List.range 4) (fun t a => t.setReg (keyOf (0x2901 + a) 1) (x.tracking.getD a 0).toNat)).setReg 0x2B0108
      x.vbat.toNat
    if !s5.bookRuns then s5
    else
      let s6 := s5.sampleBook 0x20 x.vsup.toInt
      let s7 := s6.each (List.range 8) (fun t k => t.sampleBook (0x21 + k) (x.lplus.getD k 0).toInt)
      let s8 := (s7.sampleBook 0x29 x.vbat.toInt).each (List.range 4)
        (fun t a => t.sampleBook (0x2A + a) (x.tracking.getD a 0).toInt)
      let s9 := s8.each (List.range 5) (fun t d => t.sampleBook (0x30 + d) (x.dies.getD d 0).toInt)
      s9.each (s9.book.codes.map (fun r => r.1)) State.markDue)

/-! ## Entries -/

/-- Every record of a descriptor write is well formed (R393). -/
def descriptorsOk (bs : List Byte) : Bool :=
  bs.length == 8192 && (List.range 512).all (fun c => descriptorOk c (parseDescriptor (bs.drop (16 * c))))

/-- Every source of a write is well formed (R394). -/
def sourcesOk (bs : List Byte) : Bool :=
  bs.length == 1024 && (List.range 256).all (fun j =>
    let v := field bs (4 * j) 4
    decide (v < 2 ^ 22) && v % 4 == 0)

/-- Step 8 of R366 for the level book entries. -/
def State.bookCheck (_s : State) (key : Nat) (data : List Byte) : Nat :=
  if key = 0x2D0003 then (if descriptorsOk data then 0 else 0x06090030)
  else if key = 0x2D0004 then (if sourcesOk data then 0 else 0x06090030)
  else if key = 0x2D2003 then (if leNat data < 512 ∨ leNat data = 0xFFFF then 0 else 0x06090030)
  else 0

/-- The level book entries as they are applied. -/
def State.bookApply (s : State) (key : Nat) (data : List Byte) : Option State :=
  if key = 0x2D0003 then some (s.setDescriptors data)
  else if key = 0x2D2003 then some (s.restartRecords (leNat data))
  else none

/-- The level book entries whose value follows from others (R408). -/
def State.bookView (s : State) (key : Nat) : Option Nat :=
  if key = 0x2D0103 then some ((List.range 512).filter (fun c => (s.descriptor c).flags.testBit 0)).length
  else if key = 0x2D0105 then
    some (if s.book.committed = [] then 0
          else Config.bookUsed (s.book.committed.map (fun (c : Nat × BookRecord) => (c.1, c.2.generation))))
  else if key = 0x2D0104 then some (s.book.codes.filter (fun c => c.2.due)).length
  else none

end Sys2Proof.Machine
end

