-- ==== Sys2Proof/Machine/Time.lean ====
section
/-! DEFINITION. The time unit: ports, measurements, servo states, the step, frequency, chain time and the pulses
(R284 to R305). -/

namespace Sys2Proof.Machine

open Sys2Proof

/-- An entry of time port n: 0 and 1 the plant ports, 2 and 3 the chain ports (R304). -/
def tp (n sub : Nat) : Nat := keyOf (0x2A10 + n) sub

/-- What a time port keeps. -/
def State.prt (s : State) (n : Nat) : PortRt := Sparse.get {} s.time.ports n

/-- Writes what a time port keeps. -/
def State.setPrt (s : State) (n : Nat) (r : PortRt) : State :=
  { s with time := { s.time with ports := Sparse.set {} s.time.ports n r } }

/-- The link of a time port is up; a chain port that links below 1000 Mbit/s counts as down (R200, R304). -/
def State.timeUp (s : State) (n : Nat) : Bool := if n < 2 then s.reg (tp n 0xC) != 0 else s.reg (tp n 0xC) == 1000

/-- Time unit states (2A01.01). -/
abbrev tuFree : Nat := 0
abbrev tuAcquiring : Nat := 1
abbrev tuLocked : Nat := 2
abbrev tuHoldover : Nat := 3
abbrev tuStep : Nat := 4

/-- The time unit state (R291). -/
def State.tu (s : State) : Nat := s.reg 0x2A0101

/-- The time unit state changes (R291, R388). -/
def State.setTu (s : State) (v : Nat) : State := if s.tu = v then s else (s.setReg 0x2A0101 v).setCause 9 0

/-! ## Frequency (R295) -/

/-- The sum of servo and host term, in 0.01 ppb, before the clamp of ±500 ppm. -/
def State.rateSum (s : State) : Int := s.time.servo + s.regI 0x2A0008

/-- The applied frequency follows its terms; RATECLAMP shows the clamp (R295, R388). -/
def State.applyRate (s : State) : State :=
  let v := s.rateSum
  let clamped := v != clampInt (-50000000) 50000000 v
  let s1 := (s.setRegI 0x2A0105 s.time.servo).setRegI 0x2A0106 (clampInt (-50000000) 50000000 v)
  (s1.causeIf (clamped && !s1.bit 0x2A0107 0) 9 2).setBit 0x2A0107 0 clamped

/-- Sets the servo term. -/
def State.setServo (s : State) (v : Int) : State := { s with time := { s.time with servo := v } }.applyRate

/-- The frozen term of HOLDOVER: the mean over the last 16 valid measurements (R295). -/
def State.meanServo (s : State) : Int :=
  if s.time.history = [] then s.time.servo else roundAway (s.time.history.foldl (fun a b => a + b) 0) s.time.history.length

/-- Valid measurements cease (R291, R295). -/
def State.enterHoldover (s : State) : State :=
  if s.tu = tuAcquiring ∨ s.tu = tuLocked then (s.setServo s.meanServo).setTu tuHoldover else s

/-! ## The step (R35, R36, R292) -/

/-- The step is applied: the time-scale moves, the record is made, the servo acquires (R291, R292). -/
def State.applyStep (s : State) (amount : Int) : State :=
  let now := ((s.tick.nowNs : Int) + amount).toNat
  let s1 := { s with tick := { s.tick with nowNs := now, stepPending := none, stepHeld := false }
                     time := { s.time with ppsSecond := now / 1000000000 } }
  let s2 := ((s1.setReg 0x2A010D s.tickNo).setRegI 0x2A010E amount).setBit 0x2A0107 1 true
  (s2.setCause 9 1).setTu tuAcquiring

/-- A step that is pending as the sequencer stops is applied at once (R292). -/
def State.stepAtOnce (s : State) : State :=
  match s.tick.stepPending with
  | some a => s.applyStep a
  | none => s

/-- The step of the first measurement waits for a datum edge, or is held in RUN and HALTED with 2000.07 at 0 (R292). -/
def State.holdStep (s : State) (amount : Int) : State :=
  { s with tick := { s.tick with
    stepPending := some amount, stepHeld := (s.mode == stRun || s.mode == stHalted) && !s.on 0x200007 } }

/-! ## Measurements (R290 to R295) -/

/-- An integer limited to an I32. -/
def sat32 (v : Int) : Int := clampInt (-2147483648) 2147483647 v

/-- The servo term that the time unit computes from a measurement: the spec gives no formula, so it is free; the sum is
clamped (R295). In STEP-PENDING the servo does not slew (R292). -/
def State.slew (s : State) : State :=
  let v := signed 32 s.draw.1
  let s1 := s.draw.2.setServo v
  { s1 with time := { s1.time with history := (s1.time.history ++ [v]).drop (s1.time.history.length - 15) } }

/-- A measurement in ACQUIRING: sixteen in a row within the lock window lock (R291). -/
def State.acquire (s : State) (offset : Int) : State :=
  let n := if offset.natAbs ≤ s.reg 0x2A0006 then s.time.inRun + 1 else 0
  if 16 ≤ n then { s with time := { s.time with inRun := 0, outRun := 0 } }.setTu tuLocked
  else { s with time := { s.time with inRun := n } }

/-- A measurement in LOCKED: four in a row beyond the unlock window unlock (R291). -/
def State.keepLock (s : State) (offset : Int) : State :=
  let n := if s.reg 0x2A0007 < offset.natAbs then s.time.outRun + 1 else 0
  if 4 ≤ n then { s with time := { s.time with inRun := 0, outRun := 0 } }.setTu tuAcquiring
  else { s with time := { s.time with outRun := n } }

/-- What every valid measurement shows (R294, R302, R305). -/
def State.showOffset (s : State) (offset : Int) : State :=
  ((s.setRegI 0x2A0103 (sat32 offset)).maxReg 0x2A2001 (min offset.natAbs 0xFFFFFFFF)).setBit 0x2A0107 2
    (decide (1000000000 < offset.natAbs))

/-- The first valid measurement after a time-unit reset decides whether a step is taken (R291, R292). -/
def State.firstMeasure (s : State) (offset : Int) : State :=
  let s1 := { s with time := { s.time with measured := true } }
  if offset.natAbs ≤ 1000 then (s1.setTu tuAcquiring).slew.acquire offset
  else if s1.running then (s1.setTu tuStep).holdStep (-offset)
  else s1.applyStep (-offset)

/-- A valid measurement of the servo's source (R290 to R295). -/
def State.measure (s : State) (offset : Int) : State :=
  let s1 := (s.showOffset offset).sampleBook 0xE8 offset.natAbs
  if !s1.time.measured then s1.firstMeasure offset
  else if s1.tu = tuStep then (if s1.running then s1.holdStep (-offset) else s1.applyStep (-offset))
  else if s1.tu = tuLocked then s1.slew.keepLock offset
  else (s1.setTu tuAcquiring).slew.acquire offset

/-- Ends what the step leaves when the time unit is reset. -/
def State.clearServo (s : State) : State :=
  let s1 := { s with time := { syncBarNs := s.time.syncBarNs, ppsSecond := s.time.ppsSecond }
                     tick := { s.tick with stepPending := none, stepHeld := false } }
  (((s1.setReg 0x2A010D 0).setReg 0x2A010E 0).setReg 0x2A0105 0).setReg 0x2A0107 0

/-- A time-unit reset by block reset or command: servo, port states and step record are cleared, the time-scale counts on
at its last applied frequency (R293). -/
def State.resetTimeUnit (s : State) : State :=
  let s1 := s.clearServo.each (List.range 4) (fun t n => (t.setReg (tp n 0xD) 0).setReg (tp n 0xE) 0xFF)
  let s2 := ((s1.setReg 0x2A0102 0).setReg 0x2A0103 0).setReg 0x2A010A (s1.reg 0x2A000B)
  ((s2.setTu tuFree).count 0x2A010B).setReg 0x2A010C s.tickNo

/-! ## Ports and masters (R286, R287) -/

/-- The order of two Announce data sets under the best master clock algorithm of IEEE 1588. -/
def announceRank (a : Announce) : List Nat :=
  [a.priority1, a.clockClass, a.accuracy, a.variance, a.priority2, a.identity, a.stepsRemoved]

/-- Lexicographic order of two lists of one length. -/
def listBefore (a b : List Nat) : Bool :=
  match a, b with
  | x :: t, y :: u => decide (x < y) || (x == y && listBefore t u)
  | _, _ => false

/-- The plant port of the best master; one that was lost ranks behind one that is heard (R287). -/
def State.bestPort (s : State) : Option Nat :=
  match (s.prt 0).master, (s.prt 1).master with
  | some a, some b =>
    let second := if (s.prt 0).stale = (s.prt 1).stale then listBefore (announceRank b) (announceRank a) else (s.prt 0).stale
    some (if second then 1 else 0)
  | some _, none => some 0
  | none, some _ => some 1
  | none, none => none

/-- The tie link steers the servo: in a standby that hears its partner (R297). -/
def State.tieSteers (s : State) : Bool :=
  s.inPair && (s.role == 2 || s.role == 3) && s.reg 0x250105 != 0 && !s.bit 0x250107 1

/-- Direction 0 reaches the outstation: its port is up, and a frame of this tick or the last came that way; before the first
frame the port's link decides (R214; log entry 99). -/
def State.dir0Reaches (s : State) : Bool :=
  s.timeUp (2 + s.ost.dir0Port) && (!s.ost.accepted || s.ost.dir0Now || s.ost.dir0Was)

/-- The chain port whose Sync an outstation follows: that of direction 0 while it reaches the outstation (R214). -/
def State.chainSource (s : State) : Nat := if s.dir0Reaches then 2 + s.ost.dir0Port else 3 - s.ost.dir0Port

/-- The port whose measurements steer the servo, if a port does (R287, R297). -/
def State.sourcePort (s : State) : Option Nat :=
  if s.outstation then some s.chainSource else if s.tieSteers then none else s.bestPort

/-- The servo source code of 2A01.02. -/
def State.sourceCode (s : State) : Nat :=
  if s.outstation then (if s.timeUp s.chainSource then 2 + s.chainSource else 0)
  else if s.tieSteers then 3
  else match s.bestPort with
    | some n => n + 1
    | none => 0

/-- What the source's master reports: identity, distance, UTC offset and flags (R285, R298, R299, R303). -/
def State.showMaster (s : State) (a : Announce) (legacy : Bool) : State :=
  let name := leNat (leBytes 8 a.identity).reverse
  let s1 := s.causeIf (s.reg 0x2A0108 != name) 9 3
  let s2 := (((s1.setReg 0x2A0108 name).setReg 0x2A0109 a.stepsRemoved).setBit 0x2A0107 5 a.utcValid).setBit 0x2A0107 4
    (!a.timescalePtp)
  (s2.setRegI 0x2A010A (if a.utcValid then a.utcOffset else s2.regI 0x2A000B)).setBit 0x2A0107 3 legacy

/-- No master supplies a UTC offset, and no parent stamps in legacy mode (R299, R303). -/
def State.noMaster (s : State) : State :=
  ((s.setBit 0x2A0107 5 false).setBit 0x2A0107 3 false).setReg 0x2A010A (s.reg 0x2A000B)

/-- The IEEE 1588 state of a port: DISABLED, LISTENING, MASTER, PASSIVE or SLAVE (R287, R304). -/
def State.portState (s : State) (n : Nat) : Nat :=
  if !s.timeUp n || !s.on (tp n 1) then 3
  else if 2 ≤ n then (if !s.outstation then 6 else if s.chainSource = n then 9 else 7)
  else if s.outstation then 3
  else if s.bestPort = some n then 9
  else if (s.prt n).master.isSome then 7 else 4

/-- The entries that follow the selected master; with none, or with it lost, the fallback offset is in use (R287, R299,
R303). -/
def State.showPorts (s : State) : State :=
  if s.outstation then s
  else match s.bestPort with
    | some n =>
      match (s.prt n).master with
      | some a => if (s.prt n).stale then s.noMaster else s.showMaster a (s.reg (tp n 3) == 1)
      | none => s.noMaster
    | none => s.noMaster

/-- A message may be used: its domain is ours, its minor version known, its transport the port's, its port enabled and linked
(R286). -/
def State.hears (s : State) (port domain minor : Nat) (udp : Bool) : Bool :=
  domain == s.reg 0x2A0001 && decide (minor ≤ 1) && (udp == (decide (port < 2) && s.reg 0x2A0002 == 1)) && s.on (tp port 1) &&
    s.timeUp port && (decide (2 ≤ port) || !s.outstation)

/-- The full time of a 48-bit wire time-stamp: the value nearest to the time-scale (R285). -/
def State.fullNs (s : State) (wire : Nat) : Nat :=
  let m := 2 ^ 48 * 1000000000
  let k := s.tick.nowNs / m
  let a := wire % m + k * m
  if a + m / 2 < s.tick.nowNs then a + m else if s.tick.nowNs + m / 2 < a ∧ m ≤ a then a - m else a

/-- A time-stamp as it is sent: the low 48 bits of seconds (R285). -/
def wireNs (ns : Nat) : Nat := ns % (2 ^ 48 * 1000000000)

/-- The latency of a port at its link speed; none in legacy mode (R288, R299). -/
def State.latency (s : State) (port : Nat) (egress : Bool) : Nat :=
  if s.reg (tp port 3) = 1 then 0
  else
    let base := if s.reg (tp port 0xC) = 1000 then 5 else if s.reg (tp port 0xC) = 100 then 7 else 9
    s.reg (tp port (base + if egress then 1 else 0)) % 2 ^ 32

/-- The asymmetry of a port; none in legacy mode (R289, R299). -/
def State.asymmetry (s : State) (port : Nat) : Int := if s.reg (tp port 3) = 1 then 0 else s.regI (tp port 4)

/-- The minor version a port sends: its peer's, where that is 0 (R286). -/
def State.minorSent (s : State) (port : Nat) : Nat := if s.reg (tp port 0xE) = 0 then 0 else 1

/-- A Sync with its Follow_Up gives an offset: received stamp, less the ingress latency, less origin, correction, asymmetry
and delay (R288, R289, R290, R299). It is valid if the delay was measured within the last 16 exchanges. -/
def State.syncOffset (s : State) (port originNs rxNs : Nat) (correction : Int) : Option Int :=
  let legacy := s.reg (tp port 3) == 1
  let corr := if legacy then 0 else correction + s.asymmetry port
  if 16 < (s.prt port).delayAge then none
  else some ((rxNs : Int) - s.latency port false - s.fullNs originNs - corr - s.reg (tp port 0xD))

/-- The Sync comes from the parent port: on a plant port the port that sent the Announce of the port's master (R290). -/
def State.fromParent (s : State) (port source : Nat) : Bool :=
  decide (2 ≤ port) || match (s.prt port).master with
    | some a => a.source == source
    | none => false

/-- A measurement at a port: shown, and steering where the port is the source (R290, R297). One from the parent of a master
that was taken for lost brings it back. -/
def State.portMeasure (s : State) (port source : Nat) (offset : Option Int) : State :=
  match offset with
  | none => s
  | some v =>
    if !s.fromParent port source then s
    else if s.sourcePort = some port then
      let s1 := if (s.prt port).stale then (s.setPrt port { s.prt port with stale := false }).showPorts else s
      (s1.setReg 0x2A0104 (s1.reg (tp port 0xD))).measure v
    else if s.tieSteers then s.setRegI 0x2A0103 (sat32 v)
    else s

/-! ## The transparent clock (R214, R287, R298) -/

/-- The chain port that a node passes a time message on to, if it passes any. -/
def State.onward (s : State) (port : Nat) : Option Nat :=
  if 2 ≤ port && s.forwards && s.timeUp (5 - port) then some (3 - port) else none

/-- A Sync goes on. One-step, it takes the residence time and the delay of its link; two-step, the node keeps the residence
time for the Follow_Up. How long a message stays in the node is not stated: a free value. -/
def State.passSync (s : State) (port : Nat) (m : PtpEvent) : State :=
  match s.onward port with
  | none => s
  | some p =>
    let v := s.draw.1 % 2 ^ 32
    let s1 := s.draw.2
    if m.twoStep then (s1.setPrt port { s1.prt port with residence := v }).emit (.forwardSync p m)
    else s1.emit (.forwardSync p { m with correction := m.correction + v + s.reg (tp port 0xD) })

/-- A Follow_Up goes on with what its Sync met. -/
def State.passFollowUp (s : State) (port : Nat) (m : PtpEvent) : State :=
  match s.onward port with
  | none => s
  | some p =>
    s.emit (.forwardFollowUp p { m with correction := m.correction + (s.prt port).residence + s.reg (tp port 0xD) })

/-- An Announce goes on unchanged. -/
def State.passAnnounce (s : State) (port : Nat) (m : Announce) : State :=
  match s.onward port with
  | none => s
  | some p => s.emit (.forwardAnnounce p m)

/-! ## The events -/

/-- PTP_SYNC (R290): a one-step Sync measures; a two-step Sync waits for its Follow_Up. -/
def execPtpSync (port : Nat) (m : PtpEvent) (s : State) : Result :=
  whenValid (decide (port < 4)) s
    (if !s.hears port m.domain m.minor m.udp then s
     else
       let s1 := (s.count (tp port 0xF)).setReg (tp port 0xE) m.minor
       let s2 := if m.twoStep then s1.setPrt port { s1.prt port with sync := some m }
         else (s1.setPrt port { s1.prt port with sync := none }).portMeasure port m.source
           (s1.syncOffset port m.originNs m.rxNs m.correction)
       s2.passSync port m)

/-- PTP_FOLLOW_UP (R290): completes the Sync of its source and sequence number, within one Sync interval. -/
def execPtpFollowUp (port : Nat) (m : PtpEvent) (s : State) : Result :=
  whenValid (decide (port < 4)) s
    (if !s.hears port m.domain m.minor m.udp then s
     else
       let s1 := match (s.prt port).sync with
         | none => s
         | some x =>
           if x.source ≠ m.source ∨ x.sequence ≠ m.sequence then s
           else (s.setPrt port { s.prt port with sync := none }).portMeasure port m.source
             (if x.rxNs + x.intervalNs < m.rxNs then none
              else s.syncOffset port m.originNs x.rxNs (x.correction + m.correction))
       s1.passFollowUp port m)

/-- PTP_ANNOUNCE (R287, R298): the best master of the plant ports is selected; an outstation only shows what it hears. -/
def execPtpAnnounce (port : Nat) (m : Announce) (s : State) : Result :=
  whenValid (decide (port < 4)) s
    (if !s.hears port m.domain m.minorVersion m.udp then s
     else if 2 ≤ port then (if s.outstation then s.showMaster m false else s).passAnnounce port m
     else
       let keep := match (s.prt port).master with
         | some old => !(s.prt port).stale && old.source != m.source && listBefore (announceRank old) (announceRank m)
         | none => false
       if keep then s else (s.setPrt port { s.prt port with master := some m, stale := false }).showPorts)

/-- PTP_DELAY_EXCHANGE (R288, R289): the mean delay of a port from its four stamps, corrected by its latencies, the
correction fields as received, and the asymmetry, which the request took off and the answer adds. -/
def execPtpDelayExchange (port : Nat) (x : DelayExchange) (s : State) : Result :=
  whenValid (decide (port < 4)) s
    (if !s.hears port x.domain x.minor x.udp || (x.peer != (s.reg (tp port 2) == 2)) then s
     else
       let corr := (if s.reg (tp port 3) = 1 then 0 else x.correction) + s.asymmetry port
       let trip : Int := ((x.t4 : Int) - x.t1) - ((x.t3 : Int) - x.t2) - corr
       -- a request-response exchange stamps locally the Sync (t2) and the Delay_Req (t3), a peer exchange t1 and t4
       let lat : Int := s.latency port false + s.latency port true
       let delay := ((trip - lat) / 2).toNat
       let s1 := ((s.count (tp port 0xF)).setReg (tp port 0xE) x.minor).setReg (tp port 0xD) (min delay 0xFFFFFFFF)
       (s1.setPrt port { s1.prt port with delayAge := 0 }).maxReg 0x2A2003 (min delay 0xFFFFFFFF))

/-- PTP_UNSUPPORTED_MESSAGE (R286): discarded. -/
def execPtpUnsupportedMessage (port : Nat) (s : State) : Result := whenValid (decide (port < 4)) s s

/-- HOLDOVER_ENTRY (R291): no valid measurement for 4 Sync intervals, or the selected master is lost. The event does not say
which: the master counts as lost until it is heard again (log entry 100). -/
def execHoldoverEntry (s : State) : Result :=
  .next (if s.tu = tuAcquiring ∨ s.tu = tuLocked then
    match s.sourcePort with
    | some n => if s.outstation then s.enterHoldover else (s.enterHoldover.setPrt n { s.prt n with stale := true }).showPorts
    | none => s.enterHoldover
  else s)

/-- DELAY_REQUEST_TRANSMIT (R286, R288, R289): a delay exchange begins. -/
def execDelayRequestTransmit (port atNs : Nat) (s : State) : Result :=
  whenValid (decide (port < 4)) s
    (if s.on (tp port 1) && s.timeUp port && (decide (2 ≤ port) || !s.outstation) then
       (s.setPrt port { s.prt port with delayAge := min 17 ((s.prt port).delayAge + 1) }).emit
         (.delayRequest port (wireNs (atNs + s.latency port true)) (decide (port < 2) && s.reg 0x2A0002 == 1) (-s.asymmetry port)
           (s.minorSent port))
     else s)

/-- A chain port declares its link down (R212, R304). -/
def execChainPortLinkDown (port : Nat) (s : State) : Result :=
  whenValid (decide (port < 2)) s
    ((((s.setReg (if port = 0 then 0x260102 else 0x260103) 0).setReg (tp (2 + port) 0xC) 0).setReg (tp (2 + port) 0xD) 0).setPrt
      (2 + port) {})

/-- A chain port links; below 1000 Mbit/s it counts as down (R200). -/
def execChainPortLinkUp (port speed : Nat) (s : State) : Result :=
  whenValid (decide (port < 2) && [10, 100, 1000].contains speed) s
    ((s.setReg (if port = 0 then 0x260102 else 0x260103) (if speed = 1000 then 1 else 0)).setReg (tp (2 + port) 0xC) speed)

/-- PLANT_PORT_LINK_DOWN (R304): the master seen on the port is lost with it. -/
def execPlantPortLinkDown (port : Nat) (s : State) : Result :=
  whenValid (decide (port < 2)) s
    (let was := s.bestPort
     let s1 := ((s.setReg (tp port 0xC) 0).setPrt port {}).setReg (tp port 0xD) 0
     let s2 := if was = some port ∧ s1.bestPort.isNone ∧ !s.tieSteers ∧ !s.outstation then s1.enterHoldover else s1
     s2.showPorts)

/-- PLANT_PORT_LINK_UP (R304). -/
def execPlantPortLinkUp (port speed : Nat) (s : State) : Result :=
  whenValid (decide (port < 2) && [10, 100, 1000].contains speed) s
    (if s.blockUp (8 + port) then (s.setReg (tp port 0xC) speed).showPorts else s)

/-- PPS_OUT_PULSE (R300): the whole second that the time-scale has reached without a pulse, or the next one, unless the
coming datum edge lies before it. The pulse has the width of 2A00.09 and the polarity of 2A00.0A. -/
def execPpsOutPulse (s : State) : Result :=
  .next (
    let now := s.tick.nowNs / 1000000000
    let second := if s.time.ppsSecond < now then now else now + 1
    if s.running && s.tick.started && decide (s.tick.nextNs < second * 1000000000) then s
    else
      let s1 := { s with tick := { s.tick with nowNs := max s.tick.nowNs (second * 1000000000) }
                         time := { s.time with ppsSecond := second } }
      if s.reg 0x2A000A = 0 then s1 else s1.emit (.ppsPulse second (s.reg 0x2A0009) (s.reg 0x2A000A == 1)))

/-- PPS_IN_EDGE (R301). -/
def execPpsInEdge (atNs : Nat) (s : State) : Result :=
  .next (if s.on 0x2A3004 then
    let off : Int := ((atNs + 500000000) % 1000000000 : Nat) - 500000000
    (((s.setReg 0x2A3001 (leNat (ts96 atNs))).setRegI 0x2A3002 off).count 0x2A3003).setCause 9 4
  else s)

/-- The unit is master of chain time (R214, R298). -/
def State.chainTimeMaster (s : State) : Bool := !s.outstation && s.active && s.running

/-- The chain ports that are up. -/
def State.chainPorts (s : State) : List Nat := [0, 1].filter (fun p => s.on (if p = 0 then 0x260102 else 0x260103))

/-- CHAIN_SYNC_TRANSMIT (R285, R286, R288, R298): none until T_D has passed from a stepped datum edge. -/
def execChainSyncTransmit (atNs : Nat) (s : State) : Result :=
  .next (if s.chainTimeMaster && decide (s.time.syncBarNs ≤ atNs) then
    s.each s.chainPorts (fun t p =>
      t.emit (.chainSync p (wireNs (atNs + s.latency (2 + p) true)) (s.on 0x2A0004) (s.minorSent (2 + p))))
  else s)

/-- CHAIN_ANNOUNCE_TRANSMIT (R298): the grandmaster's identity, one step more, and its time properties. -/
def execChainAnnounceTransmit (s : State) : Result :=
  .next (if s.chainTimeMaster then
    s.each s.chainPorts (fun t p =>
      t.emit (.chainAnnounce p (s.reg 0x2A0108) (s.reg 0x2A0109 + 1) (s.regI 0x2A010A) (s.bit 0x2A0107 5) (!s.bit 0x2A0107 4)
        (s.minorSent (2 + p))))
  else s)

/-! ## Entries -/

/-- Steps 8 and 9 of R366 for the time entries (R299, R303, R304). -/
def State.timeCheck (s : State) (key v : Nat) : Nat :=
  let ix := key / 256
  let sub := key % 256
  if key = 0x2A0007 then (if v < s.reg 0x2A0006 then 0x06040043 else 0)
  else if key = 0x2A0006 then (if s.reg 0x2A0007 < v then 0x06040043 else 0)
  else if (ix = 0x2A12 ∨ ix = 0x2A13) ∧ (sub = 1 ∨ sub = 2 ∨ (sub = 3 ∧ v ≠ 0)) then 0x06090030
  else 0

/-- The time entries as a closing point applies them (R293, R295, R303). -/
def State.timeApply (s : State) (key v : Nat) : Option State :=
  let ix := key / 256
  if key = 0x2A0008 then some (s.setReg key v).applyRate
  else if key = 0x2A000B then
    some ((s.setReg key v).setReg 0x2A010A (if s.bit 0x2A0107 5 then s.reg 0x2A010A else v))
  else if key = 0x2A010F then some s.resetTimeUnit
  else if 0x2A10 ≤ ix ∧ ix ≤ 0x2A13 ∧ key % 256 ≤ 3 then
    let n := ix - 0x2A10
    let s1 := s.setReg key v
    some (if key % 256 = 1 ∧ v = 0 then (s1.setPrt n {}).showPorts else s1.showPorts)
  else none

/-- The time entries whose value follows from others (R303, R304). -/
def State.timeView (s : State) (key : Nat) : Option Nat :=
  if key = 0x2A0110 then some (leNat (ts96 s.tick.nowNs))
  else if key = 0x2A0102 then some s.sourceCode
  else if between 0x2A10 (key / 256) 0x2A13 && key % 256 == 0xB then some (s.portState (key / 256 - 0x2A10))
  else none

end Sys2Proof.Machine
end

