-- ==== Sys2Proof/Machine/Modes.lean ====
section
/-! DEFINITION. Module states, the schedule of a tick, and what is staked: entry to and exit from RUN, task dispatch, the
error task, overruns and mismatches, halts, the image, the staked outputs and their release (R24, R26, R29, R30, R55 to R58,
R81 to R101, R109, R112, R155, R257 to R259). -/

namespace Sys2Proof.Machine

open Sys2Proof

/-! ## Reset sources found at a staking point (R433, R435) -/

/-- The level that the map assigns to a source: 2F20.01 to 10 (R434). -/
def State.levelOf (s : State) (n : Nat) : Nat := s.reg (keyOf 0x2F20 (n + 1))

/-- A source found at a staking point sets its bit; its reset starts at the following datum edge (R432, R435). -/
def State.noteSource (s : State) (n : Nat) : State :=
  let s1 := s.setBit 0x2F0001 n true
  if s.levelOf n = 7 then s1 else { s1 with tick := { s1.tick with resetsDue := s1.tick.resetsDue ++ [n] } }

/-! ## Entry to and exit from RUN (R81, R89, R125, R160) -/

/-- The counters that entry to RUN clears (R89, R112, R113, R114). -/
def State.clearRunCounters (s : State) : State :=
  ((s.setReg 0x212004 0).setReg 0x212005 0).each (List.range 16) (fun t k => t.setReg (keyOf (0x2110 + k) 0xD) 0)

/-- The numbers under which an image's tasks are kept: 0x10 start-up, 0x11 error. -/
def Image.taskKeys (m : Image) : List Nat :=
  m.tasks.map (fun t => if t.kind = 1 then 0x10 else if t.kind = 2 then 0x11 else t.number)

/-- Entry to RUN: the data memory is initialised, tasks, loops and the error queue start afresh, and the tick is the
first RUN tick (R49, R88, R89, R125, R160). A task that has had no activation since the unit became ACTIVE keeps that mark
(R76). -/
def State.enterRun (s : State) : State :=
  let s1 := s.initData.clearRunCounters
  let s2 := { s1 with
    tasks := [], engines := []
    tick := { s1.tick with firstRun := true, errQueue := [], errNew := [] } }
  let s3 := s2.each s2.image.taskKeys (fun t k => t.setTask k { firstRun := true, firstActive := (s.task k).firstActive })
  (s3.loopsStart.setReg 0x210007 0).setMode stRun

/-- What leaving RUN ends: loops are forced OFF, an exchange in preparation is aborted, queued data of area Q is dropped,
records are no longer taken (R84, R89, R136, R160). -/
def State.endRun (s : State) : State :=
  if s.mode = stRun then
    let s1 := (s.loopsForceOff.abortExchange 0xE).busesStop
    { s1 with tick := { s1.tick with firstRun := false } }
  else s

/-- The module state becomes STOPPED; a step held in RUN or HALTED may then be absorbed (R36, R81). -/
def State.stopModule (s : State) : State :=
  let s1 := s.endRun.setMode stStopped
  { s1 with tick := { s1.tick with stepHeld := false } }

/-- The halt record 2100.03 to 2100.06 (R112): while HALTED only a witness mismatch replaces it. -/
def State.recordHalt (s : State) (cause task pair : Nat) : State :=
  if s.mode = stHalted ∧ cause ≠ 3 then s
  else (((s.setReg 0x210003 cause).setReg 0x210004 s.tickNo).setReg 0x210005 task).setReg 0x210006 pair

/-- The module enters HALTED with its record (R81, R96). -/
def State.halt (s : State) (cause task pair : Nat) : State := (s.recordHalt cause task pair).endRun.setMode stHalted

/-! ## Task dispatch (R86 to R90) -/

/-- Cyclic task t is due in the tick (R86). -/
def State.due (s : State) (t : TaskDesc) : Bool := t.kind == 0 && t.period != 0 && s.tickNo % t.period == t.phase

/-- The cyclic tasks due on a pair, in ascending number. -/
def State.dueOn (s : State) (p : Nat) : List Nat :=
  (List.range 16).filter (fun k => s.image.tasks.any (fun t => t.number == k && t.pair == p && s.due t))

/-- The pair of the error task, if a record waits for delivery (R90). -/
def State.errorPair (s : State) : Option Nat :=
  if s.tick.errQueue.isEmpty then none
  else (s.image.tasks.find? (fun t => t.kind == 2)).map (fun t => t.pair)

/-- The bytes of an error-task record (R90). -/
def ErrRecord.bytes (r : ErrRecord) : List Byte := leBytes 16 r.number

/-- Up to 16 records are delivered into the error task's L area (R89, R90). -/
def State.deliverErrors (s : State) : State :=
  let rs := s.tick.errQueue.take 16
  let rest := s.tick.errQueue.drop 16
  let bs := leBytes 2 rs.length ++ leBytes 2 rest.length ++ leBytes 4 (s.reg 0x212005) ++ leBytes 8 0 ++
    rs.flatMap ErrRecord.bytes
  ({ s with tick := { s.tick with errQueue := rest } }.memWrite 4 0x11 0 bs).setReg 0x212004 rest.length

/-- The activations of a pair in the tick, in order (R87, R88, R90). -/
def State.activations (s : State) (p : Nat) : List Nat :=
  if s.tick.firstRun then (if p = 0 ∧ s.image.startTask.isSome then [0x10] else [])
  else (if s.errorPair = some p then [0x11] else []) ++ s.dueOn p

/-- A pair begins its work at X: its activations are set up and the first begins (R80, R87). -/
def State.startPair (s : State) (p : Nat) (work : List Nat) : State :=
  let e := s.engine p
  (s.setEngine p { e with stopped := false, cycles := 0, actCycles := 0, running := none, overlay := [], pStores := []
                          request := false, waiting := work }).beginNext p

/-- At X the scan tasks of a RUN tick start (R86 to R90). What is activated is decided before the delivery empties the queue;
a pair that has nothing to do and never worked stays as it is. -/
def State.startTasks (s : State) : State :=
  let err := !s.tick.firstRun && s.errorPair.isSome
  (if err then s.deliverErrors else s).each (List.range 15) (fun t p =>
    if (s.activations p).isEmpty && t.engine p == {} then t else t.startPair p (s.activations p))

/-- Records detected in a tick are delivered in the next one, ordered by code and first parameter; the queue holds 64
(R89). -/
def errBefore (a b : ErrRecord) : Bool := decide (a.code < b.code) || (a.code == b.code && decide (a.param1 ≤ b.param1))

/-- Inserts a record in order, after those it does not come before. -/
def insertErr (a : ErrRecord) (l : List ErrRecord) : List ErrRecord :=
  match l with
  | [] => [a]
  | b :: t => if errBefore b a then b :: insertErr a t else a :: b :: t

/-- At a datum edge the records of the tick before enter the queue; those that find it full are lost (R89). -/
def State.queueErrors (s : State) : State :=
  let new := s.tick.errNew.foldl (fun l a => insertErr a l) []
  let room := 64 - s.tick.errQueue.length
  let s1 := { s with tick := { s.tick with errQueue := s.tick.errQueue ++ new.take room, errNew := [] } }
  if new.isEmpty then s1
  else (s1.setReg 0x212004 s1.tick.errQueue.length).countBy 0x212005 (new.drop room).length

/-! ## Overruns and mismatches (R80, R95 to R99, R142) -/

/-- The activations of a pair that have not executed END; none where a mismatch stopped the pair (R95). -/
def State.unfinished (s : State) (p : Nat) : List Nat :=
  let e := s.engine p
  if e.stopped then [] else e.running.toList ++ e.waiting

/-- Every overrunning activation with its pair (R95). -/
def State.overruns (s : State) : List (Nat × Nat) :=
  if s.mode = stRun then (List.range 15).flatMap (fun p => (s.unfinished p).map (fun k => (k, p))) else []

/-- The lowest overrunning task with its pair. -/
def lowestTask (l : List (Nat × Nat)) : Option (Nat × Nat) :=
  l.foldl (fun m x => match m with
    | none => some x
    | some y => if x.1 < y.1 then some x else some y) none

/-- The application pairs that a mismatch stopped in the tick. -/
def State.mismatched (s : State) : List Nat := (List.range 15).filter (fun p => (s.engine p).stopped)

/-- An application or loop pair mismatched in the tick (R80, R142). -/
def State.anyMismatch (s : State) : Bool := !s.mismatched.isEmpty || !s.pair.mismatches.isEmpty

/-- Abandons every activation of the tick (R95). -/
def State.abandon (s : State) : State :=
  { s with engines := List.map (fun (c : Nat × Engine) => (c.1, { c.2 with running := none, waiting := [] })) s.engines }

/-- The stores of a pair are committed; the keys they reach. -/
def State.commitPair (s : State) (p : Nat) : State :=
  let e := s.engine p
  let mem := e.overlay.foldl (fun m (c : Nat × Option Byte) => match c.2 with
    | some b => Memory.write m c.1 b
    | none => m) s.mem
  { s with mem := mem, tick := { s.tick with pStores := s.tick.pStores ++ e.pStores } }

/-- The keys of every store of the tick. -/
def State.storedKeys (s : State) : List Nat :=
  s.engines.flatMap (fun (c : Nat × Engine) => c.2.overlay.map (fun x => x.1))

/-- A task asked for a planned switch-over in the tick (R76, R195). -/
def State.requested (s : State) : Bool := s.engines.any (fun (c : Nat × Engine) => c.2.request)

/-- Drops the overlays after the commit. -/
def State.clearOverlays (s : State) : State :=
  { s with engines := List.map (fun (c : Nat × Engine) => (c.1, { c.2 with overlay := [], pStores := [], request := false })) s.engines }

/-- At S the stores of the tick are committed in ascending pair, or all discarded after a mismatch (R57, R97). -/
def State.commitStores (s : State) : State :=
  if s.anyMismatch then s.clearOverlays
  else
    let keys := s.storedKeys
    ((s.each (List.range 15) State.commitPair).noteDirty keys).clearOverlays

/-! ## The image (R24, R26, R29, R30) -/

/-- Some value in the image is a substitute (R30). -/
def State.substituted (s : State) : Bool := s.tick.substituted != 0

/-- The image flags of R30. -/
def State.imageFlags (s : State) : Nat := s.tickFlags + (if s.substituted then 8 else 0)

/-- The local digital block in I (R234). -/
def State.digitalBlock (s : State) : List Byte := leBytes 8 s.tick.latchedDigital ++ leBytes 8 s.tick.latchedValid

/-- The local analog block in I (R257). -/
def State.analogBlock (s : State) : List Byte :=
  (List.range 16).flatMap (fun n => leBytes 4 (s.tick.latchedAnalog.getD n 0).toNat) ++
    leBytes 4 ((List.range 16).foldl (fun v n => if s.anaValid n then v + 2 ^ n else v) 0)

/-- The SOE block in I (R246): its place and capacity stand in 2800.03 and 2800.04. -/
def State.placeSoe (s : State) : State :=
  if s.reg 0x280003 = 0xFFFFFFFF then s else s.placeBytes 0 (s.reg 0x280003) (s.soeBlock (s.reg 0x280004))

/-- The image views move to an image: 6000 with its flags, the local inputs, and what the last release edge released. All of
them move together, so that equal readings of 6000.02 belong to one image (R31, R46, R47; log entry 91). -/
def State.showViews (s : State) (flags : Nat) : State :=
  let s1 := ((s.setReg 0x600001 (leNat (ts96 s.tick.datumNs))).setReg 0x600002 s.tickNo).setReg 0x600003 flags
  let s2 := (s1.setReg 0x600004 (s.reg 0x200102)).setReg 0x600005 (s.reg 0x200103)
  let s3 := ((s2.setReg 0x601001 s.tick.latchedDigital).setReg 0x601002 s.tick.latchedValid).setReg 0x601101
    s.tick.released.digital
  let s4 := s3.each (List.range 16) (fun t n =>
    (t.setReg (keyOf 0x6020 (n + 1)) (t.tick.latchedAnalog.getD n 0).toNat).setReg (keyOf 0x6021 (n + 1))
      (if t.isAo n then (t.tick.released.analog.getD n 0).toNat else 0))
  s4.showOutputs

/-- The image is closed at C: local inputs, chain inputs, bus data, loop measurements, and the views (R24, R26, R29, R46). A
standby in step has no image until the active's arrives (R180). -/
def State.closeImage (s : State) : State :=
  let s1 := (s.placeBytes 0 (s.reg 0x280001) s.digitalBlock).placeBytes 0 (s.reg 0x290001) s.analogBlock
  let bad := (List.range 16).foldl (fun v n => if s.reg (ach n 8) % 8 ≠ 0 then v + 2 ^ n else v) 0
  let s2 := { s1 with tick := { s1.tick with imageBad := bad } }.placeSoe.chainAtC.busesAtC.loopsAtC
  if s.role = 2 then s2 else s2.showViews s2.imageFlags

/-! ## Staking (R83, R100, R109, R155, R259) -/

/-- The number of `n` Q bytes; 0 beyond the area, or where unplaced. -/
def State.qNat (s : State) (addr n : Nat) : Nat := if addr = 0xFFFFFFFF then 0 else leNat (s.qBytes addr n)

/-- The safe value of a digital channel (R100). -/
def State.safeBit (s : State) (n : Nat) : Bool := s.isOutput n && s.on (dch n 5)

/-- Application outputs are staked from Q: in RUN (R83). -/
def State.stakesQ (s : State) : Bool := s.mode == stRun

/-- The digital values before overrides (R83, R98, R234, R448). -/
def State.stakeDigital (s : State) : Nat :=
  if s.stakesQ then
    let q := s.qNat (s.reg 0x280002) 8
    bits64 (fun n => s.isOutput n && q.testBit n)
  else if s.mode = stBench then (if s.mtx.stopped then bits64 s.safeBit else 0)
  else bits64 s.safeBit

/-- The destination value that a loop stakes for an analog channel (R155). -/
def State.loopCommand (s : State) (n : Nat) : Option Int :=
  match s.blocks.find? (fun b => s.reg (lb b 8) == 0x10000000 + n) with
  | some b => (s.lrt b).dest.map (fun w => w.toInt)
  | none => none

/-- The analog command before overrides, not yet clamped (R259). -/
def State.stakeAnalog (s : State) (n : Nat) : Int :=
  if !s.isAo n then 0
  else if s.stakesQ then
    let a := s.reg 0x290002
    (s.loopCommand n).getD (if a = 0xFFFFFFFF then 0 else signed 32 (s.qNat (a + 4 * n) 4))
  else if s.mode = stBench then (if s.mtx.stopped then s.safeMa n else 0)
  else s.safeMa n

/-- A reference of an active effect names this local output. -/
def named (refs : List OutRef) (kind target : Nat) : Bool := refs.any (fun r => r.kind == kind && r.target == target)

/-- Bytes with those of another string over a range. -/
def overlayBytes (bs safe : List Byte) (off n : Nat) : List Byte :=
  (List.range bs.length).map (fun i => if off ≤ i ∧ i < off + n then safe.getD i 0 else bs.getD i 0)

/-- One bit of a byte string taken from another. -/
def overlayBit (bs safe : List Byte) (bit : Nat) : List Byte :=
  (List.range bs.length).map (fun i =>
    if i = bit / 8 then BitVec.ofNat 8 (withBit (bs.getD i 0).toNat (bit % 8) ((safe.getD i 0).toNat.testBit (bit % 8)))
    else bs.getD i 0)

/-- The payload of a station with its overrides (R109). -/
def State.overridePayload (s : State) (refs : List OutRef) (k : Nat) (bs : List Byte) : List Byte :=
  let safe := s.safePayload k
  refs.foldl (fun p r =>
    if r.station ≠ k then p
    else if r.kind = 3 then overlayBit p safe r.target
    else if r.kind = 4 then overlayBytes p safe r.target 4
    else p) bs

/-- The loop destinations of kind 2 replace the Q words they name (R155). -/
def State.stakeLoopWords (s : State) : State :=
  if !s.stakesQ then s
  else s.each s.blocks (fun t b =>
    let v := t.reg (lb b 8)
    match (t.lrt b).dest with
    | some w => if v / 2 ^ 28 = 2 then t.placeBytes 1 (v % 2 ^ 20) (leBytes 4 w.toNat) else t
    | none => t)

/-- The output set of a staking point (R83, R100, R109, R155, R259). In BENCHMARK ROLE_IN keeps every local output off
(R98, R448). -/
def State.formOutputs (s : State) (refs : List OutRef) : OutputSet :=
  let off := s.mode == stBench && s.on 0x250103
  let base := s.stakeDigital
  { tick := s.tickNo
    digital := if off then 0 else bits64 (fun n => if named refs 1 n then s.safeBit n else base.testBit n)
    analog := (List.range 16).map (fun n =>
      if off then 0
      else BitVec.ofInt 32 (clampInt 0 (24 * 65536) (if s.isAo n ∧ named refs 2 n then s.safeMa n else s.stakeAnalog n)))
    outs := if s.mode = stBench then [] else s.stations.map (fun k =>
      (k, s.overridePayload refs k (if s.stakesQ then s.outputPayload k else s.safePayload k)))
    words := [] }

/-- The byte at an address of Q as an output set releases it: of the local outputs or the payload placed there, else of Q. -/
def State.setByte (s : State) (o : OutputSet) (q : Nat) : Byte :=
  let d := s.reg 0x280002
  let a := s.reg 0x290002
  if inBlock q d 8 then (leBytes 8 o.digital).getD (q - d) 0
  else if inBlock q a 64 then (leBytes 4 (o.analog.getD ((q - a) / 4) 0).toNat).getD ((q - a) % 4) 0
  else match o.outs.find? (fun x => inBlock q (s.reg (recK x.1 0x16)) x.2.length) with
    | some x => x.2.getD (q - s.reg (recK x.1 0x16)) 0
    | none => if s.stakesQ then (s.qBytes q 1).getD 0 0 else 0

/-- The output set with the Q words that loops have as destinations, as they are released: TRACK follows them (R158; log
entry 98). -/
def State.withWords (s : State) (o : OutputSet) : OutputSet :=
  { o with words := (s.blocks.filter (fun b => s.reg (lb b 8) / 2 ^ 28 == 2)).map (fun b =>
      let q := s.reg (lb b 8) % 2 ^ 20
      (q, BitVec.ofNat 32 (leNat ((List.range 4).map (fun i => s.setByte o (q + i)))))) }

/-- CLAMP shows that the clamp of R259 acted in the tick. -/
def State.showClamp (s : State) (refs : List OutRef) : State :=
  s.each ((List.range 16).filter s.isAo) (fun t n =>
    let v := if named refs 2 n then t.safeMa n else t.stakeAnalog n
    t.setBit (ach n 8) bClamp (v != clampInt 0 (24 * 65536) v))

/-- Everything is staked into the hold-off buffers (R16, R83, R109). The token is issued at K. -/
def State.stakeOutputs (s : State) : State :=
  let s1 := s.stakeLoopWords
  let refs := s1.overridden
  let s2 := ((s1.noteOverrides refs).showClamp refs).stakeBuses
  { s2 with tick := { s2.tick with staked := s2.withWords (s2.formOutputs refs), token := false } }

/-! ## Release (R16, R18, R248, R270) -/

/-- Staked outputs with a token take effect; without one every output holds (R16). -/
def State.releaseOutputs (s : State) (cooled : Nat) : State :=
  if s.tick.token then
    let before := s.tick.released.analog
    ((s.releaseSet s.tick.staked).releaseStages cooled).releaseAnalog before
  else s.holdStages cooled

end Sys2Proof.Machine
end

