-- ==== Sys2Proof/Machine/Pair.lean ====
section
/-! DEFINITION. The redundant pair: roles, role lines and claims, tie-link frames, image shipping, digest and closure check,
verdicts, switch-over and resynchronisation (R99, R135, R167 to R199, R222, R297). -/

namespace Sys2Proof.Machine

open Sys2Proof

/-! ## What a unit knows of its partner -/

/-- An entry of 2501. -/
def pr (sub : Nat) : Nat := keyOf 0x2501 sub

/-- The tie link is up on some lane (2501.05). -/
def State.tieUp (s : State) : Bool := s.inPair && s.reg (pr 5) != 0

/-- The partner role, 2501.02. -/
def State.partnerRole (s : State) : Nat := s.reg (pr 2)

/-- The partner is reached: the link is up and its role status stands. -/
def State.reached (s : State) : Bool := s.tieUp && decide (0 < s.pair.heard)

/-- The keys that the configuration checksum covers (2500.0D). -/
def pairKeys : List Nat :=
  persistedKeys 0x2000 0x2000 ++ persistedKeys 0x2300 0x247F ++
    (persistedKeys 0x2500 0x2500).filter (fun k => decide (0x250003 ≤ k)) ++
    persistedKeys 0x2600 0x2720 ++ persistedKeys 0x2800 0x29FF ++ persistedKeys 0x2C00 0x2CFF

/-- The configuration checksum, 2500.0D (R175, R480). -/
def State.pairChecksum (s : State) : Nat := s.checksumOf pairKeys

/-- A clash of designations with the partner that the tie link carries (R176). -/
def State.clash (s : State) : Bool :=
  s.reached && (s.pair.partner.map (fun p => p.unit)) == some (s.reg 0x250002)

/-- The partner's checksum differs. -/
def State.checksumDiffers (s : State) : Bool :=
  match s.pair.partner with
  | some p => p.checksum != s.pairChecksum
  | none => false

/-- The unit is eligible for ACTIVE or a standby role (R174). -/
def State.eligible (s : State) : Bool :=
  s.mode != stBench && decide (s.reg 0x220002 ≤ 1) && s.bankState (s.reg 0x220002) == 1 && !s.mtx.mismatch &&
    (!s.reached || (!s.checksumDiffers && !s.clash))

/-- The closure tolerance in force (R187). -/
def State.tolerance (s : State) : Nat :=
  if s.stations.isEmpty then s.reg 0x250006
  else max 1 (min (s.reg 0x250006) (s.stations.foldl (fun m k => min m (s.reg (recK k 5))) 255 - 1))

/-- The ranges that the active forwards (R173). -/
def forwardedRange (key : Nat) : Bool :=
  let ix := key / 256
  between 0x2000 ix 0x24FF || between 0x250003 key 0x25000C || key == 0x25000E || between 0x2600 ix 0x29FF ||
    between 0x2C00 ix 0x2CFF || between 0x3000 ix 0x5FFF

/-- The unit refuses writes to the forwarded ranges: STANDBY-IN-STEP, or in steps 4 to 6 of R191 (R173). -/
def State.standbyRefuses (s : State) (key : Nat) : Bool :=
  forwardedRange key && (s.role == 2 || (s.role == 3 && decide (4 ≤ s.reg (pr 0xE))))

/-- The active forwards a write to this entry: to a standby in step, or to one in steps 4 to 6 (R173, R191, R372). -/
def State.forwardsWrite (s : State) (key : Nat) : Bool :=
  s.role == 1 && s.tieUp && forwardedRange key && (s.partnerRole == 2 || s.partnerRole == 3)

/-! ## Roles (R169 to R178) -/

/-- Resynchronisation ends. -/
def State.stopResync (s : State) : State :=
  { s with pair := { s.pair with toCopy := [], passDone := false } }.setReg (pr 0xE) 0

/-- What a unit that leaves ACTIVE stops (R136, R170, R178, R277, R372). A write that it accepted and has not applied is
answered with 0x0F00_0012; the new active applies it too, so it still takes effect here. -/
def State.leaveActive (s : State) : State :=
  let open_ := (s.dict.atClose ++ s.dict.atBoundary).filter (fun w => forwardedRange w.key && w.path != .forwarded)
  let s1 := s.each open_ (fun t w => t.answer { path := w.path, key := w.key, code := 0x0F000012, tag := w.tag })
  let mute (w : PendingWrite) : PendingWrite := if forwardedRange w.key then { w with path := .forwarded } else w
  let s2 := { s1 with
    dict := { s1.dict with atClose := s1.dict.atClose.map mute, atBoundary := s1.dict.atBoundary.map mute }
    pair := { s1.pair with target := none, holdOffDone := false, verdictDue := false } }
  (((s2.setReg (pr 4) 0).setBit (pr 7) 5 false).hartLeave.busesLeave).abortExchange 0xC

/-- What a unit that becomes ACTIVE starts (R76, R91, R136, R178): ROLE_OUT, the first-ACTIVE bit of every task, record
0x09. -/
def State.enterActive (s : State) : State :=
  let s1 := ({ s with pair := { s.pair with firstTick := true } }.setReg (pr 4) 1).abortExchange 0xC
  (s1.each (List.range 18) (fun t k => t.setTask k { t.task k with firstActive := true })).recordError 9 0 0

/-- The pair role becomes `code`, with a NOT-READY reason (R169, R171, R173). -/
def State.setRole (s : State) (code reason : Nat) : State :=
  let s1 := s.setReg (pr 8) (if code = 4 then reason else 0)
  if s.role = code then s1
  else
    let s2 := if s.role = 1 then s1.leaveActive else s1
    let s3 := (s2.setReg (pr 1) code).setCause 5 0
    let s4 := if code = 3 then s3 else s3.stopResync
    let s5 := if code = 2 then { s4 with pair := { s4.pair with inStepOnce := true } }
      else ({ s4 with pair := { s4.pair with watch := none, gapMissed := false } }.setBit (pr 7) 2 false).setBit (pr 7) 6 false
    let s6 := if code = 1 then s5.enterActive else s5
    if (code = 3 ∨ code = 4) ∧ s6.mode = stRun then s6.stopModule else s6

/-- The partner role changes (R91, R136, R169, R195, R197). -/
def State.setPartnerRole (s : State) (code : Nat) : State :=
  let old := s.partnerRole
  if old = code then s
  else
    let s1 := (s.setReg (pr 2) code).setCause 5 1
    let s2 := if old = 2 ∧ s.role = 1 then (s1.recordError 0xA code 0).abortExchange 0xB else s1
    let s3 := if old = 2 then
        ({ s2 with pair := { s2.pair with target := none, holdOffDone := false, differed := [], verdictDue := false } }.setBit
          (pr 7) 5 false).setReg (pr 9) 0
      else s2
    if code = 2 then { s3 with pair := { s3.pair with inStepNs := s3.tick.datumNs, holdOffDone := false } } else s3

/-- The record of a switch-over (2501.0A to 2501.0C). -/
def State.recordSwitch (s : State) (kind : Nat) : State :=
  (((s.setReg (pr 0xA) s.tickNo).setReg (pr 0xB) kind).count (pr 0xC)).setCause 5 3

/-- The automatic start of R81, where the conditions of R82 hold. -/
def State.autoStart (s : State) : State :=
  if s.rst.options.startFlags.testBit 0 && s.runRefusal == 0 then s.enterRun else s

/-- The unit becomes ACTIVE at this datum edge; a STANDBY-SYNCING unit that claims is in STOPPED then (R171). A unit not yet
declared in step takes its automatic start (R177). -/
def State.becomeActive (s : State) (kind : Nat) : State :=
  let s0 := if kind = 6 && s.role == 3 then s.stopModule else s
  let s1 := (s0.setRole 1 0).recordSwitch kind
  if kind = 6 && !s1.pair.inStepOnce then { s1 with pair := { s1.pair with inStepOnce := true } }.autoStart else s1

/-- A role change waits for the next datum edge. -/
def State.changeRole (s : State) (c : RoleChange) : State := { s with pair := { s.pair with change := some c } }

/-- The standby takes over at the next datum edge. -/
def State.takeOver (s : State) (kind : Nat) : State := s.changeRole { sources := [2], role := 1, kind := kind }

/-- The requests that were relayed to the partner end with a code: 0x0F00_0009 where it is not reached, 0x0F00_0011 at a
reset of the tie link (R364, R373, R440; log entry 104). -/
def State.endRelayed (s : State) (code : Nat) : State :=
  { s with dict := { s.dict with relayed := [] } }.each s.dict.relayed
    (fun t x => t.answer { path := x.path, key := x.key, code := code, tag := x.tag })

/-- Partner unreachable sets or clears (2501.07 bit 1). -/
def State.setUnreachable (s : State) (b : Bool) : State :=
  ((if b then s.endRelayed 0x0F000009 else s).causeIf (b && !s.bit (pr 7) 1) 5 4).setBit (pr 7) 1 b

/-! ## Resynchronisation (R191 to R193) -/

/-- The hash of the safety matrix store; 0 while it is empty. -/
def State.matrixHash (s : State) : Nat :=
  if s.mtx.store.isEmpty then 0 else leNat (leBytes 48 (Config.sha384 s.mtx.store)).reverse

/-- The stores whose hashes differ from the active's: 0 and 1 the banks, 2 the matrix store (R191 step 2). -/
def State.differingStores (s : State) (p : RoleStatus) : List Nat :=
  (if p.hashA = s.reg 0x220005 then [] else [0]) ++ (if p.hashB = s.reg 0x220008 then [] else [1]) ++
    (if p.hashM = s.matrixHash then [] else [2])

/-- Steps 3 and 4 of R191: the active's choice of bank, then its entries, which arrive as forwarded writes. -/
def State.afterCopy (s : State) (p : RoleStatus) : State :=
  let n := p.activeBank
  let s1 := if n ≤ 1 ∧ n ≠ s.reg 0x220002 ∧ s.bankState n = 1 then s.makeActive n else s
  s1.setReg (pr 0xE) 4

/-- An attempt begins with steps 1 and 2 (R191). It runs only while the partner is ACTIVE and the tie link is up. -/
def State.beginResync (s : State) : State :=
  match s.pair.partner with
  | none => s
  | some p =>
    if s.role ≠ 3 ∨ s.partnerRole ≠ 1 ∨ !s.reached then s
    else if s.checksumDiffers then s.setRole 4 2
    else
      let todo := s.differingStores p
      let s1 := ({ s with pair := { s.pair with syncNs := s.tick.datumNs, passDone := false, toCopy := todo } }.setReg
        (pr 0x10) 0).setReg (pr 0xF) 0
      if todo.isEmpty then s1.afterCopy p else s1.setReg (pr 0xE) 2

/-- A failed attempt starts again from step 1; three in a row give NOT-READY (R193). -/
def State.failAttempt (s : State) : State :=
  let s1 := s.stopResync.setCause 5 7
  if 2 ≤ s1.pair.attempts then ({ s1 with pair := { s1.pair with attempts := 0 } }).setRole 4 6
  else { s1 with pair := { s1.pair with attempts := s1.pair.attempts + 1 } }.beginResync

/-- A copied store is verified as at start-up (R123, R191 step 2). -/
def State.takeStore (s : State) (store : Nat) (bs : List Byte) (tagOk : Bool) : Option State :=
  if store ≤ 1 then
    if bs.isEmpty then some (s.emptyBank store)
    else match tagOk, (verifyProgram bs s.ownerHash).2 with
      | true, some m => some ((s.setBank store ⟨some m, bs⟩).showBank store 1)
      | _, _ => none
  else if bs.isEmpty then some ({ s with mtx := { s.mtx with store := [], active := none } }.showMatrix)
  else match tagOk, s.readMatrix bs with
    | true, .ok m => some ({ s with mtx := { s.mtx with store := bs } }.activateMatrix m)
    | _, _ => none

/-- The 256-byte page of a loop block in the loop state partition (log entry 20). -/
def State.loopPage (s : State) (n : Nat) : List Byte :=
  let r := s.lrt n
  let flags := [r.rawBad, false, r.wasAuto, r.wasInvalid, r.overridden, r.dest.isSome]
  let bits := (List.range 6).foldl (fun v i => if flags.getD i false then v + 2 ^ i else v) 0
  [r.integ, r.yf, r.w, r.step].flatMap (fun x => leBytes 16 (unsigned 128 x)) ++
    leBytes 8 (unsigned 64 r.bumpK) ++ leBytes 16 (unsigned 128 r.bumpB) ++
    [r.raw, r.raw2, r.dest.getD 0].flatMap (fun w => leBytes 4 w.toNat) ++
    leBytes 1 bits ++ leBytes 1 r.mode ++ leBytes 4 r.sat ++ windowSubs.flatMap (fun k => leBytes 4 (s.reg (lb n k)))

/-- A page of the loop state partition arrives. -/
def State.takeLoopPage (s : State) (n : Nat) (bs : List Byte) : State :=
  let big (off : Nat) : Int := signed 128 (field bs off 16)
  let bits := field bs 100 1
  let r : LoopRt :=
    { integ := big 0, yf := big 16, w := big 32, step := big 48
      bumpK := signed 64 (field bs 64 8), bumpB := big 72
      raw := BitVec.ofNat 32 (field bs 88 4), raw2 := BitVec.ofNat 32 (field bs 92 4)
      dest := if bits.testBit 5 then some (BitVec.ofNat 32 (field bs 96 4)) else none
      rawBad := bits.testBit 0, wasAuto := bits.testBit 2, wasInvalid := bits.testBit 3
      overridden := bits.testBit 4, mode := field bs 101 1, sat := field bs 102 4 }
  (s.setLrt n r).each windowSubs (fun t k => t.setReg (lb n k) (field bs (106 + 4 * (k - 0x1A)) 4))

/-- A page of the data memory partition, or from page 0x80000 on of the loop state partition. -/
def State.takePage (s : State) (page : Nat) (bs : List Byte) : State :=
  if page < 0x80000 then { s with mem := Memory.writeBytes s.mem (256 * page) (bs.take 256) }
  else s.takeLoopPage (page - 0x80000) bs

/-- The standby may be declared in step at the next boundary: at S of the active's last tick before it, with the dirty bytes
that the gap carries, and no exchange under way (R192). -/
def State.mayDeclare (s : State) : Bool :=
  match s.pair.partner with
  | some p =>
    s.role == 3 && s.partnerRole == 1 && s.reached && decide (6 ≤ s.reg (pr 0xE)) && s.pair.passDone && !p.exchanging &&
      p.inFrame + 1 == s.reg 0x200002 && decide (20000 + 8 * s.reg (pr 0xF) + 50000 ≤ 10 * s.gapNs)
  | none => false

/-- Before the boundary is counted, a standby awaiting it takes the active's counts and module state (R15, R192). -/
def State.adoptCounts (s : State) : State :=
  match s.pair.partner with
  | some p =>
    if s.role = 3 ∧ s.reg (pr 0xE) = 7 then
      (((s.setReg 0x200101 p.tick).setReg 0x200102 p.frame).setReg 0x200103 p.inFrame).setMode p.mode
    else s
  | none => s

/-- The retained range has arrived with the stream: it is no longer lost, and while the active runs, its program is the one
that wrote it (R125). -/
def State.retainStream (s : State) : State :=
  let m := s.image
  let s1 := { s with img := { s.img with retLost := false, retEccBad := false } }
  if s.mode = stRun then
    { s1 with img := { s1.img with retWriter := some (m.retStart, m.retSize, m.layoutHash) } }.setReg 0x220303 m.layoutHash
  else s1

/-- At the boundary the standby is in step (R192). -/
def State.declareInStep (s : State) : State :=
  if s.role = 3 ∧ s.reg (pr 0xE) = 7 then
    let ms := (s.tick.datumNs - s.pair.syncNs) / 1000000
    ((({ s with pair := { s.pair with attempts := 0 } }.setReg (pr 0x11) ms).retainStream).setRole 2 0).setCause 5 6
  else s

/-! ## The datum edge (R171, R175 to R178, R184) -/

/-- Role resolution of a unit that is NOT-READY with reason 0x09 (R177). -/
def State.resolveRole (s : State) : State :=
  match s.pair.partner with
  | some p =>
    if s.reached then
      if !s.eligible then s.setRole 4 1
      else if p.role = 1 then (if s.on 0x25000A then s.setRole 3 0 else s.setRole 4 8)
      else if p.role = 4 ∧ p.resolving then
        (if s.reg 0x250003 = s.reg 0x250002 || !p.eligible then
          (s.becomeActive 6).emit (.tieCommand (.claim s.tick.datumNs)) else s)
      else if p.role = 4 then s.becomeActive 6
      else s
    else if s.on (pr 3) then s.setUnreachable true else s
  | none => if s.on (pr 3) then s.setUnreachable true else s

/-- A change that waited takes effect. A claim needs ROLE_IN deasserted and an eligible unit (R174, R177, R178). -/
def State.applyChange (s : State) : State :=
  match s.pair.change with
  | none => s
  | some c =>
    let s1 := { s with pair := { s.pair with change := none } }
    if !c.sources.contains s1.role then s1
    else if c.role ≠ 1 then s1.setRole c.role c.reason
    else if c.kind = 6 && (s1.on (pr 3) || !s1.eligible || (s1.role == 4 && s1.reg (pr 8) != 9)) then s1
    else s1.becomeActive c.kind

/-- The status of the partner ages; unheard for two datum edges, its role is unknown. -/
def State.agePartner (s : State) : State :=
  let s1 := { s with pair := { s.pair with heard := s.pair.heard - 1, verdictDue := false } }
  if s1.pair.heard = 0 && s.partnerRole != 0xFF then s1.setPartnerRole 0xFF else s1

/-- The pair at a datum edge: role changes, resolution, resynchronisation, and the role status frame with the values that the
active released at this edge or the last release edge (R171, R175, R177). `released` is that set. -/
def State.pairAtD (s : State) : State :=
  if !s.inPair then s
  else
    let s0 := s.setReg (pr 6) s.tolerance
    let s1 := s0.applyChange
    let s2 := if s1.clash && s1.role != 1 && s1.reg (pr 8) != 0xA then s1.setRole 4 0xA else s1
    let s3 := if s2.role = 4 ∧ s2.reg (pr 8) = 9 then s2.resolveRole else s2
    let s3 := if s3.role = 1 && s3.partnerRole == 2 && s3.checksumDiffers then s3.emit (.tieCommand .checksum) else s3
    if s3.role = 3 && s3.reg (pr 0xE) == 0 && s3.on 0x25000A then s3.beginResync else s3

/-- The role status frame leaves at every datum edge, with its stamp and those of the partner's last frame (R175, R184,
R297). -/
def State.sendStatus (s : State) : State :=
  let echo := (s.pair.partner.bind (fun p => p.stamps)).map (fun x => (x.sent, x.received))
  (if s.tieUp then
    s.emit (.tieRole (s.reg 0x250002) s.role s.pairChecksum s.tick.released.digital s.tick.nowNs echo) else s).agePartner

/-- The pair at a frame boundary, step 5 of R41: a planned switch-over or a handback hands the role over (R196, R197). -/
def State.pairBoundary (s : State) : State :=
  if !s.inPair then s
  else match s.pair.target with
    | none => s.declareInStep
    | some back =>
      let s1 := { s with pair := { s.pair with target := none } }
      let kind := if back then 5 else 4
      if s1.role = 1 then (((s1.setRole 2 0).setReg (pr 2) 1).setCause 5 1).recordSwitch kind
      else if s1.role = 2 then
        let s2 := (s1.becomeActive kind).setReg (pr 2) 2
        ({ s2 with pair := { s2.pair with inStepNs := s2.tick.datumNs, holdOffDone := false } }).setCause 5 1
      else s1

/-! ## The closing point and the compute start (R180, R183, R222) -/

/-- At C of the last tick before a boundary the active names the frame of an exchange that may be armed (R135). -/
def State.nameFrame (s : State) : State :=
  let next := s.reg 0x200102 + 1
  if s.role == 1 && s.partnerRole == 2 && s.reg 0x220102 == 4 && s.img.bgComplete &&
      decide (s.reg 0x200002 ≤ s.reg 0x200103 + 1)
  then (s.setReg 0x220104 next).emit (.tieCommand (.targetFrame next))
  else s

/-- The image frame of the closed image (R180, R184, R222): the I area and what stands beside it. -/
def State.imageFrame (s : State) : ImageFrame :=
  { tick := s.tickNo, whole := true, bytes := Memory.readBytes s.mem (memKey 0 0 0) s.image.iSize
    digital := s.tick.latchedDigital, valid := s.tick.latchedValid, analog := s.tick.latchedAnalog, bad := s.tick.imageBad
    measures := s.blocks.map (fun b => (b, (s.lrt b).raw, (s.lrt b).raw2, (s.lrt b).rawBad))
    linked := stationBits s.stations s.linked, flags := s.imageFlags }

/-- At C the active ships the image (R180). A standby that had neither the token frame of the tick before nor a role status
learns there that it may have been left behind (R182). -/
def State.pairAtC (s : State) : State :=
  let s1 := s.nameFrame
  if s1.tieUp && s1.role == 1 && (s1.partnerRole == 2 || s1.partnerRole == 3) then s1.emit (.tieImage s1.imageFrame)
  else if s1.role = 2 then
    let token := s1.chain.seen.any (fun x => x.1 + 1 == s1.tickNo)
    { s1 with pair := { s1.pair with unheard := !token && decide (s1.pair.heard < 2) } }
  else s1

/-- The standby takes the shipped image in place of its own (R180, R191 step 6, R222). -/
def State.takeImage (s : State) (f : ImageFrame) : State :=
  let mem := Memory.writeBytes (Memory.clear s.mem (memKey 0 0 0) (memKey 1 0 0)) (memKey 0 0 0) f.bytes
  let linked (k : Nat) : Bool := f.linked.testBit (k - 1)
  let s1 := { s with mem := mem, tick := { s.tick with
    latchedDigital := f.digital, latchedValid := f.valid, latchedAnalog := f.analog, imageBad := f.bad
    substituted := stationBits s.stations (fun k => !linked k) } }
  let s2 := s1.each f.measures (fun t m =>
    t.setLrt m.1 { t.lrt m.1 with raw := m.2.1, raw2 := m.2.2.1, rawBad := m.2.2.2 })
  (s2.each s2.stations (fun t k => t.setReg (recK k 9) (if linked k then 1 else 0))).relink

/-- A standby in step shows the image it took: its views, with the payloads of the stations that the image places, and of the
others from the chain frames it forwards (R46, R47, R222). -/
def State.showImageOf (s : State) (f : ImageFrame) : State :=
  (s.each s.stations (fun t k =>
    let at_ := t.reg (recK k 0x15)
    let size := t.reg (recK k 2)
    let t1 := t.setReg (keyOf (0x6100 + k) 2) (if t.linked k then 0 else 1)
    if at_ ≠ 0xFFFFFFFF then
      t1.setBlob (keyOf (0x6100 + k) 1) (Memory.readBytes t.mem (memKey 0 0 at_) (min size (t.ioSize 0 - at_)))
    else match (t.outRec k).pick with
      | some x => t1.setBlob (keyOf (0x6100 + k) 1) x.payload
      | none => t1)).showViews f.flags

/-- The silence watch closes at X of the next tick; a takeover that a sample of the watch called for stands (R183). -/
def State.closeWatch (s : State) : State :=
  let s1 := { s with pair := { s.pair with watch := none } }.setBit (pr 7) 2 false
  if s1.pair.change.any (fun c => c.role == 1) then s1
  else if s1.on (pr 3) then (if s1.pair.watchHeard then s1 else s1.setUnreachable true).setRole 3 0
  else s1.takeOver 2

/-- The image of the tick did not arrive whole by X: the standby computes nothing, and opens the watch or closes the open one
(R23, R183). -/
def State.openWatch (s : State) : State :=
  let s1 := (s.count 0x25200B).count 0x20200B
  if s1.pair.watch.isSome then s1.closeWatch
  else if s1.on (pr 3) then
    { s1 with pair := { s1.pair with watch := some s1.tickNo, watchHeard := false } }.setBit (pr 7) 2 true
  else s1.takeOver 2

/-- The role-line fault of R179: ROLE_IN deasserted while images arrive whole. -/
def State.showLineFault (s : State) : State :=
  (s.causeIf (!s.on (pr 3) && !s.bit (pr 7) 6) 5 5).setBit (pr 7) 6 (!s.on (pr 3))

/-- At X: whether the unit computes the tick (R169, R183). -/
def State.pairAtX (s : State) : State :=
  let set (t : State) (b : Bool) : State := { t with pair := { t.pair with computed := b } }
  if !s.inPair || s.mode == stBench || s.role == 1 then set s true
  else
    let got := s.pair.image.filter (fun f => f.tick == s.tickNo && f.whole)
    match s.role, got with
    | 2, some f =>
      if s.pair.watch.isSome then set s.closeWatch false
      else
        let s1 := ((s.takeImage f).showImageOf f).showLineFault
        if s1.pair.gapMissed || s1.pair.unheard then set ({ s1 with pair := { s1.pair with gapMissed := false } }.changeRole
          { sources := [2], role := 3 }) true
        else set s1 true
    | 2, none => set s.openWatch false
    | 3, some f => set (s.takeImage f) false
    | _, _ => set s false

/-! ## The staking point (R99, R181) -/

/-- The output-stage word of R181: what the stages are set to drive; in a standby what the active reports as released. -/
def State.stageWord (s : State) : Nat :=
  if s.role = 2 then ((s.pair.partner.map (fun p => p.released)).getD 0)
  else bits64 (fun n => s.driveValue n != s.tick.stageError.testBit n)

/-- The staked output set as R181 serialises it. -/
def State.outputBytes (s : State) : List Byte :=
  leBytes 8 s.tick.staked.tick ++ leBytes 8 s.tick.staked.digital ++ leBytes 8 s.stageWord ++
    (List.range 16).flatMap (fun n => leBytes 4 (s.tick.staked.analog.getD n 0).toNat) ++
    s.tick.staked.outs.flatMap (fun x => x.2) ++ s.stakedBusBytes

/-- The unit has an own fault while its standby is in step: it tells the standby, and abdicates unless the standby's own
notice of this tick shows that both failed (R99, R172, R188; log entry 21). -/
def State.faultActive (s : State) : State :=
  { s with pair := { s.pair with abdicated := some s.tickNo } }.emit (.tieNotice s.tickNo)

/-- The unit abdicates on its own fault (R99, R178). -/
def State.abdicate (s : State) : State := { s with pair := { s.pair with abdicated := none } }.setRole 4 3

/-- After S of the last tick before a boundary the active tells its standby whether the exchange is armed for the frame that
it named at C (R135; log entry 94). -/
def State.sendVerdict (s : State) : State :=
  let next := s.reg 0x200102 + 1
  if s.role == 1 && s.partnerRole == 2 && s.reg 0x220104 == next && decide (s.reg 0x200002 ≤ s.reg 0x200103 + 1) then
    if s.reg 0x220102 = 5 then s.emit (.tieCommand (.exchangeVerdict true))
    else if s.reg 0x220102 = 4 then s.emit (.tieCommand (.exchangeVerdict false))
    else s
  else s

/-- The pair at S, after staking: abdication, fault notice or digest, and the decision of R192. `fault` says that the unit
overran or mismatched in this tick. -/
def State.pairAtS (s : State) (fault : Bool) : State :=
  if !s.inPair then s
  else match s.role with
    | 1 =>
      if fault && s.partnerRole == 2 then s.faultActive
      else { s with pair := { s.pair with ownDigest := Config.sha256 s.outputBytes, ownSet := s.outputBytes } }.sendVerdict
    | 2 =>
      if fault then (s.emit (.tieNotice s.tickNo)).setRole 4 3
      else if s.pair.computed then
        let d := Config.sha256 s.outputBytes
        ({ s with pair := { s.pair with ownDigest := d, ownSet := s.outputBytes } }).emit (.tieDigest s.tickNo d)
      else s
    | 3 => if s.mayDeclare then s.setReg (pr 0xE) 7 else if s.reg (pr 0xE) = 7 then s.setReg (pr 0xE) 6 else s
    | _ => s

/-! ## The closure point (R182, R185, R196) -/

/-- The token is issued and the token frame leaves (R16, R209). -/
def State.issueToken (s : State) : State := { s with tick := { s.tick with token := true } }.chainAtK

/-- Handback is in force (R197). -/
def State.handbackOn (s : State) : Bool := s.inPair && s.stations.isEmpty && s.on 0x250004

/-- The active would hand back to its partner, the preferred unit, once the hold-off has passed (R197). -/
def State.handbackWaits (s : State) : Bool :=
  s.handbackOn && s.role == 1 && s.partnerRole == 2 && s.reg 0x250003 != s.reg 0x250002

/-- At K of the last tick before a boundary, a planned switch-over or a handback whose closure check passed is set for the
boundary (R196, R197). -/
def State.setTarget (s : State) : State :=
  if s.reg 0x200103 + 1 = s.reg 0x200002 && s.pair.passed && s.role == 1 && s.partnerRole == 2 then
    let planned := s.bit (pr 7) 5
    let back := s.pair.holdOffDone && s.handbackWaits && s.mode == stRun
    if planned || back then
      { s with pair := { s.pair with target := some (!planned) } }.emit (.tieCommand (.switchOver (!planned)))
    else s
  else s

/-- A closure mismatch: no token, and the count that a verdict waits for (R185). -/
def State.closureMismatch (s : State) : State :=
  let s1 := (s.setReg (pr 9) (min 255 (s.reg (pr 9) + 1))).count 0x252001
  let s2 := if s.reg (pr 9) = 0 then
      { s1 with pair := { s1.pair with differed := [] } }.setReg 0x251004 s1.tickNo
    else s1
  ({ s2 with pair := { s2.pair with passed := false, verdictDue := decide (s2.tolerance ≤ s2.reg (pr 9)) } }).emit
    (.tieCommand .mismatch)

/-- The closure check of the active (R182). A unit that is HALTED issues tokens for safe values (R172). -/
def State.closureCheck (s : State) : State :=
  let pass (t : State) : State := { t with pair := { t.pair with passed := true } }.setTarget.issueToken
  if s.partnerRole ≠ 2 ∨ s.mode = stHalted then { s with pair := { s.pair with passed := false } }.issueToken
  else if s.pair.notice = some s.tickNo then { s with pair := { s.pair with passed := false } }.issueToken
  else match s.pair.digest with
    | some (n, d) =>
      if n ≠ s.tickNo then ((s.setPartnerRole 3).emit (.tieCommand (.leaveStep false))).issueToken
      else if d = s.pair.ownDigest then pass ((({ s with pair := { s.pair with differed := [] } }).setReg (pr 9) 0))
      else s.closureMismatch
    | none => ((s.setPartnerRole 3).emit (.tieCommand (.leaveStep false))).issueToken

/-- The pair at K: an abdication that still waits is made; unit B may withdraw at its first ACTIVE tick; only the active
issues a token (R99, R170, R178). -/
def State.pairAtK (s : State) : State :=
  if !s.inPair then s.issueToken
  else if s.mode = stBench then s.issueToken
  else if s.role ≠ 1 then s
  else if s.pair.abdicated = some s.tickNo then s.abdicate
  else
    let first := s.pair.firstTick
    let s1 := { s with pair := { s.pair with firstTick := false } }
    if first && s.reg 0x250002 == 2 && s.on (pr 3) then (s1.setRole 3 0).recordSwitch 7 else s1.closureCheck

/-! ## Verdicts (R185, R186) -/

/-- Digital outputs with readback. -/
def State.readable (s : State) : Nat := bits64 (fun n => s.chanMode n == 5)

/-- Digital channels that a protection shutdown holds (R186). -/
def State.shutDown (s : State) : Nat :=
  bits64 (fun n => s.chanBit n bOvertemp || s.chanBit n bOtLatched || s.sliceLow (n / 8) || s.sliceOc (n / 8))

/-- Analog channels with MISWIRE, COMPLIANCE or a protection shutdown (R186). -/
def State.analogHeld (s : State) : Nat :=
  (List.range 16).foldl (fun v n => if s.anaBit n bMiswire || s.anaBit n bCompliance || s.anaBit n bAnaOvertemp
    then v + 2 ^ n else v) 0

/-- The analog outputs whose measured current is off the released value by more than 2500.07, from bit 64 on (R186). -/
def State.analogDiffer (s : State) (heldOff : Nat) : Nat :=
  ((List.range 16).filter (fun n => s.isAo n && !heldOff.testBit n &&
    decide (s.regI 0x250007 < ((s.latchedMa n - (s.tick.prevReleased.analog.getD n 0).toInt).natAbs : Int)))).foldl
      (fun v n => v + 2 ^ (64 + n)) 0

/-- M_A and M_B of R185 as the sets of 2510.07 and 2510.08. -/
def State.readbackSets (s : State) : Nat × Nat :=
  let p := s.pair.partner
  let off := s.shutDown ||| (p.map (fun x => x.held)).getD 0
  let analog := s.analogDiffer (s.analogHeld ||| (p.map (fun x => x.analogHeld)).getD 0)
  let use (readback : Nat) : Nat :=
    bits64 (fun n => s.readable.testBit n && !off.testBit n && readback.testBit n != s.tick.prevReleased.digital.testBit n)
  (use s.tick.latchedDigital + analog, use ((p.map (fun x => x.readback)).getD 0) + analog)

/-- The verdict on the two sets (R185). -/
def State.verdictOf (s : State) (a b : Nat) : Nat :=
  if s.readable = 0 && (List.range 16).all (fun n => !s.isAo n) then 5
  else if a = 0 then (if b = 0 then 1 else 3)
  else if a = b then 2 else 4

/-- What a verdict does (R112, R185). -/
def State.actOnVerdict (s : State) (v : Nat) : State :=
  if v = 2 then ((s.setRole 4 4).stopModule).emit (.tieCommand .takeOver)
  else if 4 ≤ v ∧ s.reg 0x250008 = 1 then
    (((s.setReg 0x251002 1).halt 5 0xFF 0xFF).causeIf true 1 1).emit (.tieCommand (.halt s.tickNo))
  else ((s.setReg 0x251002 0).emit (.tieCommand (.leaveStep true))).issueToken

/-- The active decides a verdict (R185). -/
def State.decideVerdict (s : State) : State :=
  let (a, b) := s.readbackSets
  let v := s.verdictOf a b
  let s1 := ((((s.setReg 0x251001 v).setReg 0x251002 0).setReg 0x251003 s.tickNo).setReg 0x251007 a).setReg 0x251008 b
  ({ s1 with pair := { s1.pair with verdictDue := false } }.setCause 5 2).actOnVerdict v

/-- A kind 0x1 to 0x4 word of 2510.06. -/
def differWord (kind station at_ : Nat) : Nat := kind * 2 ^ 28 + station * 2 ^ 20 + at_

/-- The bytes of two strings that differ, as words of 2510.06. -/
def byteDiffs (kind station : Nat) (a b : List Byte) : List Nat :=
  ((List.range (max a.length b.length)).filter (fun i => a[i]? != b[i]?)).map (differWord kind station)

/-- The payloads of the configured outstations at an offset, with the rest. -/
def payloadDiffs (outs : List (Nat × List Byte)) (a b : List Byte) : List Nat :=
  match outs with
  | [] => byteDiffs 4 0 a b
  | (k, p) :: t =>
    byteDiffs 3 k (a.take p.length) (b.take p.length) ++ payloadDiffs t (a.drop p.length) (b.drop p.length)

/-- The outputs in which two serialised sets differ, in the order of the digest (R181, 2510.06). -/
def State.outputDiffs (s : State) (a b : List Byte) : List Nat :=
  let d (off : Nat) : Nat := field a off 8 ^^^ field b off 8
  let digital := ((List.range 64).filter (fun n => (d 8).testBit n || (d 16).testBit n)).map (differWord 1 0)
  let analog := ((List.range 16).filter (fun n => field a (24 + 4 * n) 4 != field b (24 + 4 * n) 4)).map (differWord 2 0)
  digital ++ analog ++ payloadDiffs s.tick.staked.outs (a.drop 88) (b.drop 88)

/-- 2510.05 and 2510.06 follow the outputs that differed. -/
def State.showDiffs (s : State) : State :=
  (s.setReg 0x251005 s.pair.differed.length).setReg 0x251006
    (leNat ((s.pair.differed.take 16).flatMap (leBytes 4)))

/-! ## The events -/

/-- A frame arrives whole on the tie link of a unit that runs: it ends what silence the watch found. -/
def State.hear (s : State) (f : State → State) : State :=
  if s.tieUp && s.running then f { s with pair := { s.pair with watchHeard := true } } else s

/-- The copies of a tie-link frame that failed their CRC (R184): each counts on its lane; the first is sent once more if the
repeat comes before the deadline of its type. -/
def State.countFailed (s : State) (failed : List Nat) (inTime : Bool) : State :=
  let s1 := s.each (failed.take 2) (fun t k => t.count (keyOf 0x2520 (5 + 2 * (k % 2))))
  if !failed.isEmpty && inTime then s1.count 0x252009 else s1

/-- A tie-link frame arrives (R184): it is lost where its repeat failed too or would come past its deadline. -/
def State.tieFrame (s : State) (failed : List Nat) (inTime : Bool) (f : State → State) : State :=
  let s1 := s.countFailed failed inTime
  if failed.isEmpty || (inTime && failed.length == 1) then s1.hear f else s1

/-- The deadline of an image frame of a tick, its X, is still to come (R184). -/
def State.beforeX (s : State) (tick : Nat) : Bool := tick == s.tickNo && (s.tick.point == .d || s.tick.point == .c)

/-- The deadline K − 1 µs of what the standby sends at S is still to come (R184). -/
def State.beforeK (s : State) : Bool := s.tick.point != .k

/-- IMAGE_FRAME (R184). -/
def execImageFrame (f : ImageFrame) (s : State) : Result :=
  .next (if f.whole then
      s.tieFrame f.failed (s.beforeX f.tick) (fun t => { t with pair := { t.pair with image := some f } })
    else s.countFailed f.failed (s.beforeX f.tick))

/-- The offset of this unit's time-scale from the partner's by the two pairs of stamps, over a symmetric link (R297). -/
def tieOffset (x : TieStamps) : Int :=
  (((x.received : Int) - x.sent) - ((x.echoReceived : Int) - x.echoSent)) / 2

/-- ROLE_STATUS_FRAME (R175, R176, R191, R192, R297). -/
def State.takeStatus (s : State) (f : RoleStatus) : State :=
  let s1 := { s with pair := { s.pair with partner := some f, heard := 2 } }.setUnreachable false
  let s2 := s1.setPartnerRole f.role
  let s3 := if f.exchangeFailed && s2.role == 1 then s2.abortExchange 0xA else s2
  let s5 := if s3.clash && s3.role != 1 then s3.changeRole { sources := [2, 3, 4], role := 4, reason := 0xA } else s3
  let s6 := if s5.role = 3 then (if f.role = 1 then s5.setReg (pr 0xF) f.dirtyBytes else s5.stopResync) else s5
  match f.stamps with
  | some x => if s6.tieSteers then s6.measure (tieOffset x) else s6
  | none => s6

/-- ROLE_STATUS_FRAME (R175). -/
def execRoleStatusFrame (f : RoleStatus) (s : State) : Result := .next (s.tieFrame f.failed true (fun t => t.takeStatus f))

/-- The output digest of the standby: no notice of this tick came, so an own fault makes the unit abdicate (R99, R182). -/
def State.takeDigest (s : State) (tick digest : Nat) : State :=
  if s.role ≠ 1 then s
  else
    let s1 := { s with pair := { s.pair with digest := some (tick, digest) } }
    if s1.pair.abdicated = some tick then s1.abdicate else s1

/-- OUTPUT_DIGEST (R182). -/
def execOutputDigest (tick : Nat) (digest : Framed Nat) (s : State) : Result :=
  .next (s.tieFrame digest.failed s.beforeK (fun t => t.takeDigest tick digest.content))

/-- A fault notice (R99): from the standby it ends the closure check of its tick; where this unit has a fault in the same
tick, both failed and it stays ACTIVE (R172). From the active it calls the standby. -/
def State.takeNotice (s : State) (tick : Nat) : State :=
  if s.role = 1 then
    let both := s.pair.abdicated == some tick
    ({ s with pair := { s.pair with
      notice := some tick, abdicated := if both then none else s.pair.abdicated } }).setPartnerRole 4
  else if s.role = 2 then s.takeOver 1
  else s

/-- FAULT_NOTICE (R99). -/
def execFaultNotice (tick : Framed Nat) (s : State) : Result :=
  .next (s.tieFrame tick.failed s.beforeK (fun t => t.takeNotice tick.content))

/-- The full output image (R185) of the tick whose digests this unit found to differ, also where a verdict made it abdicate.
-/
def State.takeFullImage (s : State) (tick : Nat) (data : List Byte) : State :=
  if (s.role == 1 || s.role == 4) && tick == s.tick.staked.tick && s.pair.digest.map (fun d => d.1) == some tick &&
      !s.pair.passed then
    let new := (s.outputDiffs s.pair.ownSet data).filter (fun w => !s.pair.differed.contains w)
    (({ s with pair := { s.pair with differed := s.pair.differed ++ new } }).showDiffs).count 0x252003
  else s

/-- FULL_OUTPUT_IMAGE (R185): its deadline is the next S. -/
def execFullOutputImage (tick : Nat) (data : Framed (List Byte)) (s : State) : Result :=
  .next (s.tieFrame data.failed (tick == s.tick.staked.tick) (fun t => t.takeFullImage tick data.content))

/-- A command frame of the active: what a standby in step does (R135, R173, R175, R182, R185, R186, R196), and what a unit
that resolves its role learns of the partner's claim (R177). -/
def State.takeCommand (s : State) (command : TieCommand) : State :=
  let queue (v : Nat) : State :=
    { s with dict := { s.dict with atClose := s.dict.atClose ++ [{ path := .forwarded, key := 0x210002, data := leBytes 1 v }] } }
  match command with
  | .claim _ =>
    if s.role = 4 then
      let claimed := s.pair.partner.map (fun p => ({ p with role := 1, resolving := false } : RoleStatus))
      { s with pair := { s.pair with partner := claimed } }.setPartnerRole 1
    else s
  | .run => if s.role = 2 then queue 1 else s
  | .stop => if s.role = 2 then queue 2 else s
  | .targetFrame n =>
    if s.role ≠ 2 then s
    else if s.reg 0x220102 = 4 then s.setReg 0x220104 n
    else { s with pair := { s.pair with gapMissed := true } }
  | .answer path key tag code data =>
    let asked : Relayed := { path := path, key := key, tag := tag }
    if s.dict.relayed.contains asked then
      { s with dict := { s.dict with relayed := s.dict.relayed.filter (fun x => x != asked) } }.answer
        { path := path, key := key, code := code, data := data, tag := tag }
    else s
  | .exchangeVerdict armed => if s.role = 2 then s.followVerdict armed else s
  | .switchOver back => if s.role = 2 then { s with pair := { s.pair with target := some back } } else s
  | .mismatch => if s.role = 2 then s.emit (.tieFullImage s.tick.staked.tick s.pair.ownSet) else s
  | .leaveStep false => if s.role = 2 then s.changeRole { sources := [2], role := 3 } else s
  | .leaveStep true =>
    if s.role ≠ 2 then s
    else
      let s1 := s.setReg 0x251009 (min 255 (s.reg 0x251009 + 1))
      if s1.reg 0x25000B ≤ s1.reg 0x251009 then s1.setRole 4 5 else s1.changeRole { sources := [2], role := 3 }
  | .takeOver => if s.role = 2 then s.takeOver 3 else s
  | .halt n => if s.role = 2 then (s.halt 5 0xFF 0xFF).setReg 0x210004 n else s
  | .checksum => if s.role = 2 then s.changeRole { sources := [2], role := 4, reason := 2 } else s

/-- TIE_COMMAND_FRAME (R173). -/
def execTieCommandFrame (command : Framed TieCommand) (s : State) : Result :=
  .next (s.tieFrame command.failed true (fun t => t.takeCommand command.content))

/-- A page of the stream (R191 step 5). -/
def State.takeStream (s : State) (page : Nat) (data : List Byte) : State :=
  if s.role = 3 ∧ 4 ≤ s.reg (pr 0xE) then
    let s1 := (s.takePage page data).countBy (pr 0x10) 256
    if s1.reg (pr 0xE) = 4 then s1.setReg (pr 0xE) 5 else s1
  else s

/-- RESYNCHRONISATION_DATA_FRAME (R191 step 5). -/
def execResynchronisationDataFrame (page : Nat) (data : Framed (List Byte)) (s : State) : Result :=
  whenValid (decide (page < 0x80080)) s (s.tieFrame data.failed true (fun t => t.takeStream page data.content))

/-- A copied store is taken, or found bad (R123, R191 step 2, R193). -/
def State.takeCopy (s : State) (store : Nat) (data : List Byte) (tagOk : Bool) : State :=
  if s.role = 3 ∧ s.reg (pr 0xE) = 2 ∧ s.pair.toCopy.contains store then
    match s.takeStore store data tagOk, s.pair.partner with
    | some u, some p =>
      let u1 := { u with pair := { u.pair with toCopy := u.pair.toCopy.filter (fun k => k != store) } }
      if u1.pair.toCopy.isEmpty then u1.afterCopy p else u1
    | _, _ => (if store ≤ 1 then (s.showBank store 2).setCause 3 3 else s).failAttempt
  else s

/-- BANK_COPY_COMPLETE (R123, R191 step 2). -/
def execBankCopyComplete (store : Nat) (data : Framed (List Byte)) (tagOk : Bool) (s : State) : Result :=
  whenValid (decide (store < 3)) s (s.tieFrame data.failed true (fun t => t.takeCopy store data.content tagOk))

/-- TIE_LINK_LANE_FAIL (R184): with both lanes down the partner is no longer reached. -/
def execTieLinkLaneFail (lane : Nat) (s : State) : Result :=
  whenValid (decide (lane < 2)) s (
    let s1 := s.setReg (pr 5) (withBit (s.reg (pr 5)) lane false)
    if s1.reg (pr 5) = 0 ∧ s1.inPair then
      let s2 := ({ s1 with pair := { s1.pair with heard := 0 } }).setPartnerRole 0xFF
      if s2.role = 3 then s2.stopResync else s2
    else s1)

/-- TIE_LINK_LANE_UP (R184). A unit that is no unit of a pair has no tie link. -/
def execTieLinkLaneUp (lane : Nat) (s : State) : Result :=
  whenValid (decide (lane < 2)) s (if s.inPair && s.blockUp 13 then s.setReg (pr 5) (withBit (s.reg (pr 5)) lane true) else s)

/-- CLOSURE_VERDICT (R185). -/
def execClosureVerdict (s : State) : Result := .next (if s.role = 1 && s.pair.verdictDue then s.decideVerdict else s)

/-- SILENCE_WATCH_CLOSE (R183), at X of the tick after the one that opened it. -/
def execSilenceWatchClose (s : State) : Result :=
  .next (match s.pair.watch with
    | some n => if n < s.tickNo then s.closeWatch else s
    | none => s)

/-- ROLE_IN_CHANGE (R179, R183, R188): while the silence watch is open, ROLE_IN deasserted calls the standby, and so does an
active that deasserts ROLE_OUT at its staking point (log entry 92). -/
def execRoleInChange (level : Bool) (s : State) : Result :=
  .next (let s1 := s.setReg (pr 3) (if level then 1 else 0)
    if level || s1.role != 2 then s1
    else if s1.pair.watch.isSome then s1.takeOver 2
    else if s1.tick.point = .s && s.on (pr 3) then s1.takeOver 1
    else s1)

/-- CLAIM_WAIT_EXPIRY (R177 rule 4, R171): the tie link silent and ROLE_IN deasserted for the claim wait. -/
def execClaimWaitExpiry (s : State) : Result :=
  .next (if s.inPair && s.running && !s.on (pr 3) && !s.reached && s.eligible &&
      (s.role == 3 || (s.role == 4 && s.reg (pr 8) == 9)) then
    s.changeRole { sources := [3, 4], role := 1, kind := 6 }
  else s)

/-- DRIVER_TURN_OFF (R189): the field dies of a unit that is not ACTIVE turn their drivers off. -/
def execDriverTurnOff (s : State) : Result :=
  .next (if s.inPair && !s.active && s.on (pr 3) then (s.dropDie 0).dropDie 1 else s)

/-- HANDBACK_HOLD_OFF_EXPIRY (R197). -/
def execHandbackHoldOffExpiry (s : State) : Result :=
  .next (if s.handbackWaits then { s with pair := { s.pair with holdOffDone := true } } else s)

/-- RESYNCHRONISATION_PASS_COMPLETE (R192). -/
def execResynchronisationPassComplete (s : State) : Result :=
  .next (if s.role = 3 ∧ (s.reg (pr 0xE) = 4 ∨ s.reg (pr 0xE) = 5) then
    { s with pair := { s.pair with passDone := true } }.setReg (pr 0xE) 6
  else s)

/-- RESYNCHRONISATION_LIMIT_EXPIRY (R193). -/
def execResynchronisationLimitExpiry (s : State) : Result :=
  .next (if s.role = 3 ∧ s.reg (pr 0xE) ≠ 0 then s.failAttempt else s)

/-! ## The pair command and the entries (R195, R199) -/

/-- A planned switch-over may be requested (R195). -/
def State.mayPlan (s : State) : Bool :=
  s.role == 1 && s.partnerRole == 2 && (s.mode == stRun || s.mode == stStopped) && s.reg 0x220102 != 4 && s.reg 0x220102 != 5

/-- A request of a task or a command (R76, R195). -/
def State.planSwitch (s : State) : State := if s.mayPlan then s.setBit (pr 7) 5 true else s

/-- The command of 2501.12 can act (R199). -/
def State.pairCommandOk (s : State) (v : Nat) : Bool :=
  match v with
  | 1 => s.mayPlan
  | 2 => s.role == 1 && s.bit (pr 7) 5
  | 3 => s.role == 4 && s.eligible && s.reached && s.partnerRole == 1
  | 4 => s.role == 2 || s.role == 3
  | 5 => s.role == 3 && s.partnerRole == 1 && s.reached
  | _ => false

/-- The command of 2501.12 acts (R171, R191, R195). -/
def State.pairCommand (s : State) (v : Nat) : State :=
  match v with
  | 1 => s.planSwitch
  | 2 => { s with pair := { s.pair with target := none } }.setBit (pr 7) 5 false
  | 3 => s.changeRole { sources := [4], role := 3 }
  | 4 => s.changeRole { sources := [2, 3], role := 4, reason := 7 }
  | 5 => if s.reg (pr 0xE) = 0 then s.beginResync else s
  | _ => s

/-- Step 9 of R366 for 2501. -/
def State.pairCheck (s : State) (key v : Nat) : Nat :=
  if key = pr 0x12 ∧ !s.pairCommandOk v then 0x06040043 else 0

/-- The command of 2501 as a closing point applies it. -/
def State.pairApply (s : State) (key v : Nat) : Option State :=
  if key = pr 0x12 then some (s.pairCommand v) else none

/-- Remaining hold-off in ms (2501.0D). -/
def State.holdOffLeft (s : State) : Nat :=
  if s.handbackWaits && !s.pair.holdOffDone then s.reg 0x250005 - (s.tick.nowNs - s.pair.inStepNs) / 1000000 else 0

/-- What 2500 and 2501 show beside their registers (R187, R197, R199). -/
def State.pairView (s : State) (key : Nat) : Option Nat :=
  if key = 0x250001 then some (if !s.inPair then 0 else if s.stations.isEmpty then 1 else 2)
  else if !s.inPair then none
  else if key = 0x25000D then some s.pairChecksum
  else if key = pr 6 then some s.tolerance
  else if key = pr 7 then
    let v := s.reg (pr 7)
    let on : List (Nat × Bool) := [(0, decide (s.tolerance < s.reg 0x250006)), (3, s.handbackOn),
      (4, s.handbackWaits && decide (0 < s.holdOffLeft)), (7, s.role == 3 && s.reg (pr 0xE) != 0)]
    some (on.foldl (fun (w : Nat) (x : Nat × Bool) => withBit w x.1 x.2) v)
  else if key = pr 0xD then some s.holdOffLeft
  else none

end Sys2Proof.Machine
end

