-- ==== Sys2Proof/Machine/Panel.lean ====
section
/-! DEFINITION. The status panel: scans, rails, VCOM and border, waveform tables, temperature bands, rectangles, ageing and
the update journal (R409 to R431). -/

namespace Sys2Proof.Machine

open Sys2Proof

/-- An entry of 2E01, the panel status. -/
def ps (sub : Nat) : Nat := keyOf 0x2E01 sub

/-- Panel states of 2E01.01. -/
abbrev psDown : Nat := 0
abbrev psRising : Nat := 1
abbrev psScan : Nat := 2
abbrev psFalling : Nat := 3
abbrev psFault : Nat := 4
abbrev psRecover : Nat := 5

/-- The panel state, 2E01.01. -/
def State.panelState (s : State) : Nat := s.reg (ps 1)

/-- Scans drive the panel: scanning or recovering. -/
def State.scanning (s : State) : Bool := s.panelState == psScan || s.panelState == psRecover

/-- PENDING-ENABLE and PENDING-DISABLE (2E01.02). -/
def State.pendingOn (s : State) : Bool := s.bit (ps 2) 0
/-- PENDING-DISABLE. -/
def State.pendingOff (s : State) : Bool := s.bit (ps 2) 1

/-- The panel runs (R412): from the end of SELF-TEST, through resets of level 2 to 4, while enabled. -/
def State.panelOn (s : State) : Bool := s.panel.started && s.blockUp 11 && s.on 0x2E0001

/-! ## Waveform tables (R418, R419) -/

/-- The mode count of a table. -/
def modeCount (bs : List Byte) : Nat := field bs 6 1

/-- Scan count and offset of a mode and band. -/
def waveform (bs : List Byte) (mode band : Nat) : Nat × Nat :=
  (field bs (16 + 8 * (8 * mode + band)) 2, field bs (20 + 8 * (8 * mode + band)) 4)

/-- Every mode and band of a table. -/
def waveforms (bs : List Byte) : List (Nat × Nat × Nat) :=
  (List.range (modeCount bs)).flatMap (fun m => (List.range 8).map (fun b => (m, waveform bs m b)))

/-- The drive code of a step for an old and a new level. -/
def stepCode (w old new : Nat) : Nat := w / 2 ^ (2 * (4 * old + new)) % 4

/-- The steps of a mode and band. -/
def stepsOf (bs : List Byte) (nw : Nat × Nat) : List Nat := (List.range nw.1).map (fun j => field bs (nw.2 + 4 * j) 4)

/-- The verdict on a table (R419, 2E10.03). -/
def tableVerdict (bs : List Byte) : Nat :=
  let top := bs.length - 4
  let all := waveforms bs
  let levels := List.range 4
  if bs.length < 20 || field bs 0 4 != 0x5A585746 || field bs 4 2 != 1 || crc32c (bs.take top) != field bs top 4 then 1
  else if modeCount bs < 1 || 8 < modeCount bs || all.any (fun x => decide (x.2.1 < 1) || decide (1024 < x.2.1) ||
      decide (x.2.2 < 16 + 64 * modeCount bs) || decide (top < x.2.2 + 4 * x.2.1)) then 2
  else if all.any (fun x => (stepsOf bs x.2).any (fun w => (List.range 16).any (fun i => w / 4 ^ i % 4 == 3))) then 3
  else if all.any (fun x => x.1 == 0 && (stepsOf bs x.2).any (fun w =>
      levels.any (fun t => levels.any (fun o => stepCode w o t != stepCode w 0 t)))) then 4
  else 0

/-- The table in force, 2E10.01. -/
def State.table (s : State) : List Byte := s.blob 0x2E1001

/-- A written table is verified; a valid one is stored and in force (R419). -/
def State.writeTable (s : State) (bs : List Byte) : State :=
  let v := tableVerdict bs
  let s1 := s.setReg 0x2E1003 v
  if v = 0 then (s1.setBlob 0x2E1001 bs).setReg 0x2E1002 (field bs 8 4) else s1

/-! ## Temperature (R420) -/

/-- The panel temperature, Q15.16 degrees C. -/
def State.panelTemp (s : State) : Int :=
  if s.on 0x2E0008 then s.panel.hostTemp
  else clampInt (-2147483648) 2147483647 (s.regI 0x2B0102 + s.regI 0x2E0009)

/-- The lower bound of a band, in Q15.16. -/
def bandLow (b : Nat) : Int := (10 * (b : Int) - 20) * 65536

/-- The band that a temperature lies in. -/
def bandOf (t : Int) : Nat := (clampInt 0 7 ((t - bandLow 0) / (10 * 65536))).toNat

/-- The panel temperature, the band with its hysteresis of 1 K, and OUT-OF-BAND (R420). -/
def State.refreshBand (s : State) : State :=
  let t := s.panelTemp
  let b := s.reg (ps 4)
  let raw := bandOf t
  let new := if b < raw then raw else if t ≤ bandLow b - 65536 then raw else b
  ((s.setRegI (ps 3) t).setReg (ps 4) new).setBit (ps 2) 4 (decide (t < bandLow 0) || decide (bandLow 8 ≤ t))

/-! ## Geometry, pixels, tiles (R411, R421, R427) -/

/-- Columns and lines of the panel. -/
def State.columns (s : State) : Nat := s.reg 0x2E0002
/-- Lines of the panel. -/
def State.lines (s : State) : Nat := s.reg 0x2E0003

/-- The minimum scan period in µs, rounded up (R411). -/
def State.minScan (s : State) : Nat :=
  ceilDiv ((s.lines + 4) * (s.columns / 8 + 16)) (if s.reg 0x2E0004 = 0 then 10 else if s.reg 0x2E0004 = 1 then 20 else 40)

/-- The pixels of a rectangle, by position. -/
def State.pixels (s : State) (r : RectRequest) : List Nat :=
  (List.range r.height).flatMap (fun j => (List.range r.width).map (fun i => (r.y + j) * s.columns + r.x + i))

/-- Tiles in a row. -/
def State.tileColumns (s : State) : Nat := ceilDiv s.columns 32

/-- The tile of a pixel. -/
def State.tileOf (s : State) (p : Nat) : Nat := p / s.columns / 32 * s.tileColumns + p % s.columns / 32

/-- The tiles that a rectangle covers. -/
def State.tiles (s : State) (r : RectRequest) : List Nat :=
  let cols := (List.range (s.tileColumns)).filter (fun c => decide (r.x < 32 * (c + 1)) && decide (32 * c < r.x + r.width))
  let rows := (List.range (ceilDiv s.lines 32)).filter (fun l => decide (r.y < 32 * (l + 1)) && decide (32 * l < r.y + r.height))
  rows.flatMap (fun l => cols.map (fun c => l * s.tileColumns + c))

/-- Every tile of the panel. -/
def State.allTiles (s : State) : List Nat := List.range (s.tileColumns * ceilDiv s.lines 32)

/-- Two rectangles overlap. -/
def overlap (a b : RectRequest) : Bool :=
  decide (a.x < b.x + b.width) && decide (b.x < a.x + a.width) && decide (a.y < b.y + b.height) && decide (b.y < a.y + a.height)

/-- The bytes of a plane from an offset. -/
def planeBytes (m : Sparse Nat) (size : Nat) : List Byte :=
  (List.range size).map (fun i => BitVec.ofNat 8 (Sparse.get 0 m (4 * i) + 4 * Sparse.get 0 m (4 * i + 1) +
    16 * Sparse.get 0 m (4 * i + 2) + 64 * Sparse.get 0 m (4 * i + 3)))

/-- Bytes written into a plane from an offset (R421). -/
def putPlane (m : Sparse Nat) (offset : Nat) (bs : List Byte) : Sparse Nat :=
  match bs with
  | [] => m
  | b :: t =>
    putPlane ((List.range 4).foldl (fun n k => Sparse.set 0 n (4 * offset + k) (b.toNat / 4 ^ k % 4)) m) (offset + 1) t

/-! ## What the balls carry (R409, R410, R416, R425) -/

/-- The drive code of a pixel in the scan under way of a rectangle (R425). -/
def State.rectCode (s : State) (r : Rect) (p : Nat) : Nat :=
  stepCode (field r.table ((waveform r.table r.mode r.band).2 + 4 * (r.scan * r.n / r.total)) 4)
    (Sparse.get 0 s.panel.current p) (Sparse.get 0 s.panel.shot p)

/-- A rectangle holds the pixel at (x, y). -/
def RectRequest.holds (r : RectRequest) (x y : Nat) : Bool :=
  decide (r.x ≤ x) && decide (x < r.x + r.width) && decide (r.y ≤ y) && decide (y < r.y + r.height)

/-- The drive code of pixel (x, y) in the scan under way; 00 outside every rectangle in flight (R410). -/
def State.pixelCode (s : State) (x y : Nat) : Nat :=
  if !s.panel.driving then 0
  else match s.panel.flight.find? (fun r => r.request.holds x y) with
    | some r => s.rectCode r (y * s.columns + x)
    | none => 0

/-- What BORDER_OUT carries: high impedance, the level of VCOM_OUT, or the level of a drive code (R416). -/
inductive Border where
  | open_
  | vcom
  | code (c : Nat)
  deriving DecidableEq, Repr

/-- BORDER_OUT (R416). -/
def State.border (s : State) : Border :=
  match s.reg 0x2E0007 with
  | 0 => .open_
  | 2 => match s.panel.flight.find? (fun r => r.request.width == s.columns && r.request.height == s.lines) with
      | some r => .code (stepCode (field r.table ((waveform r.table r.mode r.band).2 + 4 * (r.scan * r.n / r.total)) 4) 3 3)
      | none => .vcom
  | _ => .vcom

/-! ## Rails and VCOM (R413 to R415) -/

/-- VCOM in mV for a code of 2E00.06. -/
def vcomOf (code : Nat) : Int := -10 * (code : Int)

/-- Something waits that may start: a request or a recovery rectangle. -/
def State.panelWork (s : State) : Bool := !s.panel.queue.isEmpty || !s.panel.recover.isEmpty

/-- PRAIL_EN is asserted when a rectangle is ready to start and the rails are down (R413). A rectangle cannot start without a
table. -/
def State.raiseRails (s : State) : State :=
  if s.panelOn && s.panelState == psDown && s.panelWork && !s.table.isEmpty && !s.pendingOff then
    { s with panel := { s.panel with railEnable := true } }.setReg (ps 1) psRising
  else s

/-- Scanning ends: codes 00, gate outputs off, VCOM_OUT at 0 V; PRAIL_EN follows 1 ms later (R413). -/
def State.lowerRails (s : State) : State :=
  { s with panel := { s.panel with driving := false, vcomMv := 0 } }.setReg (ps 1) psFalling

/-- A rail fault: outputs off, VCOM 0 V, PRAIL_EN deasserted, every rectangle in flight aborted, its journal slot kept
(R414). -/
def State.railFault (s : State) : State :=
  let s1 := s.countBy (ps 9) s.panel.flight.length
  let s2 := { s1 with panel := { s1.panel with
    flight := [], driving := false, vcomMv := 0, railEnable := false, railOk := false } }
  (((s2.setReg (ps 1) psFault).setBit (ps 2) 5 true).count (ps 0xA)).setCause 14 3

/-! ## The journal and recovery (R429, R430) -/

/-- The journal slot `k`. -/
def State.slot (s : State) (k : Nat) : Option JournalSlot := Sparse.get none s.panel.journal k

/-- Writes a journal slot. -/
def State.setSlot (s : State) (k : Nat) (x : Option JournalSlot) : State :=
  { s with panel := { s.panel with journal := Sparse.set none s.panel.journal k x } }

/-- The recovery of a panel start: every tile unknown, a mode 0 rectangle to level 3 for each journalled slot, or for the
whole panel where the journal was discarded (R430). -/
def State.panelStart (s : State) : State :=
  let whole : RectRequest := { x := 0, y := 0, width := s.columns, height := s.lines, mode := 0, tag := 0, recovery := true }
  let slots := (List.range 8).filterMap (fun k => (s.slot k).map (fun j => (k, { j.request with mode := 0, recovery := true })))
  let todo := if s.keep.journalLost then [(0, whole)] else slots
  { s with
    panel := { s.panel with tilesKnown := [], flight := [], recover := todo }
    keep := { s.keep with journalLost := false } }

/-- The panel stops at once: rails, outputs and queue (R412). -/
def State.panelStop (s : State) : State :=
  ({ s with panel := { s.panel with queue := [], flight := [], driving := false, vcomMv := 0, railEnable := false
                                    railOk := false, recover := [] } }.setReg (ps 1) psDown).setReg (ps 2) 0

/-! ## Ageing (R427, R428) -/

/-- The extension of a rectangle in 0.01 %, and whether the clamp acts (R428). -/
def State.extension (s : State) (r : RectRequest) : Nat × Bool :=
  let top := (s.tiles r).foldl (fun m k => max m (Sparse.get 0 s.panel.stress k)) 0
  let entry := s.reg 0x2E1101 / 65536 ^ (top / 4096) % 65536
  let sum : Int := entry + s.regI 0x2E1102
  let v := clampInt 0 (min 2500 (s.reg 0x2E1103)) sum
  (v.toNat, v != sum)

/-- The stress of the scan that ends: a driven tile's counter moves once per 4,096 such scans (R427). -/
def State.stressScan (s : State) : State :=
  let driven := (s.panel.flight.flatMap (fun r =>
    ((s.pixels r.request).filter (fun p => s.rectCode r p != 0)).map s.tileOf)).eraseDups
  s.each driven (fun t k =>
    let n := Sparse.get 0 t.panel.tileScans k + 1
    if n = 4096 then
      { t with panel := { t.panel with
        tileScans := Sparse.set 0 t.panel.tileScans k 0
        stress := Sparse.set 0 t.panel.stress k (min 65535 (Sparse.get 0 t.panel.stress k + 1)) } }
    else { t with panel := { t.panel with tileScans := Sparse.set 0 t.panel.tileScans k n } })

/-! ## Rectangles (R422 to R425) -/

/-- A request of 12 bytes. -/
def parseRequest (bs : List Byte) : RectRequest :=
  { x := field bs 0 2, y := field bs 2 2, width := field bs 4 2, height := field bs 6 2, mode := field bs 8 1
    tag := field bs 10 2 }

/-- The abort of a request, 0 where it is accepted (R422). -/
def State.requestRefusal (s : State) (bs : List Byte) : Nat :=
  let r := parseRequest bs
  if r.x % 8 ≠ 0 || r.width % 8 ≠ 0 || decide (r.width < 8) || decide (r.height < 1) || decide (s.columns < r.x + r.width) ||
      decide (s.lines < r.y + r.height) || s.table.isEmpty || decide (modeCount s.table ≤ r.mode) || field bs 9 1 != 0 then 0x06090030
  else if 16 ≤ s.panel.queue.length then 0x0F000007
  else 0

/-- An accepted request joins the queue (R422). -/
def State.joinQueue (s : State) (bs : List Byte) : State :=
  if 16 ≤ s.panel.queue.length then s
  else ({ s with panel := { s.panel with queue := s.panel.queue ++ [parseRequest bs] } }).raiseRails

/-- The lowest journal slot that holds nothing. -/
def State.freeSlot (s : State) : Option Nat := (List.range 8).find? (fun k => (s.slot k).isNone)

/-- A rectangle starts: journal, snapshot, table, band and extension (R424, R425). -/
def State.startRect (s : State) (k : Nat) (r : RectRequest) : State :=
  let band := s.reg (ps 4)
  let unknown := (s.tiles r).any (fun t => !s.panel.tilesKnown.contains t)
  let mode := if unknown then 0 else r.mode
  let (ext, acted) := s.extension r
  let n := (waveform s.table mode band).1
  let total := ceilDiv (n * (10000 + ext)) 10000
  let level (p : Nat) : Nat := if r.recovery then 3 else Sparse.get 0 s.panel.target p
  let shot := (s.pixels r).foldl (fun m p => Sparse.set 0 m p (level p)) s.panel.shot
  let s1 := s.setSlot k (some ⟨r, band, s.reg 0x2D0101⟩)
  let rect : Rect := ⟨r, k, mode, band, ext, n, total, 0, s.table⟩
  let s2 := { s1 with panel := { s1.panel with shot := shot, flight := s1.panel.flight ++ [rect] } }
  let s3 := if unknown && !r.recovery then s2.count (ps 0xB) else s2
  let s4 := (s3.setReg 0x2E1105 ext).setBit (ps 2) 3 acted
  if acted then (s4.count 0x2E0205).setCause 14 2 else s4

/-- A rectangle completes after its last scan; its slot stays where the keeper refuses the write (R320, R425, R429). -/
def State.completeRect (s : State) (r : Rect) : State :=
  let cur := (s.pixels r.request).foldl (fun m p => Sparse.set 0 m p (Sparse.get 0 s.panel.shot p)) s.panel.current
  let s1 := { s with panel := { s.panel with
    current := cur
    tilesKnown := (s.panel.tilesKnown ++ s.tiles r.request).eraseDups } }
  ((((if s1.keep.locked then s1 else s1.setSlot r.slot none)).count 0x2E0201).setReg (ps 8) r.request.tag).setCause 14 0

/-- The scan that ends at a boundary: stress, and the rectangles that have run their last scan. -/
def State.endScan (s : State) : State :=
  let s1 := s.stressScan
  let ran := s1.panel.flight.map (fun r => { r with scan := r.scan + 1 })
  let s2 := { s1 with panel := { s1.panel with flight := ran.filter (fun r => decide (r.scan < r.total)) } }
  s2.each (ran.filter (fun r => decide (r.total ≤ r.scan))) State.completeRect

/-- A request that is passed over because of an overlap counts once (R423). -/
def State.overlapWait (s : State) (r : RectRequest) : State × RectRequest :=
  if r.counted then (s, r) else ((s.count 0x2E0203).setCause 14 1, { r with counted := true })

/-- Starts queued requests in arrival order; `waiting` holds the earlier ones that stay queued (R423). -/
def State.startQueued (s : State) (waiting todo : List RectRequest) : State :=
  match todo with
  | [] => { s with panel := { s.panel with queue := waiting } }
  | r :: t =>
    let hit := s.panel.flight.any (fun x => overlap x.request r) || waiting.any (fun x => overlap x r)
    if hit then
      let (s1, r1) := s.overlapWait r
      s1.startQueued (waiting ++ [r1]) t
    else match s.freeSlot with
      | some k =>
        if s.panel.flight.length < 8 && !s.keep.locked then (s.startRect k r).startQueued waiting t
        else s.startQueued (waiting ++ [r]) t
      | none => s.startQueued (waiting ++ [r]) t

/-- Starts the recovery rectangles; no request starts before they are done (R430). -/
def State.startRecovery' (s : State) : State :=
  let s1 := s.each s.panel.recover (fun t x => t.startRect x.1 x.2)
  { s1 with panel := { s1.panel with recover := [] } }

/-- A recovery is under way. -/
def State.recovering (s : State) : Bool := !s.panel.recover.isEmpty || s.panel.flight.any (fun r => r.request.recovery)

/-- Starts at a scan boundary with the rails up (R423, R430). -/
def State.startScan (s : State) : State :=
  if !s.panelOn || s.table.isEmpty then s
  else if !s.panel.recover.isEmpty then (if s.keep.locked then s else s.startRecovery'.setReg (ps 1) psRecover)
  else if s.recovering then s
  else (s.startQueued [] s.panel.queue).setReg (ps 1) psScan

/-- A VCOM change that waited is made where no rectangle is in flight (R415). -/
def State.settleVcom (s : State) : State :=
  if s.panel.flight.isEmpty then
    let v := s.reg 0x2E0006
    { s with panel := { s.panel with vcom := v, vcomMv := if s.panel.driving then vcomOf v else s.panel.vcomMv } }.setBit
      (ps 2) 2 false
  else s.setBit (ps 2) 2 (s.reg 0x2E0006 != s.panel.vcom)

/-- A scan boundary (R423 to R426). -/
def State.scanBoundary (s : State) : State :=
  if s.scanning then
    let s1 := s.endScan.settleVcom
    if s1.pendingOff && s1.panel.flight.isEmpty then s1.lowerRails else s1.startScan
  else if s.panelState = psDown then
    let s1 := if s.pendingOn then (s.setBit (ps 2) 0 false).setReg 0x2E0001 1 else s
    s1.raiseRails
  else s

/-! ## The events -/

/-- SCAN_BOUNDARY (R423). -/
def execScanBoundary (s : State) : Result := .next s.scanBoundary

/-- PRAIL_OK_ASSERTED (R413). -/
def execPrailOkAsserted (s : State) : Result :=
  .next (if s.panel.railEnable then { s with panel := { s.panel with railOk := true } } else s)

/-- RAIL_UP_DELAY_EXPIRY (R413): VCOM_OUT drives its set value and the first scan starts. -/
def execRailUpDelayExpiry (s : State) : Result :=
  .next (if s.panelState = psRising ∧ s.panel.railOk then
    let s1 := { s with panel := { s.panel with driving := true } }.settleVcom
    if s1.pendingOff then s1.lowerRails else (s1.setReg (ps 1) psScan).startScan
  else s)

/-- RAIL_UP_TIMEOUT (R414). -/
def execRailUpTimeout (s : State) : Result :=
  .next (if s.panelState = psRising ∧ !s.panel.railOk then s.railFault else s)

/-- RAIL_FAULT (R414): PRAIL_OK deasserted for 10 µs while PRAIL_EN is asserted. -/
def execRailFault (s : State) : Result := .next (if s.panel.railEnable then s.railFault else s)

/-- RAIL_FAULT_RETRY (R414, R430): the rails rise again, and the recovery runs before any queued request. -/
def execRailFaultRetry (s : State) : Result :=
  .next (if s.panelState = psFault then
    let s1 := ((s.setReg (ps 1) psDown).setBit (ps 2) 5 false).panelStart
    if s1.pendingOff then s1.setBit (ps 2) 1 false
    else if s1.panelOn then { s1 with panel := { s1.panel with railEnable := true } }.setReg (ps 1) psRising
    else s1
  else s)

/-- RAIL_HOLD_EXPIRY (R413). -/
def execRailHoldExpiry (s : State) : Result :=
  .next (if s.scanning && s.panel.flight.isEmpty && !s.panelWork then s.lowerRails else s)

/-- RAIL_DOWN_DELAY_EXPIRY (R413, R426). -/
def execRailDownDelayExpiry (s : State) : Result :=
  .next (if s.panelState = psFalling then
    let s1 := { s with panel := { s.panel with railEnable := false, railOk := false } }
    (s1.setReg (ps 1) psDown).setBit (ps 2) 1 false
  else s)

/-- STRESS_COUNTER_COMMIT (R427). -/
def execStressCounterCommit (s : State) : Result :=
  .next { s with panel := { s.panel with stressStored := s.panel.stress } }

/-! ## Entries (R415, R420, R422, R426, R431) -/

/-- A write of 2E00.01 (R426). -/
def State.enablePanel (s : State) (v : Nat) : State :=
  if v = 0 then
    let s1 := ({ s with panel := { s.panel with queue := [] } }.setReg 0x2E0001 0).setBit (ps 2) 0 false
    if s1.panelState = psDown ∨ s1.panelState = psFault then s1
    else
      let s2 := s1.setBit (ps 2) 1 true
      if s2.panelState ≠ psFalling && s2.panel.flight.isEmpty then s2.lowerRails else s2
  else if s.panelState = psDown ∨ s.panelState = psFault ∨ s.on 0x2E0001 then (s.setReg 0x2E0001 1).raiseRails
  else s.setBit (ps 2) 0 true

/-- Steps 8 and 9 of R366 for the panel entries; 2E20.01 has the code of a full queue besides. -/
def State.panelCheck (s : State) (key : Nat) (data : List Byte) : Nat :=
  if key = 0x2E0002 then (if leNat data % 8 = 0 then 0 else 0x06090030)
  else if key = 0x2E0005 then (if leNat data < s.minScan then 0x06040043 else 0)
  else if key = 0x2E1101 then
    (if (List.range 16).all (fun i => decide (field data (2 * i) 2 ≤ 2500)) then 0 else 0x06090030)
  else if key = 0x2E2001 then s.requestRefusal data
  else 0

/-- The panel entries as they are applied. -/
def State.panelApply (s : State) (key : Nat) (data : List Byte) (offset : Nat) : Option State :=
  let v := leNat data
  if key = 0x2E0001 then some (s.enablePanel v)
  else if key = 0x2E0006 then some ((s.setReg key v).settleVcom)
  else if key = 0x2E0008 ∨ key = 0x2E0009 then some ((s.setReg key v).refreshBand)
  else if key = 0x2E000A then some ({ s with panel := { s.panel with hostTemp := signed 32 v } }.refreshBand)
  else if key = 0x2E1001 then some ((s.writeTable data).raiseRails)
  else if key = 0x2E2001 then some (s.joinQueue data)
  else if key = 0x2E2002 then some { s with panel := { s.panel with queue := [] } }
  else if key = 0x2E3001 then
    let plane := putPlane s.panel.target offset (data.take (s.columns * s.lines / 4 - offset))
    some { s with panel := { s.panel with target := plane } }
  else none

/-- The panel entries whose value follows from others (R411, R431). -/
def State.panelView (s : State) (key : Nat) : Option Nat :=
  if key = ps 2 then some (withBit (s.reg (ps 2)) 6 (s.allTiles.any (fun t => !s.panel.tilesKnown.contains t)))
  else if key = ps 5 then some s.panel.flight.length
  else if key = ps 6 then some s.panel.queue.length
  else if key = ps 7 then some s.minScan
  else if key = 0x2E1003 then some (if s.reg key = 0 ∧ s.table.isEmpty then 5 else s.reg key)
  else none

/-- The DOMAIN entries that the panel forms (R427, R431). -/
def State.panelBytes (s : State) (key : Nat) : Option (List Byte) :=
  if key = 0x2E3002 then some (planeBytes s.panel.current (s.columns * s.lines / 4))
  else if key = 0x2E1104 then some (s.allTiles.flatMap (fun k => leBytes 2 (Sparse.get 0 s.panel.stress k)))
  else none

end Sys2Proof.Machine
end

