-- ==== Sys2Proof/Machine/Keeper.lean ====
section
/-! DEFINITION. The keeper: calendar, rate trim, discipline, periodic wake, main failure and return, keeper RAM (R306 to
R326). -/

namespace Sys2Proof.Machine

open Sys2Proof

/-- An entry of 2B01, the keeper status. -/
def ks (sub : Nat) : Nat := keyOf 0x2B01 sub

/-- Flags of 2B01.01. -/
abbrev bTimeLost : Nat := 0
abbrev bKeepClamp : Nat := 1
abbrev bBadWrite : Nat := 2
abbrev bCalEnd : Nat := 4
abbrev bBackup : Nat := 5
abbrev bWakeN : Nat := 6

/-! ## The calendar (R306 to R308) -/

/-- A leap year of the Gregorian rule (R307). -/
def leapYear (y : Nat) : Bool := y % 4 == 0 && (y % 100 != 0 || y % 400 == 0)

/-- The length of a month (R306, R307). -/
def monthLength (y m : Nat) : Nat :=
  if m = 2 then (if leapYear y then 29 else 28) else if m = 4 ∨ m = 6 ∨ m = 9 ∨ m = 11 then 30 else 31

/-- The days from 1970-01-01 to the first day of a year. -/
def daysToYear (y : Nat) : Nat :=
  let k := y - 1
  365 * (y - 1970) + (k / 4 - k / 100 + k / 400) - 477

/-- The days of a year before a month. -/
def daysToMonth (y m : Nat) : Nat := ((List.range (m - 1)).map (fun i => monthLength y (i + 1))).foldl (fun a b => a + b) 0

/-- The year that holds a day: the estimate, or the year before it. -/
def yearOf (days : Nat) : Nat :=
  let y := 1970 + days * 400 / 146097 + 1
  if daysToYear y ≤ days then y else if daysToYear (y - 1) ≤ days then y - 1 else y - 2

/-- The month and day of a day of a year. -/
def monthDay (y : Nat) : Nat → Nat → Nat → Nat × Nat
  | 0, m, d => (m, d + 1)
  | n + 1, m, d => if d < monthLength y m then (m, d + 1) else monthDay y n (m + 1) (d - monthLength y m)

/-- The 10 bytes of a calendar reading (R306). -/
def calendarBytes (clock : Nat) : List Byte :=
  let secs := clock / 32768
  let days := secs / 86400
  let y := yearOf days
  let (m, d) := monthDay y 12 1 (days - daysToYear y)
  leBytes 2 y ++ [m, d, secs / 3600 % 24, secs / 60 % 60, secs % 60, (days + 3) % 7 + 1].flatMap (leBytes 1) ++
    leBytes 2 (clock % 32768)

/-- The fields of a calendar write lie in their ranges; the weekday is ignored (R309). -/
def calendarOk (bs : List Byte) : Bool :=
  let f (k : Nat) : Nat := field bs k 1
  let y := field bs 0 2
  between 1970 y 9999 && between 1 (f 2) 12 && between 1 (f 3) (monthLength y (f 2)) && decide (f 4 ≤ 23) &&
    decide (f 5 ≤ 59) && decide (f 6 ≤ 59) && decide (field bs 8 2 ≤ 32767)

/-- The clock that a calendar write sets. -/
def calendarClock (bs : List Byte) : Nat :=
  let f (k : Nat) : Nat := field bs k 1
  let y := field bs 0 2
  let days := daysToYear y + daysToMonth y (f 2) + f 3 - 1
  (((days * 24 + f 4) * 60 + f 5) * 60 + f 6) * 32768 + field bs 8 2

/-- The last instant of the calendar, 9999-12-31 23:59:59 and 32,767 (R308). -/
def lastClock : Nat := (daysToYear 9999 + 365) * 86400 * 32768 - 1

/-- The keeper's start after invalid contents, 2000-01-01 00:00:00 (R322). -/
def lostClock : Nat := daysToYear 2000 * 86400 * 32768

/-- The calendar stops at its end (R308). -/
def State.endCalendar (s : State) : State :=
  { s with keep := { s.keep with clock := lastClock } }.setBit (ks 1) bCalEnd true

/-- The correction in force in cycles per 1,024 s: 1 ppm is 33.554432 of them (R313; log entry 22). -/
def State.trimCycles (s : State) : Int := roundAway (s.regI (ks 4) * 33554432) 1000000000

/-- The resonator runs whole seconds: the wake counter counts its cycles, the calendar counts them with the correction in
force, whole cycles as they fall due; a stopped calendar stands (R308, R313, R318; log entry 22). -/
def State.advanceClock (s : State) (seconds : Nat) : State :=
  let due := (s.keep.trimRest : Int) + s.trimCycles * seconds
  let s1 := { s with keep := { s.keep with wakeSince := s.keep.wakeSince + 256 * seconds, trimRest := (due % 1024).toNat } }
  let clock := (((s1.keep.clock + 32768 * seconds : Nat) : Int) + due / 1024).toNat
  if s1.bit (ks 1) bCalEnd then s1
  else if lastClock < clock then s1.endCalendar
  else { s1 with keep := { s1.keep with clock := clock } }

/-- A reading whose fields are fetched one at a time (R314): field i of R306 is fetched after the carry to the next second
where bit i of a free value says so, and before it otherwise; a stopped calendar carries no more (log entry 58). -/
def State.calendarRead (s : State) : List Byte × State :=
  let before := calendarBytes s.keep.clock
  if s.bit (ks 1) bCalEnd then (before, s)
  else
    let after := calendarBytes (min lastClock ((s.keep.clock / 32768 + 1) * 32768))
    let (w, s1) := s.draw
    ((List.range 10).map (fun i => if w.testBit (min 7 (i - 1)) then after.getD i 0 else before.getD i 0), s1)

/-- An accepted calendar write (R309). -/
def State.setCalendar (s : State) (bs : List Byte) : State :=
  { s with keep := { s.keep with clock := calendarClock bs } }.setReg (ks 1)
    (s.reg (ks 1) &&& (65535 - 2 ^ bTimeLost - 2 ^ bBadWrite - 2 ^ bCalEnd))

/-- A calendar write refused for a field out of range (R309). -/
def State.badCalendar (s : State) : State :=
  ((s.causeIf (!s.bit (ks 1) bBadWrite) 10 3).setBit (ks 1) bBadWrite true).count (ks 7)

/-- Discipline is in force (R316). -/
def State.disciplined (s : State) : Bool := (s.mode == stRun || s.mode == stHalted) && s.on 0x2B0002

/-! ## Rate trim (R312, R313) -/

/-- The numerator of c_i d^i over 2^149 x 65536^3, for the coefficients as they stand; none where one is no finite number. -/
def State.curve (s : State) (d : Int) : Option Int :=
  (List.range 4).foldl (fun a i =>
    match a, fValue (BitVec.ofNat 32 (s.reg (keyOf 0x2B00 (4 + i)))) with
    | some v, .fin neg n => some (v + fSigned neg n * d ^ i * (65536 : Int) ^ (3 - i))
    | _, _ => none) (some 0)

/-- The temperature term r_T in 0.001 ppm, rounded to nearest (R312). A curve without finite coefficients states none: free.
-/
def State.tempTerm (s : State) : Int × State :=
  match s.curve (s.regI (ks 2) - 25 * 65536) with
  | some v => (clampInt (-2147483648) 2147483647 (roundAway (1000 * v) (2 ^ 149 * 65536 ^ 3)), s)
  | none => (signed 32 s.draw.1, s.draw.2)

/-- The correction is recomputed (R312). -/
def State.recomputeTrim (s : State) : State :=
  let (r, s1) := s.tempTerm
  let sum := r + s1.keep.ageing
  let v := clampInt (-200000) 200000 sum
  ((((s1.setRegI (ks 3) r).setRegI (ks 4) v).causeIf (v != sum && !s1.bit (ks 1) bKeepClamp) 10 2)).setBit (ks 1) bKeepClamp
    (v != sum)

/-- KEEPER_TEMPERATURE_SAMPLE (R313): every second on main power, every 16 s on VBAT. The calendar ran on the correction so
far, and what was on its way into keeper RAM has arrived (log entry 101). -/
def execKeeperTemperatureSample (temperature : Word) (s : State) : Result :=
  let s1 := s.advanceClock (if s.keep.onVbat then 16 else 1)
  .next ({ s1 with keep := { s1.keep with units := [] } }.setReg (ks 2) temperature.toNat).recomputeTrim.refreshBand

/-! ## Discipline, end, wake (R308, R316 to R319) -/

/-- The UTC equivalent of the time-scale second, as a clock value (R316). -/
def State.utcClock (s : State) : Nat := ((s.tick.nowNs / 1000000000 : Nat) - s.regI 0x2A010A).toNat * 32768

/-- DISCIPLINE (R316), at a whole second of the time-scale. -/
def execDiscipline (s : State) : Result :=
  .next (if s.disciplined && !s.keep.locked && s.reg 0x2A0101 == 2 then
    let off := roundAway (((s.keep.clock : Int) - s.utcClock) * 1000000) 32768
    let s1 := (s.setRegI (ks 5) (clampInt (-2147483648) 2147483647 off)).setReg (ks 6) s.tickNo
    { s1 with keep := { s1.keep with clock := min s1.utcClock lastClock } }
  else s)

/-- CALENDAR_END (R308). -/
def execCalendarEnd (s : State) : Result := .next s.endCalendar

/-- KEEPER_WAKE (R318, R319). A wake that finds WAKE_N asserted is only counted as missed. -/
def execKeeperWake (s : State) : Result :=
  .next (if s.keep.wakeInterval = 0 then s
  else
    let s1 := { s with keep := { s.keep with wakeSince := 0 } }
    if s1.bit (ks 1) bWakeN then s1.count 0x2B1103
    else ((s1.setBit (ks 1) bWakeN true).count 0x2B1102).setCause 10 0)

/-! ## Main failure and return (R320 to R322) -/

/-- Puts bytes into keeper RAM where they lie (R324). -/
def State.putKeeper (s : State) (u : KeeperUnit) : State :=
  if u.key = 0x2B2001 then
    let area := s.blob u.key ++ List.replicate (2048 - (s.blob u.key).length) 0
    s.setBlob u.key (area.take u.offset ++ u.old ++ area.drop (u.offset + u.old.length))
  else s.setReg u.key (leNat u.old)

/-- The interface locks: the units whose last byte has not arrived are discarded whole, the last ones of the write under way,
in a number that the rule leaves to timing (R320, R321; log entry 101). -/
def State.lockKeeper (s : State) : State :=
  let n := s.keep.units.length
  let (k, s1) := if s.keep.locked || n == 0 then (0, s) else (s.draw.1 % (n + 1), s.draw.2)
  let s2 := s1.each (s1.keep.units.take k) State.putKeeper
  { s2 with keep := { s2.keep with locked := true, units := [] } }

/-- KEEPER_INTERFACE_LOCK (R320, R321). -/
def execKeeperInterfaceLock (s : State) : Result := .next s.lockKeeper

/-- SWITCH_TO_VBAT (R320). -/
def execSwitchToVbat (s : State) : Result :=
  .next (if s.keep.onVbat then s
  else
    let s1 := s.lockKeeper
    ({ s1 with keep := { s1.keep with onVbat := true, usedSince := true } }.setBit (ks 1) bBackup true).count (ks 9))

/-- SWITCH_TO_MAIN (R320): the duration of the episode is shown. -/
def execSwitchToMain (seconds : Nat) (s : State) : Result :=
  .next (if s.keep.onVbat then { s with keep := { s.keep with onVbat := false } }.setReg (ks 0xA) (min seconds 0xFFFFFFFF) else s)

/-- RETENTION_LOST (R322): latched while the keeper runs on VBAT. -/
def execRetentionLost (s : State) : Result :=
  .next (if s.keep.onVbat then { s with keep := { s.keep with lost := true } } else s)

/-- The header of keeper RAM carries the CRC-32C of its first 60 bytes (R322, R324). -/
def keeperHeaderOk (header : List Byte) : Bool := header.length == 64 && crc32c (header.take 60) == field header 60 4

/-- The keeper contents are invalid (R322); the header is written anew with them (log entry 102). -/
def State.keeperInvalid (s : State) (reason : Nat) : State :=
  let s1 := { s with
    keep := { s.keep with clock := lostClock, lost := false, header := keeperHeader, journalLost := true, wakeInterval := 0
                          ageing := 0, wakeSince := 0 }
    panel := { s.panel with journal := [] } }
  let s2 := (((s1.setReg 0x2B2002 0).setReg 0x2B2003 0).setReg 0x2B2004 0).setBlob 0x2B2001 []
  let s3 := ((((s2.setReg (ks 9) 0).setReg 0x2B1102 0).setReg 0x2B1103 0).setBit (ks 1) bTimeLost true).setBit (ks 1) bCalEnd false
  s3.setReg (ks 0xB) reason

/-- KEEPER_INTERFACE_UNLOCK (R320, R322): on main power the keeper judges its contents, then unlocks. -/
def execKeeperInterfaceUnlock (s : State) : Result :=
  .next (if s.keep.locked && !s.keep.onVbat then
    let s1 := if s.keep.lost then s.keeperInvalid 1 else if !keeperHeaderOk s.keep.header then s.keeperInvalid 2 else s.setReg (ks 0xB) 0
    { s1 with keep := { s1.keep with locked := false, judged := true } }
  else s)

/-! ## Entries (R309 to R311, R315, R326) -/

/-- Steps 5, 6 and 8 of R366 for the keeper entries: the lock, discipline, the states of a capture, the calendar fields. -/
def State.keeperCheck (s : State) (key : Nat) (data : List Byte) : Nat :=
  if !(between 0x2B00 (key / 256) 0x2BFF) then 0
  else if s.keep.locked then 0x0F000017
  else if key = 0x2B1002 ∧ s.disciplined then 0x08000022
  else if key = 0x2B1003 ∧ !(s.mode == stSelfTest || s.mode == stStopped || s.mode == stBench) then 0x08000022
  else if key = 0x2B1002 ∧ !calendarOk data then 0x06090030
  else 0

/-- The 2,048 bytes of the host area (R324). -/
def State.hostArea (s : State) : List Byte := (s.blob 0x2B2001 ++ List.replicate 2048 0).take 2048

/-- The units of at most 32 bytes that a write of the host area sends, the last first (R321). -/
def State.hostUnits (s : State) (n : Nat) : List KeeperUnit :=
  (((List.range 64).filter (fun i => decide (32 * i < n))).map (fun i =>
    (⟨0x2B2001, 32 * i, (s.hostArea.drop (32 * i)).take (min 32 (n - 32 * i))⟩ : KeeperUnit))).reverse

/-- A write of the host area, a shorter one from offset 0 (R321, R324). -/
def State.writeHostArea (s : State) (data : List Byte) : State :=
  { s with keep := { s.keep with units := s.hostUnits data.length } }.setBlob 0x2B2001 (data ++ (s.blob 0x2B2001).drop data.length)

/-- The keeper entries as they are applied: the keeper's working copies follow, and a written interval restarts the wake
counter (R315, R318, R319). A write that meets a locked interface has no effect (R320). -/
def State.keeperApply (s : State) (key : Nat) (data : List Byte) : Option State :=
  let v := leNat data
  if between 0x2B00 (key / 256) 0x2BFF && s.keep.locked then some s
  else if key = 0x2B0001 then some ({ s with keep := { s.keep with ageing := signed 32 v } }.setReg key v)
  else if key = 0x2B0003 then some ({ s with keep := { s.keep with wakeInterval := v, wakeSince := 0 } }.setReg key v)
  else if key = 0x2B1002 then some (s.setCalendar data)
  else if key = 0x2B1003 then some (s.setReg 0x2B1004 (leNat (calendarBytes s.keep.clock)))
  else if key = 0x2B1101 then some (s.setBit (ks 1) bWakeN false)
  else if key = 0x2B2001 then some (s.writeHostArea data)
  else none

/-- The keeper entries whose value follows from others (R316, R326). -/
def State.keeperView (s : State) (key : Nat) : Option Nat :=
  if key = ks 1 then some (withBit (s.reg key) 3 s.disciplined)
  else if key = 0x2B1001 then some (leNat (calendarBytes s.keep.clock))
  else if key = 0x2B1104 then some (s.keep.wakeInterval - s.keep.wakeSince)
  else if key = 0x2B2005 then some ((s.panel.journal.filter (fun c => c.2.isSome)).length)
  else none

end Sys2Proof.Machine
end

