-- ==== Sys2Proof/Machine/Reset.lean ====
section
/-! DEFINITION. Reset sources and levels, block resets, the option block, start-up, failed starts, lifecycle, firmware and
debug access (R361, R364, R400, R404, R432 to R456, R482). -/

namespace Sys2Proof.Machine

open Sys2Proof

/-- An entry of 2F00, the reset status. -/
def rk (sub : Nat) : Nat := keyOf 0x2F00 sub

/-! ## Transactions that a reset ends (R364) -/

/-- What the removal of a transfer leaves: an image download that ends early leaves the bank empty (R121). -/
def State.dropTransfers (s : State) (f : Transfer → Bool) : State :=
  let s1 := { s with dict := { s.dict with transfers := s.dict.transfers.filter (fun x => !f x) } }
  if s.dict.transfers.any (fun x => f x && x.write && x.key == 0x220001) then s1.setReg 0x220102 0 else s1

/-- Ends every transaction of the paths that `f` names: 0x0F00_0011 where the path still stands to carry it; what was
accepted and not yet applied is discarded. -/
def State.endTransactions (s : State) (f : Path → Bool) : State :=
  let waiting := (s.dict.atClose ++ s.dict.atBoundary).filter (fun w => f w.path && w.path != Path.host)
  let open_ := s.dict.transfers.filter (fun x => f x.path && x.path != Path.host)
  let s1 := s.each waiting (fun t w => t.answer { path := w.path, key := w.key, code := 0x0F000011, tag := w.tag })
  let s2 := s1.each open_ (fun t x => t.answer { path := x.path, key := x.key, code := 0x0F000011, tag := x.tag })
  let s2 := s2.each (s.dict.relayed.filter (fun x => f x.path && x.path != Path.host))
    (fun t x => t.answer { path := x.path, key := x.key, code := 0x0F000011, tag := x.tag })
  { s2 with dict := { s2.dict with
    relayed := s2.dict.relayed.filter (fun x => !f x.path)
    atClose := s2.dict.atClose.filter (fun w => !f w.path)
    atBoundary := s2.dict.atBoundary.filter (fun w => !f w.path)
    unlocked := s2.dict.unlocked.filter (fun p => !f p) } }.dropTransfers (fun x => f x.path)

/-- A path of controller c. -/
def onCan (c : Nat) (p : Path) : Bool := p == .can c

/-- A path of the UDP service. -/
def onUdp (p : Path) : Bool :=
  match p with
  | .udp _ => true
  | _ => false

/-! ## Blocks (R439 to R441, R482) -/

/-- Sets the stage of a block's reset. -/
def State.setStage (s : State) (b : Nat) (x : BlockStage) : State :=
  { s with rst := { s.rst with blocks := Sparse.set .running s.rst.blocks b x } }

/-- What the reset of CAN controller c restarts: queues, error counters, error states, and the CANopen device on it. A mode
that waited for the end of a bus-off recovery is applied at the next closing point (R332, R440). -/
def State.resetCan (s : State) (c : Nat) : State :=
  let held := (s.crt c).pendingMode
  let s0 := (((s.setCrt c { pendingMode := held }).setReg (cc c 0x19) 0).setReg (cc c 0x1A) 0).setReg (cc c 0x1B) 254
  let s1 := (s0.setBit (cc c 0x19) bModeHeld held.isSome).endTransactions (onCan c)
  if s1.canopen = some c then { s1 with open_ := {} } else s1

/-- What the reset of plant port p restarts: its link, time stack, UDP service and 61162-450 path. -/
def State.resetPlant (s : State) (p : Nat) : State :=
  let was := s.bestPort
  let s1 := ((s.setReg (tp p 0xC) 0).setPrt p {}).setReg (tp p 0xD) 0
  let s2 := if was = some p ∧ s1.bestPort.isNone ∧ !s.tieSteers ∧ !s.outstation then s1.enterHoldover else s1
  let s3 := { s2 with
    dict := { s2.dict with udpDone := [] }
    sent := { s2.sent with seen := s2.sent.seen.filter (fun x => x.1 != p) } }
  s3.showPorts.endTransactions onUdp

/-- What the reset of the host port restarts. -/
def State.resetHost (s : State) : State :=
  ({ s with dict := { s.dict with hostReply := none } }.setReg 0x2F6101 0).endTransactions (fun p => p == Path.host)

/-- What the reset of the tie link restarts: both lanes train again, and the partner is not reached meanwhile. -/
def State.resetTie (s : State) : State :=
  let s1 := ({ s with pair := { s.pair with heard := 0 } }.setReg (pr 5) 0).setPartnerRole 0xFF
  ((if s1.role = 3 then s1.stopResync else s1).endRelayed 0x0F000011).endTransactions (fun p => p == Path.partner)

/-- Step 3 of R440: the block is reset. -/
def State.resetBlock (s : State) (b : Nat) : State :=
  if b < 4 then s.resetCan b
  else if b < 8 then s.setSrt (b - 4) {}
  else if b < 10 then s.resetPlant (b - 8)
  else if b = 10 then s.resetTimeUnit
  else if b = 11 then s.panelStop
  else if b = 12 then s.resetHost
  else s.resetTie

/-- Step 1 of R440: the block is asked to go idle. -/
def State.askIdle (s : State) (b : Nat) : State := if s.stage b = .running then s.setStage b .waiting else s

/-- Steps 2 and 3 of R440: the block went idle or timed out, and is reset. -/
def State.holdBlock (s : State) (b result units : Nat) : State :=
  if s.stage b = .waiting then
    ((((s.resetBlock b).setStage b .held).setReg 0x2F020F result).countBy 0x2F0210 units)
  else s

/-- The release of a block, or the end of its fence (R441). The panel starts again with its recovery (R430). -/
def State.releaseBlock (s : State) (b : Nat) : State :=
  if s.stage b = .held ∨ s.stage b = .fenced then
    let s1 := s.setStage b .running
    if b = 11 then s1.panelStart.raiseRails else s1
  else s

/-! ## Taking a reset (R432 to R436) -/

/-- A new challenge is drawn (R455). -/
def State.newChallenge (s : State) : State := s.draw.2.setReg 0x2F3201 s.draw.1

/-- A block reset by command or clock monitor: counted in 2F02.11, repeats included (R440). Every reset draws a new challenge
(R455). -/
def State.blockReset (s : State) (b : Nat) : State :=
  ((if s.stage b = .running then s.newChallenge else s).askIdle b).count 0x2F0211

/-- A stored value: of the latest valid generation, or the default where none is stored or a restore marked it (R360, R361).
-/
def State.stored (s : State) (key : Nat) : Nat :=
  if s.dict.toDefault.contains key then defaultOf key
  else Sparse.get (defaultOf key) ((s.dict.generation.map (fun g => g.regs)).getD []) key

/-- The communication ranges that a reset of level 3 reloads (R361, R438). -/
def reloaded (key : Nat) : Bool := between 0x1000 (key / 256) 0x1FFF || between 0x2C00 (key / 256) 0x2CFF

/-- A reset of level 3: the communication ranges take their stored values, and blocks 0x00 to 0x09 and 0x0C are reset
under their handshakes (R438, R439). -/
def State.communicationReset (s : State) : State :=
  let g := s.dict.generation.getD {}
  let regs := s.regs.filter (fun c => !(reloaded c.1 && isPersisted c.1))
  let blobs := s.blobs.filter (fun c => !(reloaded c.1 && isPersisted c.1))
  let s1 := { s with regs := regs, blobs := blobs }
  let s2 := s1.each (g.regs.filter (fun c => reloaded c.1)) (fun t c => t.setReg c.1 c.2)
  let s3 := s2.each (g.blobs.filter (fun c => reloaded c.1)) (fun t c => t.setBlob c.1 c.2)
  let s4 := s3.each (List.range 4) (fun t c => t.setCrt c { t.crt c with pendingMode := none })
  s4.showDevice.each [0, 1, 2, 3, 4, 5, 6, 7, 8, 9, 12] State.askIdle

/-- The record of the reset that is applied (2F00.02 to 2F00.06). -/
def State.recordReset (s : State) (n level : Nat) : State :=
  ((((s.setReg (rk 2) n).setReg (rk 3) level).count (rk 4)).setReg (rk 5) s.opSeconds).setReg (rk 6) s.powerCycle

/-- A reset of level 0 to 2 asserts: the sequencer stops, an exchange in preparation is aborted, a step that waits is
applied, ROLE_OUT falls, and with level 0 or 1 the module is off (R136, R178, R292, R438, R477). -/
def State.assertReset (s : State) (level : Nat) : State :=
  ({ (s.abortExchange 0xE).stepAtOnce with rst := { s.rst with progress := some level } }.setReg (pr 4) 0).setMode
    (if level = 2 then stSelfTest else stOff)

/-- A source starts a reset of a level. While one is in progress a more extensive level escalates it, an equal one shows
the lowest bit, and any other is absorbed (R436). -/
def State.startReset (s : State) (n level : Nat) : State :=
  match s.rst.progress with
  | some l =>
    if level < l then ((s.setReg (rk 2) n).setReg (rk 3) level).assertReset level
    else if level = l ∧ n < s.reg (rk 2) then s.setReg (rk 2) n
    else s
  | none =>
    let s1 := (s.recordReset n level).newChallenge
    if level ≤ 2 then s1.assertReset level else if level = 3 then s1.communicationReset else s1

/-- A source acts: its bit sets, and the level that the map assigns is applied; code 7 only records (R432, R434). -/
def State.raise (s : State) (n : Nat) : State :=
  let s1 := s.setBit (rk 1) n true
  if s.levelOf n = 7 then s1 else s1.startReset n (s.levelOf n)

/-- The blocks that a clock feeds, none where it feeds the core die (R482). -/
def clockBlocks (c : Clock) : List Nat :=
  match c with
  | .refclk => []
  | .canPll => [0, 1, 2, 3]
  | .plantPll p => [8 + p % 2]
  | .timePll => [10]
  | .panelPll => [11]
  | .tiePll => [13]

/-! ## What a reset of level 0 to 2 reaches (R438) -/

/-- Registers that stand through every reset: the keeper, reset status, option block, map, lifecycle and firmware fuses,
the level book counts, the panel table, time-unit resets and debug openings (R432, R438). -/
def keptRegister (key : Nat) : Bool :=
  let ix := key / 256
  ix == 0x2B01 || [0x2B1004, 0x2B1102, 0x2B1103, 0x2B2002, 0x2B2003, 0x2B2004, 0x2D0101, 0x2D0102, 0x2E1002, 0x2E1003,
    0x2A010B, 0x2F0304, 0x2F1003, 0x2F3103, 0x2F3104, 0x2F3105, 0x2F3106, 0x2F3201, 0x2F3204].contains key ||
    ix == 0x2F00 || ix == 0x2F20 || ix == 0x2F30

/-- Registers that stand through a reset of level 1 besides: the option block's fields and the retained range's writer. -/
def keptBySystem (key : Nat) : Bool := [0x250002, 0x270001, 0x2F0302, 0x2F0306, 0x2F0307, 0x220303].contains key

/-- Registers that a reset of level 2 restarts: tick, tasks, witness, loops, pair, frame statistics and the image views. -/
def restarted (key : Nat) : Bool :=
  let ix := key / 256
  let dynamic := !isPersisted key
  ix == 0x2001 || ix == 0x2020 || between 0x6000 ix 0x67FF ||
    ((between 0x2101 ix 0x2130 || between 0x2400 ix 0x247F) && dynamic && key != 0x213014) ||
    (ix == 0x2501 && key != pr 3 && key != pr 5) || key == 0x251009 || (ix == 0x2700 && dynamic && key != 0x270001) ||
    statistics.any (fun x => x.live == key || x.latch == key)

/-- The memory that a reset leaves: the retained range of D, or nothing after level 0 (R125, R438). -/
def State.keptMemory (s : State) (level : Nat) : Sparse Byte :=
  match s.img.retWriter with
  | some (a, n, _) =>
    if level = 0 then [] else s.mem.filter (fun c => decide (memKey 3 0 a ≤ c.1) && decide (c.1 < memKey 3 0 a + n))
  | none => []

/-- The effects whose latches stand (R438). -/
def State.latchedEffects (s : State) : List Nat := s.mtx.effects.filterMap (fun c => if c.2.latch then some c.1 else none)

/-- What every reset of level 0 to 2 restarts: data memory, engines, tasks, loops, the sequencer, the witness pair's state,
the pair and the chain. -/
def State.restartCore (s : State) (level : Nat) : State :=
  { s with
    mem := s.keptMemory level
    engines := [], tasks := [], loops := []
    tick := { nowNs := s.tick.nowNs, stepPending := s.tick.stepPending, stepHeld := s.tick.stepHeld
              released := s.tick.released, prevReleased := s.tick.released }
    mtx := { active := if level = 2 then s.mtx.active else none, store := s.mtx.store
             kept := s.latchedEffects ++ s.mtx.kept.filter (fun n => !s.latchedEffects.contains n) }
    img := { s.img with download := none, lastLoaded := none, coldPending := none, bgDone := 0, bgComplete := false, dirtyPages := [] }
    pair := {}, chain := {}, ost := {} }

/-- Level 2: the registers of what is restarted take their defaults; the exchange and the chain links rest (R438). -/
def State.applicationReset (s : State) : State :=
  let s1 := { (s.restartCore 2) with regs := s.regs.filter (fun c => !restarted c.1) }
  (s1.setReg 0x220102 s1.restState).chainInit.showImage.refresh

/-- Levels 0 and 1: everything but the keeper, the flash contents and the fuses restarts (R438). A commit that a power
failure may have cut off leaves a copy that no start takes, or none (R403; log entry 106). -/
def State.systemReset (s : State) (level : Nat) : State :=
  let cut := level == 0 && s.book.codes.any (fun c => c.2.due)
  let s1 := (if cut then s.draw.2 else s).restartCore level
  { s1 with
    regs := s.regs.filter (fun c => keptRegister c.1 || (level == 1 && keptBySystem c.1))
    blobs := s.blobs.filter (fun c => c.1 == 0x2B2001 || c.1 == 0x2E1001)
    tick := { nowNs := s.tick.nowNs }
    img := { s1.img with bankA := { container := s.img.bankA.container }, bankB := { container := s.img.bankB.container }
                         lastLoaded := none, retLost := s.img.retLost || level == 0 }
    dig := {}, ana := { stored := s.ana.stored }, can := [], open_ := {}, sent := {}, time := {}
    dict := { generation := s.dict.generation, toDefault := s.dict.toDefault }
    book := { live := s.book.committed, committed := s.book.committed, headerSec := s.book.headerSec
              headerCycle := s.book.headerCycle, torn := s.book.torn + (if cut then s.draw.1 % 2 else 0) }
    panel := { journal := s.panel.journal, stress := s.panel.stressStored, stressStored := s.panel.stressStored }
    rst := { s.rst with optionsRead := s.rst.optionsRead && level == 1, firmwareUp := false, supervisorUp := false, tested := false
                        imagesUp := false, blocks := [] }
    fuse := { s.fuse with jtagOpen := false, refused := if level = 0 then 0 else s.fuse.refused } }

/-- A blown lifecycle fuse takes effect; retirement destroys the storage key and blows every key-hash bit (R452, R454). -/
def State.ageLifecycle (s : State) : State :=
  if s.fuse.retireBlown then
    let ones := 2 ^ 384 - 1
    ((({ s with fuse := { s.fuse with ownerSet := true, debugSet := true } }.setReg 0x2F3001 3).setReg 0x2F3002 ones).setReg
      0x2F3004 ones).setReg 0x2F3007 0
  else if s.fuse.fieldBlown then s.setReg 0x2F3001 2
  else s

/-- The counter in the keeper moves at a start; at its limit the preferred copy is given up (R446, R453). -/
def State.countStart (s : State) : State :=
  let s1 := s.setKeeper 0x2B2002 (min 255 (s.reg 0x2B2002 + 1))
  if s1.reg 0x2F0302 ≤ s1.reg 0x2B2002 then { s1 with fuse := { s1.fuse with limitHit := true } } else s1

/-- The reasons for BENCHMARK at this start (R447). -/
def State.benchReasons (s : State) : Nat :=
  (if s.reg 0x2F0302 ≤ s.reg 0x2B2002 then 1 else 0) + (if s.reg 0x2F0306 = 0xFF then 2 else 0) +
    (if s.reg 0x2F0304 = 1 then 4 else 0) + (if s.reg 0x2F3001 = 3 then 8 else 0)

/-- The start decides between BENCHMARK and the other states (R445, R447). -/
def State.decideStart (s : State) : State := { s with rst := { s.rst with reasons := s.benchReasons } }

/-- The release of a reset of level 0 to 2: what it reaches takes effect, and the start begins (R438, R445). A start that a
reset cut short makes up for the option read that it left out. -/
def State.release (s : State) (level : Nat) : State :=
  let s0 := { s with rst := { s.rst with progress := none, startLevel := level } }
  if level = 2 then
    let s1 := { s0 with rst := { s0.rst with tested := false } }.applicationReset
    let next := if !s1.rst.optionsRead then stOption else stSelfTest
    if s1.rst.supervisorUp then (s1.setReg 0x210001 next).countStart.decideStart else s1.setReg 0x210001 next
  else
    let s1 := s0.systemReset level
    let s2 := if level = 0 then s1.ageLifecycle else s1
    -- a lock of 2F32.02 stands until a reset of level 0 (R455)
    let s3 := (if 3 ≤ s2.fuse.refused then s2.setReg 0x2F3203 2 else s2).resetTimeUnit
    -- 2A01.0B counts since power-on, which is not counted itself
    (if s.reg (rk 2) = 0 then s3.setReg 0x2A010B 0 else s3).setReg 0x210001 (if s2.rst.optionsRead then stSelfTest else stOption)

/-! ## The option block (R442 to R444) -/

/-- The bytes of an option block with its CRC. -/
def OptionBlock.bytes (o : OptionBlock) : List Byte :=
  let bs := leBytes 4 0x5A584F50 ++ leBytes 2 1 ++ leBytes 1 o.role ++ leBytes 1 o.unit ++ leBytes 1 o.address ++
    leBytes 1 o.startFlags ++ leBytes 1 o.limit ++ leBytes 1 0 ++ leBytes 4 o.generation ++ leBytes 236 0
  bs ++ leBytes 4 (crc32 bs)

/-- A valid option block: magic, version, CRC and every field in range (R442, R443). -/
def parseOptions (bs : List Byte) : Option OptionBlock :=
  let o : OptionBlock := { role := field bs 6 1, unit := field bs 7 1, address := field bs 8 1, startFlags := field bs 9 1
                           limit := field bs 10 1, generation := field bs 12 4 }
  if bs.length = 256 ∧ field bs 0 4 = 0x5A584F50 ∧ field bs 4 2 = 1 ∧ o.startFlags < 4 ∧ between 1 o.limit 15 ∧
      field bs 11 1 = 0 ∧ leNat ((bs.drop 16).take 236) = 0 ∧ field bs 252 4 = crc32 (bs.take 252) ∧
      ((o.role = 0 ∧ o.unit ≤ 2 ∧ o.address = 0) ∨ (o.role = 1 ∧ o.unit = 0 ∧ between 1 o.address 32)) then some o
  else none

/-- The copy that the option reader uses, with 2F03.06 (R442). -/
def State.chosenCopy (s : State) : OptionBlock × Nat :=
  match s.rst.copy0, s.rst.copy1 with
  | some a, some b => if a.generation < b.generation then (b, 1) else (a, 0)
  | some a, none => (a, 0)
  | none, some b => (b, 1)
  | none, none => ({}, 0xFF)

/-- The option block in force is written to the entries that show it. -/
def State.useOptions (s : State) (o : OptionBlock) (copy : Nat) : State :=
  let valid := (if s.rst.copy0.isSome then 1 else 0) + (if s.rst.copy1.isSome then 2 else 0)
  (((({ s with rst := { s.rst with options := o, optionsRead := true } }.setReg 0x250002 o.unit).setReg 0x270001
    o.address).setReg 0x2F0302 o.limit).setReg 0x2F0306 copy).setReg 0x2F0307 valid

/-- OPTION_READ_COMPLETE (R442, R445): with no valid copy cause bit 15 sets, whose reaction is fixed. -/
def execOptionReadComplete (s : State) : Result :=
  .next (if s.mode = stOption then
    let c := s.chosenCopy
    let s1 := s.useOptions c.1 c.2
    (if c.2 = 0xFF then s1.setBit (rk 1) 15 true else s1).setMode stSelfTest
  else s)

/-- A checked option block is written to both copies with the next generation (R444). -/
def State.writeOptions (s : State) (o : OptionBlock) : State :=
  let g := min (max s.rst.options.generation (s.reg 0x2F1003) + 1) 0xFFFFFFFF
  { s with rst := { s.rst with copy0 := some { o with generation := g }, copy1 := some { o with generation := g } } }.setReg
    0x2F1003 g

/-! ## Start-up (R323, R361, R400, R445 to R450, R453) -/

/-- A firmware copy that the boot ROM may start (R453). -/
def State.bootable (s : State) (k : Nat) : Bool :=
  let c := if k = 0 then s.fuse.copy0 else s.fuse.copy1
  c.signed && decide (s.reg 0x2F3106 ≤ c.security)

/-- FIRMWARE_BOOT (R453): the preferred copy, or the other; with neither the module stays in SELF-TEST. -/
def execFirmwareBoot (s : State) : Result :=
  .next (if s.mode = stSelfTest && s.rst.optionsRead && !s.rst.firmwareUp then
    let p := s.reg 0x2F3105
    let up (k fallback : Nat) : State := ({ s with rst := { s.rst with firmwareUp := true } }.setReg 0x2F3102 k).setReg 0x2F3108 fallback
    if s.bootable p && !s.fuse.limitHit then up p 0
    else if s.bootable (1 - p) then up (1 - p) 1
    else s
  else s)

/-- The keeper takes its persisted working copies (R323). -/
def State.writeKeeper (s : State) : State :=
  { s with keep := { s.keep with ageing := signed 32 (s.stored 0x2B0001), wakeInterval := s.stored 0x2B0003, wakeSince := 0 } }

/-- The keeper's contents were found invalid since the last start (R322). -/
def State.keeperBad (s : State) : Bool := s.keep.judged && s.reg (ks 0xB) != 0

/-- Operating seconds, the power-cycle count and the copies rejected at a supervisor start (R400, R404). -/
def State.resumeCounts (s : State) : State :=
  let cycle := max s.book.headerCycle (s.reg 0x2B2003) + (if s.rst.startLevel = 0 then 1 else 0)
  let seconds := if s.keeperBad then s.book.headerSec else s.reg 0x2B2004
  let s1 := ((s.setReg 0x2D0102 (min cycle 0xFFFFFFFF)).setReg 0x2D0101 seconds).setReg 0x2D010C (if s.keeperBad then 1 else 0)
  let s1 := s1.setReg 0x2D010D s.book.torn
  let s2 := { s1 with book := { s1.book with startSec := seconds } }
  ((s2.setKeeper 0x2B2003 (s2.reg 0x2D0102)).setKeeper 0x2B2004 seconds).writeBookHeader

/-- A mark to leave BENCHMARK clears with the host request and the counter (R450). -/
def State.takeMark (s : State) : State :=
  if s.reg 0x2F0304 = 2 then (s.setReg 0x2F0304 0).setKeeper 0x2B2002 0 else s

/-- SUPERVISOR_START (R323, R400, R430, R446, R450): it waits for the keeper to unlock. -/
def execSupervisorStart (s : State) : Result :=
  .next (if s.mode = stSelfTest && s.rst.firmwareUp && !s.rst.supervisorUp && !s.keep.locked then
    let s1 := s.writeKeeper.countStart.takeMark.resumeCounts
    let s2 := (s1.causeIf (s1.bit (ks 1) bTimeLost) 10 1).causeIf s1.keeperBad 10 4
    let s3 := s2.setBit (ks 1) bBackup s2.keep.usedSince
    { s3 with
      keep := { s3.keep with usedSince := false, judged := false }
      rst := { s3.rst with supervisorUp := true } }.panelStart.decideStart
  else s)

/-- The time unit loads the calendar with the fallback UTC offset (R284). -/
def State.loadTime (s : State) : State :=
  let tai : Int := (s.keep.clock / 32768 : Nat) + s.regI 0x2A000B
  { s with tick := { s.tick with nowNs := (tai * 1000000000).toNat + s.keep.clock % 32768 * 1000000000 / 32768 }
           time := { s.time with ppsSecond := tai.toNat } }.setReg 0x2A010A (s.reg 0x2A000B)

/-- Every persisted entry takes its stored value; those marked for default take it for good (R360, R361). -/
def State.loadGeneration (s : State) : State :=
  let marked := s.dict.toDefault
  match s.dict.generation with
  | none => { s with dict := { s.dict with toDefault := [], loaded := true } }.setCause 1 7
  | some g =>
    let g1 : Generation := { regs := g.regs.filter (fun c => !marked.contains c.1)
                             blobs := g.blobs.filter (fun c => !marked.contains c.1) }
    let s1 := s.each g1.regs (fun t c => t.setReg c.1 c.2)
    let s2 := s1.each g1.blobs (fun t c => t.setBlob c.1 c.2)
    { s2 with dict := { s2.dict with generation := some g1, toDefault := [], loaded := true } }

/-- What follows from the configuration as loaded: the modes in force of the analog channels, the CANopen device, the panel
band, the links of the chain, the budgets. -/
def State.settle (s : State) : State :=
  let s1 := s.each (List.range 16) (fun t n => t.useMode n (t.reg (ach n 1)))
  let s2 := ({ s1 with panel := { s1.panel with vcom := s1.reg 0x2E0006 } }).refreshBand
  s2.showDevice.chainInit.applyRate.refresh

/-- CONFIGURATION_LOADED (R361, R445). -/
def execConfigurationLoaded (s : State) : Result :=
  .next (if s.mode = stSelfTest && s.rst.supervisorUp && !s.dict.loaded then s.loadGeneration.settle.loadTime else s)

/-- SELF_TEST_COMPLETE (R445): a failure keeps the module in SELF-TEST and names the element in 2F00.08. -/
def execSelfTestComplete (failure : Nat) (s : State) : Result :=
  whenValid (decide (failure ≤ 6)) s
    (if s.mode = stSelfTest && s.dict.loaded then
      if failure = 0 then { s with rst := { s.rst with tested := true } }.setReg (rk 8) 0 else s.setReg (rk 8) failure
    else s)

/-- A bank as it is loaded from flash (R123). -/
def State.loadFrom (s : State) (n : Nat) (tagOk : Bool) : State :=
  let c := (s.bank n).container
  if c.isEmpty then s.showBank n 0
  else match if tagOk then (verifyProgram c s.ownerHash).2 else none with
    | some m => (s.setBank n { image := some m, container := c }).showBank n 1
    | none => (s.showBank n 2).setCause 3 3

/-- The matrix store as it is loaded (R102, R123, R448). -/
def State.loadMatrix (s : State) (tagOk : Bool) : State :=
  if s.mtx.store.isEmpty || !tagOk || s.reg 0x2F3001 == 3 then s.showMatrix
  else match s.readMatrix s.mtx.store with
    | .ok m => s.activateMatrix m
    | .error _ => s.showMatrix

/-- IMAGES_LOADED (R123, R445): in a start that goes to BENCHMARK, the matrix store only. -/
def execImagesLoaded (report : LoadReport) (s : State) : Result :=
  .next (if s.mode = stSelfTest && s.rst.tested && !s.rst.imagesUp then
    let s1 := if s.rst.reasons ≠ 0 then s
      else
        let t := (s.loadFrom 0 report.bankA).loadFrom 1 report.bankB
        let u := (t.setReg 0x220002 t.img.committedBank).setReg 0x22000B 1
        ((u.setReg 0x220102 u.restState).showImage).refresh
    let s2 := s1.loadMatrix report.matrix
    { s2 with rst := { s2.rst with imagesUp := true } }
  else s)

/-- The start may end at the next datum edge (R14, R445). -/
def State.startReady (s : State) : Bool := s.mode == stSelfTest && s.rst.tested && s.rst.imagesUp && s.rst.progress.isNone

/-- The end of SELF-TEST at the datum edge of tick 0; the panel starts with it (R81, R177, R223, R412, R447). -/
def State.endSelfTest (s : State) : State :=
  let s1 := s.draw.2.setReg (rk 7) s.draw.1
  let s2 := s1.setReg 0x2F0303 s1.rst.reasons
  let s3 := if s2.inPair then (s2.setReg (pr 1) 4).setReg (pr 8) 9 else (s2.setReg (pr 1) 0).setReg (pr 8) 0
  let s4 := if s3.rst.reasons ≠ 0 then
      let t := (s3.setMode stBench).endBypasses
      if t.inPair then t.setReg (pr 8) 1 else t
    else
      let t := s3.setMode stStopped
      if t.inPair || t.outstation then t else t.autoStart
  { s4 with panel := { s4.panel with started := true } }.raiseRails.causeIf (s4.reg (rk 1) != 0) 1 6

/-- The steady state of a start (R446). -/
def State.steady (s : State) : Bool :=
  let settled := s.mode == stRun || (s.mode == stStopped && !s.rst.options.startFlags.testBit 0)
  if s.outstation then s.reg 0x270010 == 1
  else if s.inPair then s.role == 2 || (s.role == 1 && settled)
  else settled

/-! ## The sources (R432, R433, R466, R482) -/

/-- POWER_ON_RESET (R432): the register clears and bit 0 sets. -/
def execPowerOnReset (s : State) : Result :=
  .next ((({ s with rst := { s.rst with progress := none } }.setReg (rk 1) 1).setReg 0x2F3204 0).startReset 0 0 |>.setReg (rk 4) 0)

/-- VSUP_BROWN_OUT (R433, R466). -/
def execVsupBrownOut (s : State) : Result := .next (s.raise 1)

/-- CORE_BROWN_OUT (R433). -/
def execCoreBrownOut (s : State) : Result := .next (s.raise 2)

/-- RST_N_ASSERTED (R433). -/
def execRstNAsserted (s : State) : Result := .next (s.raise 3)

/-- SUPERVISOR_WATCHDOG_EXPIRY (R433). -/
def execSupervisorWatchdogExpiry (s : State) : Result := .next (s.raise 4)

/-- SUPERVISOR_LOCKSTEP_MISMATCH (R433). -/
def execSupervisorLockstepMismatch (s : State) : Result := .next (s.raise 5)

/-- CLOCK_MONITOR_FAULT (R433, R434, R482): under code 4 the blocks that the clock feeds, or level 1 where it feeds the core
die. -/
def execClockMonitorFault (clock : Clock) (s : State) : Result :=
  .next (let s1 := s.setBit (rk 1) 12 true
    if s.levelOf 12 ≠ 4 then s.raise 12
    else if (clockBlocks clock).isEmpty then s1.startReset 12 1
    else if s.rst.progress.isSome then s1.startReset 12 4
    else (s1.startReset 12 4).each (clockBlocks clock) State.blockReset)

/-- THERMAL_RESET (R433). -/
def execThermalReset (s : State) : Result := .next (s.raise 13)

/-- DEBUG_RESET (R433): requested through JTAG, where JTAG is open (R451, R455). -/
def execDebugReset (s : State) : Result := .next (if s.reg 0x2F3001 = 2 && !s.fuse.jtagOpen then s else s.raise 14)

/-- DEFERRED_RESET_START (R435): at the datum edge after the staking point, past its release. -/
def execDeferredResetStart (s : State) : Result :=
  .next (if s.tick.point = .d then
    { s with tick := { s.tick with resetsDue := [] } }.each s.tick.resetsDue (fun t n => t.startReset n (t.levelOf n))
  else s)

/-- RESET_RELEASE (R435, R438). -/
def execResetRelease (s : State) : Result :=
  .next (match s.rst.progress with
    | some l => s.release l
    | none => s)

/-- BLOCK_IDLE (R440). -/
def execBlockIdle (block : Nat) (s : State) : Result := whenValid (decide (block < 14)) s (s.holdBlock block 0 0)

/-- BLOCK_IDLE_TIMEOUT (R440): traffic still in flight is discarded and counted. -/
def execBlockIdleTimeout (block units : Nat) (s : State) : Result := whenValid (decide (block < 14)) s (s.holdBlock block 1 units)

/-- BLOCK_RELEASE (R441). -/
def execBlockRelease (block : Nat) (s : State) : Result := whenValid (decide (block < 14)) s (s.releaseBlock block)

/-- JTAG_FORCED_RELEASE (R441): a block released while its clock is not stable is fenced. -/
def execJtagForcedRelease (block : Nat) (s : State) : Result :=
  whenValid (decide (block < 14)) s
    (if s.stage block = .held && !(s.reg 0x2F3001 == 2 && !s.fuse.jtagOpen) then
      (s.setStage block .fenced).setReg 0x2F020F 2
    else s)

/-! ## Entries (R437, R439, R444, R446, R447, R450 to R456) -/

/-- A map that programming accepts: codes 0 to 4 and 7, 4 only for bit 12, 0 for the bits that are not programmable (R434).
-/
def mapOk (bs : List Byte) : Bool :=
  (List.range 16).all (fun n =>
    let c := (bs.getD n 0).toNat
    (decide (c ≤ 3) || c == 7 || (c == 4 && n == 12)) && (!([0, 1, 2, 15].contains n) || c == 0))

/-- The unit or its partner in step bars a reset of the tie link (R439). -/
def State.tieBarred (s : State) : Bool := s.role == 2 || (s.role == 1 && s.partnerRole == 2)

/-- The lifecycle as blown. -/
def State.lifeBlown (s : State) : Nat := if s.fuse.retireBlown then 3 else if s.fuse.fieldBlown then 2 else s.reg 0x2F3001

/-- Step 5 of R366 for the lifecycle conditions of 2F10 to 2F30: 0x0F00_0018 (R434, R444, R451, R452). -/
def State.lifeRefuses (s : State) (key v : Nat) : Bool :=
  (key == 0x2F1001 && s.reg 0x2F3001 == 3) ||
  (key == 0x2F2011 && (s.reg 0x2F3001 != 1 || s.on 0x2F2012)) ||
  (key == 0x2F3003 && (s.reg 0x2F3001 != 1 || s.fuse.ownerSet)) ||
  (key == 0x2F3005 && (s.reg 0x2F3001 != 1 || s.fuse.debugSet)) ||
  (key == 0x2F3006 && ((v == 0x46494C45 && s.lifeBlown != 1) || (v == 0x52455449 && !(s.lifeBlown == 1 || s.lifeBlown == 2))))

/-- Steps 6, 8 and 9 of R366 for the entries of this chapter. -/
def State.resetCheck (s : State) (key : Nat) (data : List Byte) : Nat :=
  let v := leNat data
  if key = 0x2F0212 then (if v = 13 && s.tieBarred then 0x06040043 else 0)
  else if key = 0x2F1001 then
    (if !(s.mode == stStopped || s.mode == stBench) then 0x08000022
     else if (parseOptions data).isNone then 0x06090030 else 0)
  else if key = 0x2F2011 then (if mapOk data then 0 else 0x06090030)
  else if key = 0x2F3006 then
    (if v ≠ 0x46494C45 ∧ v ≠ 0x52455449 then 0x06090030
     else if v = 0x46494C45 && !(s.fuse.ownerSet && s.fuse.debugSet) then 0x06040043 else 0)
  else if key = 0x2F3202 then (if 3 ≤ s.fuse.refused then 0x08000022 else 0)
  else 0

/-- A valid response to the challenge (R455). -/
def State.responseOk (s : State) (bs : List Byte) : Bool :=
  let key := bs.take 97
  s.fuse.debugSet && Config.sha384 key == beNat (leBytes 48 (s.reg 0x2F3004)) &&
    Config.ecdsaP384Valid key (bs.drop 97) (Config.sha384 (leBytes 32 (s.reg 0x2F3201) ++ leBytes 4 (s.reg 0x101804)))

/-- A response is judged: JTAG opens, or the refusal counts and the third locks (R455). -/
def State.judgeResponse (s : State) (bs : List Byte) : State :=
  if s.responseOk bs then
    (({ s with fuse := { s.fuse with jtagOpen := true } }.setReg 0x2F3203 1).count 0x2F3204).newChallenge
  else
    let s1 := { s with fuse := { s.fuse with refused := s.fuse.refused + 1 } }
    (if s1.fuse.refused = 3 then s1.setReg 0x2F3203 2 else s1).newChallenge

/-- A download writes the copy that is not running (R453). -/
def State.download (s : State) (c : FirmwareCopy) : State :=
  if s.reg 0x2F3102 = 0 then { s with fuse := { s.fuse with copy1 := c } }.setReg 0x2F3104 c.version
  else { s with fuse := { s.fuse with copy0 := c } }.setReg 0x2F3103 c.version

/-- The running copy's security version. -/
def State.runningSecurity (s : State) : Nat := if s.reg 0x2F3102 = 0 then s.fuse.copy0.security else s.fuse.copy1.security

/-- The entries of this chapter as they are applied. A reset command starts once its closing point has ended (R437). -/
def State.resetApply (s : State) (path : Path) (key : Nat) (data : List Byte) : Option State :=
  let v := leNat data
  let due (n : Nat) : Option State := some { s with rst := { s.rst with commandDue := some n } }
  if key = 0x2F0101 then (if v = 2 then due 11 else if path = .partner then due 9 else due 10)
  else if key = 0x2F0212 then some (s.blockReset v)
  else if key = 0x2F0308 then
    some (if v = 1 then s.setKeeper 0x2B2002 0 else s.setReg 0x2F0304 (if v = 2 then 1 else 2))
  else if key = 0x2F1001 then some (((parseOptions data).map s.writeOptions).getD s)
  else if key = 0x2F2011 then
    some ((s.each (List.range 15) (fun t n => t.setReg (keyOf 0x2F20 (n + 1)) (data.getD n 0).toNat)).setReg 0x2F2012 1)
  else if key = 0x2F3003 then some ({ s with fuse := { s.fuse with ownerSet := true } }.setReg 0x2F3002 v)
  else if key = 0x2F3005 then some ({ s with fuse := { s.fuse with debugSet := true } }.setReg 0x2F3004 v)
  else if key = 0x2F3006 then
    some (if v = 0x46494C45 then { s with fuse := { s.fuse with fieldBlown := true } }
          else { s with fuse := { s.fuse with retireBlown := true } })
  else if key = 0x2F3107 then
    some (if v = 1 then { s with fuse := { s.fuse with limitHit := false } }.setReg 0x2F3105 (1 - s.reg 0x2F3105)
          else s.setReg 0x2F3106 (max (s.reg 0x2F3106) s.runningSecurity))
  else if key = 0x2F3202 then some (s.judgeResponse data)
  else none

/-- A reset command that its closing point took starts (R437). -/
def State.commandedReset (s : State) : State :=
  match s.rst.commandDue with
  | some n => { s with rst := { s.rst with commandDue := none } }.raise n
  | none => s

/-- The entries of this chapter whose value follows from others (R446, R456). -/
def State.resetView (s : State) (key : Nat) : Option Nat :=
  if key = 0x2F0301 then some (s.reg 0x2B2002)
  else if key = 0x2F1002 then some (leNat s.rst.options.bytes)
  else none

end Sys2Proof.Machine
end

