-- ==== Sys2Proof/Machine/Pins.lean ====
section
/-! DEFINITION. What the balls of the module do: their state while the module is off or starts, the level the integrator's
resistor then gives, and what drives the static outputs in operation (R12, R319, R385, R413, R477, R478). -/

namespace Sys2Proof.Machine

open Sys2Proof

/-- The balls and ball groups of the table of R477, but for the digital terminals and the current-loop terminals. -/
inductive Ball where
  | roleOut | roleIn | tieTx | mdi | canTx (controller : Nat) | sentTx (port : Nat) | sentRx (port : Nat) | sentDe (port : Nat)
  | hcsN | hclk | hostData | irqN | wakeN | rstN | ppsOut | prailEn | psoe | pgoe | prailOk | panelData | vcomOut | borderOut
  | tck | trstN | tms | tdi | tdo
  deriving DecidableEq, Repr

/-- What a ball does: an input, high impedance, a link output without signal, a level driven, or its bus's own signalling. -/
inductive BallState where
  | input | highImpedance | noOutput | driven (high : Bool) | signalling
  deriving DecidableEq, Repr

/-- The conditions of the table of R477: off, in a reset of level 0 or 1, and in OPTION-READ and SELF-TEST until tick 0 of a
start after one. At a reset of level 2 the balls keep their function. -/
def State.ballsIdle (s : State) : Bool :=
  s.mode == stOff || s.mode == stOption || (s.mode == stSelfTest && decide (s.rst.startLevel < 2) && s.rst.progress.isNone)

/-- The balls that are inputs in every condition. -/
def Ball.isInput (b : Ball) : Bool :=
  match b with
  | .roleIn | .sentRx _ | .hcsN | .hclk | .rstN | .prailOk | .tck | .trstN | .tms | .tdi => true
  | _ => false

/-- The table of R477: the state of a ball while the module is off or starts. WAKE_N follows the keeper throughout. -/
def idleBall (b : Ball) : BallState :=
  if b.isInput then .input
  else match b with
    | .tieTx | .mdi => .noOutput
    | _ => .highImpedance

/-- An open-drain output that is active low: driven low while asserted, released otherwise. -/
def openDrain (asserted : Bool) : BallState := if asserted then .driven false else .highImpedance

/-- What a ball does in operation: the module's static outputs by the state that drives them, the others by their own bus
(R178, R319, R350, R385, R413, R474). -/
def State.busyBall (s : State) (b : Ball) : BallState :=
  if b.isInput then .input
  else match b with
    | .roleOut => .driven (s.on (pr 4))
    | .irqN => openDrain s.irq
    | .wakeN => openDrain (s.bit (ks 1) bWakeN)
    | .prailEn => .driven s.panel.railEnable
    | .sentDe p => .driven (!(s.srt p).tx.isEmpty)
    | .psoe | .pgoe => .driven s.panel.driving
    | _ => .signalling

/-- What a ball does (R477). WAKE_N belongs to the keeper, which runs through every reset. -/
def State.ball (s : State) (b : Ball) : BallState :=
  if s.ballsIdle && b != .wakeN then idleBall b else s.busyBall b

/-- The level that the integrator's resistor gives a ball that is an input or high impedance, where the table names one
(R477): `some true` for a high level. -/
def restLevel (b : Ball) : Option Bool :=
  match b with
  | .roleOut | .roleIn | .sentDe _ | .hclk | .ppsOut | .prailEn | .psoe | .pgoe | .prailOk | .tck | .trstN => some false
  | .canTx _ | .sentTx _ | .sentRx _ | .hcsN | .hostData | .irqN | .wakeN | .rstN | .tms | .tdi => some true
  | .tieTx | .mdi | .panelData | .vcomOut | .borderOut | .tdo => none

/-- A digital output stage is off while the module is off or starts (R477). -/
def State.stagesOff (s : State) : Bool := s.ballsIdle

/-- A current-loop channel of a module that is off or in a reset of level 0 or 1: it conducts from AIOn to ARETn if the cell
of its field die holds AI passive, and is high impedance otherwise (R478). -/
def State.loopConducts (s : State) (n : Nat) : Bool := s.mode == stOff && s.storedMode n == 1

end Sys2Proof.Machine
end

