-- ==== Sys2Proof/Machine/Access.lean ====
section
/-! DEFINITION. Dictionary accesses: what an entry reads as, the checks of a write in the order of R366, when an accepted write
takes effect, what it does, and its answer (R357 to R374, R377, R378, R385, R386, R389, R449). -/

namespace Sys2Proof.Machine

open Sys2Proof

/-! ## Values as read (R365, R378, R385, R389) -/

/-- The placement warning of 2800.06: I block, Q block, SOE block beyond their area (R251). -/
def State.digitalWarning (s : State) : Nat :=
  let beyond (key size area : Nat) : Bool := s.reg key != 0xFFFFFFFF && decide (s.ioSize area < s.reg key + size)
  (if beyond 0x280001 16 0 then 1 else 0) + (if beyond 0x280002 8 1 then 2 else 0) +
    (if beyond 0x280003 (8 + 8 * s.reg 0x280004) 0 then 4 else 0)

/-- The placement warning of 2900.03: I block, Q block beyond their area (R279). -/
def State.analogWarning (s : State) : Nat :=
  let beyond (key size area : Nat) : Bool := s.reg key != 0xFFFFFFFF && decide (s.ioSize area < s.reg key + size)
  (if beyond 0x290001 68 0 then 1 else 0) + (if beyond 0x290002 64 1 then 2 else 0)

/-- The error register 1001 (R375). -/
def State.errorRegister (s : State) : Nat :=
  let some_ (g : Nat) : Bool := s.reg (keyOf (0x2F40 + g) 1) != 0
  (if some_ 1 || some_ 5 || some_ 7 || some_ 8 then 1 else 0) + (if some_ 11 then 16 else 0)

/-- The guard state of 2F60.02: CAN 0 to 3, UDP, host port, partner. -/
def State.guardState (s : State) : Nat :=
  let held (f : Path → Bool) : Bool := s.dict.unlocked.any f
  (List.range 4).foldl (fun v c => if held (onCan c) then v + 2 ^ c else v) 0 + (if held onUdp then 16 else 0) +
    (if held (fun p => p == Path.host) then 32 else 0) + (if held (fun p => p == Path.partner) then 64 else 0)

/-- The UDP transactions that are open: transfers under way and writes that wait (R363). -/
def State.sessions (s : State) : Nat :=
  ((s.dict.atClose ++ s.dict.atBoundary).filter (fun w => onUdp w.path)).length +
    (s.dict.transfers.filter (fun x => onUdp x.path)).length + (s.dict.relayed.filter (fun x => onUdp x.path)).length

/-- The supersede count that 2F60.05 selects (R370). -/
def State.selectedCount (s : State) : Nat :=
  let v := s.reg 0x2F6005
  Sparse.get 0 s.dict.supersede (keyOf (v / 65536) (v % 256))

/-- The entries of this chapter whose value follows from others. -/
def State.dictView (s : State) (key : Nat) : Option Nat :=
  if key = 0x2F4001 then some s.summary
  else if key = 0x100100 then some s.errorRegister
  else if key = 0x2F6002 then some s.guardState
  else if key = 0x2F6006 then some s.selectedCount
  else if key = 0x2F6009 then some s.sessions
  else if key = 0x280006 then some s.digitalWarning
  else if key = 0x290003 then some s.analogWarning
  else none

/-- The value of an entry that is read as one: what follows from others, or its register. -/
def State.valueOf (s : State) (key : Nat) : Nat :=
  (s.dictView key <|> s.digitalView key <|> s.analogView key <|> s.chainView key <|> s.ownView key <|> s.matrixView key <|>
    s.loopView key <|> s.busView key <|> s.bookView key <|> s.timeView key <|> s.keeperView key <|> s.panelView key <|>
    s.pairView key <|> s.resetView key).getD (s.reg key)

/-- The content of a DOMAIN or VSTRING entry. -/
def State.contentOf (s : State) (key : Nat) : List Byte :=
  if key = 0x2D2001 then s.liveView
  else if key = 0x2D2002 then s.committedView
  else if key = 0x2B2001 then s.hostArea
  else (s.panelBytes key).getD (s.blob key)

/-- The highest exported subindex of an index (R377). -/
def State.exportTop (s : State) (ix : Nat) : Option Nat :=
  let subs := (s.image.exports.filter (fun x => x.index == ix)).map (fun x => x.sub)
  if subs.isEmpty then none else some (subs.foldl max 0)

/-- The value of an exported variable at the last staking point (R378). -/
def State.exportValue (s : State) (x : Export) : List Byte := { s with mem := s.dict.snapshot }.exportRead x

/-- What a read of an entry takes with it: the records of its queue and what is left, or the calendar fetched field by field
(R246, R276, R314, R339, R352). -/
def State.queueRead (s : State) (key : Nat) : Option (List Byte × State) :=
  let ix := key / 256
  let sub := key % 256
  if key = 0x288002 then some s.soeRead
  else if key = 0x299002 then some s.hartRead
  else if key = 0x2B1001 then some s.calendarRead
  else if between 0x2C20 ix 0x2C23 && (sub == 1 || sub == 2) then some (s.windowRead (ix - 0x2C20) (sub - 1))
  else if between 0x2C80 ix 0x2C84 && sub == 10 then some (s.sentenceRead (ix - 0x2C80))
  else none

/-- The blocks that an entry belongs to (R439; log entry 108). -/
def entryBlocks (key : Nat) : List Nat :=
  let ix := key / 256
  if [0x2C00, 0x2C10, 0x2C18, 0x2C20].contains (ix / 4 * 4) then [ix % 4]
  else if between 0x2C80 ix 0x2C83 || between 0x2C90 ix 0x2C93 then [4 + ix % 16]
  else if between 0x2A10 ix 0x2A11 then [8 + ix % 16]
  else if between 0x2A00 ix 0x2AFF then [10]
  else if between 0x2E00 ix 0x2EFF then [11]
  else if ix == 0x2F61 then [12]
  else if ix == 0x2520 then [13]
  else []

/-- An access reaches a fenced block (R441). -/
def State.fencedEntry (s : State) (key : Nat) : Bool := (entryBlocks key).any (fun b => s.stage b == .fenced)

/-- Neither firmware copy can start: only 2F31.01 is served (R453). -/
def State.stuck (s : State) : Bool := !s.rst.firmwareUp && !s.bootable 0 && !s.bootable 1

/-- The abort of a read, 0 where it is served (R320, R339, R366 steps 1 to 3, R441). A stored container is never returned
(R120; log entry 96). -/
def State.readRefusal (s : State) (key : Nat) : Nat :=
  let ix := key / 256
  let sub := key % 256
  if between 0x3000 ix 0x5FFF then
    (if (s.exportTop ix).isNone then 0x06020000 else if sub != 0 && (s.exportAt ix sub).isNone then 0x06090011 else 0)
  else match entryOf ix sub with
    | none => if indexExists ix then 0x06090011 else 0x06020000
    | some x =>
      if x.access = .wo then 0x06010001
      else if key = 0x213001 then 0x08000020
      else if between 0x2B00 ix 0x2BFF && s.keep.locked then 0x0F000017
      else if s.fencedEntry key then 0x0F000011
      else if s.stuck then 0x08000022
      else if between 0x2C20 ix 0x2C23 && (sub == 1 || sub == 2) && !s.hostQueue (ix - 0x2C20) (sub - 1) then 0x06040043
      else 0

/-- A read: the bytes, with what it removes, or the abort (R365, R366). -/
def State.readEntry (s : State) (key : Nat) : Except Nat (List Byte) × State :=
  let ix := key / 256
  let sub := key % 256
  let code := s.readRefusal key
  if code ≠ 0 then (.error code, s)
  else if between 0x3000 ix 0x5FFF then
    match s.exportAt ix sub with
    | some x => (.ok (s.exportValue x), s)
    | none => (.ok (leBytes 1 ((s.exportTop ix).getD 0)), s)
  else match s.queueRead key with
    | some p => (.ok p.1, p.2)
    | none =>
      match (entryOf ix sub).bind (fun x => x.type.size) with
      | some n => (.ok (leBytes n (s.valueOf key)), s)
      | none => (.ok (s.contentOf key), s)

/-! ## The checks of a write (R366) -/

/-- Steps 1 to 4: index, subindex, access, length. -/
def State.formRefusal (s : State) (key : Nat) (data : List Byte) (offset : Nat) : Nat :=
  let ix := key / 256
  let sub := key % 256
  if between 0x3000 ix 0x5FFF then
    (if (s.exportTop ix).isNone then 0x06020000
     else match s.exportAt ix sub with
       | none => if sub = 0 then 0x06010002 else 0x06090011
       | some x => if x.access = 0 then 0x06010002 else if data.length = x.bytes then 0 else 0x06070010)
  else match entryOf ix sub with
    | none => if indexExists ix then 0x06090011 else 0x06020000
    | some x =>
      if x.access = .ro ∨ x.access = .const then 0x06010002
      else match x.type with
        | .vstring n | .domain n => if offset + data.length ≤ n then 0 else 0x06070010
        | t => if some data.length = t.size then 0 else 0x06070010

/-- Ranges that BENCHMARK accepts (R449). -/
def benchAccepts (key : Nat) : Bool :=
  let ix := key / 256
  ix == 0x1010 || ix == 0x1011 || between 0x2A00 ix 0x2BFF || between 0x2D00 ix 0x2F6F

/-- Step 5: role, path and lifecycle, in its order. -/
def State.roleRefusal (s : State) (path : Path) (key : Nat) (data : List Byte) : Nat :=
  if path != Path.forwarded && s.standbyRefuses key then 0x0F000002
  else if key = 0x220001 ∧ (s.role = 2 ∨ s.role = 3) then 0x0F000002
  else if s.outstation && (key == 0x210002 || busOutstationRefuses key (leNat data)) then 0x0F000005
  else if s.mode == stBench && !benchAccepts key then 0x0F000004
  else if s.keep.locked && (between 0x2B00 (key / 256) 0x2BFF || (key == 0x2F0308 && leNat data == 1)) then 0x0F000017
  else if s.fencedEntry key then 0x0F000011
  else if (key == 0x213001 || key == 0x220001) && (s.reg 0x2F3001 == 0 || s.reg 0x2F3001 == 3) then 0x0F000018
  else if s.lifeRefuses key (leNat data) then 0x0F000018
  else if onUdp path && !s.on 0x2F6208 && key != 0x2F6001 then 0x0F000016
  else if !s.dict.loaded && isPersisted key then 0x0F00000A
  else if s.dict.storing.isSome && (key / 256 == 0x1010 || key / 256 == 0x1011) then 0x0F00000A
  else 0

/-- One byte more of a UTF-8 text (R10): `n` continuation bytes are due, the next of them from `lo` to `hi`. -/
def utf8Step (st : Option (Nat × Nat × Nat)) (b : Byte) : Option (Nat × Nat × Nat) :=
  let v := b.toNat
  match st with
  | none => none
  | some (n + 1, lo, hi) => if between lo v hi then some (n, 0x80, 0xBF) else none
  | some (0, _, _) =>
    if v < 0x80 then some (0, 0x80, 0xBF)
    else if between 0xC2 v 0xDF then some (1, 0x80, 0xBF)
    else if between 0xE0 v 0xEF then some (2, if v = 0xE0 then 0xA0 else 0x80, if v = 0xED then 0x9F else 0xBF)
    else if between 0xF0 v 0xF4 then some (3, if v = 0xF0 then 0x90 else 0x80, if v = 0xF4 then 0x8F else 0xBF)
    else none

/-- A VSTRING holds UTF-8 text (R10). -/
def utf8Ok (data : List Byte) : Bool := (data.foldl utf8Step (some (0, 0x80, 0xBF))).map (fun x => x.1) == some 0

/-- The value lies in the plain range of its entry (R10, R366 step 8). -/
def inRange (key : Nat) (data : List Byte) : Bool :=
  match entryOf (key / 256) (key % 256) with
  | none => true
  | some x =>
    let v : Int := match x.type.signedBits with
      | some n => signed n (leNat data)
      | none => (leNat data : Int)
    (x.type != .bool || decide (leNat data ≤ 1)) && (match x.type with | .vstring _ => utf8Ok data | _ => true) &&
      (match x.range with
       | some (lo, hi) => decide (lo ≤ v) && decide (v ≤ hi)
       | none => true)

/-- Two addresses lie in one subnet of a prefix. -/
def sameSubnet (a b prefix_ : Nat) : Bool := a / 2 ^ (32 - prefix_) == b / 2 ^ (32 - prefix_)

/-- The plant addresses after a write share a subnet (R389). -/
def State.subnetClash (s : State) (key v : Nat) : Bool :=
  let at_ (k : Nat) : Nat := if k = key then v else s.reg k
  let a := at_ 0x2F6201
  let b := at_ 0x2F6204
  a != 0 && b != 0 && sameSubnet a b (min (at_ 0x2F6202) (at_ 0x2F6205))

/-- Steps 8 and 9 for the entries of this chapter. -/
def State.dictCheck (s : State) (key : Nat) (data : List Byte) : Nat :=
  let v := leNat data
  let ix := key / 256
  if ix = 0x1010 then (if v = 0x65766173 then 0 else 0x08000020)
  else if ix = 0x1011 then (if v = 0x64616F6C then 0 else 0x08000020)
  else if key = 0x210002 then (if v = 1 ∨ v = 2 then 0 else 0x06090030)
  else if key = 0x2F6001 then (if v = 0x5A584755 ∨ v = 0 then 0 else 0x06090030)
  else if key = 0x2F6005 then (if v / 256 % 256 = 0 then 0 else 0x06090030)
  else if (s.exportAt ix (key % 256)).any (fun x => x.kind == 1 && decide (1 < v)) then 0x06090030
  else if ix = 0x2F62 then (if s.subnetClash key v then 0x06040043 else 0)
  else 0

/-- The first code that is not 0. -/
def firstCode (codes : List Nat) : Nat := (codes.find? (fun c => c != 0)).getD 0

/-- The refusals that the owning chapters state, under steps 5, 6, 8 and 9. -/
def State.ownerRefusal (s : State) (key : Nat) (data : List Byte) : Nat :=
  let v := leNat data
  let load := if key = 0x220001 then s.downloadRefusal else 0
  firstCode [s.tickCheck key v, s.dictCheck key data, load, s.resetCheck key data, s.keeperCheck key data, s.digitalCheck key v,
    s.analogCheck key data, s.chainCheck key v, s.ownCheck key data, s.loopCheck key v, s.imageCheck key v, s.busCheck key v,
    s.bookCheck key data, s.timeCheck key v, s.panelCheck key data, s.pairCheck key v]

/-- Codes of steps 5 and 6, which come before the guard. -/
def earlyCode (c : Nat) : Bool := [0x0F000002, 0x0F000004, 0x0F000005, 0x0F000017, 0x0F000018, 0x08000022].contains c

/-- Step 6: an RWS entry outside STOPPED, and a module without firmware (R11, R453). -/
def State.stateRefusal (s : State) (key : Nat) : Nat :=
  if s.stuck && key != 0x2F3101 then 0x08000022
  else match entryOf (key / 256) (key % 256) with
    | some x => if x.access = .rws ∧ s.mode ≠ stStopped then 0x08000022 else 0
    | none => 0

/-- The abort of a write, 0 where it is accepted (R366). A forwarded write was checked by the active (R372). -/
def State.writeRefusal (s : State) (w : PendingWrite) : Nat :=
  let form := s.formRefusal w.key w.data w.offset
  if form ≠ 0 then form
  else
    let role := s.roleRefusal w.path w.key w.data
    if role ≠ 0 then role
    else
      let owner := s.ownerRefusal w.key w.data
      if earlyCode owner && owner != 0x08000022 then owner
      else if s.stateRefusal w.key ≠ 0 then s.stateRefusal w.key
      else if owner = 0x08000022 then owner
      else if isGuarded w.key && !s.dict.unlocked.contains w.path then 0x0F000003
      else if !inRange w.key w.data then 0x06090030
      else owner

/-- What a refusal leaves beside its answer: a bad calendar field, an exchange command turned away, a state command in a
wrong state, a refused command of the matrix (R82, R110, R111, R121, R309). -/
def State.noteRefusal (s : State) (key code : Nat) : State :=
  if key = 0x2B1002 ∧ code = 0x06090030 then s.badCalendar
  else if key = 0x220001 ∧ code = 0x0F000006 then s.setReg 0x220103 3
  else if key = 0x210002 ∧ earlyCode code then (s.setReg 0x210007 6).setCause 1 3
  else if key = 0x21300A ∨ key = 0x21300B then s.count 0x21300C
  else s

/-! ## Store and restore (R359, R360) -/

/-- The subset of 1010 and 1011: all, 1000 to 1FFF, 2000 to 2FFF. -/
def subset (n key : Nat) : Bool :=
  match n with
  | 1 => true
  | 2 => between 0x1000 (key / 256) 0x1FFF
  | _ => between 0x2000 (key / 256) 0x2FFF

/-- The generation that a store commits: the values in force of the subset, the pending ones for a frame boundary in their
place, and the rest as it is stored. -/
def State.newGeneration (s : State) (n : Nat) : Generation :=
  let old := s.dict.generation.getD {}
  let keep (key : Nat) : Bool := isPersisted key && subset n key
  let putReg (m : Sparse Nat) (c : Nat × Nat) : Sparse Nat := Sparse.set (defaultOf c.1) m c.1 c.2
  let putBlob (m : Sparse (List Byte)) (c : Nat × List Byte) : Sparse (List Byte) := Sparse.set (blobDefault c.1) m c.1 c.2
  let waiting := s.dict.atBoundary.filter (fun w => keep w.key)
  let regs := (s.regs.filter (fun c => keep c.1)).foldl putReg (old.regs.filter (fun c => !keep c.1))
  let blobs := (s.blobs.filter (fun c => keep c.1)).foldl putBlob (old.blobs.filter (fun c => !keep c.1))
  { regs := waiting.foldl (fun m w => if entryBits w.key = 0 then m else putReg m (w.key, fit w.key (leNat w.data))) regs
    blobs := waiting.foldl (fun m w => if entryBits w.key = 0 then putBlob m (w.key, w.data) else m) blobs }

/-- A store begins (R359). -/
def State.beginStore (s : State) (n : Nat) : State :=
  { s with dict := { s.dict with storing := some (s.newGeneration n) } }.setReg 0x2F600B 1

/-- The stored subset is marked for default; guarded entries only from an unlocked path (R360). -/
def State.markDefaults (s : State) (path : Path) (n : Nat) : State :=
  let g := s.dict.generation.getD {}
  let keys := (g.regs.map (fun c => c.1) ++ g.blobs.map (fun c => c.1)).filter
    (fun k => subset n k && (!isGuarded k || s.dict.unlocked.contains path))
  { s with dict := { s.dict with toDefault := s.dict.toDefault ++ keys.filter (fun k => !s.dict.toDefault.contains k) } }

/-! ## What a write does -/

/-- The reason that refuses a state command, 0 where it acts; a standby in step follows its active (R81, R82, R173). -/
def State.commandRefusal (s : State) (path : Path) (v : Nat) : Nat :=
  if v = 1 then
    if path = Path.forwarded then (if s.mode = stStopped then s.runConditions else 6) else s.runRefusal
  else if !(s.mode == stRun || s.mode == stHalted) || (s.role == 2 && path != Path.forwarded) then 6
  else if s.mode == stHalted && s.mtx.stopped then 5
  else 0

/-- The code that a waiting write to an exported variable meets under the export table in force when it is applied (R134,
R366, R377). -/
def State.exportRefusal (s : State) (key : Nat) (data : List Byte) : Nat :=
  if between 0x3000 (key / 256) 0x5FFF then
    match s.exportAt (key / 256) (key % 256) with
    | none => 0x0F000013
    | some x =>
      if x.access = 0 then 0x06010002
      else if data.length ≠ x.bytes then 0x06070010
      else if x.kind = 1 ∧ 1 < leNat data then 0x06090030
      else 0
  else 0

/-- The code that a write meets as it is applied, 0 where it acts (R82, R110, R111, R124, R127, R134, R320, R422, R455). -/
def State.lateRefusal (s : State) (w : PendingWrite) : Nat :=
  let v := leNat w.data
  if w.key = 0x210002 then (if s.commandRefusal w.path v = 0 then 0 else 0x0F000001)
  else if w.key = 0x220101 then (if s.exchangeCommandRefusal v = 0 then 0 else 0x0F000006)
  else if s.keep.locked && (between 0x2B00 (w.key / 256) 0x2BFF || (w.key == 0x2F0308 && v == 1)) then 0x0F000017
  else if s.matrixRefused w.key w.data then 0x06040043
  else if w.key = 0x2E2001 ∧ 16 ≤ s.panel.queue.length then 0x0F000007
  else if w.key = 0x299001 ∧ 4 ≤ (s.art (w.data.getD 0 0).toNat).hartQueue.length then 0x0F000007
  else if w.key = 0x2F3202 ∧ !s.responseOk w.data then 0x06090030
  else if w.key = 0x2F3101 ∧ !(Config.firmwareHeader w.data).2.2 then 0x06090030
  else s.exportRefusal w.key w.data

/-- A state command acts, or is refused with its reason in 2100.07 (R81, R82, R388). A request to enter RUN forms the budget
anew (R21). -/
def State.stateCommand (s0 : State) (path : Path) (v : Nat) : State :=
  let s := if v = 1 then s0.refresh else s0
  let r := s.commandRefusal path v
  if r ≠ 0 then (s.setReg 0x210007 r).setCause 1 3
  else (if v = 1 then s.enterRun else s.stopModule).setReg 0x210007 0

/-- The entries of this chapter as they are applied (R359, R360, R374, R386, R389, R432). -/
def State.dictApply (s : State) (w : PendingWrite) : Option State :=
  let key := w.key
  let ix := key / 256
  let v := leNat w.data
  if ix = 0x1010 then some (s.beginStore (key % 256))
  else if ix = 0x1011 then some (s.markDefaults w.path (key % 256))
  else if key = 0x210002 then some (s.stateCommand w.path v)
  else if between 0x2F41 ix 0x2F4F || key == rk 1 then some (s.setReg key (s.reg key - (s.reg key &&& v)))
  else if key = 0x2F5001 then some (s.setReg key (v % 65536 / 2 * 2))
  else if key = 0x2F6001 then
    some (if v = 0 then { s with dict := { s.dict with unlocked := s.dict.unlocked.filter (fun p => p != w.path) } }
          else ({ s with dict := { s.dict with
            unlocked := s.dict.unlocked.filter (fun p => p != w.path) ++ [w.path] } }).setCause 15 5)
  else if key = 0x220001 then some (s.startDownload w.data)
  else if key = 0x2F3101 then
    let h := Config.firmwareHeader w.data
    some (if h.2.2 then s.download { version := h.1, security := h.2.1 % 65536, signed := true } else s)
  else none

/-- An entry with no meaning of its own takes the value. -/
def State.putEntry (s : State) (key : Nat) (data : List Byte) : State :=
  if entryBits key = 0 then s.setBlob key data else s.setReg key (leNat data)

/-- The budget or the capacity may rest on this entry (R21, R92). -/
def shapesBudget (key : Nat) : Bool := isPersisted key && between 0x2000 (key / 256) 0x2CFF

/-- Applies a write to an entry. What the budgets rest on follows at once (R21). -/
def State.applyEntry (s : State) (w : PendingWrite) : State :=
  let key := w.key
  let ix := key / 256
  let v := leNat w.data
  if between 0x3000 ix 0x5FFF then
    if s.exportRefusal key w.data ≠ 0 then s
    else match s.exportAt ix (key % 256) with
    | some x => (s.exportWrite x w.data).noteDirty ((List.range x.bytes).map (fun i => memKey x.area 0 (x.addr + i)))
    | none => s
  else
    let t := (s.dictApply w <|> s.resetApply w.path key w.data <|> s.digitalApply key v <|> s.analogApply key w.data <|>
      s.matrixApply key w.data <|> s.loopApply key v <|> s.imageApply key v <|> s.busApply key v <|> s.bookApply key w.data <|>
      s.timeApply key v <|> s.keeperApply key w.data <|> s.panelApply key w.data w.offset <|> s.pairApply key v).getD
        (s.putEntry key w.data)
    if shapesBudget key then t.refresh else t

/-- A write to this entry is superseded (R370). -/
def State.noteSupersede (s : State) (key : Nat) : State :=
  let n := min 0xFFFF (Sparse.get 0 s.dict.supersede key + 1)
  ((({ s with dict := { s.dict with supersede := Sparse.set 0 s.dict.supersede key n } }.count 0x2F6004).setReg 0x2F6007
    (key / 256 * 65536 + key % 256)).setReg 0x2F6008 s.tickNo).setCause 15 4

/-- Applies a write and answers it; `again` says that a later write to the entry follows at this point (R369, R370). -/
def State.applyWrite (s : State) (w : PendingWrite) (again : Bool) : State :=
  let code := s.lateRefusal w
  let s1 := s.applyEntry w
  if again then (s1.noteSupersede w.key).answer { path := w.path, key := w.key, code := 0x0F000010, tag := w.tag }
  else s1.answer { path := w.path, key := w.key, code := code, tag := w.tag }

/-- Applies the writes that wait for the closing point, one after another. -/
def State.drainClose (s : State) : Nat → State
  | 0 => s
  | n + 1 =>
    match s.dict.atClose with
    | [] => s
    | w :: rest =>
      State.drainClose ({ s with dict := { s.dict with atClose := rest } }.applyWrite w (rest.any (fun x => x.key == w.key))) n

/-- The entry that a P-area store reaches (R146). -/
def windowKey (x : Nat × Word) : Nat := lb (x.1 / 128) (0x1A + x.1 % 128 / 4)

/-- A P-area store reaches a field that takes stores; one to an RO field or a reserved byte has no effect (R146). -/
def windowTakes (x : Nat × Word) : Bool := decide (x.1 % 128 < 0x30) || x.1 % 128 == 0x3C

/-- Applies the P-area stores of the staking point before; one that a later store or write overrides is superseded (R147,
R369, R370). -/
def State.drainStores (s : State) (xs : List (Nat × Word)) : State :=
  match xs with
  | [] => s
  | x :: rest =>
    let lost := windowTakes x && (rest.any (fun y => windowKey y == windowKey x) || s.dict.atClose.any (fun w => w.key == windowKey x))
    let s1 := s.applyPStore x
    State.drainStores (if lost then s1.noteSupersede (windowKey x) else s1) rest

/-- The closing point applies stores, then writes; a forwarded write waits for the one that it names (R368, R369, R372). -/
def State.closeDictionary (s : State) : State :=
  let later (w : PendingWrite) : Bool := decide (s.tickNo < w.due)
  let now := s.dict.atClose.filter (fun w => !later w)
  let s1 := { s with tick := { s.tick with pStores := [] }, dict := { s.dict with atClose := now } }.drainStores s.tick.pStores
  let s2 := s1.drainClose s1.dict.atClose.length
  { s2 with dict := { s2.dict with atClose := s2.dict.atClose ++ s.dict.atClose.filter later } }

/-- Applies writes of a frame boundary, one after another. -/
def State.drainBoundary (s : State) (ws : List PendingWrite) : State :=
  match ws with
  | [] => s
  | w :: rest => State.drainBoundary (s.applyWrite w (rest.any (fun x => x.key == w.key))) rest

/-- A frame boundary applies the writes that wait for it; tick-shape entries only where the points keep their order (R41,
R479). -/
def State.boundaryDictionary (s : State) : State :=
  let ready (w : PendingWrite) : Bool := s.shapeOk || !tickShape.contains w.key
  let now := s.dict.atBoundary.filter ready
  ({ s with dict := { s.dict with atBoundary := s.dict.atBoundary.filter (fun w => !ready w) } }.drainBoundary now).refreshBudget

/-! ## Accepting a write (R362, R368, R372) -/

/-- A write to this entry waits for a frame boundary (R22, R368). -/
def waitsForBoundary (key : Nat) : Bool :=
  tickShape.contains key || ((entryOf (key / 256) (key % 256)).map (fun x => x.access)) == some .rwf

/-- A write to this entry acts when it is accepted (R121, R311, R389, R453). -/
def actsAtOnce (key : Nat) : Bool :=
  key == 0x2F6001 || key == 0x220001 || key == 0x2F3101 ||
    (between 0x2B00 (key / 256) 0x2BFF && ((entryOf (key / 256) (key % 256)).map (fun x => x.access)) == some .wo)

/-- The tick whose closing point a write accepted now belongs to (R23, R368). -/
def State.closingTick (s : State) : Nat := if s.tick.point = .d then s.tickNo else s.tickNo + 1

/-- The active forwards a write as it accepts it, with the tick of its closing point and its position in the order of R369; a
state command goes as a command frame (R26, R173, R372). -/
def State.forward (s : State) (w : PendingWrite) : State :=
  if w.path != Path.forwarded && s.forwardsWrite w.key then
    if w.key = 0x210002 then s.emit (.tieCommand (if leNat w.data = 1 then .run else .stop))
    else s.emit (.tieWrite w s.closingTick
      (if waitsForBoundary w.key then s.dict.atBoundary.length else s.dict.atClose.length))
  else s

/-- The host port executes a request (R382). -/
def State.executing (s : State) (path : Path) : State := if path = Path.host then s.setReg 0x2F6101 1 else s

/-- An accepted write: it acts now, or waits for its closing point or frame boundary. -/
def State.accept (s : State) (w : PendingWrite) : State :=
  let s1 := s.forward w
  if actsAtOnce w.key || !s.running then (s1.applyWrite w false).commandedReset
  else if waitsForBoundary w.key then
    let s2 := { s1 with dict := { s1.dict with atBoundary := s1.dict.atBoundary ++ [w] } }.executing w.path
    if shapesBudget w.key then s2.refresh else s2
  else { s1 with dict := { s1.dict with atClose := s1.dict.atClose ++ [w] } }.executing w.path

/-- Another transfer writes this entry (R371). -/
def State.inUse (s : State) (key : Nat) : Bool := s.dict.transfers.any (fun x => x.write && x.key == key)

/-- A write request: refused with the abort of its first failing check, or accepted (R366, R368, R371). -/
def State.submit (s : State) (w : PendingWrite) : State :=
  let code := firstCode [s.writeRefusal w, if s.inUse w.key then 0x0F000008 else 0]
  if code = 0 then s.accept w
  else (s.noteRefusal w.key code).answer { path := w.path, key := w.key, code := code, tag := w.tag }

/-- The module serves this path (R328, R343, R349, R362). -/
def State.serves (s : State) (p : Path) : Bool :=
  match p with
  | .can c => decide (c < 4) && s.running && s.canSends c && (s.protocol c == 1 || s.protocol c == 2)
  | .udp _ => s.running && (s.blockUp 8 || s.blockUp 9)
  | .host => s.rst.optionsRead && s.rst.progress.isNone && s.blockUp 12
  | .partner => s.tieUp && s.running
  | .forwarded => false

/-- A write that arrives on a path; a path that is not served gives no answer (R362). -/
def State.write (s : State) (path : Path) (key : Nat) (data : List Byte) : State :=
  if s.serves path then s.submit { path := path, key := key, data := data } else s

/-- The bytes of a value of an entry (R10). -/
def entrySize (key : Nat) : Nat := ((entryOf (key / 256) (key % 256)).bind (fun x => x.type.size)).getD 0

/-- A command that arrives on a path as a write. -/
def State.command (s : State) (path : Path) (key v : Nat) : State := s.write path key (leBytes (entrySize key) v)

end Sys2Proof.Machine
end

