-- ==== Sys2Proof/Machine/Paths.lean ====
section
/-! DEFINITION. The dictionary paths: transfers in segments, SDO, the UDP service, the host port, the partner path, forwarded
writes, guard, store, and the commands that reach the module as writes to its entries (R246, R276, R339, R352, R359 to R384). -/

namespace Sys2Proof.Machine

open Sys2Proof

/-! ## Transfers (R363, R365, R371) -/

/-- A transfer of a path. -/
def ofTransfer (path : Path) (tag key : Nat) (write : Bool) (x : Transfer) : Bool :=
  x.path == path && x.tag == tag && x.key == key && x.write == write

/-- The records that a completed read of a queue returned leave it; those that came since stay (R246, R276, R352). -/
def State.takeRead (s : State) (key : Nat) (bs : List Byte) : State :=
  let ix := key / 256
  if between 0x2C80 ix 0x2C84 && key % 256 == 10 then
    let r := s.srt (ix - 0x2C80)
    s.setSrt (ix - 0x2C80) { r with hostQ := (takeFitting (fun (x : Sentence) => x.bytes.length) bs.length r.hostQ).2 }
  else if key = 0x288002 then s.dropRecords ((List.range (bs.length / 16)).map (fun i => (bs.drop (16 * i)).take 16))
  else if key = 0x299002 then s.dropResponse bs
  else ((s.queueRead key).map (fun p => p.2)).getD s

/-- A read of `n` bytes from `start` on. A longer content is shown as it stood at the first segment, and the records of a
queue leave it with the last one (R365, R379, R382). The record views alone are copied as each segment is formed (R406). -/
def State.segmentRead (s : State) (path : Path) (tag key start n : Nat) : Except Nat (List Byte) × State :=
  match s.dict.transfers.find? (ofTransfer path tag key false), decide (0 < start) with
  | some x0, true =>
    let x := if key = 0x2D2001 ∨ key = 0x2D2002 then { x0 with data := s.contentOf key } else x0
    let s1 := s.dropTransfers (ofTransfer path tag key false)
    let s2 := if x.data.length ≤ start + n then s1.takeRead key x.data
      else { s1 with dict := { s1.dict with transfers := s1.dict.transfers ++ [{ x with next := start + n }] } }
    (.ok ((x.data.drop start).take n), s2)
  | _, _ =>
    match s.readEntry key with
    | (.error c, _) => (.error c, s)
    | (.ok bs, t) =>
      if bs.length ≤ start + n then (.ok ((bs.drop start).take n), t)
      else
        let x : Transfer := { path := path, key := key, write := false, data := bs, next := start + n, tag := tag }
        let s1 := s.dropTransfers (ofTransfer path tag key false)
        (.ok ((bs.drop start).take n), { s1 with dict := { s1.dict with transfers := s1.dict.transfers ++ [x] } })

/-- Answers a read. -/
def State.answerRead (s : State) (path : Path) (key tag : Nat) (r : Except Nat (List Byte)) : State :=
  match r with
  | .ok bs => s.answer { path := path, key := key, code := 0, data := bs, tag := tag }
  | .error c => s.answer { path := path, key := key, code := c, tag := tag }

/-- The abort of a first segment: every check that its data do not decide (R366, R371, R451). -/
def State.firstRefusal (s : State) (w : PendingWrite) : Nat :=
  let form := s.formRefusal w.key w.data w.offset
  firstCode [if form = 0x06070010 then 0 else form, s.roleRefusal w.path w.key w.data,
    if w.key = 0x220001 then s.downloadRefusal else 0, s.stateRefusal w.key,
    if isGuarded w.key && !s.dict.unlocked.contains w.path then 0x0F000003 else 0,
    if s.inUse w.key then 0x0F000008 else 0]

/-- The first segment of a longer write. The first byte of an image discards the bank's content (R121). -/
def State.openWrite (s : State) (w : PendingWrite) (session : Nat) : State :=
  let code := s.firstRefusal w
  if code ≠ 0 then (s.noteRefusal w.key code).answer { path := w.path, key := w.key, code := code, tag := w.tag }
  else
    let x : Transfer := { path := w.path, key := w.key, write := true, data := w.data, next := w.offset + w.data.length, tag := session }
    let s1 := { s with dict := { s.dict with transfers := s.dict.transfers ++ [x] } }
    let s2 := if w.key = 0x220001 then (s1.emptyBank s1.loadBank).setReg 0x220102 1 else s1
    s2.answer { path := w.path, key := w.key, code := 0, tag := w.tag }

/-- A further segment, which must follow the one before it (R379). -/
def State.continueWrite (s : State) (w : PendingWrite) (session : Nat) (last : Bool) : State :=
  match s.dict.transfers.find? (ofTransfer w.path session w.key true) with
  | none => s.answer { path := w.path, key := w.key, code := 0x05040001, tag := w.tag }
  | some x =>
    let s1 := s.dropTransfers (ofTransfer w.path session w.key true)
    if x.next ≠ w.offset then s1.answer { path := w.path, key := w.key, code := 0x05040001, tag := w.tag }
    else if last then s1.submit { w with data := x.data ++ w.data, offset := x.next - x.data.length }
    else
      let y : Transfer := { x with data := x.data ++ w.data, next := w.offset + w.data.length }
      let s2 := { s1 with dict := { s1.dict with transfers := s1.dict.transfers ++ [y] } }
      (if w.key = 0x220001 then s2.setReg 0x220102 1 else s2).answer { path := w.path, key := w.key, code := 0, tag := w.tag }

/-- A write in one or more segments; only the target plane is written from an offset on (R371, R379, R382). -/
def State.segmentWrite (s : State) (w : PendingWrite) (session : Nat) (last : Bool) : State :=
  let under := s.dict.transfers.any (ofTransfer w.path session w.key true)
  if 0 < w.offset && (under || w.key != 0x2E3001) then s.continueWrite w session last
  else if last then s.submit w else s.openWrite w session

/-- TRANSFER_IDLE_TIMEOUT (R363): a transfer idle for 1 s is aborted. -/
def execTransferIdleTimeout (path : Path) (s : State) : Result :=
  .next ((s.each (s.dict.transfers.filter (fun x => x.path == path))
    (fun t x => t.answer { path := path, key := x.key, code := 0x05040000, tag := x.tag })).dropTransfers (fun x => x.path == path))

/-! ## SDO (R363, R376) -/

/-- Reads an entry for a path that is served. -/
def State.readOn (s : State) (path : Path) (key : Nat) : State :=
  if s.serves path then
    let r := s.readEntry key
    r.2.answerRead path key 0 r.1
  else s

/-- SDO_UPLOAD_REQUEST (R363). -/
def execSdoUploadRequest (controller ix sub : Nat) (s : State) : Result :=
  whenValid (decide (controller < 4) && decide (ix < 65536) && decide (sub < 256)) s (s.readOn (.can controller) (keyOf ix sub))

/-- SDO_DOWNLOAD_REQUEST (R363). -/
def execSdoDownloadRequest (controller ix sub : Nat) (data : List Byte) (s : State) : Result :=
  whenValid (decide (controller < 4) && decide (ix < 65536) && decide (sub < 256)) s (s.write (.can controller) (keyOf ix sub) data)

/-- SDO_ABORT_TRANSFER (R363): the client ends its transfer; nothing is written. -/
def execSdoAbortTransfer (controller : Nat) (s : State) : Result :=
  whenValid (decide (controller < 4)) s (s.dropTransfers (fun x => x.path == .can controller))

/-- NMT_RESET_NODE (R376): reset cause bit 10. -/
def execNmtResetNode (node : Nat) (s : State) : Result :=
  whenValid (decide (node < 128)) s (if s.nmtHere node then s.raise 10 else s)

/-- NMT_RESET_COMMUNICATION (R376): reset cause bit 11. -/
def execNmtResetCommunication (node : Nat) (s : State) : Result :=
  whenValid (decide (node < 128)) s (if s.nmtHere node then s.raise 11 else s)

/-! ## The UDP service (R379, R380) -/

/-- The transaction of a datagram: its number and source port. -/
def udpSession (h : UdpHeader) : Nat := h.transaction * 65536 + h.port

/-- The request of a datagram. -/
def udpTag (h : UdpHeader) (write : Bool) : Nat := udpTagOf h.transaction h.port h.offset h.flags write

/-- A datagram is taken: magic, version, checksum, a plant port with an address. -/
def State.hearsUdp (s : State) (h : UdpHeader) : Bool :=
  s.running && decide (h.plantPort < 2) && s.blockUp (8 + h.plantPort) && h.magic == 0x5A44 && h.version == 1 && h.checksum != 0 &&
    s.reg (if h.plantPort = 0 then 0x2F6201 else 0x2F6204) != 0

/-- The transaction is open. -/
def State.udpOpen (s : State) (h : UdpHeader) : Bool :=
  s.dict.transfers.any (fun x => x.path == .udp h.source && x.tag == udpSession h) ||
    (s.dict.atClose ++ s.dict.atBoundary).any (fun w => w.path == .udp h.source && w.tag / 2 ^ 25 == udpSession h) ||
    s.dict.relayed.any (fun w => w.path == .udp h.source && w.tag / 2 ^ 25 == udpSession h)

/-- A request for the partner is relayed where the tie link is up (R362, R373). -/
def State.relay (s : State) (path : Path) (key tag : Nat) (write : Option (List Byte)) : State :=
  if s.tieUp then
    { s with dict := { s.dict with relayed := s.dict.relayed ++ [({ path := path, key := key, tag := tag } : Relayed)] } }.emit
      (.tieRequest path key write)
  else s.answer { path := path, key := key, code := 0x0F000009, tag := tag }

/-- A datagram: discarded, answered again, turned away at the session limit, relayed, or served. -/
def State.udpRequest (s : State) (h : UdpHeader) (write : Option (List Byte)) (serve : State → State) : State :=
  let path : Path := .udp h.source
  if !s.hearsUdp h then s
  else match s.recentUdp.find? (fun x => x.reply.path == path && x.reply.tag / 512 == udpTag h false / 512) with
    | some x => s.sendReply x.reply
    | none =>
      if !s.udpOpen h && decide (8 ≤ s.sessions) then
        (s.answer { path := path, key := keyOf h.index h.sub, code := 0x0F000014
                    tag := udpTag h write.isSome }).setCause 15 7
      else if h.flags.testBit 0 then s.relay path (keyOf h.index h.sub) (udpTag h write.isSome) write
      else serve s

/-- UDP_READ (R379). -/
def execUdpRead (header : UdpHeader) (s : State) : Result :=
  whenValid (decide (header.index < 65536) && decide (header.sub < 256)) s
    (s.udpRequest header none (fun t =>
      let r := t.segmentRead (.udp header.source) (udpSession header) (keyOf header.index header.sub) (1440 * header.offset) 1440
      r.2.answerRead (.udp header.source) (keyOf header.index header.sub) (udpTag header false) r.1))

/-- UDP_WRITE (R379). -/
def execUdpWrite (header : UdpHeader) (data : List Byte) (s : State) : Result :=
  whenValid (decide (header.index < 65536) && decide (header.sub < 256) && decide (data.length ≤ 1440)) s
    (s.udpRequest header (some data) (fun t =>
      t.segmentWrite { path := .udp header.source, key := keyOf header.index header.sub, data := data, tag := udpTag header true
                       offset := 1440 * header.offset }
        (udpSession header) (header.flags.testBit 1 || decide (data.length < 1440))))

/-! ## The host port (R381 to R384) -/

/-- The bytes of a request frame before its CRC. -/
def hostFrameBytes (command : Nat) (f : HostFrame) (data : List Byte) : List Byte :=
  leBytes 1 command ++ leBytes 1 f.sequence ++ leBytes 2 f.index ++ leBytes 1 f.sub ++ leBytes 1 f.flags ++ leBytes 2 f.length ++
    leBytes 4 f.offset ++ data

/-- A host request is under way: a write that waits, or a request that the partner has not answered (R384). -/
def State.hostBusy (s : State) : Bool :=
  (s.dict.atClose ++ s.dict.atBoundary).any (fun w => w.path == Path.host) || s.dict.relayed.any (fun x => x.path == Path.host)

/-- A frame that fails its CRC (R383). -/
def State.hostCrcFail (s : State) : State := ((s.setReg 0x2F6101 3).count 0x2F600A).setCause 15 1

/-- A request frame: its CRC, then the one request that the port holds (R383, R384). -/
def State.hostRequest (s : State) (f : HostFrame) (good : Bool) (write : Option (List Byte)) (serve : State → State) : State :=
  if !s.serves .host then s
  else if !good then s.hostCrcFail
  else if s.hostBusy then (s.setReg 0x2F6101 4).count 0x2F6103
  else
    let s1 := ({ s with dict := { s.dict with hostReply := none } }.setReg 0x2F6102 f.sequence).setReg 0x2F6101 1
    if f.flags.testBit 0 then s1.relay .host (keyOf f.index f.sub) f.sequence write else serve s1

/-- Fields of a host frame that fit their places. -/
def hostFrameOk (f : HostFrame) : Bool :=
  decide (f.sequence < 256) && decide (f.index < 65536) && decide (f.sub < 256) && decide (f.length ≤ 4096)

/-- HOST_READ (R382). -/
def execHostRead (frame : HostFrame) (s : State) : Result :=
  whenValid (hostFrameOk frame) s
    (s.hostRequest frame (frame.crc == crc16 (hostFrameBytes 1 frame [])) none (fun t =>
      let r := t.segmentRead .host 0 (keyOf frame.index frame.sub) frame.offset (if frame.length = 0 then 4096 else frame.length)
      r.2.answerRead .host (keyOf frame.index frame.sub) frame.sequence r.1))

/-- HOST_WRITE (R382). The CRC is sought behind the bytes that the length names, so a length that the data do not have fails
it. -/
def execHostWrite (frame : HostFrame) (data : List Byte) (s : State) : Result :=
  whenValid (hostFrameOk frame) s
    (s.hostRequest frame (frame.length == data.length && frame.crc == crc16 (hostFrameBytes 2 frame data)) (some data) (fun t =>
      t.segmentWrite { path := .host, key := keyOf frame.index frame.sub, data := data, tag := frame.sequence, offset := frame.offset } 0
        (frame.flags.testBit 1 || decide (data.length < 4096))))

/-- Drives a response frame: sequence, kind, length, status, data, CRC (R382). -/
def State.driveHost (s : State) (sequence kind status : Nat) (data : List Byte) : State :=
  let bs := leBytes 1 sequence ++ leBytes 1 kind ++ leBytes 2 data.length ++ leBytes 4 status ++ data
  s.emit (.hostFrame (bs ++ leBytes 2 (crc16 bs)))

/-- HOST_FETCH_RESPONSE (R384): the held response, or kind 0x00. -/
def execHostFetchResponse (sequence crc : Nat) (s : State) : Result :=
  whenValid (decide (sequence < 256)) s
    (if !s.serves .host then s
     else if crc ≠ crc16 (leBytes 1 3 ++ leBytes 1 sequence) then s.hostCrcFail
     else match s.dict.hostReply with
       | some r => if r.tag = sequence then s.driveHost sequence 1 r.code r.data else s.driveHost sequence 0 0 []
       | none => s.driveHost sequence 0 0 [])

/-- HOST_STATUS_POLL (R382, R384): a state of 0x04 gives way to what the port is doing. -/
def execHostStatusPoll (sequence crc : Nat) (s : State) : Result :=
  whenValid (decide (sequence < 256)) s
    (if !s.serves .host then s
     else if crc ≠ crc16 (leBytes 1 4 ++ leBytes 1 sequence) then s.hostCrcFail
     else
       let s1 := s.driveHost sequence 2 0 (leBytes 1 (s.reg 0x2F6101) ++ leBytes 1 (s.reg 0x2F6102) ++ leBytes 2 0)
       if s.reg 0x2F6101 = 4 then s1.setReg 0x2F6101 (if s.hostBusy then 1 else if s.dict.hostReply.isSome then 2 else 0) else s1)

/-! ## Partner and forwarded writes (R362, R372) -/

/-- PARTNER_REQUEST (R362). -/
def execPartnerRequest (ix sub : Nat) (write : Option (List Byte)) (s : State) : Result :=
  whenValid (decide (ix < 65536) && decide (sub < 256)) s
    (match write with
     | some data => s.write .partner (keyOf ix sub) data
     | none => s.readOn .partner (keyOf ix sub))

/-- Forwarded writes stand in the order of their positions (R372). -/
def insertForwarded (w : PendingWrite) (l : List PendingWrite) : List PendingWrite :=
  match l with
  | [] => [w]
  | x :: t => if x.path = Path.forwarded ∧ w.tag < x.tag then w :: x :: t else x :: insertForwarded w t

/-- WRITE_FORWARD_FRAME (R372): applied at the named closing point in the stated order. -/
def execWriteForwardFrame (ix sub : Nat) (data : Framed (List Byte)) (position : ForwardPlace) (s : State) : Result :=
  whenValid (decide (ix < 65536) && decide (sub < 256)) s
    (s.tieFrame data.failed true (fun t =>
      let w : PendingWrite :=
        { path := .forwarded, key := keyOf ix sub, data := data.content, tag := position.position, due := position.closing }
      if !t.standbyRefuses w.key then t
      else if waitsForBoundary w.key then
        { t with dict := { t.dict with atBoundary := insertForwarded w t.dict.atBoundary } }.refresh
      else { t with dict := { t.dict with atClose := insertForwarded w t.dict.atClose } }))

/-! ## Guard and store (R359, R374) -/

/-- GUARD_WINDOW_EXPIRY (R374). -/
def execGuardWindowExpiry (path : Path) (s : State) : Result :=
  .next (if s.dict.unlocked.contains path then
    { s with dict := { s.dict with unlocked := s.dict.unlocked.filter (fun p => p != path) } }.setCause 15 6
  else s)

/-- STORE_COMPLETE (R359): the new generation stands, or the previous one stays in force. -/
def execStoreComplete (success : Bool) (s : State) : Result :=
  .next (match s.dict.storing with
    | none => s
    | some g =>
      if success then ({ s with dict := { s.dict with storing := none, generation := some g } }.setReg 0x2F600B 0).setCause 15 2
      else ({ s with dict := { s.dict with storing := none } }.setReg 0x2F600B 2).setCause 15 3)

/-! ## Writes and reads by name -/

/-- DICTIONARY_WRITE (R368). -/
def execDictionaryWrite (path : Path) (ix sub : Nat) (data : List Byte) (s : State) : Result :=
  whenValid (decide (ix < 65536) && decide (sub < 256)) s (s.write path (keyOf ix sub) data)

/-- STATE_COMMAND_RUN (R82). -/
def execStateCommandRun (path : Path) (s : State) : Result := .next (s.command path 0x210002 1)

/-- STATE_COMMAND_STOP (R81). -/
def execStateCommandStop (path : Path) (s : State) : Result := .next (s.command path 0x210002 2)

/-- MATRIX_WRITE (R102). -/
def execMatrixWrite (path : Path) (data : List Byte) (s : State) : Result := .next (s.write path 0x213001 data)

/-- RESET_EFFECT (R111). -/
def execResetEffect (path : Path) (effect : Nat) (s : State) : Result :=
  whenValid (decide (effect < 65536)) s (s.command path 0x21300A effect)

/-- BYPASS_COMMAND (R110). -/
def execBypassCommand (path : Path) (data : List Byte) (s : State) : Result := .next (s.write path 0x21300B data)

/-- IMAGE_DOWNLOAD (R121). -/
def execImageDownload (path : Path) (data : List Byte) (s : State) : Result := .next (s.write path 0x220001 data)

/-- COLD_ACTIVATION (R124). -/
def execColdActivation (path : Path) (s : State) : Result := .next (s.command path 0x220101 1)

/-- ONLINE_EXCHANGE (R127). -/
def execOnlineExchange (path : Path) (s : State) : Result := .next (s.command path 0x220101 2)

/-- EXCHANGE_ABORT (R136). -/
def execExchangeAbort (path : Path) (s : State) : Result := .next (s.command path 0x220101 3)

/-- ERASE_INACTIVE_BANK (R138). -/
def execEraseInactiveBank (path : Path) (s : State) : Result := .next (s.command path 0x220101 4)

/-- LOOP_STATUS_CLEAR (R148). -/
def execLoopStatusClear (path : Path) (block value : Nat) (s : State) : Result :=
  whenValid (decide (block < 128) && decide (value < 2 ^ 32)) s (s.command path (lb block 0x29) value)

/-- PLANNED_SWITCH_OVER (R195). -/
def execPlannedSwitchOver (path : Path) (s : State) : Result := .next (s.command path (pr 0x12) 1)

/-- CANCEL_SWITCH_OVER (R195). -/
def execCancelSwitchOver (path : Path) (s : State) : Result := .next (s.command path (pr 0x12) 2)

/-- LEAVE_NOT_READY (R171). -/
def execLeaveNotReady (path : Path) (s : State) : Result := .next (s.command path (pr 0x12) 3)

/-- ENTER_NOT_READY (R171). -/
def execEnterNotReady (path : Path) (s : State) : Result := .next (s.command path (pr 0x12) 4)

/-- START_RESYNCHRONISATION (R191). -/
def execStartResynchronisation (path : Path) (s : State) : Result := .next (s.command path (pr 0x12) 5)

/-- CLEAR_OT_LATCHED (R243). -/
def execClearOtLatched (path : Path) (channel : Nat) (s : State) : Result :=
  whenValid (decide (channel < 64)) s (s.command path (dch channel 0xC) 1)

/-- CLEAR_SLICE_OC (R242). -/
def execClearSliceOc (path : Path) (slice : Nat) (s : State) : Result :=
  whenValid (decide (slice < 8)) s (s.command path (dsl slice 6) 1)

/-- CLEAR_SLICE_OT_LATCHED (R250). -/
def execClearSliceOtLatched (path : Path) (slice : Nat) (s : State) : Result :=
  whenValid (decide (slice < 8)) s (s.command path (dsl slice 6) 2)

/-- SOE_QUEUE_READ (R246). -/
def execSoeQueueRead (path : Path) (s : State) : Result := .next (s.readOn path 0x288002)

/-- SOE_QUEUE_DISCARD (R252). -/
def execSoeQueueDiscard (path : Path) (s : State) : Result := .next (s.command path 0x288005 1)

/-- HART_REQUEST (R274). -/
def execHartRequest (path : Path) (data : List Byte) (s : State) : Result := .next (s.write path 0x299001 data)

/-- HART_RESPONSE_READ (R276). -/
def execHartResponseRead (path : Path) (s : State) : Result := .next (s.readOn path 0x299002)

/-- HART_ABORT (R277). -/
def execHartAbort (path : Path) (channel : Nat) (s : State) : Result :=
  whenValid (decide (channel < 256)) s (s.command path 0x299004 channel)

/-- TIME_UNIT_RESET (R293). -/
def execTimeUnitReset (path : Path) (s : State) : Result := .next (s.command path 0x2A010F 1)

/-- CALENDAR_SET (R309). -/
def execCalendarSet (path : Path) (data : List Byte) (s : State) : Result := .next (s.write path 0x2B1002 data)

/-- CALENDAR_CAPTURE (R315). -/
def execCalendarCapture (path : Path) (s : State) : Result := .next (s.command path 0x2B1003 1)

/-- WAKE_ACKNOWLEDGE (R319). -/
def execWakeAcknowledge (path : Path) (s : State) : Result := .next (s.command path 0x2B1101 1)

/-- START_BUS_OFF_RECOVERY (R332). -/
def execStartBusOffRecovery (path : Path) (controller : Nat) (s : State) : Result :=
  whenValid (decide (controller < 4)) s (s.command path (cc controller 0x1C) 1)

/-- DISCARD_TRANSMIT_QUEUE (R356). -/
def execDiscardTransmitQueue (path : Path) (controller : Nat) (s : State) : Result :=
  whenValid (decide (controller < 4)) s (s.command path (cc controller 0x1C) 2)

/-- CAN_WINDOW_READ (R339). -/
def execCanWindowRead (path : Path) (controller queue : Nat) (s : State) : Result :=
  whenValid (decide (controller < 4) && decide (queue < 2)) s (s.readOn path (cw controller (queue + 1)))

/-- RELEASE_RXQ0 (R339). -/
def execReleaseRxq0 (path : Path) (controller : Nat) (s : State) : Result :=
  whenValid (decide (controller < 4)) s (s.command path (cw controller 3) 1)

/-- RELEASE_RXQ1 (R339). -/
def execReleaseRxq1 (path : Path) (controller : Nat) (s : State) : Result :=
  whenValid (decide (controller < 4)) s (s.command path (cw controller 3) 2)

/-- SENTENCE_QUEUE_READ (R352). -/
def execSentenceQueueRead (path : Path) (port : Nat) (s : State) : Result :=
  whenValid (decide (port < 5)) s (s.readOn path (sp port 0xA))

/-- STORE_PARAMETERS_ALL (R359). -/
def execStoreParametersAll (path : Path) (s : State) : Result := .next (s.command path 0x101001 0x65766173)

/-- STORE_PARAMETERS_COMMUNICATION (R359). -/
def execStoreParametersCommunication (path : Path) (s : State) : Result := .next (s.command path 0x101002 0x65766173)

/-- STORE_PARAMETERS_APPLICATION (R359). -/
def execStoreParametersApplication (path : Path) (s : State) : Result := .next (s.command path 0x101003 0x65766173)

/-- RESTORE_DEFAULTS_ALL (R360). -/
def execRestoreDefaultsAll (path : Path) (s : State) : Result := .next (s.command path 0x101101 0x64616F6C)

/-- RESTORE_DEFAULTS_COMMUNICATION (R360). -/
def execRestoreDefaultsCommunication (path : Path) (s : State) : Result := .next (s.command path 0x101102 0x64616F6C)

/-- RESTORE_DEFAULTS_APPLICATION (R360). -/
def execRestoreDefaultsApplication (path : Path) (s : State) : Result := .next (s.command path 0x101103 0x64616F6C)

/-- GUARD_UNLOCK (R374). -/
def execGuardUnlock (path : Path) (s : State) : Result := .next (s.command path 0x2F6001 0x5A584755)

/-- GUARD_RELOCK (R374). -/
def execGuardRelock (path : Path) (s : State) : Result := .next (s.command path 0x2F6001 0)

/-- CAUSE_CLEAR (R386). -/
def execCauseClear (path : Path) (group bits : Nat) (s : State) : Result :=
  whenValid (between 1 group 15 && decide (bits < 2 ^ 32)) s (s.command path (keyOf (0x2F40 + group) 1) bits)

/-- RECORD_RESTART (R405). -/
def execRecordRestart (path : Path) (code : Nat) (s : State) : Result :=
  whenValid (decide (code < 65536)) s (s.command path 0x2D2003 code)

/-- RECTANGLE_REQUEST (R422). -/
def execRectangleRequest (path : Path) (data : List Byte) (s : State) : Result := .next (s.write path 0x2E2001 data)

/-- DISCARD_QUEUED_REQUESTS (R426). -/
def execDiscardQueuedRequests (path : Path) (s : State) : Result := .next (s.command path 0x2E2002 1)

/-- PANEL_ENABLE (R426). -/
def execPanelEnable (path : Path) (value : Nat) (s : State) : Result :=
  whenValid (decide (value < 256)) s (s.command path 0x2E0001 value)

/-- WAVEFORM_TABLE_WRITE (R419). -/
def execWaveformTableWrite (path : Path) (data : List Byte) (s : State) : Result := .next (s.write path 0x2E1001 data)

/-- RESET_NODE_COMMAND (R437). -/
def execResetNodeCommand (path : Path) (s : State) : Result := .next (s.command path 0x2F0101 1)

/-- RESET_COMMUNICATION_COMMAND (R437). -/
def execResetCommunicationCommand (path : Path) (s : State) : Result := .next (s.command path 0x2F0101 2)

/-- BLOCK_RESET_COMMAND (R440). -/
def execBlockResetCommand (path : Path) (block : Nat) (s : State) : Result :=
  whenValid (decide (block < 256)) s (s.command path 0x2F0212 block)

/-- CLEAR_FAILED_START_COUNTER (R446). -/
def execClearFailedStartCounter (path : Path) (s : State) : Result := .next (s.command path 0x2F0308 1)

/-- ENTER_BENCHMARK_REQUEST (R447). -/
def execEnterBenchmarkRequest (path : Path) (s : State) : Result := .next (s.command path 0x2F0308 2)

/-- LEAVE_BENCHMARK_MARK (R450). -/
def execLeaveBenchmarkMark (path : Path) (s : State) : Result := .next (s.command path 0x2F0308 3)

/-- OPTION_BLOCK_WRITE (R444). -/
def execOptionBlockWrite (path : Path) (data : List Byte) (s : State) : Result := .next (s.write path 0x2F1001 data)

/-- RESET_MAP_PROGRAMMING (R434). -/
def execResetMapProgramming (path : Path) (data : List Byte) (s : State) : Result := .next (s.write path 0x2F2011 data)

/-- OWNER_KEY_HASH_PROGRAMMING (R451). -/
def execOwnerKeyHashProgramming (path : Path) (data : List Byte) (s : State) : Result := .next (s.write path 0x2F3003 data)

/-- DEBUG_KEY_HASH_PROGRAMMING (R451). -/
def execDebugKeyHashProgramming (path : Path) (data : List Byte) (s : State) : Result := .next (s.write path 0x2F3005 data)

/-- LIFECYCLE_FIELD (R452). -/
def execLifecycleField (path : Path) (s : State) : Result := .next (s.command path 0x2F3006 0x46494C45)

/-- LIFECYCLE_RETIRE (R452). -/
def execLifecycleRetire (path : Path) (s : State) : Result := .next (s.command path 0x2F3006 0x52455449)

/-- FIRMWARE_DOWNLOAD (R453): the copy that is not running, verified when its last byte arrives. An unsigned copy is refused
and leaves the flash as it is. -/
def execFirmwareDownload (path : Path) (copy : FirmwareCopy) (s : State) : Result :=
  .next (if s.serves path then
    let code := firstCode [s.writeRefusal { path := path, key := 0x2F3101, data := [] }, if s.inUse 0x2F3101 then 0x0F000008 else 0,
      if copy.signed then 0 else 0x06090030]
    (if code = 0 then s.download { copy with security := copy.security % 65536 } else s).answer
      { path := path, key := 0x2F3101, code := code }
  else s)

/-- PREFER_OTHER_COPY (R453). -/
def execPreferOtherCopy (path : Path) (s : State) : Result := .next (s.command path 0x2F3107 1)

/-- RAISE_SECURITY_VERSION (R453). -/
def execRaiseSecurityVersion (path : Path) (s : State) : Result := .next (s.command path 0x2F3107 2)

/-- DEBUG_RESPONSE (R455). -/
def execDebugResponse (path : Path) (data : List Byte) (s : State) : Result := .next (s.write path 0x2F3202 data)

end Sys2Proof.Machine
end

