-- ==== Sys2Proof/Machine/Tick.lean ====
section
/-! DEFINITION. The points of a tick: datum edge, closing point, compute start, staking point, closure point, with the frame
boundary and the absorption of a time-scale step (R13 to R44, R86 to R99, R446). -/

namespace Sys2Proof.Machine

open Sys2Proof

/-! ## Counting (R15, R32, R35, R40) -/

/-- The first multiple of the tick period at or after a time (R32). -/
def State.multipleFrom (s : State) (ns : Nat) : Nat := ceilDiv ns (s.tD * 1000) * (s.tD * 1000)

/-- The coming datum edge returns the tick-in-frame count to 0 (R40). -/
def State.boundaryNext (s : State) : Bool := decide (s.reg 0x200002 ≤ s.reg 0x200103 + 1)

/-- The tick number of the coming datum edge. -/
def State.edgeTick (s : State) : Nat :=
  if s.tick.started && !s.tick.boundaryDone then s.tickNo + 1 else s.tickNo

/-- The tick, frame and tick-in-frame counts move (R15, R40). -/
def State.countTick (s : State) : State :=
  let s1 := s.setReg 0x200101 (s.tickNo + 1)
  if s.boundaryNext then (s1.setReg 0x200103 0).setReg 0x200102 (s.reg 0x200102 + 1)
  else s1.setReg 0x200103 (s.reg 0x200103 + 1)

/-! ## The frame boundary (R41, R42, R446) -/

/-- A complete frame in the steady state clears the failed-start counter (R446). `length` is the frame's. -/
def State.endFrame (s : State) (length : Nat) : State :=
  let s1 := if s.steady && s.reg 0x2F0305 == length then s.setKeeper 0x2B2002 0 else s
  s1.setReg 0x2F0305 0

/-- Step 1 of R41: every statistic is latched, and the frame named (R42, R43). -/
def State.latchFrame (s : State) (frame : Nat) : State :=
  let n := s.reg 0x200002
  let s1 := (((s.endFrame n).setReg 0x20200D frame).setReg 0x20200E n).latchAll
  s1.setCause 2 3

/-- Steps 2 to 4 of R41: writes and tick shape, with the matrix that waits; returning outstations; a prepared bank. The
book's samples of the boundary enter the records that changed descriptors restarted (R396). -/
def State.boundaryChanges (s : State) : State :=
  let s2 := s.boundaryDictionary.sampleFrame.refresh.matrixBoundary
  s2.chainBoundary.coldBoundary.exchangeBoundary.refresh

/-- The counts of the coming datum edge and, where it is a frame boundary, steps 1 to 4 of R41. The records of the tick
before enter the error queue first (R89). -/
def State.beginTick (s : State) : State :=
  let s1 := s.queueErrors.adoptCounts
  if s1.boundaryNext then
    let s2 := (s1.countTick.latchFrame (s1.reg 0x200102)).boundaryChanges
    { s2 with tick := { s2.tick with boundaryDone := true } }
  else s1.countTick

/-- FRAME_BOUNDARY (R41): the datum edge that follows takes its counts from here, and makes step 5, past its release. -/
def execFrameBoundary (s : State) : Result :=
  .next (if s.running && s.tick.started && !s.tick.boundaryDone && s.queueErrors.adoptCounts.boundaryNext then s.beginTick
    else s)

/-! ## The step (R35, R36) -/

/-- A step that is pending and not held is applied for the coming datum edge (R35). After it the controller sends no chain
Sync until T_D has passed from the stepped edge (R298). -/
def State.absorb (s : State) : State :=
  match s.tick.stepPending with
  | some a =>
    if s.tick.stepHeld || !s.tick.started then s
    else
      let s1 := (s.applyStep a).setReg 0x2A010D s.edgeTick
      let at_ := ((s.tick.nextNs : Int) + a).toNat
      { s1 with
        tick := { s1.tick with nextNs := at_, stepNow := true }
        time := { s1.time with syncBarNs := at_ + s.tD * 1000, ppsSecond := at_ / 1000000000 } }
  | none => s

/-- STEP_ABSORBED (R35). -/
def execStepAbsorbed (s : State) : Result := .next (if s.running then s.absorb else s)

/-! ## The datum edge (R16, R17, R29 to R35) -/

/-- The counters of a tick that a step stretches (R35, R388). -/
def State.countStretch (s : State) : State :=
  if s.tick.stretched then (((s.count 0x200105).count 0x200106).count 0x202007).setCause 2 1 else s

/-- Whether the datum edge is synchronised (R33), with what follows when it is not (R34, R91, R388). -/
def State.judgeSync (s : State) : State :=
  let on := s.tu == tuLocked && decide ((s.regI 0x2A0103).natAbs ≤ s.reg 0x200006)
  let s1 := { s with tick := { s.tick with syncNow := on } }.setReg 0x200104 (if on then 1 else 0)
  if on then s1
  else
    let s2 := s1.count 0x202001
    if s.tick.syncNow then (s2.recordError 6 0 0).setCause 2 0 else s2

/-- The instant of the datum edge and of the next one: the first multiple of T_D at least T_D on (R29, R32, R35). -/
def State.placeEdge (s : State) (stageError : Nat) : State :=
  let at_ := if s.tick.started then s.tick.nextNs else s.multipleFrom s.tick.nowNs
  let step := s.tick.stepNow
  ({ s with tick := { s.tick with
    point := .d, started := true, datumNs := at_, nowNs := at_, nextNs := s.multipleFrom (at_ + s.tD * 1000)
    stepped := step, stretched := step, stepNow := false
    prevReleased := s.tick.released, stageError := stageError } }).countStretch.judgeSync

/-- Field inputs are latched before the outputs of the edge change (R17). -/
def State.latchInputs (s : State) (field : FieldSample) (previousNs : Nat) : State :=
  let s1 := s.each (List.range 8) (fun t k => t.setReg (dsl k 3) (field.current.getD k 0).toNat)
  let s2 := s1.each (List.range 64) (fun t n => t.setReg (dch n 0xD) (field.terminal.getD n 0).toNat)
  ((s2.latchDigital previousNs).latchAnalog field).sampleEdge

/-- Staked outputs that hold a token take effect, locally, on the chain and on the buses (R16, R18, R341). -/
def State.releaseEdge (s : State) (cooled : Nat) : State :=
  if s.outstation then s.outstationEdge cooled
  else
    let token := s.tick.token
    let s1 := ((s.releaseOutputs cooled).chainRelease token).busesAtD token
    { s1 with tick := { s1.tick with token := false } }

/-- Ticks of the frame spent in the steady state (2F03.05, R446). -/
def State.countSteady (s : State) : State := if s.steady then s.count 0x2F0305 else s

/-- What leaves at a datum edge, past the release: the role handed over at a boundary, the traverse frame, the role status
frame, HART requests (R16, R41 step 5, R175, R272). -/
def State.edgeEnd (s : State) : State :=
  let s1 := if s.tick.boundaryDone then { s with tick := { s.tick with boundaryDone := false } }.pairBoundary else s
  let s2 := s1.chainAtD
  let s3 := if s2.inPair then s2.sendStatus else s2
  (s3.each (List.range 16) State.hartEdge).countSteady

/-- A datum edge. The one that ends SELF-TEST carries tick number 0 and is no frame boundary (R14, R40). -/
def State.datumEdge (s : State) (field : FieldSample) : State :=
  let previous := s.tick.datumNs
  let s1 := if !s.running then s.endSelfTest.refresh
    else
      let t := s.absorb
      if t.tick.started && !t.tick.boundaryDone then t.beginTick else t
  let s2 := (s1.placeEdge field.stageError).latchInputs field previous
  (s2.pairAtD.releaseEdge field.cooled).edgeEnd

/-- DATUM_EDGE (R16). -/
def execDatumEdge (field : FieldSample) (s : State) : Result :=
  .next (if s.running || s.startReady then s.datumEdge field else s)

/-! ## Closing point and compute start -/

/-- A point of the tick at its offset from the datum edge (R16). -/
def State.atPoint (s : State) (p : Point) (ns : Nat) : State :=
  { s with tick := { s.tick with point := p, nowNs := max s.tick.nowNs (s.tick.datumNs + ns) } }

/-- CLOSING_POINT (R16): writes take effect, the image is closed and shipped; a reset command then starts (R437). -/
def execClosingPoint (s : State) : Result :=
  .next (if s.running then
    ((s.atPoint .c (s.reg 0x200003 * 1000)).closeDictionary.closeImage.pairAtC).commandedReset
  else s)

/-- A mismatch that a checking engine found in the tick: 0 to 14 a scan pair, 15 the witness pair; 16 + n at loop block n
acts with the samples (R80, R142). The witness pair is compared at its END and stops at the staking point (R98). -/
def State.noteMismatch (s : State) (pair : Nat) : State :=
  if pair < 15 then (if (s.engine pair).running.isSome then s.pairMismatch pair else s)
  else if pair = 15 then
    if s.mtx.stopped then s else { s with mtx := { s.mtx with mismatch := true } }.count 0x210110
  else s

/-- The work of a tick that the unit computes: tasks and loops in RUN, the safety matrix in every state (R86 to R90, R108,
R140, R448). -/
def State.compute (s : State) (faults : List Nat) : State :=
  let s1 := if s.mode = stRun then s.startTasks.sampleLoops faults else s
  s1.evaluateMatrix.each faults State.noteMismatch

/-- COMPUTE_START (R16). `faults` names the engine pairs 0 to 15, and by 16 + n the loop blocks n, whose comparison fails in
this tick. -/
def execComputeStart (faults : List Nat) (s : State) : Result :=
  whenValid (faults.all (fun p => decide (p < 144))) s
    (if s.running && !s.outstation then
      let s1 := (s.atPoint .x (s.reg 0x200107)).pairAtX
      let s2 := { s1 with pair := { s1.pair with mismatches := [] } }
      (if s2.pair.computed then s2.compute faults else s2).backgroundCopy
    else s)

/-! ## The staking point (R57, R95 to R99, R134, R195) -/

/-- Cycles from X to the pair's last END of the tick; 0 where none executed END. -/
def State.endCycles (s : State) (p : Nat) : Nat :=
  let e := s.engine p
  if e.running.isSome then e.cycles - e.actCycles else e.cycles

/-- S minus a task end, in ns: 1.25 ns per cycle (R59, 2020.09). -/
def State.slackNs (s : State) (cycles : Nat) : Nat := s.reg 0x200004 * 1000 - s.reg 0x200107 - ceilDiv (5 * cycles) 4

/-- The pairs whose activations of the tick all ended. -/
def State.finished (s : State) : List Nat :=
  (List.range 15).filter (fun p => decide (0 < s.endCycles p) && (s.unfinished p).isEmpty)

/-- The minimum slack of the tick over all pairs; none where no task ended. -/
def State.tickSlack (s : State) : Option Nat :=
  s.finished.foldl (fun m p => some (match m with
    | none => s.slackNs (s.endCycles p)
    | some x => min x (s.slackNs (s.endCycles p)))) none

/-- The level book's samples at S of what the engines did: compute times, witness cycles, slack (R391). -/
def State.sampleTick (s : State) : State :=
  let s1 := s.sampleNat 0xF s.witnessLoad
  if s.mode ≠ stRun then s1
  else
    let ran := (List.range 15).filter (fun p => decide (0 < s.endCycles p))
    let s2 := s1.each ran (fun t p => t.sampleNat p (s.endCycles p))
    match s.tickSlack with
    | some x => (s2.minReg 0x202009 x).sampleNat 0x10 x
    | none => s2

/-- The level book's integrator codes at S of a RUN tick, over the stores of the tick as committed (R394). -/
def State.sampleWords (s : State) : State := if s.mode = stRun && s.bookRuns then s.sampleSources else s

/-- The faults found at a staking point. -/
structure TickFaults where
  overruns : List (Nat × Nat) := []
  mismatch : Bool := false
  witness  : Bool := false
  deriving DecidableEq, Repr

/-- Overruns and application mismatches of a RUN tick that the unit computed, and a witness mismatch not yet acted on. -/
def State.tickFaults (s : State) : TickFaults :=
  let ran := s.mode == stRun && s.pair.computed
  { overruns := if ran then s.overruns else []
    mismatch := ran && s.anyMismatch
    witness := s.mtx.mismatch && !s.mtx.stopped }

/-- A fault was found. -/
def TickFaults.any (f : TickFaults) : Bool := !f.overruns.isEmpty || f.mismatch || f.witness

/-- The sources and causes of the faults, and the overruns of each task (R95 to R98, R113, R388). -/
def State.noteFaults (s : State) (f : TickFaults) : State :=
  let s1 := s.each (f.overruns.map (fun x => x.1)) (fun t k => if k < 16 then t.count (keyOf (0x2110 + k) 9) else t)
  let s2 := if f.mismatch then s1.noteSource 6 else s1
  let s3 := if f.witness then s2.noteSource 7 else s2
  let s4 := if f.overruns.isEmpty then s3 else s3.noteSource 8
  (s4.causeIf (!f.overruns.isEmpty) 1 4).causeIf (f.mismatch || f.witness) 1 5

/-- HALTED with its record: a witness mismatch before an application mismatch before an overrun. In BENCHMARK the module
stays there (R96 to R98, R112). -/
def State.haltFor (s : State) (f : TickFaults) : State :=
  if f.witness then
    let s1 := { s with mtx := { s.mtx with stopped := true } }
    if s1.mode = stBench then s1 else s1.halt 3 0xFF 15
  else if f.mismatch then s.halt 2 0xFF (s.mismatched.headD 0xFF)
  else match lowestTask f.overruns with
    | some (k, p) => s.halt 1 k p
    | none => s

/-- Ends the tick's activations, so that nothing of them reaches the next tick (R95). -/
def State.settleEngines (s : State) : State :=
  { s.abandon with
    engines := List.map (fun (c : Nat × Engine) => (c.1, { c.2 with stopped := false, cycles := 0, actCycles := 0 }))
      s.abandon.engines
    tick := { s.abandon.tick with firstRun := false } }

/-- The stores of the tick are committed or discarded, a request for a planned switch-over is taken, and what the task
engines of the tick leave is settled (R57, R76, R97, R195). -/
def State.endCompute (s : State) : State :=
  if s.mode = stRun && s.pair.computed then
    let asked := s.requested && !s.anyMismatch
    let s1 := s.commitStores
    if asked then s1.planSwitch else s1
  else s.clearOverlays

/-- STAKING_POINT (R16). -/
def State.stakingPoint (s : State) : State :=
  let s0 := s.atPoint .s (s.reg 0x200004 * 1000)
  let f := s0.tickFaults
  let s1 := ((s0.sampleTick.noteFaults f).endCompute.sampleWords.haltFor f).settleEngines
  let s2 := if s1.boundaryNext && s1.mode == stRun then s1.armExchange else s1
  let s3 := if s2.image.exports.isEmpty then s2 else { s2 with dict := { s2.dict with snapshot := s2.mem } }
  s3.stakeOutputs.chainAtS.pairAtS f.any

/-- STAKING_POINT (R16). An outstation stakes nothing of its own (R223). -/
def execStakingPoint (s : State) : Result :=
  .next (if !s.running then s
    else if s.outstation then s.atPoint .s (s.reg 0x200004 * 1000)
    else s.stakingPoint)

/-- CLOSURE_POINT (R16): the token is issued, in a pair only if the closure check passes. -/
def execClosurePoint (s : State) : Result :=
  .next (if !s.running then s
    else
      let s1 := s.atPoint .k ((s.reg 0x200004 + s.reg 0x200005) * 1000)
      if s1.outstation then s1 else s1.pairAtK)

end Sys2Proof.Machine
end

