-- ==== Sys2Proof/Machine/Timers.lean ====
section
/-! DEFINITION. Timers and counters (R62, R63, R72 to R75). -/

namespace Sys2Proof.Machine

open Sys2Proof

/-- A timer object (R72). -/
structure Timer where
  pt    : Nat
  et    : Nat
  lt    : Nat
  inp   : Bool
  q     : Bool
  fresh : Bool
  kind  : Nat
  deriving DecidableEq, Repr

/-- The status field of a timer object (R72). -/
def Timer.status (t : Timer) : Nat :=
  (if t.inp then 1 else 0) + (if t.q then 2 else 0) + (if t.fresh then 4 else 0) + t.kind % 8 * 16

/-- The bytes 4 to 15 of a timer object as a number: ET, LT, Status (R72). -/
def Timer.tail (t : Timer) : Nat := t.et + t.lt * 2 ^ 32 + t.status * 2 ^ 80

/-- A timer object as a task on a pair sees it. -/
def State.timerAt (s : State) (p n : Nat) : Timer :=
  let st := s.natAt p 5 (n * 16 + 14) 2
  { pt := s.natAt p 5 (n * 16) 4, et := s.natAt p 5 (n * 16 + 4) 4, lt := s.natAt p 5 (n * 16 + 8) 6
    inp := st.testBit 0, q := st.testBit 1, fresh := st.testBit 2, kind := st / 16 % 8 }

/-- The timer kinds of R72 and R74. -/
inductive TimerKind where
  | ton | tof | tp | tacc
  deriving DecidableEq, Repr

/-- The code of a kind in the status field (R72). -/
def TimerKind.code (k : TimerKind) : Nat :=
  match k with
  | .ton => 1
  | .tof => 2
  | .tp => 3
  | .tacc => 4

/-- The elapsed count of R73: 0 for a fresh timer, otherwise (n - LT) modulo 2^48. -/
def elapsed (t : Timer) (n : Nat) : Nat := if t.fresh then 0 else (n % 2 ^ 48 + 2 ^ 48 - t.lt) % 2 ^ 48

/-- ET and Q after an evaluation with input `i`, before ET is limited to PT (R74). -/
def evalKind (k : TimerKind) (t : Timer) (d : Nat) (i : Bool) : Nat × Bool :=
  let run := min (t.et + d) t.pt
  match k with
  | .ton =>
    if !i then (0, false)
    else if !t.inp then (0, t.pt == 0)
    else (run, decide (t.pt ≤ run))
  | .tof =>
    if i then (0, true)
    else if t.inp then (0, decide (0 < t.pt))
    else (run, decide (run < t.pt))
  | .tp =>
    if t.q then (run, decide (run < t.pt))
    else if !i then (0, false)
    else if !t.inp && t.et == 0 then (0, decide (0 < t.pt))
    else (t.et, false)
  | .tacc =>
    if t.inp && i then (run, decide (t.pt ≤ run)) else (t.et, decide (t.pt ≤ t.et))

/-- One evaluation in the tick with number `n` (R73, R74). -/
def evalTimer (k : TimerKind) (t : Timer) (n : Nat) (i : Bool) : Timer :=
  let r := evalKind k t (elapsed t n) i
  { t with et := min r.1 t.pt, lt := n % 2 ^ 48, inp := i, q := r.2, fresh := false, kind := k.code }

/-- Stores a timer object's ET, LT and Status. -/
def State.putTimer (s : State) (p n : Nat) (t : Timer) : State := s.store p 5 (n * 16 + 4) 12 t.tail true

/-- A timer evaluation with IN := A, then A := Q (R62). -/
def timerOp (k : TimerKind) (p : Nat) (x : Operand) (s : State) : Result :=
  let n := x.addr / 4
  let t := evalTimer k (s.timerAt p n) s.tickNo (s.engine p).a
  scanGuard s p (timerOk x) (s.bitIn p x)
    (((s.putTimer p n t).onEngine p (fun e => { e with a := t.q })).advance p 6)

/-- TON (R62, R74). -/
def execTon (p : Nat) (x : Operand) (s : State) : Result := timerOp .ton p x s

/-- TOF (R62, R74). -/
def execTof (p : Nat) (x : Operand) (s : State) : Result := timerOp .tof p x s

/-- TP (R62, R74). -/
def execTp (p : Nat) (x : Operand) (s : State) : Result := timerOp .tp p x s

/-- TACC (R62, R74). -/
def execTacc (p : Nat) (x : Operand) (s : State) : Result := timerOp .tacc p x s

/-- A timer cleared by TRS in the tick with number `n`. -/
def resetTimer (t : Timer) (n : Nat) : Timer :=
  { t with et := 0, q := false, inp := false, lt := n % 2 ^ 48, fresh := false }

/-- TRS: if A = 1 the timer is cleared; A is unchanged (R62). -/
def execTrs (p : Nat) (x : Operand) (s : State) : Result :=
  let n := x.addr / 4
  scanGuard s p (timerOk x) (s.bitIn p x)
    ((if (s.engine p).a then s.putTimer p n (resetTimer (s.timerAt p n) s.tickNo) else s).advance p 3)

/-- A counter object (R75). -/
structure Counter where
  cv : Int
  pv : Int
  cu : Bool
  cd : Bool
  deriving DecidableEq, Repr

/-- A counter object as a task on a pair sees it. -/
def State.counterAt (s : State) (p n : Nat) : Counter :=
  let st := s.natAt p 6 (n * 16 + 12) 4
  { cv := signed 32 (s.natAt p 6 (n * 16) 4), pv := signed 32 (s.natAt p 6 (n * 16 + 4) 4)
    cu := st.testBit 0, cd := st.testBit 1 }

/-- QU: CV is at least PV (R63). -/
def Counter.qu (c : Counter) : Bool := decide (c.pv ≤ c.cv)

/-- QD: CV is at most 0 (R63). -/
def Counter.qd (c : Counter) : Bool := decide (c.cv ≤ 0)

/-- Stores CV if `wr` holds, and the status with QU and QD recomputed (R63, R75). -/
def State.putCounter (s : State) (p n : Nat) (wr : Bool) (c : Counter) : State :=
  (if wr then s.store p 6 (n * 16) 4 (unsigned 32 c.cv) true else s).store p 6 (n * 16 + 12) 4
    (counterStatus c.cu c.cd c.cv c.pv) true

/-- The counter operation of an instruction: whether it writes CV, the counter, A and OV afterwards. -/
def counterOp (p cycles : Nat) (x : Operand) (wr : Counter → Bool → Bool) (f : Counter → Bool → Counter)
    (r : Counter → Bool → Bool) (ov : Counter → Bool → Bool) (s : State) : Result :=
  let n := x.addr / 4
  let a := (s.engine p).a
  let c0 := s.counterAt p n
  let c := f c0 a
  scanGuard s p (counterOk x) (s.bitIn p x)
    (((s.putCounter p n (wr c0 a) c).onEngine p
      (fun e => { e.raise { ov := ov c0 a } with a := r c a })).advance p cycles)

/-- CTU: a rising A counts up, saturating with OV; then CU := A and A := QU (R63). -/
def execCtu (p : Nat) (x : Operand) (s : State) : Result :=
  counterOp p 5 x (fun c a => a && !c.cu)
    (fun c a => { c with cv := if a && !c.cu then min (c.cv + 1) 0x7FFFFFFF else c.cv, cu := a })
    (fun c _ => c.qu) (fun c a => a && !c.cu && c.cv == 0x7FFFFFFF) s

/-- CTD: a rising A counts down, saturating with OV; then CD := A and A := QD (R63). -/
def execCtd (p : Nat) (x : Operand) (s : State) : Result :=
  counterOp p 5 x (fun c a => a && !c.cd)
    (fun c a => { c with cv := if a && !c.cd then max (c.cv - 1) (-0x80000000) else c.cv, cd := a })
    (fun c _ => c.qd) (fun c a => a && !c.cd && c.cv == -0x80000000) s

/-- CRS: if A = 1, CV := 0; A is unchanged (R63). -/
def execCrs (p : Nat) (x : Operand) (s : State) : Result :=
  counterOp p 3 x (fun _ a => a) (fun c a => if a then { c with cv := 0 } else c) (fun _ a => a)
    (fun _ _ => false) s

/-- CLD: if A = 1, CV := PV; A is unchanged (R63). -/
def execCld (p : Nat) (x : Operand) (s : State) : Result :=
  counterOp p 3 x (fun _ a => a) (fun c a => if a then { c with cv := c.pv } else c) (fun _ a => a)
    (fun _ _ => false) s

end Sys2Proof.Machine
end

