-- ==== Sys2Proof/Machine/Dispatch.lean ====
section
/-! DEFINITION. What each command does: one arm per constructor of `Instr`, each a call of that command's meaning. -/

namespace Sys2Proof.Machine

open Sys2Proof

def exec (i : Instr) (s : State) : Host.Outcome State Fault Refusal :=
  match i with
  | .datumEdge field => Sys2Proof.Machine.execDatumEdge field s
  | .closingPoint => Sys2Proof.Machine.execClosingPoint s
  | .computeStart faults => Sys2Proof.Machine.execComputeStart faults s
  | .stakingPoint => Sys2Proof.Machine.execStakingPoint s
  | .closurePoint => Sys2Proof.Machine.execClosurePoint s
  | .frameBoundary => Sys2Proof.Machine.execFrameBoundary s
  | .stepAbsorbed => Sys2Proof.Machine.execStepAbsorbed s
  | .causeTrip cause => Sys2Proof.Machine.execCauseTrip cause s
  | .bypassExpiry cause => Sys2Proof.Machine.execBypassExpiry cause s
  | .opNop pair => Sys2Proof.Machine.execNop pair s
  | .opLd pair x => Sys2Proof.Machine.execLd pair x s
  | .opLdn pair x => Sys2Proof.Machine.execLdn pair x s
  | .opAnd pair x => Sys2Proof.Machine.execAnd pair x s
  | .opAndn pair x => Sys2Proof.Machine.execAndn pair x s
  | .opOr pair x => Sys2Proof.Machine.execOr pair x s
  | .opOrn pair x => Sys2Proof.Machine.execOrn pair x s
  | .opXor pair x => Sys2Proof.Machine.execXor pair x s
  | .opXorn pair x => Sys2Proof.Machine.execXorn pair x s
  | .opSt pair x agree => Sys2Proof.Machine.execSt pair x agree s
  | .opStn pair x agree => Sys2Proof.Machine.execStn pair x agree s
  | .opSet pair x agree => Sys2Proof.Machine.execSet pair x agree s
  | .opRst pair x agree => Sys2Proof.Machine.execRst pair x agree s
  | .opNot pair => Sys2Proof.Machine.execNot pair s
  | .opSeta pair => Sys2Proof.Machine.execSeta pair s
  | .opClra pair => Sys2Proof.Machine.execClra pair s
  | .opEdp pair x => Sys2Proof.Machine.execEdp pair x s
  | .opEdn pair x => Sys2Proof.Machine.execEdn pair x s
  | .opLdx pair x => Sys2Proof.Machine.execLdx pair x s
  | .opStx pair x agree => Sys2Proof.Machine.execStx pair x agree s
  | .opPsa pair => Sys2Proof.Machine.execPsa pair s
  | .opPso pair => Sys2Proof.Machine.execPso pair s
  | .opPsx pair => Sys2Proof.Machine.execPsx pair s
  | .opPsk pair => Sys2Proof.Machine.execPsk pair s
  | .opPop pair => Sys2Proof.Machine.execPop pair s
  | .opPeek pair => Sys2Proof.Machine.execPeek pair s
  | .opTon pair x => Sys2Proof.Machine.execTon pair x s
  | .opTof pair x => Sys2Proof.Machine.execTof pair x s
  | .opTp pair x => Sys2Proof.Machine.execTp pair x s
  | .opTacc pair x => Sys2Proof.Machine.execTacc pair x s
  | .opTrs pair x => Sys2Proof.Machine.execTrs pair x s
  | .opCtu pair x => Sys2Proof.Machine.execCtu pair x s
  | .opCtd pair x => Sys2Proof.Machine.execCtd pair x s
  | .opCrs pair x => Sys2Proof.Machine.execCrs pair x s
  | .opCld pair x => Sys2Proof.Machine.execCld pair x s
  | .opJmp pair target => Sys2Proof.Machine.execJmp pair target s
  | .opJc pair target => Sys2Proof.Machine.execJc pair target s
  | .opJcn pair target => Sys2Proof.Machine.execJcn pair target s
  | .opCall pair target => Sys2Proof.Machine.execCall pair target s
  | .opCallc pair target => Sys2Proof.Machine.execCallc pair target s
  | .opRet pair => Sys2Proof.Machine.execRet pair s
  | .opEnd pair agree => Sys2Proof.Machine.execEnd pair agree s
  | .opLdf pair x => Sys2Proof.Machine.execLdf pair x s
  | .opClf pair x => Sys2Proof.Machine.execClf pair x s
  | .opLdw pair x => Sys2Proof.Machine.execLdw pair x s
  | .opLdh pair x => Sys2Proof.Machine.execLdh pair x s
  | .opLdhu pair x => Sys2Proof.Machine.execLdhu pair x s
  | .opLdb pair x => Sys2Proof.Machine.execLdb pair x s
  | .opLdbu pair x => Sys2Proof.Machine.execLdbu pair x s
  | .opLdhi pair x => Sys2Proof.Machine.execLdhi pair x s
  | .opStw pair x agree => Sys2Proof.Machine.execStw pair x agree s
  | .opSth pair x agree => Sys2Proof.Machine.execSth pair x agree s
  | .opStb pair x agree => Sys2Proof.Machine.execStb pair x agree s
  | .opStwc pair x agree => Sys2Proof.Machine.execStwc pair x agree s
  | .opLdwx pair x => Sys2Proof.Machine.execLdwx pair x s
  | .opStwx pair x agree => Sys2Proof.Machine.execStwx pair x agree s
  | .opAdd pair => Sys2Proof.Machine.execAdd pair s
  | .opSub pair => Sys2Proof.Machine.execSub pair s
  | .opMul pair => Sys2Proof.Machine.execMul pair s
  | .opDiv pair => Sys2Proof.Machine.execDiv pair s
  | .opMod pair => Sys2Proof.Machine.execMod pair s
  | .opNeg pair => Sys2Proof.Machine.execNeg pair s
  | .opAbs pair => Sys2Proof.Machine.execAbs pair s
  | .opMin pair => Sys2Proof.Machine.execMin pair s
  | .opMax pair => Sys2Proof.Machine.execMax pair s
  | .opAddu pair => Sys2Proof.Machine.execAddu pair s
  | .opSubu pair => Sys2Proof.Machine.execSubu pair s
  | .opAw pair => Sys2Proof.Machine.execAw pair s
  | .opOw pair => Sys2Proof.Machine.execOw pair s
  | .opXw pair => Sys2Proof.Machine.execXw pair s
  | .opInvw pair => Sys2Proof.Machine.execInvw pair s
  | .opShl pair x => Sys2Proof.Machine.execShl pair x s
  | .opShr pair x => Sys2Proof.Machine.execShr pair x s
  | .opSar pair x => Sys2Proof.Machine.execSar pair x s
  | .opRol pair x => Sys2Proof.Machine.execRol pair x s
  | .opEq pair => Sys2Proof.Machine.execEq pair s
  | .opNe pair => Sys2Proof.Machine.execNe pair s
  | .opGt pair => Sys2Proof.Machine.execGt pair s
  | .opGe pair => Sys2Proof.Machine.execGe pair s
  | .opLt pair => Sys2Proof.Machine.execLt pair s
  | .opLe pair => Sys2Proof.Machine.execLe pair s
  | .opGtu pair => Sys2Proof.Machine.execGtu pair s
  | .opLtu pair => Sys2Proof.Machine.execLtu pair s
  | .opFadd pair => Sys2Proof.Machine.execFadd pair s
  | .opFsub pair => Sys2Proof.Machine.execFsub pair s
  | .opFmul pair => Sys2Proof.Machine.execFmul pair s
  | .opFdiv pair => Sys2Proof.Machine.execFdiv pair s
  | .opFneg pair => Sys2Proof.Machine.execFneg pair s
  | .opFabs pair => Sys2Proof.Machine.execFabs pair s
  | .opFsqrt pair => Sys2Proof.Machine.execFsqrt pair s
  | .opFeq pair => Sys2Proof.Machine.execFeq pair s
  | .opFne pair => Sys2Proof.Machine.execFne pair s
  | .opFgt pair => Sys2Proof.Machine.execFgt pair s
  | .opFge pair => Sys2Proof.Machine.execFge pair s
  | .opFlt pair => Sys2Proof.Machine.execFlt pair s
  | .opFle pair => Sys2Proof.Machine.execFle pair s
  | .opItf pair => Sys2Proof.Machine.execItf pair s
  | .opFti pair => Sys2Proof.Machine.execFti pair s
  | .opFtit pair => Sys2Proof.Machine.execFtit pair s
  | .opSat16 pair => Sys2Proof.Machine.execSat16 pair s
  | .opSatu16 pair => Sys2Proof.Machine.execSatu16 pair s
  | .opSext16 pair => Sys2Proof.Machine.execSext16 pair s
  | .opSwp pair => Sys2Proof.Machine.execSwp pair s
  | .opDup pair => Sys2Proof.Machine.execDup pair s
  | .opTstw pair => Sys2Proof.Machine.execTstw pair s
  | .opLda pair => Sys2Proof.Machine.execLda pair s
  | .stateCommandRun path => Sys2Proof.Machine.execStateCommandRun path s
  | .stateCommandStop path => Sys2Proof.Machine.execStateCommandStop path s
  | .matrixWrite path data => Sys2Proof.Machine.execMatrixWrite path data s
  | .resetEffect path effect => Sys2Proof.Machine.execResetEffect path effect s
  | .bypassCommand path data => Sys2Proof.Machine.execBypassCommand path data s
  | .imageDownload path data => Sys2Proof.Machine.execImageDownload path data s
  | .imageVerificationDone => Sys2Proof.Machine.execImageVerificationDone s
  | .coldActivation path => Sys2Proof.Machine.execColdActivation path s
  | .onlineExchange path => Sys2Proof.Machine.execOnlineExchange path s
  | .exchangeAbort path => Sys2Proof.Machine.execExchangeAbort path s
  | .eraseInactiveBank path => Sys2Proof.Machine.execEraseInactiveBank path s
  | .backgroundTransferDone => Sys2Proof.Machine.execBackgroundTransferDone s
  | .preparationLimitExpiry => Sys2Proof.Machine.execPreparationLimitExpiry s
  | .bankRecordCommitted => Sys2Proof.Machine.execBankRecordCommitted s
  | .loopStatusClear path block value => Sys2Proof.Machine.execLoopStatusClear path block value s
  | .imageFrame frame => Sys2Proof.Machine.execImageFrame frame s
  | .writeForwardFrame ix sub data position => Sys2Proof.Machine.execWriteForwardFrame ix sub data position s
  | .roleStatusFrame frame => Sys2Proof.Machine.execRoleStatusFrame frame s
  | .outputDigest tick digest => Sys2Proof.Machine.execOutputDigest tick digest s
  | .faultNotice tick => Sys2Proof.Machine.execFaultNotice tick s
  | .fullOutputImage tick data => Sys2Proof.Machine.execFullOutputImage tick data s
  | .tieCommandFrame command => Sys2Proof.Machine.execTieCommandFrame command s
  | .resynchronisationDataFrame page data => Sys2Proof.Machine.execResynchronisationDataFrame page data s
  | .bankCopyComplete store data tagOk => Sys2Proof.Machine.execBankCopyComplete store data tagOk s
  | .tieLinkLaneFail lane => Sys2Proof.Machine.execTieLinkLaneFail lane s
  | .closureVerdict => Sys2Proof.Machine.execClosureVerdict s
  | .silenceWatchClose => Sys2Proof.Machine.execSilenceWatchClose s
  | .roleInChange level => Sys2Proof.Machine.execRoleInChange level s
  | .claimWaitExpiry => Sys2Proof.Machine.execClaimWaitExpiry s
  | .driverTurnOff => Sys2Proof.Machine.execDriverTurnOff s
  | .plannedSwitchOver path => Sys2Proof.Machine.execPlannedSwitchOver path s
  | .cancelSwitchOver path => Sys2Proof.Machine.execCancelSwitchOver path s
  | .leaveNotReady path => Sys2Proof.Machine.execLeaveNotReady path s
  | .enterNotReady path => Sys2Proof.Machine.execEnterNotReady path s
  | .startResynchronisation path => Sys2Proof.Machine.execStartResynchronisation path s
  | .handbackHoldOffExpiry => Sys2Proof.Machine.execHandbackHoldOffExpiry s
  | .resynchronisationPassComplete => Sys2Proof.Machine.execResynchronisationPassComplete s
  | .resynchronisationLimitExpiry => Sys2Proof.Machine.execResynchronisationLimitExpiry s
  | .traverseFrame port header slots => Sys2Proof.Machine.execTraverseFrame port header slots s
  | .traverseFrameReturn header slots fcsOk => Sys2Proof.Machine.execTraverseFrameReturn header slots fcsOk s
  | .stakeFrame port header body => Sys2Proof.Machine.execStakeFrame port header body s
  | .tokenFrame port header body atNs => Sys2Proof.Machine.execTokenFrame port header body atNs s
  | .holdLimitExpiry => Sys2Proof.Machine.execHoldLimitExpiry s
  | .chainPortLinkDown port => Sys2Proof.Machine.execChainPortLinkDown port s
  | .chainPortLinkUp port speed => Sys2Proof.Machine.execChainPortLinkUp port speed s
  | .foreignFrameDiscard port => Sys2Proof.Machine.execForeignFrameDiscard port s
  | .lPlusLowSet slice => Sys2Proof.Machine.execLPlusLowSet slice s
  | .lPlusLowClear slice => Sys2Proof.Machine.execLPlusLowClear slice s
  | .inputFilterAccept channel level stampNs => Sys2Proof.Machine.execInputFilterAccept channel level stampNs s
  | .demagEnd channel atNs => Sys2Proof.Machine.execDemagEnd channel atNs s
  | .overloadDetect channel => Sys2Proof.Machine.execOverloadDetect channel s
  | .overloadClear channel => Sys2Proof.Machine.execOverloadClear channel s
  | .overtempTrip channel atNs => Sys2Proof.Machine.execOvertempTrip channel atNs s
  | .tripCountClear channel => Sys2Proof.Machine.execTripCountClear channel s
  | .openloadOnDetect channel => Sys2Proof.Machine.execOpenloadOnDetect channel s
  | .openloadOffDetect channel => Sys2Proof.Machine.execOpenloadOffDetect channel s
  | .openloadClear channel => Sys2Proof.Machine.execOpenloadClear channel s
  | .wirebreakDetect channel => Sys2Proof.Machine.execWirebreakDetect channel s
  | .wirebreakClear channel => Sys2Proof.Machine.execWirebreakClear channel s
  | .readbackFault channel => Sys2Proof.Machine.execReadbackFault channel s
  | .sliceOcTrip slice => Sys2Proof.Machine.execSliceOcTrip slice s
  | .clearOtLatched path channel => Sys2Proof.Machine.execClearOtLatched path channel s
  | .clearSliceOc path slice => Sys2Proof.Machine.execClearSliceOc path slice s
  | .clearSliceOtLatched path slice => Sys2Proof.Machine.execClearSliceOtLatched path slice s
  | .soeQueueRead path => Sys2Proof.Machine.execSoeQueueRead path s
  | .soeQueueDiscard path => Sys2Proof.Machine.execSoeQueueDiscard path s
  | .holdLatchLimitExpiry die => Sys2Proof.Machine.execHoldLatchLimitExpiry die s
  | .supplySet supply => Sys2Proof.Machine.execSupplySet supply s
  | .supplyClear supply => Sys2Proof.Machine.execSupplyClear supply s
  | .complianceSet channel => Sys2Proof.Machine.execComplianceSet channel s
  | .complianceClear channel => Sys2Proof.Machine.execComplianceClear channel s
  | .miswireDetect channel => Sys2Proof.Machine.execMiswireDetect channel s
  | .miswireProbe channel clean => Sys2Proof.Machine.execMiswireProbe channel clean s
  | .limitDetect channel => Sys2Proof.Machine.execLimitDetect channel s
  | .limitClear channel => Sys2Proof.Machine.execLimitClear channel s
  | .analogOvertempTrip channel => Sys2Proof.Machine.execAnalogOvertempTrip channel s
  | .analogModeChangeApplied channel => Sys2Proof.Machine.execAnalogModeChangeApplied channel s
  | .hartRequest path data => Sys2Proof.Machine.execHartRequest path data s
  | .hartResponseFrame channel frame intact durationUs => Sys2Proof.Machine.execHartResponseFrame channel frame intact durationUs s
  | .hartResponseTimeout channel durationUs => Sys2Proof.Machine.execHartResponseTimeout channel durationUs s
  | .hartResponseRead path => Sys2Proof.Machine.execHartResponseRead path s
  | .hartAbort path channel => Sys2Proof.Machine.execHartAbort path channel s
  | .hartBurstFrame channel frame => Sys2Proof.Machine.execHartBurstFrame channel frame s
  | .ptpSync port message => Sys2Proof.Machine.execPtpSync port message s
  | .ptpFollowUp port message => Sys2Proof.Machine.execPtpFollowUp port message s
  | .ptpAnnounce port message => Sys2Proof.Machine.execPtpAnnounce port message s
  | .ptpDelayExchange port exchange => Sys2Proof.Machine.execPtpDelayExchange port exchange s
  | .ptpUnsupportedMessage port => Sys2Proof.Machine.execPtpUnsupportedMessage port s
  | .holdoverEntry => Sys2Proof.Machine.execHoldoverEntry s
  | .timeUnitReset path => Sys2Proof.Machine.execTimeUnitReset path s
  | .ppsOutPulse => Sys2Proof.Machine.execPpsOutPulse s
  | .ppsInEdge atNs => Sys2Proof.Machine.execPpsInEdge atNs s
  | .chainSyncTransmit atNs => Sys2Proof.Machine.execChainSyncTransmit atNs s
  | .chainAnnounceTransmit => Sys2Proof.Machine.execChainAnnounceTransmit s
  | .calendarSet path data => Sys2Proof.Machine.execCalendarSet path data s
  | .calendarCapture path => Sys2Proof.Machine.execCalendarCapture path s
  | .discipline => Sys2Proof.Machine.execDiscipline s
  | .calendarEnd => Sys2Proof.Machine.execCalendarEnd s
  | .keeperTemperatureSample temperature => Sys2Proof.Machine.execKeeperTemperatureSample temperature s
  | .keeperWake => Sys2Proof.Machine.execKeeperWake s
  | .wakeAcknowledge path => Sys2Proof.Machine.execWakeAcknowledge path s
  | .keeperInterfaceLock => Sys2Proof.Machine.execKeeperInterfaceLock s
  | .switchToVbat => Sys2Proof.Machine.execSwitchToVbat s
  | .switchToMain seconds => Sys2Proof.Machine.execSwitchToMain seconds s
  | .keeperInterfaceUnlock => Sys2Proof.Machine.execKeeperInterfaceUnlock s
  | .retentionLost => Sys2Proof.Machine.execRetentionLost s
  | .canFrameReceived controller frame stampNs => Sys2Proof.Machine.execCanFrameReceived controller frame stampNs s
  | .canFrameSent controller => Sys2Proof.Machine.execCanFrameSent controller s
  | .canBusOff controller => Sys2Proof.Machine.execCanBusOff controller s
  | .canErrorPassive controller => Sys2Proof.Machine.execCanErrorPassive controller s
  | .busOffRecoveryEnd controller => Sys2Proof.Machine.execBusOffRecoveryEnd controller s
  | .startBusOffRecovery path controller => Sys2Proof.Machine.execStartBusOffRecovery path controller s
  | .discardTransmitQueue path controller => Sys2Proof.Machine.execDiscardTransmitQueue path controller s
  | .canWindowRead path controller queue => Sys2Proof.Machine.execCanWindowRead path controller queue s
  | .releaseRxq0 path controller => Sys2Proof.Machine.execReleaseRxq0 path controller s
  | .releaseRxq1 path controller => Sys2Proof.Machine.execReleaseRxq1 path controller s
  | .syncReceived => Sys2Proof.Machine.execSyncReceived s
  | .rpdoReceived number data => Sys2Proof.Machine.execRpdoReceived number data s
  | .tpdoEventTimerExpiry number => Sys2Proof.Machine.execTpdoEventTimerExpiry number s
  | .sdoUploadRequest controller ix sub => Sys2Proof.Machine.execSdoUploadRequest controller ix sub s
  | .sdoDownloadRequest controller ix sub data => Sys2Proof.Machine.execSdoDownloadRequest controller ix sub data s
  | .sdoAbortTransfer controller => Sys2Proof.Machine.execSdoAbortTransfer controller s
  | .nmtStartRemoteNode node => Sys2Proof.Machine.execNmtStartRemoteNode node s
  | .nmtStopRemoteNode node => Sys2Proof.Machine.execNmtStopRemoteNode node s
  | .nmtEnterPreOperational node => Sys2Proof.Machine.execNmtEnterPreOperational node s
  | .nmtResetNode node => Sys2Proof.Machine.execNmtResetNode node s
  | .nmtResetCommunication node => Sys2Proof.Machine.execNmtResetCommunication node s
  | .heartbeatProducerExpiry => Sys2Proof.Machine.execHeartbeatProducerExpiry s
  | .addressClaimReceived controller address name => Sys2Proof.Machine.execAddressClaimReceived controller address name s
  | .requestForAddressClaim controller => Sys2Proof.Machine.execRequestForAddressClaim controller s
  | .sentenceReceived port chars framingError stampNs => Sys2Proof.Machine.execSentenceReceived port chars framingError stampNs s
  | .sentenceQueueRead path port => Sys2Proof.Machine.execSentenceQueueRead path port s
  | .datagram61162450 plantPort group bytes stampNs => Sys2Proof.Machine.execDatagram61162450 plantPort group bytes stampNs s
  | .dictionaryWrite path ix sub data => Sys2Proof.Machine.execDictionaryWrite path ix sub data s
  | .storeParametersAll path => Sys2Proof.Machine.execStoreParametersAll path s
  | .storeParametersCommunication path => Sys2Proof.Machine.execStoreParametersCommunication path s
  | .storeParametersApplication path => Sys2Proof.Machine.execStoreParametersApplication path s
  | .storeComplete success => Sys2Proof.Machine.execStoreComplete success s
  | .restoreDefaultsAll path => Sys2Proof.Machine.execRestoreDefaultsAll path s
  | .restoreDefaultsCommunication path => Sys2Proof.Machine.execRestoreDefaultsCommunication path s
  | .restoreDefaultsApplication path => Sys2Proof.Machine.execRestoreDefaultsApplication path s
  | .guardUnlock path => Sys2Proof.Machine.execGuardUnlock path s
  | .guardRelock path => Sys2Proof.Machine.execGuardRelock path s
  | .guardWindowExpiry path => Sys2Proof.Machine.execGuardWindowExpiry path s
  | .transferIdleTimeout path => Sys2Proof.Machine.execTransferIdleTimeout path s
  | .udpRead header => Sys2Proof.Machine.execUdpRead header s
  | .udpWrite header data => Sys2Proof.Machine.execUdpWrite header data s
  | .hostRead frame => Sys2Proof.Machine.execHostRead frame s
  | .hostWrite frame data => Sys2Proof.Machine.execHostWrite frame data s
  | .hostFetchResponse sequence crc => Sys2Proof.Machine.execHostFetchResponse sequence crc s
  | .hostStatusPoll sequence crc => Sys2Proof.Machine.execHostStatusPoll sequence crc s
  | .partnerRequest ix sub write => Sys2Proof.Machine.execPartnerRequest ix sub write s
  | .causeClear path group bits => Sys2Proof.Machine.execCauseClear path group bits s
  | .levelBookCommitDue code => Sys2Proof.Machine.execLevelBookCommitDue code s
  | .levelBookCommitDone code success => Sys2Proof.Machine.execLevelBookCommitDone code success s
  | .commitRetryExpiry code => Sys2Proof.Machine.execCommitRetryExpiry code s
  | .recordRestart path code => Sys2Proof.Machine.execRecordRestart path code s
  | .operatingSecond sample => Sys2Proof.Machine.execOperatingSecond sample s
  | .rectangleRequest path data => Sys2Proof.Machine.execRectangleRequest path data s
  | .discardQueuedRequests path => Sys2Proof.Machine.execDiscardQueuedRequests path s
  | .scanBoundary => Sys2Proof.Machine.execScanBoundary s
  | .panelEnable path value => Sys2Proof.Machine.execPanelEnable path value s
  | .waveformTableWrite path data => Sys2Proof.Machine.execWaveformTableWrite path data s
  | .prailOkAsserted => Sys2Proof.Machine.execPrailOkAsserted s
  | .railUpDelayExpiry => Sys2Proof.Machine.execRailUpDelayExpiry s
  | .railUpTimeout => Sys2Proof.Machine.execRailUpTimeout s
  | .railFault => Sys2Proof.Machine.execRailFault s
  | .railFaultRetry => Sys2Proof.Machine.execRailFaultRetry s
  | .railHoldExpiry => Sys2Proof.Machine.execRailHoldExpiry s
  | .railDownDelayExpiry => Sys2Proof.Machine.execRailDownDelayExpiry s
  | .stressCounterCommit => Sys2Proof.Machine.execStressCounterCommit s
  | .powerOnReset => Sys2Proof.Machine.execPowerOnReset s
  | .vsupBrownOut => Sys2Proof.Machine.execVsupBrownOut s
  | .coreBrownOut => Sys2Proof.Machine.execCoreBrownOut s
  | .rstNAsserted => Sys2Proof.Machine.execRstNAsserted s
  | .supervisorWatchdogExpiry => Sys2Proof.Machine.execSupervisorWatchdogExpiry s
  | .supervisorLockstepMismatch => Sys2Proof.Machine.execSupervisorLockstepMismatch s
  | .clockMonitorFault clock => Sys2Proof.Machine.execClockMonitorFault clock s
  | .thermalReset => Sys2Proof.Machine.execThermalReset s
  | .debugReset => Sys2Proof.Machine.execDebugReset s
  | .deferredResetStart => Sys2Proof.Machine.execDeferredResetStart s
  | .resetRelease => Sys2Proof.Machine.execResetRelease s
  | .resetNodeCommand path => Sys2Proof.Machine.execResetNodeCommand path s
  | .resetCommunicationCommand path => Sys2Proof.Machine.execResetCommunicationCommand path s
  | .blockResetCommand path block => Sys2Proof.Machine.execBlockResetCommand path block s
  | .blockIdle block => Sys2Proof.Machine.execBlockIdle block s
  | .blockIdleTimeout block units => Sys2Proof.Machine.execBlockIdleTimeout block units s
  | .blockRelease block => Sys2Proof.Machine.execBlockRelease block s
  | .optionReadComplete => Sys2Proof.Machine.execOptionReadComplete s
  | .firmwareBoot => Sys2Proof.Machine.execFirmwareBoot s
  | .supervisorStart => Sys2Proof.Machine.execSupervisorStart s
  | .configurationLoaded => Sys2Proof.Machine.execConfigurationLoaded s
  | .selfTestComplete failure => Sys2Proof.Machine.execSelfTestComplete failure s
  | .imagesLoaded report => Sys2Proof.Machine.execImagesLoaded report s
  | .clearFailedStartCounter path => Sys2Proof.Machine.execClearFailedStartCounter path s
  | .enterBenchmarkRequest path => Sys2Proof.Machine.execEnterBenchmarkRequest path s
  | .leaveBenchmarkMark path => Sys2Proof.Machine.execLeaveBenchmarkMark path s
  | .optionBlockWrite path data => Sys2Proof.Machine.execOptionBlockWrite path data s
  | .resetMapProgramming path data => Sys2Proof.Machine.execResetMapProgramming path data s
  | .ownerKeyHashProgramming path data => Sys2Proof.Machine.execOwnerKeyHashProgramming path data s
  | .debugKeyHashProgramming path data => Sys2Proof.Machine.execDebugKeyHashProgramming path data s
  | .lifecycleField path => Sys2Proof.Machine.execLifecycleField path s
  | .lifecycleRetire path => Sys2Proof.Machine.execLifecycleRetire path s
  | .firmwareDownload path copy => Sys2Proof.Machine.execFirmwareDownload path copy s
  | .preferOtherCopy path => Sys2Proof.Machine.execPreferOtherCopy path s
  | .raiseSecurityVersion path => Sys2Proof.Machine.execRaiseSecurityVersion path s
  | .debugResponse path data => Sys2Proof.Machine.execDebugResponse path data s
  | .tieLinkLaneUp lane => Sys2Proof.Machine.execTieLinkLaneUp lane s
  | .plantPortLinkDown port => Sys2Proof.Machine.execPlantPortLinkDown port s
  | .plantPortLinkUp port speed => Sys2Proof.Machine.execPlantPortLinkUp port speed s
  | .canProtocolError controller kind => Sys2Proof.Machine.execCanProtocolError controller kind s
  | .heartbeatConsumerExpiry number => Sys2Proof.Machine.execHeartbeatConsumerExpiry number s
  | .delayRequestTransmit port atNs => Sys2Proof.Machine.execDelayRequestTransmit port atNs s
  | .sentenceTransmitted port => Sys2Proof.Machine.execSentenceTransmitted port s
  | .jtagForcedRelease block => Sys2Proof.Machine.execJtagForcedRelease block s

end Sys2Proof.Machine
end

