-- ==== Sys2Proof/Safety.lean ====
section
/-! DEFINITION. What counts as a safe run, in the terms the statements use. -/

namespace Sys2Proof.Machine

open Sys2Proof

/-- Every register listed holds a value that fits its entry. -/
def State.regsFit (s : State) : Bool := s.regs.all (fun c => decide (c.2 < 2 ^ entryBits c.1))

/-- The keys of a table rise strictly, from `lo` on. -/
def Sparse.risingFrom {α : Type} (lo : Nat) (m : Sparse α) : Bool :=
  match m with
  | [] => true
  | (j, _) :: t => decide (lo ≤ j) && Sparse.risingFrom (j + 1) t

/-- The keys of a table rise strictly. -/
def Sparse.rising {α : Type} (m : Sparse α) : Bool := Sparse.risingFrom 0 m

/-- The register store and the data memory are in canonical form, every register fits its entry (R10), and the tables of
engines and tasks list each key once. -/
structure State.Ok (s : State) : Prop where
  regs    : Sparse.wf defaultOf s.regs = true
  fits    : s.regsFit = true
  mem     : Memory.wf s.mem = true
  engines : Sparse.rising s.engines = true
  tasks   : Sparse.rising s.tasks = true

/-- A step neither faults nor refuses. -/
def Safe (s : State) : Prop := ∃ t, step s = .next t

end Sys2Proof.Machine
end

