-- ==== Sys2Proof/WellFormed.lean ====
section
/-! DEFINITION. The commands that can reach the module: an engine pair that exists, an operand form of the instruction
(R50 to R54, R58), and the number of a channel, port, block or entry that exists. -/

namespace Sys2Proof

open Sys2Proof.Machine

/-- Engine pairs 0 to 14 run scan instructions (R48). -/
def pairOk (pair : Nat) : Bool := decide (pair ≤ 14)

/-- The lanes on which the copies of a tie-link frame failed: the first copy and its one repeat (R184). -/
def lanesOk (failed : List Nat) : Bool := failed.all (fun k => decide (k < 2)) && decide (failed.length ≤ 2)

/-- A command whose operands name what exists. -/
def Instr.wf (i : Instr) : Bool :=
  match i with
  | .datumEdge _ => true
  | .closingPoint => true
  | .computeStart faults => faults.all (fun p => decide (p < 20))
  | .stakingPoint => true
  | .closurePoint => true
  | .frameBoundary => true
  | .stepAbsorbed => true
  | .causeTrip cause => decide (cause < 1024)
  | .bypassExpiry cause => decide (cause < 1024)
  | .opNop pair => pairOk pair
  | .opLd pair x => pairOk pair && bitReadOk x
  | .opLdn pair x => pairOk pair && bitReadOk x
  | .opAnd pair x => pairOk pair && bitReadOk x
  | .opAndn pair x => pairOk pair && bitReadOk x
  | .opOr pair x => pairOk pair && bitReadOk x
  | .opOrn pair x => pairOk pair && bitReadOk x
  | .opXor pair x => pairOk pair && bitReadOk x
  | .opXorn pair x => pairOk pair && bitReadOk x
  | .opSt pair x _ => pairOk pair && bitWriteOk x
  | .opStn pair x _ => pairOk pair && bitWriteOk x
  | .opSet pair x _ => pairOk pair && bitWriteOk x
  | .opRst pair x _ => pairOk pair && bitWriteOk x
  | .opNot pair => pairOk pair
  | .opSeta pair => pairOk pair
  | .opClra pair => pairOk pair
  | .opEdp pair x => pairOk pair && edgeOk x
  | .opEdn pair x => pairOk pair && edgeOk x
  | .opLdx pair x => pairOk pair && bitIndexReadOk x
  | .opStx pair x _ => pairOk pair && bitWriteOk x
  | .opPsa pair => pairOk pair
  | .opPso pair => pairOk pair
  | .opPsx pair => pairOk pair
  | .opPsk pair => pairOk pair
  | .opPop pair => pairOk pair
  | .opPeek pair => pairOk pair
  | .opTon pair x => pairOk pair && timerOk x
  | .opTof pair x => pairOk pair && timerOk x
  | .opTp pair x => pairOk pair && timerOk x
  | .opTacc pair x => pairOk pair && timerOk x
  | .opTrs pair x => pairOk pair && timerOk x
  | .opCtu pair x => pairOk pair && counterOk x
  | .opCtd pair x => pairOk pair && counterOk x
  | .opCrs pair x => pairOk pair && counterOk x
  | .opCld pair x => pairOk pair && counterOk x
  | .opJmp pair target => pairOk pair && targetOk target
  | .opJc pair target => pairOk pair && targetOk target
  | .opJcn pair target => pairOk pair && targetOk target
  | .opCall pair target => pairOk pair && targetOk target
  | .opCallc pair target => pairOk pair && targetOk target
  | .opRet pair => pairOk pair
  | .opEnd pair _ => pairOk pair
  | .opLdf pair x => pairOk pair && immediateOk 3 x
  | .opClf pair x => pairOk pair && immediateOk 8 x
  | .opLdw pair x => pairOk pair && wordReadOk x
  | .opLdh pair x => pairOk pair && partReadOk 2 x
  | .opLdhu pair x => pairOk pair && partReadOk 2 x
  | .opLdb pair x => pairOk pair && partReadOk 1 x
  | .opLdbu pair x => pairOk pair && partReadOk 1 x
  | .opLdhi pair x => pairOk pair && immediateOk 4096 x
  | .opStw pair x _ => pairOk pair && wordWriteOk x
  | .opSth pair x _ => pairOk pair && partWriteOk 2 x
  | .opStb pair x _ => pairOk pair && partWriteOk 1 x
  | .opStwc pair x _ => pairOk pair && condWriteOk x
  | .opLdwx pair x => pairOk pair && wordIndexReadOk x
  | .opStwx pair x _ => pairOk pair && partWriteOk 4 x
  | .opAdd pair => pairOk pair
  | .opSub pair => pairOk pair
  | .opMul pair => pairOk pair
  | .opDiv pair => pairOk pair
  | .opMod pair => pairOk pair
  | .opNeg pair => pairOk pair
  | .opAbs pair => pairOk pair
  | .opMin pair => pairOk pair
  | .opMax pair => pairOk pair
  | .opAddu pair => pairOk pair
  | .opSubu pair => pairOk pair
  | .opAw pair => pairOk pair
  | .opOw pair => pairOk pair
  | .opXw pair => pairOk pair
  | .opInvw pair => pairOk pair
  | .opShl pair x => pairOk pair && immediateOk 32 x
  | .opShr pair x => pairOk pair && immediateOk 32 x
  | .opSar pair x => pairOk pair && immediateOk 32 x
  | .opRol pair x => pairOk pair && immediateOk 32 x
  | .opEq pair => pairOk pair
  | .opNe pair => pairOk pair
  | .opGt pair => pairOk pair
  | .opGe pair => pairOk pair
  | .opLt pair => pairOk pair
  | .opLe pair => pairOk pair
  | .opGtu pair => pairOk pair
  | .opLtu pair => pairOk pair
  | .opFadd pair => pairOk pair
  | .opFsub pair => pairOk pair
  | .opFmul pair => pairOk pair
  | .opFdiv pair => pairOk pair
  | .opFneg pair => pairOk pair
  | .opFabs pair => pairOk pair
  | .opFsqrt pair => pairOk pair
  | .opFeq pair => pairOk pair
  | .opFne pair => pairOk pair
  | .opFgt pair => pairOk pair
  | .opFge pair => pairOk pair
  | .opFlt pair => pairOk pair
  | .opFle pair => pairOk pair
  | .opItf pair => pairOk pair
  | .opFti pair => pairOk pair
  | .opFtit pair => pairOk pair
  | .opSat16 pair => pairOk pair
  | .opSatu16 pair => pairOk pair
  | .opSext16 pair => pairOk pair
  | .opSwp pair => pairOk pair
  | .opDup pair => pairOk pair
  | .opTstw pair => pairOk pair
  | .opLda pair => pairOk pair
  | .stateCommandRun _ => true
  | .stateCommandStop _ => true
  | .matrixWrite _ _ => true
  | .resetEffect _ effect => decide (effect < 65536)
  | .bypassCommand _ _ => true
  | .imageDownload _ _ => true
  | .imageVerificationDone => true
  | .coldActivation _ => true
  | .onlineExchange _ => true
  | .exchangeAbort _ => true
  | .eraseInactiveBank _ => true
  | .backgroundTransferDone => true
  | .preparationLimitExpiry => true
  | .bankRecordCommitted => true
  | .loopStatusClear _ block value => decide (block < 128) && decide (value < 2 ^ 32)
  | .imageFrame f => lanesOk f.failed
  | .writeForwardFrame ix sub data _ => decide (ix < 65536) && decide (sub < 256) && lanesOk data.failed
  | .roleStatusFrame f => lanesOk f.failed
  | .outputDigest _ digest => lanesOk digest.failed
  | .faultNotice tick => lanesOk tick.failed
  | .fullOutputImage _ data => lanesOk data.failed
  | .tieCommandFrame command => lanesOk command.failed
  | .resynchronisationDataFrame page data => decide (page < 0x80080) && lanesOk data.failed
  | .bankCopyComplete store data _ => decide (store < 3) && lanesOk data.failed
  | .tieLinkLaneFail lane => decide (lane < 2)
  | .closureVerdict => true
  | .silenceWatchClose => true
  | .roleInChange _ => true
  | .claimWaitExpiry => true
  | .driverTurnOff => true
  | .plannedSwitchOver _ => true
  | .cancelSwitchOver _ => true
  | .leaveNotReady _ => true
  | .enterNotReady _ => true
  | .startResynchronisation _ => true
  | .handbackHoldOffExpiry => true
  | .resynchronisationPassComplete => true
  | .resynchronisationLimitExpiry => true
  | .traverseFrame port _ _ => decide (port < 2)
  | .traverseFrameReturn header slots _ =>
    decide (header.direction < 2) && slots.all (fun x => decide (1 ≤ x.address) && decide (x.address ≤ 32))
  | .stakeFrame port _ _ => decide (port < 2)
  | .tokenFrame port _ _ _ => decide (port < 2)
  | .holdLimitExpiry => true
  | .chainPortLinkDown port => decide (port < 2)
  | .chainPortLinkUp port _ => decide (port < 2)
  | .foreignFrameDiscard port => decide (port < 2)
  | .lPlusLowSet slice => decide (slice < 8)
  | .lPlusLowClear slice => decide (slice < 8)
  | .inputFilterAccept channel _ _ => decide (channel < 64)
  | .demagEnd channel _ => decide (channel < 64)
  | .overloadDetect channel => decide (channel < 64)
  | .overloadClear channel => decide (channel < 64)
  | .overtempTrip channel _ => decide (channel < 64)
  | .tripCountClear channel => decide (channel < 64)
  | .openloadOnDetect channel => decide (channel < 64)
  | .openloadOffDetect channel => decide (channel < 64)
  | .openloadClear channel => decide (channel < 64)
  | .wirebreakDetect channel => decide (channel < 64)
  | .wirebreakClear channel => decide (channel < 64)
  | .readbackFault channel => decide (channel < 64)
  | .sliceOcTrip slice => decide (slice < 8)
  | .clearOtLatched _ channel => decide (channel < 64)
  | .clearSliceOc _ slice => decide (slice < 8)
  | .clearSliceOtLatched _ slice => decide (slice < 8)
  | .soeQueueRead _ => true
  | .soeQueueDiscard _ => true
  | .holdLatchLimitExpiry die => decide (die < 2)
  | .supplySet supply => decide (supply < 4)
  | .supplyClear supply => decide (supply < 4)
  | .complianceSet channel => decide (channel < 16)
  | .complianceClear channel => decide (channel < 16)
  | .miswireDetect channel => decide (channel < 16)
  | .miswireProbe channel _ => decide (channel < 16)
  | .limitDetect channel => decide (channel < 16)
  | .limitClear channel => decide (channel < 16)
  | .analogOvertempTrip channel => decide (channel < 16)
  | .analogModeChangeApplied channel => decide (channel < 16)
  | .hartRequest _ _ => true
  | .hartResponseFrame channel _ _ _ => decide (channel < 16)
  | .hartResponseTimeout channel _ => decide (channel < 16)
  | .hartResponseRead _ => true
  | .hartAbort _ channel => decide (channel < 16)
  | .hartBurstFrame channel _ => decide (channel < 16)
  | .ptpSync port _ => decide (port < 4)
  | .ptpFollowUp port _ => decide (port < 4)
  | .ptpAnnounce port _ => decide (port < 4)
  | .ptpDelayExchange port _ => decide (port < 4)
  | .ptpUnsupportedMessage port => decide (port < 4)
  | .holdoverEntry => true
  | .timeUnitReset _ => true
  | .ppsOutPulse => true
  | .ppsInEdge _ => true
  | .chainSyncTransmit _ => true
  | .chainAnnounceTransmit => true
  | .calendarSet _ _ => true
  | .calendarCapture _ => true
  | .discipline => true
  | .calendarEnd => true
  | .keeperTemperatureSample _ => true
  | .keeperWake => true
  | .wakeAcknowledge _ => true
  | .keeperInterfaceLock => true
  | .switchToVbat => true
  | .switchToMain _ => true
  | .keeperInterfaceUnlock => true
  | .retentionLost => true
  | .canFrameReceived c f _ => decide (c < 4) && decide (f.format < 4) && lengthOk f.format f.data.length
  | .canFrameSent c => decide (c < 4)
  | .canBusOff c => decide (c < 4)
  | .canErrorPassive c => decide (c < 4)
  | .busOffRecoveryEnd c => decide (c < 4)
  | .startBusOffRecovery _ controller => decide (controller < 4)
  | .discardTransmitQueue _ controller => decide (controller < 4)
  | .canWindowRead _ controller queue => decide (controller < 4) && decide (queue < 2)
  | .releaseRxq0 _ controller => decide (controller < 4)
  | .releaseRxq1 _ controller => decide (controller < 4)
  | .syncReceived => true
  | .rpdoReceived n _ => decide (n < 64)
  | .tpdoEventTimerExpiry n => decide (n < 64)
  | .sdoUploadRequest controller ix sub => decide (controller < 4) && decide (ix < 65536) && decide (sub < 256)
  | .sdoDownloadRequest controller ix sub _ => decide (controller < 4) && decide (ix < 65536) && decide (sub < 256)
  | .sdoAbortTransfer controller => decide (controller < 4)
  | .nmtStartRemoteNode node => decide (node < 128)
  | .nmtStopRemoteNode node => decide (node < 128)
  | .nmtEnterPreOperational node => decide (node < 128)
  | .nmtResetNode node => decide (node < 128)
  | .nmtResetCommunication node => decide (node < 128)
  | .heartbeatProducerExpiry => true
  | .addressClaimReceived c address name => decide (c < 4) && decide (address < 256) && decide (name < 2 ^ 64)
  | .requestForAddressClaim c => decide (c < 4)
  | .sentenceReceived port chars _ _ => decide (port < 4) && lineOk chars
  | .sentenceQueueRead _ port => decide (port < 5)
  | .datagram61162450 plantPort group _ _ => decide (plantPort < 2) && decide (group < 8)
  | .dictionaryWrite _ ix sub _ => decide (ix < 65536) && decide (sub < 256)
  | .storeParametersAll _ => true
  | .storeParametersCommunication _ => true
  | .storeParametersApplication _ => true
  | .storeComplete _ => true
  | .restoreDefaultsAll _ => true
  | .restoreDefaultsCommunication _ => true
  | .restoreDefaultsApplication _ => true
  | .guardUnlock _ => true
  | .guardRelock _ => true
  | .guardWindowExpiry _ => true
  | .transferIdleTimeout _ => true
  | .udpRead header => decide (header.index < 65536) && decide (header.sub < 256)
  | .udpWrite header data => decide (header.index < 65536) && decide (header.sub < 256) && decide (data.length ≤ 1440)
  | .hostRead frame => hostFrameOk frame
  | .hostWrite frame data => hostFrameOk frame && frame.length == data.length
  | .hostFetchResponse sequence _ => decide (sequence < 256)
  | .hostStatusPoll sequence _ => decide (sequence < 256)
  | .partnerRequest ix sub _ => decide (ix < 65536) && decide (sub < 256)
  | .causeClear _ group bits => between 1 group 15 && decide (bits < 2 ^ 32)
  | .levelBookCommitDue code => decide (code < 512)
  | .levelBookCommitDone code _ => decide (code < 512)
  | .commitRetryExpiry code => decide (code < 512)
  | .recordRestart _ code => decide (code < 65536)
  | .operatingSecond _ => true
  | .rectangleRequest _ _ => true
  | .discardQueuedRequests _ => true
  | .scanBoundary => true
  | .panelEnable _ value => decide (value < 256)
  | .waveformTableWrite _ _ => true
  | .prailOkAsserted => true
  | .railUpDelayExpiry => true
  | .railUpTimeout => true
  | .railFault => true
  | .railFaultRetry => true
  | .railHoldExpiry => true
  | .railDownDelayExpiry => true
  | .stressCounterCommit => true
  | .powerOnReset => true
  | .vsupBrownOut => true
  | .coreBrownOut => true
  | .rstNAsserted => true
  | .supervisorWatchdogExpiry => true
  | .supervisorLockstepMismatch => true
  | .clockMonitorFault _ => true
  | .thermalReset => true
  | .debugReset => true
  | .deferredResetStart => true
  | .resetRelease => true
  | .resetNodeCommand _ => true
  | .resetCommunicationCommand _ => true
  | .blockResetCommand _ block => decide (block < 256)
  | .blockIdle block => decide (block < 14)
  | .blockIdleTimeout block _ => decide (block < 14)
  | .blockRelease block => decide (block < 14)
  | .optionReadComplete => true
  | .firmwareBoot => true
  | .supervisorStart => true
  | .configurationLoaded => true
  | .selfTestComplete failure => decide (failure ≤ 6)
  | .imagesLoaded _ => true
  | .clearFailedStartCounter _ => true
  | .enterBenchmarkRequest _ => true
  | .leaveBenchmarkMark _ => true
  | .optionBlockWrite _ _ => true
  | .resetMapProgramming _ _ => true
  | .ownerKeyHashProgramming _ _ => true
  | .debugKeyHashProgramming _ _ => true
  | .lifecycleField _ => true
  | .lifecycleRetire _ => true
  | .firmwareDownload _ _ => true
  | .preferOtherCopy _ => true
  | .raiseSecurityVersion _ => true
  | .debugResponse _ _ => true
  | .tieLinkLaneUp lane => decide (lane < 2)
  | .plantPortLinkDown port => decide (port < 2)
  | .plantPortLinkUp port speed => decide (port < 2) && [10, 100, 1000].contains speed
  | .canProtocolError c _ => decide (c < 4)
  | .heartbeatConsumerExpiry number => between 1 number 8
  | .delayRequestTransmit port _ => decide (port < 4)
  | .sentenceTransmitted port => decide (port < 4)
  | .jtagForcedRelease block => decide (block < 14)

end Sys2Proof
end

