-- ==== Sys2Proof/Certificates/Slice0/Obligations.lean ====
section
/-! DEFINITION. The statements for the provers. Each formalises rules of the spec; OBLIGATIONS.json names them. -/

namespace Sys2Proof.Stated

open Sys2Proof Sys2Proof.Machine

/-- The premises of a statement about a scan instruction: a state in canonical form, an engine pair of 0 to 14 (R48), and no
mismatch on it in this tick (R80). -/
def Ready (s : State) (p : Nat) : Prop := s.Ok ∧ p ≤ 14 ∧ (s.engine p).stopped = false

/-- An engine past an instruction of `c` cycles: the next instruction index, and the cycle counts (R59). -/
def past (c : Nat) (e : Engine) : Engine := { e with pc := e.pc + 1, actCycles := e.actCycles + c, cycles := e.cycles + c }

/-- `i` completes on pair `p` in `c` cycles: of the whole state only that pair's engine changes, to `e` past the
instruction. -/
def Leaves (i : Instr) (s : State) (p c : Nat) (e : Engine) : Prop :=
  exec i s = .next (s.setEngine p (past c e))

/-- The same for an instruction with operand `x`: a read of area S also takes the next free value of the model (log entry 8),
and nothing else. -/
def Reads (i : Instr) (s : State) (p : Nat) (x : Operand) (c : Nat) (e : Engine) : Prop :=
  exec i s = .next ((if x.area = 9 then { s with free := s.free + 1 } else s).setEngine p (past c e))

/-- The cycles of an access: one more in areas D and P (R59). -/
def accessCycles (n : Nat) (x : Operand) : Nat := if x.area = 3 ∨ x.area = 8 then n + 1 else n

/-- `i` completes on pair `p` with a store of `width` bytes of value `v` at a byte offset of a plain area: those bytes read
as `v` for the pair, every other byte of the areas I to E reads as before, data memory and every other part of the state
stand, and of the engine only A (to `a`), the flag OV (to `ov`), the overlay, the signature, the PC and the cycle counts
move. -/
def Stores (i : Instr) (s : State) (p area off width v c : Nat) (a ov : Bool) : Prop :=
  ∃ e : Engine, exec i s = .next (s.setEngine p e) ∧
    (∀ k, k < width → (s.setEngine p e).byteAt p area (off + k) = BitVec.ofNat 8 (v / 256 ^ k)) ∧
    (∀ b o, b < 8 → ¬ (memKey area (s.taskOn p) off ≤ memKey b (s.taskOn p) o ∧
        memKey b (s.taskOn p) o < memKey area (s.taskOn p) off + width) →
      (s.setEngine p e).byteAt p b o = s.byteAt p b o) ∧
    e = past c { s.engine p with a := a, ov := ov, overlay := e.overlay, signature := e.signature }

/-- The byte at a bit address with that bit changed. -/
def byteWith (s : State) (p area n : Nat) (b : Bool) : Nat := withBit (s.byteAt p area (n / 8)).toNat (n % 8) b

end Sys2Proof.Stated

open Sys2Proof Sys2Proof.Machine Sys2Proof.Stated

/-- R60, the bit reads. -/
def Obligations.BitReads : Prop := ∀ s p x, Ready s p → bitReadOk x = true → s.bitIn p x = true →
  let e := s.engine p
  let b := s.bitAt p x
  let c := accessCycles 1 x
  Reads (.opLd p x) s p x c { e with a := b } ∧ Reads (.opLdn p x) s p x c { e with a := !b } ∧
  Reads (.opAnd p x) s p x c { e with a := e.a && b } ∧ Reads (.opAndn p x) s p x c { e with a := e.a && !b } ∧
  Reads (.opOr p x) s p x c { e with a := e.a || b } ∧ Reads (.opOrn p x) s p x c { e with a := e.a || !b } ∧
  Reads (.opXor p x) s p x c { e with a := e.a != b } ∧ Reads (.opXorn p x) s p x c { e with a := e.a != !b }

/-- R60, R78: the bit stores, where the store is not compared or both engines issue it. SET and RST store only if A is 1,
STX only where its effective address lies in the area. R60: an edge instruction stores the old A in its edge memory, and A
becomes the edge. -/
def Obligations.BitStores : Prop :=
  (∀ s p x agree, Ready s p → bitWriteOk x = true → s.bitIn p x = true →
    let e := s.engine p
    let c := accessCycles 1 x
    ((s.compared x.area (x.addr / 8) = false ∨ agree = true) →
      Stores (.opSt p x agree) s p x.area (x.addr / 8) 1 (byteWith s p x.area x.addr e.a) c e.a e.ov ∧
      Stores (.opStn p x agree) s p x.area (x.addr / 8) 1 (byteWith s p x.area x.addr (!e.a)) c e.a e.ov ∧
      (e.a = true →
        Stores (.opSet p x agree) s p x.area (x.addr / 8) 1 (byteWith s p x.area x.addr true) c true e.ov ∧
        Stores (.opRst p x agree) s p x.area (x.addr / 8) 1 (byteWith s p x.area x.addr false) c true e.ov)) ∧
    (e.a = false → Leaves (.opSet p x agree) s p c e ∧ Leaves (.opRst p x agree) s p c e) ∧
    (let n := x.addr + e.w0.toNat
     n / 8 < s.bitAreaSize p x.area → (s.compared x.area (n / 8) = false ∨ agree = true) →
      Stores (.opStx p x agree) s p x.area (n / 8) 1 (byteWith s p x.area n e.a) (accessCycles 2 x) e.a e.ov)) ∧
  (∀ s p x, Ready s p → edgeOk x = true → s.bitIn p x = true →
    let e := s.engine p
    let b := s.bitAt p x
    Stores (.opEdp p x) s p 7 (x.addr / 8) 1 (byteWith s p 7 x.addr e.a) 2 (e.a && !b) e.ov ∧
    Stores (.opEdn p x) s p 7 (x.addr / 8) 1 (byteWith s p 7 x.addr e.a) 2 (b && !e.a) e.ov)

/-- R60, R64, R65, R70: the instructions without a stored operand that change the accumulators or the flags alone. -/
def Obligations.AccumulatorInstructions : Prop := ∀ s p, Ready s p →
  let e := s.engine p
  Leaves (.opNop p) s p 1 e ∧ Leaves (.opNot p) s p 1 { e with a := !e.a } ∧
  Leaves (.opSeta p) s p 1 { e with a := true } ∧ Leaves (.opClra p) s p 1 { e with a := false } ∧
  Leaves (.opSwp p) s p 1 { e with w0 := e.w1, w1 := e.w0 } ∧ Leaves (.opDup p) s p 1 { e with w1 := e.w0 } ∧
  Leaves (.opTstw p) s p 1 { e with a := decide (e.w0 ≠ 0) } ∧
  Leaves (.opLda p) s p 1 { e with w1 := e.w0, w0 := if e.a then 1 else 0 } ∧
  Leaves (.opSext16 p) s p 1 { e with w0 := (e.w0.setWidth 16).signExtend 32 } ∧
  (∀ n, n < 4096 → Leaves (.opLdhi p ⟨15, n⟩) s p 1
    { e with w0 := (BitVec.ofNat 12 n) ++ (e.w0.setWidth 20) }) ∧
  Leaves (.opLdf p ⟨15, 0⟩) s p 1 { e with a := e.ov } ∧ Leaves (.opLdf p ⟨15, 1⟩) s p 1 { e with a := e.uf } ∧
  Leaves (.opLdf p ⟨15, 2⟩) s p 1 { e with a := e.dz } ∧
  (∀ n, n < 8 → Leaves (.opClf p ⟨15, n⟩) s p 1
    { e with ov := e.ov && !n.testBit 0, uf := e.uf && !n.testBit 1, dz := e.dz && !n.testBit 2 })

/-- R61: the branch stack, within the depths that R58 rule 5 allows. -/
def Obligations.BranchStack : Prop := ∀ s p, Ready s p →
  let e := s.engine p
  (e.branch.length < 16 →
    Leaves (.opPsa p) s p 1 { e with branch := (e.a, .and) :: e.branch } ∧
    Leaves (.opPso p) s p 1 { e with branch := (e.a, .or) :: e.branch } ∧
    Leaves (.opPsx p) s p 1 { e with branch := (e.a, .xor) :: e.branch } ∧
    Leaves (.opPsk p) s p 1 { e with branch := (e.a, .keep) :: e.branch }) ∧
  (∀ v op rest, e.branch = (v, op) :: rest →
    Leaves (.opPeek p) s p 1 { e with a := v } ∧
    Leaves (.opPop p) s p 1 { e with branch := rest, a := match op with
      | .and => v && e.a
      | .or => v || e.a
      | .xor => v != e.a
      | .keep => v })

/-- R55, R60, R65: the indexed loads, in their area and outside it. Outside, the load yields 0 and the task's index-fault
counter counts. R55: a faulty index suppresses the store of STX and STWX; the event is counted and no byte changes. -/
def Obligations.IndexedAccess : Prop :=
  (∀ s p x, Ready s p →
    let e := s.engine p
    let k := s.taskOn p
    let c := accessCycles 2 x
    let fault := s.setTask k { s.task k with indexFaults := min ((s.task k).indexFaults + 1) 0xFFFFFFFF }
    (bitIndexReadOk x = true → s.bitIn p x = true →
      let n := x.addr + e.w0.toNat
      (n / 8 < s.bitAreaSize p x.area → Leaves (.opLdx p x) s p c { e with a := s.bitOf p x.area n }) ∧
      (s.bitAreaSize p x.area ≤ n / 8 → exec (.opLdx p x) s = .next (fault.setEngine p
        (past c { e with a := false, tickFaults := e.tickFaults + 1 })))) ∧
    (wordIndexReadOk x = true → s.bytesIn p 4 x = true →
      let n := x.addr + e.w0.toNat
      (n % 4 = 0 → n + 4 ≤ s.areaSize p x.area →
        Leaves (.opLdwx p x) s p c { e with w0 := BitVec.ofNat 32 (s.natAt p x.area n 4) }) ∧
      (n % 4 ≠ 0 ∨ s.areaSize p x.area < n + 4 → exec (.opLdwx p x) s = .next (fault.setEngine p
        (past c { e with w0 := 0, tickFaults := e.tickFaults + 1 }))))) ∧
  (∀ s p x agree, Ready s p →
    let e := s.engine p
    let k := s.taskOn p
    let c := accessCycles 2 x
    let fault := s.setTask k { s.task k with indexFaults := min ((s.task k).indexFaults + 1) 0xFFFFFFFF }
    (bitWriteOk x = true → s.bitIn p x = true → s.bitAreaSize p x.area ≤ (x.addr + e.w0.toNat) / 8 →
      ∃ g, exec (.opStx p x agree) s = .next (fault.setEngine p (past c { e with tickFaults := e.tickFaults + 1, signature := g }))) ∧
    (partWriteOk 4 x = true → s.bytesIn p 4 x = true →
      ((x.addr + e.w1.toNat) % 4 ≠ 0 ∨ s.areaSize p x.area < x.addr + e.w1.toNat + 4) →
      ∃ g, exec (.opStwx p x agree) s = .next (fault.setEngine p (past c { e with tickFaults := e.tickFaults + 1, signature := g }))))

/-- R62, R73, R74: a timer instruction evaluates its timer with IN := A in the running tick, stores it, and sets A to Q; TRS
clears the timer if A is 1. No other byte of the data areas changes. R73, R74: what an evaluation makes of a timer, kind by
kind, and that ET never passes PT. -/
def Obligations.Timers : Prop :=
  (∀ s p x, Ready s p → timerOk x = true → s.bitIn p x = true →
    let e := s.engine p
    let n := x.addr / 4
    let runs (i : Instr) (k : TimerKind) : Prop :=
      let t := evalTimer k (s.timerAt p n) s.tickNo e.a
      Stores i s p 5 (16 * n + 4) 12 t.tail 6 t.q e.ov ∧ ∃ u, exec i s = .next u ∧ u.timerAt p n = t
    runs (.opTon p x) .ton ∧ runs (.opTof p x) .tof ∧ runs (.opTp p x) .tp ∧ runs (.opTacc p x) .tacc ∧
    (e.a = true → Stores (.opTrs p x) s p 5 (16 * n + 4) 12 (resetTimer (s.timerAt p n) s.tickNo).tail 3 true e.ov) ∧
    (e.a = false → Leaves (.opTrs p x) s p 3 e)) ∧
  (∀ (t : Timer) (n : Nat) (i : Bool),
    let d := if t.fresh then 0 else (n % 2 ^ 48 + 2 ^ 48 - t.lt) % 2 ^ 48
    let run := min (t.et + d) t.pt
    let ton := evalTimer .ton t n i
    let tof := evalTimer .tof t n i
    let tp := evalTimer .tp t n i
    let tacc := evalTimer .tacc t n i
    (∀ k, let u := evalTimer k t n i
      u.et ≤ u.pt ∧ u.pt = t.pt ∧ u.inp = i ∧ u.fresh = false ∧ u.lt = n % 2 ^ 48 ∧ u.kind = k.code) ∧
    (ton.q = if !i then false else if !t.inp then decide (t.pt = 0) else decide (t.pt ≤ run)) ∧
    (ton.et = if i && t.inp then run else 0) ∧
    (tof.q = if i then true else if t.inp then decide (0 < t.pt) else decide (run < t.pt)) ∧
    (tof.et = if i || t.inp then 0 else run) ∧
    (tp.q = if t.q then decide (run < t.pt) else i && !t.inp && decide (t.et = 0) && decide (0 < t.pt)) ∧
    (tp.et = if t.q then run else if !i then 0 else min t.et t.pt) ∧
    (tacc.et = if t.inp && i then run else min t.et t.pt) ∧ (tacc.q = decide (t.pt ≤ if t.inp && i then run else t.et)) ∧
    resetTimer t n = { pt := t.pt, et := 0, lt := n % 2 ^ 48, inp := false, q := false, fresh := false, kind := t.kind })

/-- R63, R75: the counter instructions. CV is stored only where the instruction changes it, the status word always, with QU
and QD of the new values. -/
def Obligations.Counters : Prop := ∀ s p x, Ready s p → counterOk x = true → s.bitIn p x = true →
  let e := s.engine p
  let n := x.addr / 4
  let c := s.counterAt p n
  let after (i : Instr) (cv : Int) (cu cd a ov : Bool) (cycles : Nat) : Prop :=
    ∃ f : Engine, exec i s = .next (s.setEngine p f) ∧
      (s.setEngine p f).counterAt p n = { cv := cv, pv := c.pv, cu := cu, cd := cd } ∧
      (s.setEngine p f).natAt p 6 (16 * n + 12) 4 = (if cu then 1 else 0) + (if cd then 2 else 0) +
        (if c.pv ≤ cv then 4 else 0) + (if cv ≤ 0 then 8 else 0) ∧
      (∀ b o, b < 8 → ¬ (memKey 6 (s.taskOn p) (16 * n) ≤ memKey b (s.taskOn p) o ∧
          memKey b (s.taskOn p) o < memKey 6 (s.taskOn p) (16 * n) + 16) →
        (s.setEngine p f).byteAt p b o = s.byteAt p b o) ∧
      f = past cycles { e with a := a, ov := ov, overlay := f.overlay, signature := f.signature }
  let up := e.a && !c.cu
  let down := e.a && !c.cd
  after (.opCtu p x) (if up then min (c.cv + 1) 0x7FFFFFFF else c.cv) e.a c.cd
    (decide (c.pv ≤ if up then min (c.cv + 1) 0x7FFFFFFF else c.cv)) (e.ov || (up && decide (c.cv = 0x7FFFFFFF))) 5 ∧
  after (.opCtd p x) (if down then max (c.cv - 1) (-0x80000000) else c.cv) c.cu e.a
    (decide ((if down then max (c.cv - 1) (-0x80000000) else c.cv) ≤ 0)) (e.ov || (down && decide (c.cv = -0x80000000))) 5 ∧
  after (.opCrs p x) (if e.a then 0 else c.cv) c.cu c.cd e.a e.ov 3 ∧
  after (.opCld p x) (if e.a then c.pv else c.cv) c.cu c.cd e.a e.ov 3

/-- R64: control transfer, within the call depth that R58 rule 6 allows. -/
def Obligations.ControlTransfer : Prop := ∀ s p t, Ready s p → targetOk t = true →
  let e := s.engine p
  let jumps (i : Instr) (f : Engine) : Prop :=
    exec i s = .next (s.setEngine p { f with pc := t, actCycles := e.actCycles + 3, cycles := e.cycles + 3 })
  jumps (.opJmp p t) e ∧
  (if e.a then jumps (.opJc p t) e else Leaves (.opJc p t) s p 1 e) ∧
  (if e.a then Leaves (.opJcn p t) s p 1 e else jumps (.opJcn p t) e) ∧
  (e.calls.length < 8 → jumps (.opCall p t) { e with calls := (e.pc + 1) :: e.calls }) ∧
  (e.a = true → e.calls.length < 8 → jumps (.opCallc p t) { e with calls := (e.pc + 1) :: e.calls }) ∧
  (e.a = false → Leaves (.opCallc p t) s p 1 e) ∧
  (∀ r rest, e.calls = r :: rest → exec (.opRet p) s = .next (s.setEngine p
    { e with calls := rest, pc := r, actCycles := e.actCycles + 3, cycles := e.cycles + 3 }))

/-- R65: the word loads. W0 is pushed to W1 first. -/
def Obligations.WordLoads : Prop := ∀ s p x, Ready s p →
  let e := s.engine p
  let c := accessCycles 1 x
  (wordReadOk x = true → s.bytesIn p 4 x = true → x.area ≠ 15 →
    Reads (.opLdw p x) s p x c { e with w1 := e.w0, w0 := BitVec.ofNat 32 (s.natAt p x.area (wordOffset x) 4) }) ∧
  (x.area = 15 → x.addr < 0x100000 →
    Reads (.opLdw p x) s p x 1 { e with w1 := e.w0, w0 := (BitVec.ofNat 20 x.addr).signExtend 32 }) ∧
  (partReadOk 2 x = true → s.bytesIn p 2 x = true →
    Reads (.opLdh p x) s p x c
      { e with w1 := e.w0, w0 := (BitVec.ofNat 16 (s.natAt p x.area x.addr 2)).signExtend 32 } ∧
    Reads (.opLdhu p x) s p x c { e with w1 := e.w0, w0 := BitVec.ofNat 32 (s.natAt p x.area x.addr 2) }) ∧
  (partReadOk 1 x = true → s.bytesIn p 1 x = true →
    Reads (.opLdb p x) s p x c { e with w1 := e.w0, w0 := (s.byteAt p x.area x.addr).signExtend 32 } ∧
    Reads (.opLdbu p x) s p x c { e with w1 := e.w0, w0 := (s.byteAt p x.area x.addr).setWidth 32 })

/-- R54, R65, R76, R78: the word stores. STW to area C recomputes the counter's status, a store to P waits for the closing
point, and the store to S raises the request. -/
def Obligations.WordStores : Prop := ∀ s p x agree, Ready s p →
  let e := s.engine p
  let c := accessCycles 1 x
  let put (i : Instr) (off width v cy : Nat) : Prop :=
    (s.compared x.area off = false ∨ agree = true) → Stores i s p x.area off width v cy e.a e.ov
  (wordWriteOk x = true → s.bytesIn p 4 x = true →
    (x.area < 6 → put (.opStw p x agree) (wordOffset x) 4 e.w0.toNat c) ∧
    (x.area = 8 → (s.compared 8 x.addr = false ∨ agree = true) → ∃ g, exec (.opStw p x agree) s = .next (s.setEngine p
      (past 2 { e with signature := g, pStores := e.pStores ++ [(x.addr, e.w0)] }))) ∧
    (x.area = 9 → ∃ g, exec (.opStw p x agree) s = .next (s.setEngine p
      (past 1 { e with signature := g, request := e.request || e.w0.toNat.testBit 0 }))) ∧
    (x.area = 6 →
      let n := x.addr / 4
      let old := s.counterAt p n
      let cv := if x.addr % 4 = 0 then e.w0.toInt else old.cv
      let pv := if x.addr % 4 = 0 then old.pv else e.w0.toInt
      ∃ f, exec (.opStw p x agree) s = .next (s.setEngine p f) ∧
        (s.setEngine p f).counterAt p n = { cv := cv, pv := pv, cu := old.cu, cd := old.cd } ∧
        (s.setEngine p f).natAt p 6 (16 * n + 12) 4 = (if old.cu then 1 else 0) + (if old.cd then 2 else 0) +
          (if pv ≤ cv then 4 else 0) + (if cv ≤ 0 then 8 else 0) ∧
        f = past 1 { e with overlay := f.overlay, signature := f.signature })) ∧
  (condWriteOk x = true → s.bytesIn p 4 x = true → x.area = 8 → (s.compared 8 x.addr = false ∨ agree = true) →
    (e.a = true → ∃ g, exec (.opStwc p x agree) s = .next (s.setEngine p
      (past 2 { e with signature := g, pStores := e.pStores ++ [(x.addr, e.w0)] }))) ∧
    (e.a = false → Leaves (.opStwc p x agree) s p 2 e)) ∧
  (partWriteOk 2 x = true → s.bytesIn p 2 x = true → put (.opSth p x agree) x.addr 2 (e.w0.toNat % 65536) c) ∧
  (partWriteOk 1 x = true → s.bytesIn p 1 x = true → put (.opStb p x agree) x.addr 1 (e.w0.toNat % 256) c) ∧
  (partWriteOk 4 x = true → s.bytesIn p 4 x = true →
    (e.a = true → put (.opStwc p x agree) x.addr 4 e.w0.toNat c) ∧
    (e.a = false → Leaves (.opStwc p x agree) s p c e) ∧
    (let n := x.addr + e.w1.toNat
     n % 4 = 0 → n + 4 ≤ s.areaSize p x.area → put (.opStwx p x agree) n 4 e.w0.toNat (accessCycles 2 x)))

/-- R66, R70: an arithmetic result that fits is exact; one that does not saturates and sets OV. W1 and the other flags
stand. R66, R67: division and remainder, with the fixed results for a divisor of 0 and for 0x8000_0000 by −1. R68: word
logic, shifts and comparisons set no flag; a count of 0 leaves W0 as it is. -/
def Obligations.WordArithmetic : Prop :=
  (∀ s p, Ready s p →
    let e := s.engine p
    let sat (i : Instr) (c : Nat) (lo hi v : Int) : Prop :=
      Leaves i s p c { e with w0 := BitVec.ofInt 32 (max lo (min hi v)), ov := e.ov || decide (v < lo ∨ hi < v) }
    let a := e.w1.toInt
    let b := e.w0.toInt
    let lo : Int := -2147483648
    let hi : Int := 2147483647
    sat (.opAdd p) 1 lo hi (a + b) ∧ sat (.opSub p) 1 lo hi (a - b) ∧ sat (.opMul p) 2 lo hi (a * b) ∧
    sat (.opNeg p) 1 lo hi (-b) ∧ sat (.opAbs p) 1 lo hi |b| ∧ sat (.opMin p) 1 lo hi (min a b) ∧
    sat (.opMax p) 1 lo hi (max a b) ∧ sat (.opAddu p) 1 0 4294967295 (e.w1.toNat + e.w0.toNat) ∧
    sat (.opSubu p) 1 0 4294967295 ((e.w1.toNat : Int) - e.w0.toNat) ∧
    sat (.opSat16 p) 1 (-32768) 32767 b ∧ sat (.opSatu16 p) 1 0 65535 b) ∧
  (∀ s p, Ready s p →
    let e := s.engine p
    let a := e.w1.toInt
    let b := e.w0.toInt
    (e.w0 = 0 → 0 ≤ a → Leaves (.opDiv p) s p 18 { e with w0 := 0x7FFFFFFF, dz := true }) ∧
    (e.w0 = 0 → a < 0 → Leaves (.opDiv p) s p 18 { e with w0 := 0x80000000, dz := true }) ∧
    (e.w0 = 0 → Leaves (.opMod p) s p 18 { e with w0 := 0, dz := true }) ∧
    (e.w1 = 0x80000000 → e.w0 = 0xFFFFFFFF → Leaves (.opDiv p) s p 18 { e with w0 := 0x7FFFFFFF, ov := true } ∧
      Leaves (.opMod p) s p 18 { e with w0 := 0 }) ∧
    (e.w0 ≠ 0 → ¬ (e.w1 = 0x80000000 ∧ e.w0 = 0xFFFFFFFF) →
      ∃ q r : Int, a = q * b + r ∧ |r| < |b| ∧ (r = 0 ∨ (0 < r ↔ 0 < a)) ∧
        Leaves (.opDiv p) s p 18 { e with w0 := BitVec.ofInt 32 q } ∧
        Leaves (.opMod p) s p 18 { e with w0 := BitVec.ofInt 32 r })) ∧
  (∀ s p, Ready s p →
    let e := s.engine p
    let a := e.w1
    let b := e.w0
    let makes (i : Instr) (w : Word) : Prop := Leaves i s p 1 { e with w0 := w }
    let decides (i : Instr) (c : Bool) : Prop := Leaves i s p 1 { e with a := c }
    makes (.opAw p) (a &&& b) ∧ makes (.opOw p) (a ||| b) ∧ makes (.opXw p) (a ^^^ b) ∧ makes (.opInvw p) (~~~b) ∧
    (∀ n, n < 32 → makes (.opShl p ⟨15, n⟩) (BitVec.ofNat 32 (b.toNat * 2 ^ n)) ∧
      makes (.opShr p ⟨15, n⟩) (BitVec.ofNat 32 (b.toNat / 2 ^ n)) ∧
      makes (.opSar p ⟨15, n⟩) (BitVec.ofInt 32 (b.toInt / 2 ^ n)) ∧
      makes (.opRol p ⟨15, n⟩) ((b <<< n) ||| (b >>> (32 - n)))) ∧
    decides (.opEq p) (decide (a = b)) ∧ decides (.opNe p) (decide (a ≠ b)) ∧
    decides (.opGt p) (b.slt a) ∧ decides (.opGe p) (b.sle a) ∧ decides (.opLt p) (a.slt b) ∧ decides (.opLe p) (a.sle b) ∧
    decides (.opGtu p) (b.ult a) ∧ decides (.opLtu p) (a.ult b))namespace Sys2Proof.Stated

open Sys2Proof Sys2Proof.Machine

/-- A float result on pair `p`: W0 and the flags that the instruction raises. -/
def Computes (i : Instr) (s : State) (p c : Nat) (w : Word) (f : FlagSet) : Prop :=
  let e := s.engine p
  Leaves i s p c { e with w0 := w, ov := e.ov || f.ov, uf := e.uf || f.uf, dz := e.dz || f.dz }

/-- A float comparison on pair `p`: A and UF. -/
def Compares (i : Instr) (s : State) (p : Nat) (a uf : Bool) : Prop :=
  let e := s.engine p
  Leaves i s p 2 { e with a := a, uf := e.uf || uf }

/-- The exponent field of a word, all ones for NaN and the infinities. -/
def expo (w : Word) : Nat := w.toNat / 2 ^ 23 % 256

/-- The fraction field of a word. -/
def frac (w : Word) : Nat := w.toNat % 2 ^ 23

/-- A NaN. -/
def IsNaN (w : Word) : Prop := expo w = 255 ∧ frac w ≠ 0

/-- An infinity. -/
def IsInf (w : Word) : Prop := expo w = 255 ∧ frac w = 0

/-- A zero, as which a subnormal is taken (R69). -/
def IsZero (w : Word) : Prop := expo w = 0

/-- The sign bit. -/
def minus (w : Word) : Bool := w.getLsbD 31

end Sys2Proof.Stated

/-- R69: the float instructions complete with the model's rounded result; a NaN operand or an invalid operation delivers
0x7FC0_0000 with UF, a finite non-zero value over zero an infinity with DZ, and FNEG and FABS touch bit 31 alone. -/
def Obligations.FloatArithmetic : Prop := ∀ s p, Ready s p →
  let e := s.engine p
  let x := e.w1
  let y := e.w0
  let bad (i : Instr) (c : Nat) : Prop := Computes i s p c 0x7FC00000 { uf := true }
  let signed (b : Bool) : Word := if b then 0xFF800000 else 0x7F800000
  Computes (.opFadd p) s p 3 (fAdd x y).1 (fAdd x y).2 ∧ Computes (.opFsub p) s p 3 (fSub x y).1 (fSub x y).2 ∧
  Computes (.opFmul p) s p 3 (fMul x y).1 (fMul x y).2 ∧ Computes (.opFdiv p) s p 14 (fDiv x y).1 (fDiv x y).2 ∧
  Computes (.opFsqrt p) s p 16 (fSqrt y).1 (fSqrt y).2 ∧
  (IsNaN x ∨ IsNaN y → bad (.opFadd p) 3 ∧ bad (.opFsub p) 3 ∧ bad (.opFmul p) 3 ∧ bad (.opFdiv p) 14) ∧
  (IsNaN y → bad (.opFsqrt p) 16) ∧
  (IsInf x → IsInf y → (minus x ≠ minus y → bad (.opFadd p) 3) ∧ (minus x = minus y → bad (.opFsub p) 3) ∧ bad (.opFdiv p) 14) ∧
  (IsZero x ∧ IsInf y ∨ IsInf x ∧ IsZero y → bad (.opFmul p) 3) ∧ (IsZero x → IsZero y → bad (.opFdiv p) 14) ∧
  (minus y = true → ¬ IsZero y → bad (.opFsqrt p) 16) ∧
  (IsZero y → Computes (.opFsqrt p) s p 16 (if minus y then 0x80000000 else 0) {}) ∧
  (expo x ≠ 255 → ¬ IsZero x → IsZero y → Computes (.opFdiv p) s p 14 (signed (minus x != minus y)) { dz := true }) ∧
  Leaves (.opFneg p) s p 1 { e with w0 := y ^^^ 0x80000000 } ∧ Leaves (.opFabs p) s p 1 { e with w0 := y &&& 0x7FFFFFFF }

/-- R69, R70: comparisons and conversions. Equality is false and an order comparison gives A = 0 with UF where an operand is
NaN; +0 equals −0; on two finite values the order is that of their exact values. -/
def Obligations.FloatComparison : Prop := ∀ s p, Ready s p →
  let x := (s.engine p).w1
  let y := (s.engine p).w0
  let ord (w : Word) : Int := let m : Int := if expo w = 0 then 0 else ((2 ^ 23 + frac w) * 2 ^ (expo w - 1) : Nat)
    if minus w then -m else m
  (IsNaN x ∨ IsNaN y → Compares (.opFeq p) s p false false ∧ Compares (.opFne p) s p true false ∧
    Compares (.opFgt p) s p false true ∧ Compares (.opFge p) s p false true ∧ Compares (.opFlt p) s p false true ∧
    Compares (.opFle p) s p false true) ∧
  (expo x ≤ 254 → expo y ≤ 254 →
    Compares (.opFeq p) s p (decide (ord x = ord y)) false ∧ Compares (.opFne p) s p (decide (ord x ≠ ord y)) false ∧
    Compares (.opFgt p) s p (decide (ord y < ord x)) false ∧ Compares (.opFge p) s p (decide (ord y ≤ ord x)) false ∧
    Compares (.opFlt p) s p (decide (ord x < ord y)) false ∧ Compares (.opFle p) s p (decide (ord x ≤ ord y)) false) ∧
  (¬ IsNaN x → ¬ IsNaN y → ∃ q l g : Bool,
    Compares (.opFeq p) s p q false ∧ Compares (.opFne p) s p (!q) false ∧ Compares (.opFgt p) s p g false ∧
    Compares (.opFge p) s p (g || q) false ∧ Compares (.opFlt p) s p l false ∧ Compares (.opFle p) s p (l || q) false ∧
    (IsInf x → IsInf y → q = decide (x = y)))

/-- R70: the conversions. A signed word of at most 24 significant bits passes through ITF and FTI or FTIT unchanged; a NaN
gives 0 with UF, a value out of range the nearer bound with OV. R69: the results are rounded to nearest: a value that single
precision holds is delivered as it is. Adding +0 or multiplying or dividing by one leaves every normal value, and no flag is
raised. -/
def Obligations.FloatConversion : Prop :=
  (∀ s p, Ready s p →
    let y := (s.engine p).w0
    Computes (.opItf p) s p 2 (fOfInt y) {} ∧
    Computes (.opFti p) s p 2 (fToInt roundEven y).1 (fToInt roundEven y).2 ∧
    Computes (.opFtit p) s p 2 (fToInt roundZero y).1 (fToInt roundZero y).2 ∧
    (|y.toInt| ≤ 2 ^ 24 → fToInt roundEven (fOfInt y) = (y, {}) ∧ fToInt roundZero (fOfInt y) = (y, {})) ∧
    (IsNaN y → Computes (.opFti p) s p 2 0 { uf := true } ∧ Computes (.opFtit p) s p 2 0 { uf := true }) ∧
    (158 ≤ expo y → ¬ IsNaN y → y ≠ 0xCF000000 →
      Computes (.opFti p) s p 2 (if minus y then 0x80000000 else 0x7FFFFFFF) { ov := true } ∧
      Computes (.opFtit p) s p 2 (if minus y then 0x80000000 else 0x7FFFFFFF) { ov := true })) ∧
  (∀ w : Word, 1 ≤ expo w → expo w ≤ 254 →
    fAdd w 0 = (w, {}) ∧ fSub w 0 = (w, {}) ∧ fMul w 0x3F800000 = (w, {}) ∧ fDiv w 0x3F800000 = (w, {}))

/-- R78, R80: a compared store that the checking engine does not issue is not committed. The pair stops, its mismatch
counter counts, no byte that a task reads changes, and the pair executes no further instruction of the tick. R56: a store is
visible at once to the pair's own task and to no other pair, and committed memory stands until the staking point. -/
def Obligations.EngineStores : Prop :=
  (∀ s p x, Ready s p → bitWriteOk x = true → s.bitIn p x = true →
    s.compared x.area (x.addr / 8) = true →
    let t := (s.setEngine p { s.engine p with stopped := true }).setReg (keyOf 0x2101 (p + 1))
      (min (s.reg (keyOf 0x2101 (p + 1)) + 1) 0xFFFFFFFF)
    exec (.opSt p x false) s = .next t ∧ exec (.opStn p x false) s = .next t ∧
    ((s.engine p).a = true → exec (.opSet p x false) s = .next t ∧ exec (.opRst p x false) s = .next t) ∧
    (∀ a o, a < 8 → t.byteAt p a o = s.byteAt p a o) ∧ (t.engine p).stopped = true ∧
    exec (.opNop p) t = .next t ∧ exec (.opAdd p) t = .next t ∧ exec (.opLd p x) t = .next t ∧ exec (.opJmp p 0) t = .next t) ∧
  (∀ s p q x agree, Ready s p → q ≠ p → bitWriteOk x = true → s.bitIn p x = true →
    (s.compared x.area (x.addr / 8) = false ∨ agree = true) →
    ∃ t, exec (.opSt p x agree) s = .next t ∧ t.bitOf p x.area x.addr = (s.engine p).a ∧
      (∀ a o, a < 8 → t.byteAt q a o = s.byteAt q a o) ∧ t.mem = s.mem)

/-- R49, R64, R76, R79, R87: END with agreeing signatures saves the flags with the task and clears its first-activation bits;
the next waiting activation starts on cleared accumulators and stacks with its own task's flags, or the engine is idle. With
differing signatures the pair stops and nothing is saved. -/
def Obligations.ActivationEnd : Prop := ∀ s p k, Ready s p → (s.engine p).running = some k → (s.engine p).tickFaults = 0 →
  (∃ t, exec (.opEnd p true) s = .next t ∧ (t.engine p).stopped = false ∧
    (t.task k).ov = (s.engine p).ov ∧ (t.task k).uf = (s.engine p).uf ∧ (t.task k).dz = (s.engine p).dz ∧
    (t.engine p).overlay = (s.engine p).overlay ∧ t.mem = s.mem ∧ (∀ q, q ≠ p → t.engine q = s.engine q) ∧
    ((s.engine p).waiting = [] → (t.engine p).running = none ∧ (t.engine p).cycles = (s.engine p).cycles + 6 ∧
      (t.task k).firstRun = false ∧ (t.task k).firstExch = false ∧ (t.task k).firstActive = false ∧
      (∀ j, j ≠ k → t.task j = s.task j)) ∧
    (∀ j rest, (s.engine p).waiting = j :: rest → j ≠ k →
      (t.engine p).running = some j ∧ (t.engine p).waiting = rest ∧ (t.engine p).a = false ∧ (t.engine p).w0 = 0 ∧
      (t.engine p).w1 = 0 ∧ (t.engine p).branch = [] ∧ (t.engine p).calls = [] ∧ (t.engine p).ov = (s.task j).ov ∧
      (t.engine p).uf = (s.task j).uf ∧ (t.engine p).dz = (s.task j).dz ∧ (t.engine p).actCycles = 12 ∧
      (t.engine p).cycles = (s.engine p).cycles + 18)) ∧
  (∃ t, exec (.opEnd p false) s = .next t ∧ (t.engine p).stopped = true ∧ (t.engine p).running = some k ∧ t.tasks = s.tasks ∧
    t.reg (keyOf 0x2101 (p + 1)) = min (s.reg (keyOf 0x2101 (p + 1)) + 1) 0xFFFFFFFF ∧
    (∀ j, j ≠ keyOf 0x2101 (p + 1) → t.reg j = s.reg j) ∧ t.mem = s.mem)

/-- R50, R51: decoding and encoding agree. The word of a well-formed scan instruction spells it (with the engines in
agreement, which no word spells), and the instruction that a word spells has that word: no bit is dropped. -/
def Obligations.ScanRoundTrip : Prop :=
  (∀ i w, Instr.wf i = true → scanEncode i = some w → w < 2 ^ 32 ∧ ∃ p, scanDecode p w = some (agreed i)) ∧
  (∀ p w i, w < 2 ^ 32 → scanDecode p w = some i → scanEncode i = some w)

/-- R51 and the opcodes of R60 to R70: words written out from the tables. -/
def Obligations.ScanWords : Prop :=
  scanDecode 3 0x40F1D4C0 = some (.opLdw 3 ⟨15, 0x1D4C0⟩) ∧ scanDecode 3 0x4850001D = some (.opStw 3 ⟨5, 0x1D⟩ true) ∧
  scanDecode 0 0x01000000 = some (.opLd 0 ⟨0, 0⟩) ∧ scanDecode 0 0x18000000 = some (.opPsa 0) ∧
  scanDecode 0 0x50000000 = some (.opAdd 0) ∧ scanDecode 0 0x36000000 = some (.opEnd 0 true) ∧
  scanDecode 0 0x30000005 = some (.opJmp 0 5) ∧ scanDecode 0 0x14000000 = none ∧ scanDecode 0 0x50000001 = none

namespace Sys2Proof.Stated

open Sys2Proof Sys2Proof.Machine

/-- Every register outside a list keeps its value. -/
def Only (keys : List Nat) (s t : State) : Prop := ∀ k, k ∉ keys → t.reg k = s.reg k

/-- Bit `n` of a register sets; the register's other bits stay. -/
def SetsBit (key n : Nat) (s t : State) : Prop :=
  (t.reg key).testBit n = true ∧ ∀ m, m < entryBits key → m ≠ n → (t.reg key).testBit m = (s.reg key).testBit m

/-- The cause register of a group (R385). -/
def causeOf (g : Nat) : Nat := keyOf (0x2F40 + g) 1

/-- The tick period in force, in nanoseconds (R13). -/
def periodNs (s : State) : Nat := s.tD * 1000

end Sys2Proof.Stated

/-- A step takes the command at the front of the queue and runs it with the queue's rest; an empty queue changes nothing
(log entry 10). -/
def Obligations.StepRunsFront : Prop :=
  (∀ (c : Instr) (rest : List Instr) (s : State), s.pending = c :: rest → step s = exec c { s with pending := rest }) ∧
  (∀ s : State, s.pending = [] → step s = .next s)

/-- No command touches the queue of the commands that wait. -/
def Obligations.ExecKeepsQueue : Prop :=
  ∀ (c : Instr) (s t : State), exec c s = .next t → t.pending = s.pending

/-- The state after the release of a power-on reset: in canonical form, OPTION-READ, cause bit 0 alone, the sequencer not
running, nothing waiting, IRQ_N released; the tick shape stands at its defaults (R13, R14, R16, R432, R445). -/
def Obligations.ResetState : Prop :=
  State.reset.Ok ∧ State.reset.mode = stOption ∧ State.reset.running = false ∧ State.reset.pending = [] ∧
  State.reset.reg 0x2F0001 = 1 ∧ State.reset.irq = false ∧ State.reset.tD = 250 ∧ State.reset.reg 0x200003 = 70 ∧
  State.reset.reg 0x200004 = 210 ∧ State.reset.reg 0x200005 = 12 ∧ State.reset.reg 0x200006 = 1000 ∧
  (∀ a, Memory.read State.reset.mem a = 0)

/-- Every step keeps the canonical form of the state: registers fit their entries, no register or memory byte is listed at
its default, and the tables list each key once. -/
def Obligations.StepKeepsOk : Prop := ∀ s t : State, s.Ok → step s = .next t → t.Ok

/-- What the register operations do: a write is cut to the entry's width, a counter saturates, a bit sets or clears, a live
maximum only rises and a live minimum only falls, and every other register stands (R10, R42, R43). R42, R43: at a frame
boundary every statistic's live value is copied to its latched subindex, and the live one restarts at 0, a live minimum at
0xFFFF_FFFF; no other register changes. -/
def Obligations.RegisterOperations : Prop :=
  (∀ (s : State) (k v n : Nat), s.Ok →
    let top := 2 ^ entryBits k - 1
    ((s.setReg k v).reg k = v % 2 ^ entryBits k ∧ Only [k] s (s.setReg k v)) ∧
    ((s.count k).reg k = min (s.reg k + 1) top ∧ Only [k] s (s.count k)) ∧
    (n < entryBits k → SetsBit k n s (s.setBit k n true) ∧ ((s.setBit k n false).reg k).testBit n = false ∧
      ∀ m, m < entryBits k → m ≠ n → ((s.setBit k n false).reg k).testBit m = (s.reg k).testBit m) ∧
    (v ≤ top → (s.maxReg k v).reg k = max (s.reg k) v ∧ (s.minReg k v).reg k = min (s.reg k) v)) ∧
  (∀ s : State, s.Ok →
    (∀ x, x ∈ statistics → s.latchAll.reg x.latch = s.reg x.live ∧ s.latchAll.reg x.live = x.start ∧
      (x.start = if x.live = 0x202009 then 0xFFFFFFFF else 0)) ∧
    Only (statistics.map (fun x => x.live) ++ statistics.map (fun x => x.latch)) s s.latchAll)

/-- R386: a cause bit sets at its event, and a write of 1 that was accepted before the event no longer clears it; EMCY leaves
for groups 1, 5, 7 and 8 while the CANopen device may send (R376). Nothing else changes. -/
def Obligations.CauseSets : Prop := ∀ (s : State) (g n : Nat), s.Ok → 1 ≤ g → g ≤ 15 → n < 32 →
  let t := s.setCause g n
  SetsBit (causeOf g) n s t ∧ Only [causeOf g] s t ∧
  t = { s with regs := t.regs, out := t.out, dict := { s.dict with atClose := t.dict.atClose } } ∧
  (∀ w, w ∈ t.dict.atClose → w.key = causeOf g → (leNat w.data).testBit n = false) ∧
  (t.out = s.out ∨ ∃ v, emcyGroup g = true ∧ (s.reg (causeOf g)).testBit n = false ∧ s.deviceSends = true ∧
    t.out = s.out ++ [.emcy g v] ∧ v.testBit n = true)

/-- R16, R29 to R42, R437: each point of a tick completes in every state in which the sequencer runs, with its work in the
order of the spec, and does nothing in the other states (DATUM_EDGE also ends SELF-TEST). R16: in simplex the closure point
issues the token unconditionally; at the release edge staked outputs take effect with a token and keep their values without
one. -/
def Obligations.TickPoints : Prop :=
  (∀ (s : State) (f : FieldSample) (faults : List Nat),
    (s.running = true →
      exec (.datumEdge f) s = .next (
        let q := s.absorb
        let t := if q.tick.started = true ∧ q.tick.boundaryDone = false then q.beginTick else q
        let u := (t.placeEdge f.stageError).latchInputs f s.tick.datumNs
        (u.pairAtD.releaseEdge f.cooled).edgeEnd) ∧
      exec .closingPoint s = .next (
        let t := (s.atPoint .c (s.reg 0x200003 * 1000)).closeDictionary.closeImage
        t.pairAtC.commandedReset) ∧
      ((∀ p, p ∈ faults → p < 144) → s.outstation = false →
        exec (.computeStart faults) s = .next (
          let t := (s.atPoint .x (s.reg 0x200107)).pairAtX
          let u := { t with pair := { t.pair with mismatches := [] } }
          (if u.pair.computed = true then u.compute faults else u).backgroundCopy)) ∧
      (s.outstation = false → exec .stakingPoint s = .next s.stakingPoint) ∧
      (s.outstation = false →
        exec .closurePoint s = .next (s.atPoint .k ((s.reg 0x200004 + s.reg 0x200005) * 1000)).pairAtK) ∧
      (s.outstation = true → exec (.computeStart faults) s = .next s ∧
        exec .stakingPoint s = .next (s.atPoint .s (s.reg 0x200004 * 1000)) ∧
        exec .closurePoint s = .next (s.atPoint .k ((s.reg 0x200004 + s.reg 0x200005) * 1000))) ∧
      (s.tick.started = true → s.tick.boundaryDone = false → s.queueErrors.adoptCounts.boundaryNext = true →
        exec .frameBoundary s = .next s.beginTick ∧ s.beginTick.tick.boundaryDone = true) ∧
      exec .stepAbsorbed s = .next s.absorb) ∧
    (s.running = false →
      exec .closingPoint s = .next s ∧ exec .stakingPoint s = .next s ∧ exec .closurePoint s = .next s ∧
      exec .frameBoundary s = .next s ∧ exec .stepAbsorbed s = .next s ∧
      exec (.computeStart faults) s = .next s ∧
      (s.startReady = false → exec (.datumEdge f) s = .next s))) ∧
  ((∀ s : State, s.running = true → s.outstation = false → s.inPair = false →
      ∃ t, exec .closurePoint s = .next t ∧ t.tick.token = true ∧ t.tick.point = .k ∧ t.tick.released = s.tick.released ∧
        t.tick.staked = s.tick.staked ∧ t.regs = s.regs) ∧
    (∀ (s : State) (cooled : Nat),
      (s.tick.token = true → (s.releaseOutputs cooled).tick.released = s.tick.staked) ∧
      (s.tick.token = false → (s.releaseOutputs cooled).tick.released = s.tick.released)))

/-- R15, R32, R35, R40: at a datum edge the tick number rises by one and the tick-in-frame count rises or returns to 0 with
the next frame number; the edge lies where the one before it said, and the next one on the first multiple of T_D at least
T_D later. R35, R36: a step that is pending and not held moves the coming datum edge with the time-scale and starts no
other; a step that is held, or before the first datum edge, waits. -/
def Obligations.EdgeCounts : Prop :=
  (∀ (s : State) (e : Nat), s.Ok →
    (let t := s.countTick
     t.tickNo = (s.tickNo + 1) % 2 ^ 64 ∧ Only [0x200101, 0x200102, 0x200103] s t ∧
     (s.boundaryNext = true → t.reg 0x200103 = 0 ∧ t.reg 0x200102 = (s.reg 0x200102 + 1) % 2 ^ 64) ∧
     (s.boundaryNext = false → t.reg 0x200103 = (s.reg 0x200103 + 1) % 2 ^ 32 ∧ t.reg 0x200102 = s.reg 0x200102)) ∧
    (0 < s.tD →
     let t := s.placeEdge e
     t.tick.point = .d ∧ t.tick.started = true ∧ t.tick.nowNs = t.tick.datumNs ∧
     (s.tick.started = true → t.tick.datumNs = s.tick.nextNs) ∧
     (s.tick.started = false → t.tick.datumNs % periodNs s = 0 ∧ s.tick.nowNs ≤ t.tick.datumNs ∧
       t.tick.datumNs < s.tick.nowNs + periodNs s) ∧
     t.tick.nextNs % periodNs s = 0 ∧ t.tick.datumNs + periodNs s ≤ t.tick.nextNs ∧
     t.tick.nextNs < t.tick.datumNs + 2 * periodNs s ∧
     t.tick.stepped = s.tick.stepNow ∧ t.tick.stretched = s.tick.stepNow ∧ t.tick.stepNow = false)) ∧
  (∀ (s : State) (a : Int), s.Ok → s.running = true → s.tick.stepPending = some a →
    (s.tick.stepHeld = false → s.tick.started = true →
      ∃ t, exec .stepAbsorbed s = .next t ∧ t.tick.stepPending = none ∧ t.tick.stepNow = true ∧
        t.tick.nextNs = ((s.tick.nextNs : Int) + a).toNat ∧ t.tick.nowNs = ((s.tick.nowNs : Int) + a).toNat ∧
        t.reg 0x2A010D = s.edgeTick % 2 ^ 64 ∧ (t.reg (causeOf 9)).testBit 1 = true ∧ t.tickNo = s.tickNo) ∧
    (s.tick.stepHeld = true ∨ s.tick.started = false → exec .stepAbsorbed s = .next s))


namespace Sys2Proof.Stated

open Sys2Proof Sys2Proof.Machine

/-- `t` is `u` but for registers of a list and for writes of 1 that no longer clear a cause whose event has come again. -/
def Apart (keys : List Nat) (u t : State) : Prop :=
  Only keys u t ∧ t = { u with regs := t.regs, dict := { u.dict with atClose := t.dict.atClose } }

/-- The same for an event of a group that sends EMCY: what goes out beside is EMCY alone. -/
def ApartEmcy (keys : List Nat) (u t : State) : Prop :=
  Only keys u t ∧ t = { u with regs := t.regs, out := t.out, dict := { u.dict with atClose := t.dict.atClose } } ∧
  ∃ es, t.out = u.out ++ es ∧ ∀ e, e ∈ es → ∃ g v, e = .emcy g v

/-- The inputs of a cause that are tripped (R104, R105). -/
def inputsTripped (s : State) (n : Nat) (c : Cause) : Nat :=
  let r := s.causeRt n
  ((List.zip c.inputs [r.input0, r.input1, r.input2]).filter (fun x => s.inputState c x.1 x.2)).length

/-- The count of consecutive evaluations in which a cause's vote held (R105, R108): it stands at 0 where the vote fails. -/
def voteCount (s : State) (n : Nat) (c : Cause) : Nat :=
  if (if c.vote = 3 then 2 else 1) ≤ inputsTripped s n c then min ((s.causeRt n).count + 1) 65536 else 0

end Sys2Proof.Stated

/-- R105, R108 step 1, R110: a cause trips once its vote has held for its delay and one evaluation more, and 2130.11 counts
each new trip; it is evaluated once per tick, and a stopped witness pair evaluates nothing. A bypass that has counted down
to 0 ends, with error record 8. -/
def Obligations.MatrixEvents : Prop := ∀ (s : State) (n : Nat) (m : Matrix) (c : Cause),
  (s.mtx.active = some m → m.causes[n]? = some c → s.mtx.stopped = false → s.running = true → s.causeDone n = false →
    ∃ i0 i1 i2,
      let u := s.setCauseRt n { s.causeRt n with
        input0 := i0, input1 := i1, input2 := i2, count := voteCount s n c, tripped := decide (c.delay < voteCount s n c) }
      let v := if c.delay < voteCount s n c ∧ (s.causeRt n).tripped = false then u.count 0x213011 else u
      let early := s.mtx.early.filter (fun x => x.1 == s.tickNo) ++ [(s.tickNo, n)]
      exec (.causeTrip n) s = .next { v with mtx := { v.mtx with early := early } } ∧
        ({ v with mtx := { v.mtx with early := early } } : State).causeDone n = true) ∧
  (s.mtx.active = none ∨ s.mtx.stopped = true ∨ s.running = false ∨ s.causeDone n = true →
    exec (.causeTrip n) s = .next s) ∧
  (s.mtx.active = some m → m.causes[n]? = none → exec (.causeTrip n) s = .next s) ∧
  ((s.causeRt n).bypass = some 0 →
    exec (.bypassExpiry n) s = .next ((s.setCauseRt n { s.causeRt n with bypass := none }).recordError 8 n 0)) ∧
  ((s.causeRt n).bypass ≠ some 0 → exec (.bypassExpiry n) s = .next s)

/-- R122, R132, R136, R137: the end of a verification shows verdict and detail and places a valid image in its bank; the
background transfer completes; PREPARING past its limit ends with result 0x0D and leaves the data memory alone; the
active-bank record names the active bank. Each does nothing where nothing of its kind is under way. -/
def Obligations.ImageEvents : Prop := ∀ s : State, s.Ok →
  (∀ bs, s.img.download = some bs →
    let v := verifyProgram bs s.ownerHash
    let n := s.img.target
    ∃ t, exec .imageVerificationDone s = .next t ∧ t.img.download = none ∧
      t.reg 0x22000C = fit 0x22000C v.1.code ∧ t.reg 0x22000D = fit 0x22000D v.1.detail ∧ SetsBit (causeOf 3) 0 s t ∧
      (∀ x, v.2 = some x → t.bank n = ⟨some x, bs⟩ ∧ t.bankState n = 1 ∧ t.reg 0x220102 = 3) ∧
      (v.2 = none → t.bank n = {} ∧ t.bankState n = 0 ∧ t.reg 0x220102 = 0) ∧
      t = { s with regs := t.regs, img := t.img, dict := { s.dict with atClose := t.dict.atClose } }) ∧
  (s.img.download = none → exec .imageVerificationDone s = .next s) ∧
  (s.reg 0x220102 = 4 →
    (∃ t, exec .preparationLimitExpiry s = .next t ∧ t.reg 0x220102 = 3 ∧ t.reg 0x220103 = 0xD ∧ SetsBit (causeOf 3) 2 s t ∧
      t.reg 0x220206 = 0 ∧ Apart [0x220102, 0x220103, 0x220206, causeOf 3] { s with img := { s.img with bgDone := 0, bgComplete := false, dirtyPages := [] } } t) ∧
    (s.img.bgComplete = false →
      ∃ t, exec .backgroundTransferDone s = .next t ∧ t.img = { s.img with bgDone := max s.img.bgDone s.bgTotal, bgComplete := true } ∧
        t.reg 0x220205 = fit 0x220205 (max s.img.bgDone s.bgTotal) ∧ Only [0x220205] s t ∧ t = { s with regs := t.regs, img := t.img, mem := t.mem } ∧
        (∀ a, (∀ x, x ∈ movedList s.image s.newImage → a < memKey 3 0 x.2.1 ∨ memKey 3 0 x.2.1 + x.2.2 ≤ a) →
          Memory.read t.mem a = Memory.read s.mem a)) ∧
    (s.img.bgComplete = true → exec .backgroundTransferDone s = .next s)) ∧
  (s.reg 0x220102 ≠ 4 → exec .preparationLimitExpiry s = .next s ∧ exec .backgroundTransferDone s = .next s) ∧
  (s.reg 0x22000B = 0 →
    ∃ t, exec .bankRecordCommitted s = .next t ∧ t.reg 0x22000B = 1 ∧ SetsBit (causeOf 3) 4 s t ∧
      Apart [0x22000B, causeOf 3] { s with img := { s.img with committedBank := s.reg 0x220002 } } t) ∧
  (s.reg 0x22000B ≠ 0 → exec .bankRecordCommitted s = .next s)

namespace Sys2Proof.Stated

open Sys2Proof Sys2Proof.Machine

/-- A frame arrived while the silence watch may be open (R183). -/
def heard (s : State) : State := { s with pair := { s.pair with watchHeard := true } }

/-- A register counts up and saturates (R43). -/
def Counts (key n : Nat) (s t : State) : Prop := t.reg key = min (s.reg key + n) (2 ^ entryBits key - 1)

/-- A role change to `role` waits for the next datum edge (R171). -/
def Waits (s t : State) (sources : List Nat) (role reason kind : Nat) : Prop :=
  t = { s with pair := { s.pair with change := some { sources := sources, role := role, reason := reason, kind := kind } } }

/-- The frames of the tie link by the lanes on which a copy failed its CRC, each with whether its deadline is still to come
at its arrival (R184). -/
def tieKinds (s : State) (f : ImageFrame) (r : RoleStatus) (n d : Nat) (bs : List Byte) (c : TieCommand) (b : Bool) :
    List ((List Nat → Instr) × Bool) :=
  [(fun x => .imageFrame { f with whole := true, failed := x }, s.beforeX f.tick),
   (fun x => .roleStatusFrame { r with failed := x }, true),
   (fun x => .outputDigest n ⟨d, x⟩, s.beforeK), (fun x => .faultNotice ⟨n, x⟩, s.beforeK),
   (fun x => .fullOutputImage n ⟨bs, x⟩, n == s.tick.staked.tick), (fun x => .tieCommandFrame ⟨c, x⟩, true),
   (fun x => .writeForwardFrame (n % 65536) (d % 256) ⟨bs, x⟩ ⟨d, n⟩, true),
   (fun x => .resynchronisationDataFrame (n % 0x80080) ⟨bs, x⟩, true), (fun x => .bankCopyComplete (n % 3) ⟨bs, x⟩ b, true)]

end Sys2Proof.Stated

/-- R99, R173, R175, R180, R182 to R185, R191, R372: what the frames of the tie link do in a unit of a pair that runs with
the link up. A unit that the frame does not concern only notes that it heard one. R184: each failed copy counts on its lane;
a frame whose first copy failed arrives with its repeat if that comes before its deadline, and is lost else. R135, R173,
R177, R182, R185, R196: the commands that a unit sends its partner over the tie link. -/
def Obligations.TieLinkFrames : Prop :=
  (∀ (s : State) (f : ImageFrame) (r : RoleStatus) (n d : Nat) (bs : List Byte) (c : TieCommand) (b : Bool), s.Ok →
    ∀ x, x ∈ tieKinds s f r n d bs c b →
      (∀ lane, lane < 2 →
        (x.2 = false → exec (x.1 [lane]) s = .next (s.count (keyOf 0x2520 (5 + 2 * lane)))) ∧
        (∃ t, exec (x.1 [lane]) s = .next t ∧ Counts (keyOf 0x2520 (5 + 2 * lane)) 1 s t ∧
          Counts 0x252009 (if x.2 then 1 else 0) s t)) ∧
      (∃ t, exec (x.1 [0, 1]) s = .next t ∧ Only [0x252005, 0x252007, 0x252009] s t ∧ t = { s with regs := t.regs } ∧
        Counts 0x252005 1 s t ∧ Counts 0x252007 1 s t ∧ Counts 0x252009 (if x.2 then 1 else 0) s t) ∧
      (s.tieUp = false ∨ s.running = false → exec (x.1 []) s = .next s)) ∧
  (∀ s : State, s.Ok → s.tieUp = true → s.running = true →
    let h := heard s
    (∀ f : ImageFrame, f.failed = [] →
      exec (.imageFrame f) s = .next (if f.whole then { h with pair := { h.pair with image := some f } } else s)) ∧
    (∀ f : RoleStatus, f.failed = [] → ∃ t, exec (.roleStatusFrame f) s = .next t ∧ t.pair.partner = some f ∧
      t.pair.heard = 2 ∧ t.reg 0x250102 = f.role % 256 ∧ (t.reg 0x250107).testBit 1 = false ∧ t.mem = s.mem ∧
      t.engines = s.engines) ∧
    (∀ n d,
      (s.role = 1 → s.pair.abdicated ≠ some n →
        exec (.outputDigest n ⟨d, []⟩) s = .next { h with pair := { h.pair with digest := some (n, d) } }) ∧
      (s.role = 1 → s.pair.abdicated = some n → ∃ t, exec (.outputDigest n ⟨d, []⟩) s = .next t ∧ t.role = 4 ∧
        t.reg 0x250108 = 3 ∧ t.reg 0x250104 = 0 ∧ t.pair.abdicated = none) ∧
      (s.role ≠ 1 → exec (.outputDigest n ⟨d, []⟩) s = .next h)) ∧
    (∀ n,
      (s.role = 1 → ∃ t, exec (.faultNotice ⟨n, []⟩) s = .next t ∧ t.pair.notice = some n ∧ t.reg 0x250102 = 4 ∧ t.role = 1 ∧
        t.pair.abdicated = if s.pair.abdicated = some n then none else s.pair.abdicated) ∧
      (s.role = 2 → ∃ t, exec (.faultNotice ⟨n, []⟩) s = .next t ∧ Waits h t [2] 1 0 1) ∧
      (s.role ≠ 1 → s.role ≠ 2 → exec (.faultNotice ⟨n, []⟩) s = .next h)) ∧
    (∀ n data,
      let mine := (s.role = 1 ∨ s.role = 4) ∧ n = s.tick.staked.tick ∧ s.pair.digest.map (fun d => d.1) = some n ∧
        s.pair.passed = false
      (mine →
        ∃ t, exec (.fullOutputImage n ⟨data, []⟩) s = .next t ∧ Counts 0x252003 1 s t ∧ Only [0x251005, 0x251006, 0x252003] s t ∧
          (∀ w, w ∈ t.pair.differed ↔ w ∈ s.pair.differed ∨ w ∈ h.outputDiffs s.pair.ownSet data) ∧
          t = { h with regs := t.regs, pair := { h.pair with differed := t.pair.differed } }) ∧
      (¬ mine → exec (.fullOutputImage n ⟨data, []⟩) s = .next h)) ∧
    (∀ ix sub data n c, ix < 65536 → sub < 256 →
      let k := keyOf ix sub
      let w : PendingWrite := { path := .forwarded, key := k, data := data, tag := n, due := c }
      (h.standbyRefuses k = false → exec (.writeForwardFrame ix sub ⟨data, []⟩ ⟨n, c⟩) s = .next h) ∧
      (h.standbyRefuses k = true → waitsForBoundary k = false → exec (.writeForwardFrame ix sub ⟨data, []⟩ ⟨n, c⟩) s =
        .next { h with dict := { h.dict with atClose := insertForwarded w h.dict.atClose } }) ∧
      (h.standbyRefuses k = true → waitsForBoundary k = true → ∃ t, exec (.writeForwardFrame ix sub ⟨data, []⟩ ⟨n, c⟩) s = .next t ∧
        t.dict.atBoundary = insertForwarded w s.dict.atBoundary)) ∧
    (∀ page data, page < 0x80080 →
      (s.role = 3 → 4 ≤ s.reg 0x25010E →
        ∃ t, exec (.resynchronisationDataFrame page ⟨data, []⟩) s = .next t ∧
          t.reg 0x25010E = (if s.reg 0x25010E = 4 then 5 else s.reg 0x25010E) ∧ Counts 0x250110 256 s t ∧
          (page < 0x80000 → Only [0x25010E, 0x250110] s t ∧
            t = { h with regs := t.regs, mem := Memory.writeBytes s.mem (256 * page) (data.take 256) }) ∧
          (0x80000 ≤ page → t.mem = s.mem ∧
            ∀ q, q ≠ page - 0x80000 → Sparse.get {} t.loops q = Sparse.get {} s.loops q)) ∧
      (s.role ≠ 3 ∨ s.reg 0x25010E < 4 → exec (.resynchronisationDataFrame page ⟨data, []⟩) s = .next h)) ∧
    (∀ store data tagOk, store < 3 →
      (s.role = 3 → s.reg 0x25010E = 2 → s.pair.toCopy.contains store = true →
        (∀ u p, h.takeStore store data tagOk = some u → s.pair.partner = some p →
          let rest := u.pair.toCopy.filter (fun k => k != store)
          let u1 := { u with pair := { u.pair with toCopy := rest } }
          exec (.bankCopyComplete store ⟨data, []⟩ tagOk) s = .next (if rest = [] then u1.afterCopy p else u1)) ∧
        (h.takeStore store data tagOk = none ∨ s.pair.partner = none → exec (.bankCopyComplete store ⟨data, []⟩ tagOk) s = .next
          (if store < 2 then (h.showBank store 2).setCause 3 3 else h).failAttempt)) ∧
      (s.role ≠ 3 ∨ s.reg 0x25010E ≠ 2 ∨ s.pair.toCopy.contains store = false →
        exec (.bankCopyComplete store ⟨data, []⟩ tagOk) s = .next h))) ∧
  (∀ s : State, s.Ok → s.tieUp = true → s.running = true →
    let h := heard s
    let queued (v : Nat) : PendingWrite := { path := .forwarded, key := 0x210002, data := leBytes 1 v }
    (∀ ns, (s.role ≠ 4 → exec (.tieCommandFrame ⟨.claim ns, []⟩) s = .next h) ∧
      (s.role = 4 → ∃ t, exec (.tieCommandFrame ⟨.claim ns, []⟩) s = .next t ∧ t.reg 0x250102 = 1 ∧ t.role = 4)) ∧
    (∀ path key tag code data,
      let asked : Relayed := { path := path, key := key, tag := tag }
      exec (.tieCommandFrame ⟨.answer path key tag code data, []⟩) s = .next (
        if s.dict.relayed.contains asked then
          { h with dict := { h.dict with relayed := h.dict.relayed.filter (fun x => x != asked) } }.answer
            { path := path, key := key, code := code, data := data, tag := tag }
        else h)) ∧
    (s.role ≠ 2 → ∀ c, c ∈ [TieCommand.run, .stop, .exchangeVerdict true, .exchangeVerdict false, .switchOver true,
        .switchOver false, .mismatch, .leaveStep true, .leaveStep false, .takeOver, .checksum] ∨
        (∃ n, c = .targetFrame n ∨ c = .halt n) →
      exec (.tieCommandFrame ⟨c, []⟩) s = .next h) ∧
    (s.role = 2 →
      exec (.tieCommandFrame ⟨.run, []⟩) s = .next { h with dict := { h.dict with atClose := h.dict.atClose ++ [queued 1] } } ∧
      exec (.tieCommandFrame ⟨.stop, []⟩) s = .next { h with dict := { h.dict with atClose := h.dict.atClose ++ [queued 2] } } ∧
      (∀ n, exec (.tieCommandFrame ⟨.targetFrame n, []⟩) s = .next (if s.reg 0x220102 = 4 then h.setReg 0x220104 n
        else { h with pair := { h.pair with gapMissed := true } })) ∧
      exec (.tieCommandFrame ⟨.exchangeVerdict true, []⟩) s = .next (if s.reg 0x220102 = 5 then h
        else if s.reg 0x220102 = 4 ∧ s.img.bgComplete = true then h.setReg 0x220102 5
        else { h with pair := { h.pair with gapMissed := true } }) ∧
      exec (.tieCommandFrame ⟨.exchangeVerdict false, []⟩) s =
        .next (if s.reg 0x220102 = 5 then h.setReg 0x220102 4 else h) ∧
      (∀ b, exec (.tieCommandFrame ⟨.switchOver b, []⟩) s = .next { h with pair := { h.pair with target := some b } }) ∧
      exec (.tieCommandFrame ⟨.mismatch, []⟩) s =
        .next { h with out := h.out ++ [.tieFullImage s.tick.staked.tick s.pair.ownSet] } ∧
      (∃ t, exec (.tieCommandFrame ⟨.takeOver, []⟩) s = .next t ∧ Waits h t [2] 1 0 3) ∧
      (∃ t, exec (.tieCommandFrame ⟨.checksum, []⟩) s = .next t ∧ Waits h t [2] 4 2 0) ∧
      (∃ t, exec (.tieCommandFrame ⟨.leaveStep false, []⟩) s = .next t ∧ Waits h t [2] 3 0 0) ∧
      (let n := min 255 (s.reg 0x251009 + 1)
       ∃ t, exec (.tieCommandFrame ⟨.leaveStep true, []⟩) s = .next t ∧ t.reg 0x251009 = n ∧
        (s.reg 0x25000B ≤ n → t.role = 4 ∧ t.reg 0x250108 = 5) ∧
        (n < s.reg 0x25000B → Waits (h.setReg 0x251009 n) t [2] 3 0 0)) ∧
      (∀ n, ∃ t, exec (.tieCommandFrame ⟨.halt n, []⟩) s = .next t ∧ t.mode = stHalted ∧ t.reg 0x210004 = n % 2 ^ 64)))

/-- R171, R177, R179, R183 to R185, R188, R189, R192, R193, R197: the events of a pair. -/
def Obligations.PairEvents : Prop := ∀ s : State, s.Ok →
  (∀ n, n < 2 → ∃ t, exec (.tieLinkLaneFail n) s = .next t ∧ (t.reg 0x250105).testBit n = false ∧
    (t.reg 0x250105 = 0 → s.inPair = true → t.reg 0x250102 = 0xFF ∧ t.pair.heard = 0) ∧
    (t.reg 0x250105 ≠ 0 ∨ s.inPair = false → Only [0x250105] s t ∧ t = { s with regs := t.regs })) ∧
  (∀ n, n < 2 →
    (s.inPair = true → s.blockUp 13 = true → ∃ t, exec (.tieLinkLaneUp n) s = .next t ∧
      SetsBit 0x250105 n s t ∧ Only [0x250105] s t ∧ t = { s with regs := t.regs }) ∧
    (s.inPair = false ∨ s.blockUp 13 = false → exec (.tieLinkLaneUp n) s = .next s)) ∧
  (s.role = 1 → s.pair.verdictDue = true → ∃ t, exec .closureVerdict s = .next t ∧
    let sets := s.readbackSets
    let v := s.verdictOf sets.1 sets.2
    t.reg 0x251001 = v ∧ t.reg 0x251003 = s.tickNo % 2 ^ 64 ∧ t.pair.verdictDue = false ∧ t.reg 0x250109 = s.reg 0x250109 ∧
    (v = 2 → t.role = 4 ∧ t.reg 0x250108 = 4 ∧ Emission.tieCommand .takeOver ∈ t.out) ∧
    (4 ≤ v → s.reg 0x250008 = 1 → t.mode = stHalted ∧ t.reg 0x251002 = 1) ∧
    (v = 1 ∨ v = 3 ∨ (4 ≤ v ∧ s.reg 0x250008 ≠ 1) → t.tick.token = true ∧ t.reg 0x251002 = 0 ∧
      Emission.tieCommand (.leaveStep true) ∈ t.out)) ∧
  (s.role ≠ 1 ∨ s.pair.verdictDue = false → exec .closureVerdict s = .next s) ∧
  (∀ n, s.pair.watch = some n → n < s.tickNo → ∃ t, exec .silenceWatchClose s = .next t ∧ t.pair.watch = none ∧
    (s.pair.change.any (fun c => c.role == 1) = true → t.pair.change = s.pair.change ∧ t.role = s.role) ∧
    (s.pair.change.any (fun c => c.role == 1) = false →
      (s.on 0x250103 = true → t.role = 3) ∧
      (s.on 0x250103 = false → t.pair.change = some { sources := [2], role := 1, kind := 2 } ∧ t.role = s.role))) ∧
  (s.pair.watch = none ∨ (∃ n, s.pair.watch = some n ∧ s.tickNo ≤ n) → exec .silenceWatchClose s = .next s) ∧
  (∀ b : Bool, ∃ t, exec (.roleInChange b) s = .next t ∧ t.reg 0x250103 = (if b then 1 else 0) ∧ Only [0x250103] s t ∧
    t.pair = { s.pair with change := t.pair.change } ∧ t = { s with regs := t.regs, pair := t.pair } ∧
    t.pair.change = (if b = false ∧ s.role = 2 ∧ s.pair.watch.isSome = true
      then some { sources := [2], role := 1, kind := 2 }
      else if b = false ∧ s.role = 2 ∧ s.tick.point = .s ∧ s.on 0x250103 = true
      then some { sources := [2], role := 1, kind := 1 } else s.pair.change)) ∧
  (let claims := s.inPair = true ∧ s.running = true ∧ s.on 0x250103 = false ∧ s.reached = false ∧ s.eligible = true ∧
      (s.role = 3 ∨ (s.role = 4 ∧ s.reg 0x250108 = 9))
   (claims → ∃ t, exec .claimWaitExpiry s = .next t ∧ Waits s t [3, 4] 1 0 6) ∧
   (¬ claims → exec .claimWaitExpiry s = .next s)) ∧
  (s.inPair = true → s.active = false → s.on 0x250103 = true →
    ∃ t, exec .driverTurnOff s = .next t ∧ t.dig.holdOverA = true ∧ t.dig.holdOverB = true ∧
      ∀ n, n < 64 → s.chanMode n ≠ 0 → t.chanBit n bStageOn = false ∧ t.chanBit n bPendingOn = false) ∧
  (s.inPair = false ∨ s.active = true ∨ s.on 0x250103 = false → exec .driverTurnOff s = .next s) ∧
  exec .handbackHoldOffExpiry s =
    .next (if s.handbackWaits = true then { s with pair := { s.pair with holdOffDone := true } } else s) ∧
  (let streams := s.role = 3 ∧ (s.reg 0x25010E = 4 ∨ s.reg 0x25010E = 5)
   (streams → ∃ t, exec .resynchronisationPassComplete s = .next t ∧
    t.reg 0x25010E = 6 ∧ Only [0x25010E] s t ∧ t = { s with regs := t.regs, pair := { s.pair with passDone := true } }) ∧
   (¬ streams → exec .resynchronisationPassComplete s = .next s)) ∧
  (s.role = 3 → s.reg 0x25010E ≠ 0 → ∃ t, exec .resynchronisationLimitExpiry s = .next t ∧
    (t.reg (causeOf 5)).testBit 7 = true ∧ (s.pair.attempts < 2 → t.pair.attempts = s.pair.attempts + 1) ∧
    (2 ≤ s.pair.attempts → t.role = 4 ∧ t.reg 0x250108 = 6 ∧ t.pair.attempts = 0)) ∧
  (s.role ≠ 3 ∨ s.reg 0x25010E = 0 → exec .resynchronisationLimitExpiry s = .next s)

namespace Sys2Proof.Stated

open Sys2Proof Sys2Proof.Machine

/-- The link entry of a chain port. -/
def linkKey (port : Nat) : Nat := if port = 0 then 0x260102 else 0x260103

/-- The header under which a node sends a frame on: reflected with its address where the other port is down; on its return
pass unchanged; one hop more on its first (R205, R211, R212). -/
def onward (s : State) (port : Nat) (h : ChainHeader) : ChainHeader :=
  if s.on (linkKey (1 - port)) = false then { h with hops := min (h.hops + 1) 255, reflector := s.nodeAddress }
  else if h.reflector ≠ 0 then h else { h with hops := min (h.hops + 1) 255 }

/-- Where a node sends that frame: out of its other port, or back where the other port is down (R211, R212). -/
def wayOn (s : State) (port : Nat) : Nat := if s.on (linkKey (1 - port)) then 1 - port else port

/-- A frame that an outstation reflects counts in 2700.1B. -/
def passed (s : State) (port : Nat) : State :=
  if s.outstation = true ∧ s.on (linkKey (1 - port)) = false then s.count 0x27001B else s

/-- Slots enter the records of their stations, in the place of a direction. -/
def entered (m : Sparse OutRec) (direction : Nat) (slots : List Slot) : Sparse OutRec :=
  slots.foldl (fun m x => Sparse.set {} m x.address ((Sparse.get {} m x.address).take direction x)) m

end Sys2Proof.Stated

/-- R200, R203, R210, R212: what the controller's end of the chain meets. A returned traverse frame of the running tick that
comes before C enters the records of its direction, those slots of configured stations that are valid; a bad FCS counts on
its port; a port's link goes down or up, a link below 1000 Mbit/s counting as down; a foreign frame changes nothing. -/
def Obligations.ChainEvents : Prop := ∀ (s : State) (h : ChainHeader) (slots : List Slot) (ok : Bool),
  (h.direction < 2 → (∀ x, x ∈ slots → 1 ≤ x.address ∧ x.address ≤ 32) →
    let port := if h.reflector = 0 then 1 - h.direction else h.direction
    let u := if ok then s else s.count (if port = 0 then 0x261001 else 0x261003)
    let good := slots.filter (fun x => (ok || x.valid) && s.on (recK x.address 1))
    (s.chainMaster = false ∨ h.tick ≠ s.tickNo ∨ s.tick.point ≠ .d → exec (.traverseFrameReturn h slots ok) s = .next u) ∧
    (s.chainMaster = true → h.tick = s.tickNo → s.tick.point = .d →
      ∃ t, exec (.traverseFrameReturn h slots ok) s = .next t ∧ t.regs = u.regs ∧
        (if h.direction = 0 then t.chain.back0 else t.chain.back1) = some h.reflector ∧
        (if h.direction = 0 then t.chain.back1 = s.chain.back1 else t.chain.back0 = s.chain.back0) ∧
        t.chain.records = entered s.chain.records h.direction good ∧ t = { u with chain := t.chain })) ∧
  (∀ port speed, port < 2 → speed ∈ [10, 100, 1000] →
    let key := keyOf (0x2A12 + port)
    exec (.chainPortLinkDown port) s =
      .next ((((s.setReg (linkKey port) 0).setReg (key 0xC) 0).setReg (key 0xD) 0).setPrt (2 + port) {}) ∧
    exec (.chainPortLinkUp port speed) s =
      .next ((s.setReg (linkKey port) (if speed = 1000 then 1 else 0)).setReg (key 0xC) speed) ∧
    exec (.foreignFrameDiscard port) s = .next s)

/-- R205 to R212, R215 to R219, R222: a node forwards every chain frame, hop counted on the first pass and unchanged on the
return, reflected where its other port is down; an outstation fills its own slot, takes the datum times and flags of the
frame, keeps stakes and tokens from accepted frames, and at its hold limit expires; a partner controller reads what it
forwards. -/
def Obligations.OutstationFrames : Prop := ∀ (s : State) (port : Nat) (h : ChainHeader) (slots : List Slot) (body : List Byte)
    (ns : Nat), port < 2 →
  let out := wayOn s port
  let head := onward s port h
  (s.forwards = false → exec (.traverseFrame port h slots) s = .next s ∧ exec (.stakeFrame port h body) s = .next s ∧
    exec (.tokenFrame port h body ns) s = .next s) ∧
  (s.forwards = true → h.reflector ≠ 0 ∨ s.acceptsFrame h = false →
    let u := passed s port
    exec (.stakeFrame port h body) s = .next (u.emit (.forwardFrame out head body)) ∧
    (s.readsFrame h = false →
      exec (.traverseFrame port h slots) s = .next (u.emit (.forwardTraverse out head slots)) ∧
      exec (.tokenFrame port h body ns) s = .next (u.emit (.forwardFrame out head body))) ∧
    (s.readsFrame h = true →
      let good := slots.filter (fun x => x.valid && s.on (recK x.address 1))
      exec (.traverseFrame port h slots) s = .next
        ({ u with chain := { u.chain with records := entered u.chain.records h.direction good } }.emit
          (.forwardTraverse out head slots)) ∧
      exec (.tokenFrame port h body ns) s = .next
        ((if body.length = 12 ∧ crc32c (body.take 8) = field body 8 4
          then { u with chain := { u.chain with seen := some (h.tick, field body 4 4) } } else u).emit
            (.forwardFrame out head body)))) ∧
  (s.Ok → s.forwards = true → h.reflector = 0 → s.acceptsFrame h = true →
    (∃ (t : State) (ys : List Slot), exec (.traverseFrame port h slots) s = .next t ∧
      t.out = s.out ++ [.forwardTraverse out head ys] ∧ ys.length = slots.length ∧
      (∀ (i : Nat) (x : Slot), slots[i]? = some x → x.address ≠ s.reg 0x270001 → ys[i]? = some x) ∧
      (∀ (i : Nat) (x : Slot), slots[i]? = some x → x.address = s.reg 0x270001 → ∃ y : Slot, ys[i]? = some y ∧
        y.address = x.address ∧ y.state = (if s.on 0x270010 then 1 else 2) ∧ y.hop = min (h.hops + 1) 255 ∧
        y.checksum = s.ownChecksum ∧ y.payload = (if x.length = s.reg 0x270005 then s.ost.payload else x.payload)) ∧
      t.ost.accepted = true ∧ t.tick.token = s.tick.token ∧ t.mem = s.mem ∧
      t.tick.stepped = (s.tick.stepped || h.flags.testBit 1) ∧ t.tick.stretched = (s.tick.stretched || h.flags.testBit 2) ∧
      t.tick.datumNs = (if h.flags.testBit 1 then h.datumNs else s.tick.datumNs) ∧
      t.tick.nextNs = (if t.tick.datumNs < h.nextNs then h.nextNs else s.tick.nextNs)) ∧
    (∃ t, exec (.stakeFrame port h body) s = .next t ∧ t.out = s.out ++ [.forwardFrame out head body] ∧
      Only [0x270013, 0x270014, 0x270015, 0x27001A, 0x27001B] s t ∧ t.ost.tokens = s.ost.tokens ∧
      (∀ p, findStake 33 (s.reg 0x270001) body = some p →
        t.reg 0x270013 = fit 0x270013 h.tick ∧ t.reg 0x270014 = fit 0x270014 h.source) ∧
      (findStake 33 (s.reg 0x270001) body = none → t.reg 0x270013 = s.reg 0x270013)) ∧
    (∃ t, exec (.tokenFrame port h body ns) s = .next t ∧ t.out = s.out ++ [.forwardFrame out head body] ∧
      Only [0x270019, 0x27001B] s t ∧
      (body.length = 12 → crc32c (body.take 8) = field body 8 4 →
        (∀ x, x ∈ s.ost.tokens → x.tick = h.tick → x.unit ≠ h.source) →
        t.ost.tokens = s.ost.tokens ++
          [⟨h.source, h.tick, h.nextNs, field body 0 4, field body 4 4, decide (h.nextNs < ns + 2000)⟩]) ∧
      (body.length ≠ 12 ∨ crc32c (body.take 8) ≠ field body 8 4 → t.ost = s.ost))) ∧
  (s.Ok → s.outstation = true → s.ost.accepted = true → s.ost.expired = false → s.reg 0x270002 ≤ s.reg 0x270017 →
    ∃ t, exec .holdLimitExpiry s = .next t ∧ t.ost.expired = true ∧ t.reg 0x270010 = 0 ∧ Counts 0x270018 1 s t ∧
      (t.reg (causeOf 6)).testBit 3 = true ∧ t.ost.carry.testBit 2 = true ∧
      (s.ost.releasedOnce = false → t.tick = s.tick) ∧
      (s.ost.releasedOnce = true → t.ost.subst = true ∧ t.tick.prevReleased = s.tick.released)) ∧
  (s.outstation = false ∨ s.ost.accepted = false ∨ s.ost.expired = true ∨ s.reg 0x270017 < s.reg 0x270002 →
    exec .holdLimitExpiry s = .next s)

namespace Sys2Proof.Stated

open Sys2Proof Sys2Proof.Machine

/-- `t` is `s` but for registers, EMCY messages, writes that no longer clear a cause, and new error-task records. -/
def Registers (s t : State) : Prop :=
  t = { s with
        regs := t.regs, out := t.out
        dict := { s.dict with atClose := t.dict.atClose }
        tick := { s.tick with errNew := t.tick.errNew } }

/-- Diagnostic bit `b` of digital channel `n` is raised: already set, it stays; else it sets, its frame statistic counts, the
error task has its record in RUN, and its cause sets (R242, R247, R251). -/
def Raises (n b : Nat) (s t : State) : Prop :=
  (s.chanBit n b = true → t = s) ∧
  (s.chanBit n b = false →
    SetsBit (dch n 0xB) b s t ∧ (t.reg (causeOf 7)).testBit 0 = true ∧ Registers s t ∧
    (diagStat b ≠ 0 → Counts (dch n (diagStat b)) 1 s t) ∧
    (s.mode = stRun → t.reg 0x212006 = (⟨4, n, diagCode b, s.tickNo⟩ : ErrRecord).number) ∧
    Only ([dch n 0xB, 0x212006, causeOf 7] ++ (if diagStat b = 0 then [] else [dch n (diagStat b)])) s t)

/-- Diagnostic bit `b` of digital channel `n` clears (R242). -/
def Drops (n b : Nat) (s t : State) : Prop :=
  (s.chanBit n b = false → t = s) ∧
  (s.chanBit n b = true →
    t.chanBit n b = false ∧ (t.reg (causeOf 7)).testBit 1 = true ∧ Registers s t ∧ Only [dch n 0xB, causeOf 7] s t ∧
    ∀ m, m < 16 → m ≠ b → t.chanBit n m = s.chanBit n m)

/-- The stage of a channel is off and waits for nothing (R239, R241). -/
def Off (t : State) (n : Nat) : Prop := t.chanBit n bStageOn = false ∧ t.chanBit n bPendingOn = false

/-- The entries of the channels of other slices stand. -/
def OtherSlices (k : Nat) (s t : State) : Prop :=
  ∀ n sub, n < 64 → n / 8 ≠ k → sub < 256 → t.reg (dch n sub) = s.reg (dch n sub)

end Sys2Proof.Stated

/-- R237, R242, R243, R245: the diagnostics of a channel set only where they are monitored, and clear. While WIREBREAK is
set, the channel reads 0 and is invalid. -/
def Obligations.ChannelDiagnostics : Prop := ∀ (s : State) (n : Nat), s.Ok → n < 64 →
  let out := s.isOutput n = true ∧ s.sliceLow (n / 8) = false ∧ s.active = true
  let overload := out ∧ s.chanBit n bStageOn = true
  let openOn := out ∧ s.chanBit n bStageOn = true ∧ s.on (dch n 6) = true
  let openOff := out ∧ s.chanBit n bStageOn = false ∧ s.on (dch n 7) = true ∧ s.chanBit n bDemag = false
  let wire := (s.chanMode n = 1 ∨ s.chanMode n = 3) ∧ s.on (dch n 3) = true
  let readback := s.chanMode n = 5 ∧ s.active = true ∧ s.reg (dch n 8) ≤ (s.drt n).mismatchRun ∧ 0 < (s.drt n).mismatchRun
  (overload → ∃ t, exec (.overloadDetect n) s = .next t ∧ Raises n bOverload s t) ∧
  (¬ overload → exec (.overloadDetect n) s = .next s) ∧
  (∃ t, exec (.overloadClear n) s = .next t ∧ Drops n bOverload s t) ∧
  (openOn → ∃ t, exec (.openloadOnDetect n) s = .next t ∧ Raises n bOpenOn s t) ∧
  (¬ openOn → exec (.openloadOnDetect n) s = .next s) ∧
  (openOff → ∃ t, exec (.openloadOffDetect n) s = .next t ∧ Raises n bOpenOff s t) ∧
  (¬ openOff → exec (.openloadOffDetect n) s = .next s) ∧
  (∃ t, exec (.openloadClear n) s = .next t ∧ t.chanBit n bOpenOn = false ∧ t.chanBit n bOpenOff = false ∧
    Registers s t ∧ Only [dch n 0xB, causeOf 7] s t ∧
    ∀ m, m < 16 → m ≠ bOpenOn → m ≠ bOpenOff → t.chanBit n m = s.chanBit n m) ∧
  (wire → s.sliceLow (n / 8) = false → ∃ t, exec (.wirebreakDetect n) s = .next t ∧ Raises n bWirebreak s t) ∧
  (¬ wire ∨ s.sliceLow (n / 8) = true → exec (.wirebreakDetect n) s = .next s) ∧
  (wire → s.chanBit n bWirebreak = true → s.inputValue n = false ∧ s.chanValid n = false) ∧
  (∃ t, exec (.wirebreakClear n) s = .next t ∧ Drops n bWirebreak s t) ∧
  (readback → ∃ t, exec (.readbackFault n) s = .next t ∧ Raises n bReadback s t) ∧
  (¬ readback → exec (.readbackFault n) s = .next s)

/-- R236, R237, R240, R243, R244, R246: the input filter, the end of demagnetisation, an over-temperature trip with its retry
limit, and the trip count. -/
def Obligations.ChannelEvents : Prop := ∀ (s : State) (n ns : Nat), s.Ok → n < 64 →
  (∀ level, level = .between ∨ (level = .broken ∧ s.wireMonitored n = false) ∨ (s.isInput n = false ∧ s.chanMode n ≠ 5) →
    exec (.inputFilterAccept n level ns) s = .next s) ∧
  (∀ level : RawLevel, level ≠ .between → (level = .broken → s.wireMonitored n = true) →
      s.isInput n = true ∨ s.chanMode n = 5 →
    let v := level == .high
    let u := s.setDrt n { s.drt n with accepted := v, broken := level == .broken }
    let taken := v != (s.drt n).accepted && s.on (dch n 4) && s.isInput n
    let full := decide (4 ≤ (s.dig.edges.filter (fun e => e.channel == n)).length)
    (taken = false → exec (.inputFilterAccept n level ns) s = .next u) ∧
    (taken = true → full = true → exec (.inputFilterAccept n level ns) s = .next (u.count (dch n 0x19))) ∧
    (taken = true → full = false → exec (.inputFilterAccept n level ns) s =
      .next { u with dig := { u.dig with edges := u.dig.edges ++ [⟨n, v, ns / 1000 * 1000⟩] } })) ∧
  (s.chanBit n bDemag = true → ∃ t, exec (.demagEnd n ns) s = .next t ∧ t.chanBit n bDemag = false ∧ Only [dch n 0xB] s t ∧
    (∃ skip, t.dig = (s.setDrt n { s.drt n with demagNs := ns, skipPrev := skip }).dig ∧
      (s.tick.datumNs < ns → skip = (s.drt n).skipPrev) ∧ (ns ≤ s.tick.datumNs → skip = t.stageHeld n)) ∧ t = { s with regs := t.regs, dig := t.dig }) ∧
  (s.chanBit n bDemag = false → exec (.demagEnd n ns) s = .next s) ∧
  (s.isOutput n = true → s.sliceLow (n / 8) = false → ∃ t, exec (.overtempTrip n ns) s = .next t ∧ Off t n ∧
    t.chanBit n bOvertemp = true ∧ Counts (dch n 0xE) 1 s t ∧
    (s.reg (dch n 0xA) ≤ t.reg (dch n 0xE) → t.chanBit n bOtLatched = true) ∧
    (t.reg (dch n 0xE) < s.reg (dch n 0xA) → t.chanBit n bOtLatched = s.chanBit n bOtLatched) ∧
    t.dig = (s.setDrt n { s.drt n with tripNs := ns, freed := false }).dig ∧ t.mem = s.mem ∧ t.engines = s.engines) ∧
  (s.isOutput n = false ∨ s.sliceLow (n / 8) = true → exec (.overtempTrip n ns) s = .next s) ∧
  (s.chanBit n bStageOn = true → ∃ t, exec (.tripCountClear n) s = .next t ∧ t.reg (dch n 0xE) = 0 ∧
    Only [dch n 0xE] s t ∧ t = { s with regs := t.regs }) ∧
  (s.chanBit n bStageOn = false → exec (.tripCountClear n) s = .next s)

/-- R231, R232, R242, R248: a slice that loses its supply or trips switches every stage of the slice off and no other, and a
lost supply ends the slice's hold; a hold latch that reaches its limit switches off the outputs of its field die. -/
def Obligations.SliceEvents : Prop := ∀ (s : State) (k : Nat), s.Ok → k < 8 →
  let unheld := if 0 < s.dig.holdEdges
    then { s with dig := { s.dig with holdOverSlices := withBit s.dig.holdOverSlices k true } } else s
  (s.sliceLow k = false → ∃ t, exec (.lPlusLowSet k) s = .next t ∧ t.sliceLow k = true ∧ t.reg (dsl k 7) = 0 ∧
    Counts (dsl k 4) 1 s t ∧ (t.reg (causeOf 7)).testBit 2 = true ∧ Registers unheld t ∧ OtherSlices k s t ∧
    ∀ i, i < 8 → s.chanMode (8 * k + i) ≠ 0 → Off t (8 * k + i)) ∧
  (s.sliceLow k = true → exec (.lPlusLowSet k) s = .next s ∧
    ∃ t, exec (.lPlusLowClear k) s = .next t ∧ t.sliceLow k = false ∧ t.reg (dsl k 7) = 1 ∧
      (t.reg (causeOf 7)).testBit 2 = true ∧ Registers s t ∧ Only [dsl k 2, dsl k 7, causeOf 7] s t) ∧
  (s.sliceLow k = false → exec (.lPlusLowClear k) s = .next s) ∧
  (s.sliceOc k = false → s.sliceLow k = false → s.active = true → ∃ t, exec (.sliceOcTrip k) s = .next t ∧
    t.sliceOc k = true ∧ Counts (dsl k 5) 1 s t ∧ (t.reg (causeOf 7)).testBit 2 = true ∧ Registers s t ∧ OtherSlices k s t ∧
    ∀ i, i < 8 → s.chanMode (8 * k + i) ≠ 0 → Off t (8 * k + i)) ∧
  (s.sliceOc k = true ∨ s.sliceLow k = true ∨ s.active = false → exec (.sliceOcTrip k) s = .next s) ∧
  (∀ die, die < 2 →
    let ended := if die = 0 then s.dig.holdOverA else s.dig.holdOverB
    (s.dig.everReleased = true → ended = false → s.running = false ∨ s.holdLimit ≤ s.dig.holdEdges →
      ∃ t, exec (.holdLatchLimitExpiry die) s = .next t ∧
        (if die = 0 then t.dig.holdOverA else t.dig.holdOverB) = true ∧ t.mem = s.mem ∧ t.tick.released = s.tick.released ∧
        ∀ i, i < 32 → s.chanMode (32 * die + i) ≠ 0 → Off t (32 * die + i)) ∧
    (s.dig.everReleased = false ∨ ended = true ∨ (s.running = true ∧ s.dig.holdEdges < s.holdLimit) →
      exec (.holdLatchLimitExpiry die) s = .next s))

namespace Sys2Proof.Stated

open Sys2Proof Sys2Proof.Machine

/-- Diagnostic bit `b` of analog channel `n` is raised: already set, it stays; else it sets and is counted, the error task
has its record in RUN, and its cause sets (R268, R281). -/
def AnaRaises (n b : Nat) (s t : State) : Prop :=
  (s.anaBit n b = true → t = s) ∧
  (s.anaBit n b = false →
    SetsBit (ach n 8) b s t ∧ Counts (ach n 0xD) 1 s t ∧ (t.reg (causeOf 8)).testBit 0 = true ∧ Registers s t ∧
    (s.mode = stRun → t.reg 0x212006 = (⟨4, 0x100 + n, anaCode b, s.tickNo⟩ : ErrRecord).number) ∧
    Only [ach n 8, ach n 0xD, 0x212006, causeOf 8] s t)

/-- Diagnostic bit `b` of analog channel `n` clears. -/
def AnaDrops (n b : Nat) (s t : State) : Prop :=
  (s.anaBit n b = false → t = s) ∧
  (s.anaBit n b = true →
    t.anaBit n b = false ∧ (t.reg (causeOf 8)).testBit 1 = true ∧ Registers s t ∧ Only [ach n 8, causeOf 8] s t ∧
    ∀ m, m < 16 → m ≠ b → t.anaBit n m = s.anaBit n m)

end Sys2Proof.Stated

/-- R255, R265 to R269, R478: the diagnostics of the analog channels; a pending mode is applied at a datum edge and stored
in its cell, and the diagnostics fall that do not apply to it (log entry 11). -/
def Obligations.AnalogDiagnostics : Prop := ∀ (s : State) (n : Nat), s.Ok → n < 16 →
  (s.anaMode n = 2 → ∃ t, exec (.limitDetect n) s = .next t ∧ AnaRaises n bLimit s t) ∧
  (s.anaMode n ≠ 2 → exec (.limitDetect n) s = .next s) ∧
  (∃ t, exec (.limitClear n) s = .next t ∧ AnaDrops n bLimit s t) ∧
  (s.anaMode n = 2 ∨ (s.anaMode n = 3 ∧ s.active = true) →
    ∃ t, exec (.analogOvertempTrip n) s = .next t ∧ AnaRaises n bAnaOvertemp s t) ∧
  (s.anaMode n ≠ 2 → s.anaMode n ≠ 3 ∨ s.active = false → exec (.analogOvertempTrip n) s = .next s) ∧
  (s.anaMode n = 3 → s.active = true → 3 ≤ (s.art n).shortRun → ∃ t, exec (.complianceSet n) s = .next t ∧
    t.anaBit n bCompliance = true ∧ t.anaBit n bAlarmUnsure = true ∧ Registers s t ∧
    Only [ach n 8, ach n 0xD, 0x212006, causeOf 8] s t) ∧
  (s.anaMode n ≠ 3 ∨ s.active = false ∨ (s.art n).shortRun < 3 → exec (.complianceSet n) s = .next s) ∧
  (3 ≤ (s.art n).fullRun → ∃ t, exec (.complianceClear n) s = .next t ∧ t.anaBit n bCompliance = false ∧
    t.anaBit n bAlarmUnsure = false ∧ Registers s t ∧ Only [ach n 8, causeOf 8] s t) ∧
  ((s.art n).fullRun < 3 → exec (.complianceClear n) s = .next s) ∧
  (s.anaMode n ≠ 0 → exec (.miswireDetect n) s =
    .next ((((s.anaRaise n bMiswire).setArt n { s.art n with isolated := true, probes := 0 }).hartFinish n 5 0 []).hartFlush n)) ∧
  (s.anaMode n = 0 → exec (.miswireDetect n) s = .next s) ∧
  (∀ clean : Bool, s.anaBit n bMiswire = true →
    let k := if clean then (s.art n).probes + 1 else 0
    ∃ t, exec (.miswireProbe n clean) s = .next t ∧ t.ana = (s.setArt n { s.art n with probes := k }).ana ∧
      (10 ≤ k → t.anaBit n bMiswire = false) ∧ (k < 10 → t.regs = s.regs) ∧ Only [ach n 8, causeOf 8] s t) ∧
  (∀ clean, s.anaBit n bMiswire = false → exec (.miswireProbe n clean) s = .next s) ∧
  (let edge := s.tick.point = .d ∧ s.tick.nowNs = s.tick.datumNs
   (∀ m, (s.art n).pendingMode = some m → s.anaBusy n = false → edge → ∃ t, exec (.analogModeChangeApplied n) s = .next t ∧
    (m = s.anaMode n → t.art n = { s.art n with pendingMode := none } ∧ Only [ach n 8] s t ∧
      ∀ b, b < 16 → b ≠ bModePending → t.anaBit n b = s.anaBit n b) ∧
    (m ≠ s.anaMode n →
      t.art n = { s.art n with pendingMode := none, modeInForce := m, shortRun := 0, fullRun := 0 } ∧
      (m ≠ 1 → m ≠ 2 → t.anaBit n bFailLow = false ∧ t.anaBit n bFailHigh = false) ∧
      (m = 1 ∨ m = 2 → t.anaBit n bFailLow = s.anaBit n bFailLow ∧ t.anaBit n bFailHigh = s.anaBit n bFailHigh) ∧
      (m ≠ 3 → t.anaBit n bCompliance = false ∧ t.anaBit n bAlarmUnsure = false) ∧
      (m ≠ 2 → t.anaBit n bLimit = false) ∧ t.anaBit n bMiswire = s.anaBit n bMiswire ∧
      (t.anaBit n bSupply = true ↔ m ≠ 0 ∧ s.reg (keyOf (0x2901 + n / 4) 2) = 1) ∧
      Only [ach n 8, ach n 0xD, 0x212006, causeOf 8] s t) ∧
    t.storedMode n = m ∧ (∀ k, k ≠ n → t.art k = s.art k ∧ t.storedMode k = s.storedMode k) ∧
    t.ana.responses = s.ana.responses ∧ t.anaBit n bModePending = false) ∧
   ((s.art n).pendingMode = none ∨ s.anaBusy n = true ∨ ¬ edge → exec (.analogModeChangeApplied n) s = .next s)) ∧
  (∀ k, k < 4 →
    (s.reg (keyOf (0x2901 + k) 2) = 1 → exec (.supplySet k) s = .next s) ∧
    (s.reg (keyOf (0x2901 + k) 2) ≠ 1 → ∃ t, exec (.supplySet k) s = .next t ∧ t.reg (keyOf (0x2901 + k) 2) = 1 ∧
      Counts (keyOf (0x2901 + k) 3) 1 s t ∧ Registers s t ∧
      (∀ i, i < 4 → s.anaMode (4 * k + i) ≠ 0 → t.anaBit (4 * k + i) bSupply = true) ∧
      (∀ i, i < 16 → i / 4 ≠ k → t.reg (ach i 8) = s.reg (ach i 8))) ∧
    (∃ t, exec (.supplyClear k) s = .next t ∧ t.reg (keyOf (0x2901 + k) 2) = 0 ∧ Registers s t ∧
      (∀ i, i < 4 → t.anaBit (4 * k + i) bSupply = false) ∧
      (∀ i, i < 16 → i / 4 ≠ k → t.reg (ach i 8) = s.reg (ach i 8))))

/-- R275 to R278: a HART transaction completes with its record in the response queue, is repeated after a damaged or missing
reply until its retries are used, or ends as an abort asked; burst frames are stored, and replies to the other master stay
unheard. A full response queue loses the record. After an abort, no further request starts before the next datum edge. -/
def Obligations.HartEvents : Prop := ∀ (s : State) (n us : Nat) (f : List Byte), s.Ok → n < 16 →
  let r := s.art n
  let burst := (f.getD 0 0).toNat % 8 = 1
  let stored := ((s.setBlob (hch n 0xA) f).count (hch n 9)).setCause 8 4
  (burst → exec (.hartResponseFrame n f true us) s = .next stored) ∧
  (¬ burst → s.ownMaster n f = false → exec (.hartResponseFrame n f true us) s = .next s) ∧
  (¬ burst → s.ownMaster n f = true → r.hartEnd = .none →
    exec (.hartResponseFrame n f true us) s = .next ((s.hartFinish n 0 us f).hartStart n)) ∧
  (¬ burst → s.ownMaster n f = true → r.hartEnd ≠ .none →
    exec (.hartResponseFrame n f true us) s = .next (s.hartAborted n us)) ∧
  (r.hartBarred = true → s.hartStart n = s) ∧ ((s.hartAborted n us).art n).hartBarred = true ∧
  ((s.hartAborted n us).art n).hartNow = none ∧
  (r.hartNow = none → exec (.hartResponseTimeout n us) s = .next s) ∧
  (∀ c res, (c = .hartResponseFrame n f false us ∧ res = 2) ∨ (c = .hartResponseTimeout n us ∧ res = 1) →
    (r.hartNow = none → exec c s = .next s) ∧
    (∀ q, r.hartNow = some q →
      (r.hartEnd ≠ .none → exec c s = .next (s.hartAborted n us)) ∧
      (r.hartEnd = .none → r.hartTries ≤ s.reg (hch n 4) → exec c s =
        .next ((s.setArt n { r with hartTries := r.hartTries + 1 }).emit (.hartFrame n (s.hartBytes n q.frame)))) ∧
      (r.hartEnd = .none → s.reg (hch n 4) < r.hartTries → exec c s = .next ((s.hartFinish n res us []).hartStart n)))) ∧
  (s.reg (hch n 1) ≠ 0 → exec (.hartBurstFrame n f) s = .next stored) ∧
  (s.reg (hch n 1) = 0 → exec (.hartBurstFrame n f) s = .next s) ∧
  (∀ q res, r.hartNow = some q →
    let t := s.hartFinish n res us f
    Counts (hch n 0xB) 1 s t ∧ (res = 1 ∨ res = 2 → Counts (hch n 0xD) 1 s t) ∧
    (s.ana.responses.length < 32 → t.ana.responses = s.ana.responses ++ [hartRecord n q.tag res r.hartTries us f] ∧
      (t.reg (causeOf 8)).testBit 2 = true) ∧
    (32 ≤ s.ana.responses.length → t.ana.responses = s.ana.responses ∧ Counts 0x299005 1 s t ∧
      (t.reg (causeOf 8)).testBit 3 = true) ∧ t.mem = s.mem ∧ t.tick = s.tick)

namespace Sys2Proof.Stated

open Sys2Proof Sys2Proof.Machine

/-- The offset of a measurement lies within the lock window, or beyond the unlock window (R291). -/
def within (s : State) (v : Int) : Prop := v.natAbs ≤ s.reg 0x2A0006

/-- The chain ports whose link is up. -/
def linkedPorts (s : State) : List Nat := [0, 1].filter (fun p => s.on (linkKey p))

/-- The mean delay that four stamps give, less the correction, the asymmetry and the latencies of the port (R288, R289). -/
def meanDelay (s : State) (port : Nat) (x : DelayExchange) : Nat :=
  let corr := (if s.reg (tp port 3) = 1 then 0 else x.correction) + s.asymmetry port
  let trip : Int := ((x.t4 : Int) - x.t1) - ((x.t3 : Int) - x.t2) - corr
  min ((trip - (s.latency port false + s.latency port true : Nat)) / 2).toNat 0xFFFFFFFF

end Sys2Proof.Stated

/-- R286 to R290, R298: the messages of a time port that hears them. A one-step Sync and a Follow_Up that completes its Sync
measure, a two-step Sync waits, an Announce may change the master, a delay exchange sets the delay; what a port does not
hear, and an unsupported message, changes nothing. A node passes a time message of the chain on, with its residence time (a
free value) and link delay in the correction. -/
def Obligations.PtpMessages : Prop := ∀ (s : State) (p : Nat) (m : PtpEvent) (a : Announce) (x : DelayExchange), s.Ok → p < 4 →
  exec (.ptpUnsupportedMessage p) s = .next s ∧
  (s.hears p m.domain m.minor m.udp = false → exec (.ptpSync p m) s = .next s ∧ exec (.ptpFollowUp p m) s = .next s) ∧
  (s.hears p m.domain m.minor m.udp = true →
    let u := (s.count (tp p 0xF)).setReg (tp p 0xE) m.minor
    (m.twoStep = true → exec (.ptpSync p m) s = .next ((u.setPrt p { u.prt p with sync := some m }).passSync p m)) ∧
    (m.twoStep = false → exec (.ptpSync p m) s =
      .next (((u.setPrt p { u.prt p with sync := none }).portMeasure p m.source
        (u.syncOffset p m.originNs m.rxNs m.correction)).passSync p m)) ∧
    ((s.prt p).sync = none → exec (.ptpFollowUp p m) s = .next (s.passFollowUp p m)) ∧
    (∀ y, (s.prt p).sync = some y →
      (y.source ≠ m.source ∨ y.sequence ≠ m.sequence → exec (.ptpFollowUp p m) s = .next (s.passFollowUp p m)) ∧
      (y.source = m.source → y.sequence = m.sequence → exec (.ptpFollowUp p m) s =
        .next (((s.setPrt p { s.prt p with sync := none }).portMeasure p m.source
          (if y.rxNs + y.intervalNs < m.rxNs then none
           else s.syncOffset p m.originNs y.rxNs (y.correction + m.correction))).passFollowUp p m)))) ∧
  (s.hears p a.domain a.minorVersion a.udp = false → exec (.ptpAnnounce p a) s = .next s) ∧
  (s.hears p a.domain a.minorVersion a.udp = true →
    (2 ≤ p → s.outstation = false → exec (.ptpAnnounce p a) s = .next (s.passAnnounce p a)) ∧
    (2 ≤ p → s.outstation = true → exec (.ptpAnnounce p a) s = .next ((s.showMaster a false).passAnnounce p a)) ∧
    (let taken := (s.setPrt p { s.prt p with master := some a, stale := false }).showPorts
     (p < 2 → (s.prt p).master = none → exec (.ptpAnnounce p a) s = .next taken) ∧
     (∀ b, p < 2 → (s.prt p).master = some b →
       (b.source = a.source ∨ (s.prt p).stale = true ∨ listBefore (announceRank b) (announceRank a) = false →
         exec (.ptpAnnounce p a) s = .next taken) ∧
       (b.source ≠ a.source → (s.prt p).stale = false → listBefore (announceRank b) (announceRank a) = true →
         exec (.ptpAnnounce p a) s = .next s)))) ∧
  (s.hears p x.domain x.minor x.udp = false ∨ x.peer ≠ (s.reg (tp p 2) == 2) → exec (.ptpDelayExchange p x) s = .next s) ∧
  (s.hears p x.domain x.minor x.udp = true → x.peer = (s.reg (tp p 2) == 2) →
    ∃ t, exec (.ptpDelayExchange p x) s = .next t ∧ t.reg (tp p 0xD) = meanDelay s p x ∧ Counts (tp p 0xF) 1 s t ∧
      t.reg 0x2A2003 = max (s.reg 0x2A2003) (meanDelay s p x) ∧ Only [tp p 0xD, tp p 0xE, tp p 0xF, 0x2A2003] s t ∧
      t.time = (s.setPrt p { s.prt p with delayAge := 0 }).time ∧ t = { s with regs := t.regs, time := t.time }) ∧
  (s.onward p = none → s.passSync p m = s ∧ s.passFollowUp p m = s ∧ s.passAnnounce p a = s) ∧
  (∀ q, s.onward p = some q → 2 ≤ p ∧ q = 3 - p ∧ s.passAnnounce p a = s.emit (.forwardAnnounce q a) ∧
    s.passFollowUp p m = s.emit (.forwardFollowUp q
      { m with correction := m.correction + (s.prt p).residence + s.reg (tp p 0xD) }) ∧
    (s.passSync p m).regs = s.regs ∧
    (m.twoStep = true → (s.passSync p m).out = s.out ++ [.forwardSync q m]) ∧
    (m.twoStep = false → ∃ v : Nat, v < 2 ^ 32 ∧ (s.passSync p m).out = s.out ++
      [.forwardSync q { m with correction := m.correction + v + s.reg (tp p 0xD) }]))

/-- R291, R292, R294: what a valid measurement of the servo's source does. The first one after a time-unit reset steps where
it exceeds 1 µs: at the next datum edge while the sequencer runs, held in RUN and HALTED with 2000.07 at 0. Sixteen in a row
within the lock window lock; four in a row beyond the unlock window unlock. At an entry to HOLDOVER the master counts as
lost (log entry 100). -/
def Obligations.ServoStates : Prop := ∀ (s : State) (v : Int), s.Ok →
  let t := s.measure v
  t.regI 0x2A0103 = clampInt (-2147483648) 2147483647 v ∧ t.time.measured = true ∧
  (s.time.measured = false → 1000 < v.natAbs → s.running = true →
    t.tu = tuStep ∧ t.tick.stepPending = some (-v) ∧
    (t.tick.stepHeld = true ↔ (s.mode = stRun ∨ s.mode = stHalted) ∧ s.on 0x200007 = false)) ∧
  (s.time.measured = false → 1000 < v.natAbs → s.running = false →
    t.tu = tuAcquiring ∧ t.tick.stepPending = none ∧ t.tick.nowNs = ((s.tick.nowNs : Int) - v).toNat) ∧
  (s.time.measured = true → s.tu = tuStep →
    (s.running = true → t.tu = tuStep ∧ t.tick.stepPending = some (-v)) ∧
    (s.running = false → t.tu = tuAcquiring ∧ t.tick.stepPending = none)) ∧
  (s.time.measured = true → s.tu = tuLocked →
    (v.natAbs ≤ s.reg 0x2A0007 → t.tu = tuLocked ∧ t.time.outRun = 0) ∧
    (s.reg 0x2A0007 < v.natAbs → s.time.outRun < 3 → t.tu = tuLocked ∧ t.time.outRun = s.time.outRun + 1) ∧
    (s.reg 0x2A0007 < v.natAbs → 3 ≤ s.time.outRun → t.tu = tuAcquiring)) ∧
  (s.time.measured = true → s.tu ≠ tuStep → s.tu ≠ tuLocked →
    (¬ within s v → t.tu = tuAcquiring ∧ t.time.inRun = 0) ∧
    (within s v → s.time.inRun < 15 → t.tu = tuAcquiring ∧ t.time.inRun = s.time.inRun + 1) ∧
    (within s v → 15 ≤ s.time.inRun → t.tu = tuLocked)) ∧
  (s.tu = tuAcquiring ∨ s.tu = tuLocked → ∃ u, exec .holdoverEntry s = .next u ∧ u.tu = tuHoldover ∧
    u.tick = s.tick ∧ u.time = { s.time with servo := s.meanServo, ports := u.time.ports } ∧
    (s.sourcePort = none ∨ s.outstation = true → u.time.ports = s.time.ports) ∧
    ∀ n, s.sourcePort = some n → s.outstation = false →
      u.time.ports = Sparse.set {} s.time.ports n { s.prt n with stale := true }) ∧
  (s.tu ≠ tuAcquiring → s.tu ≠ tuLocked → exec .holdoverEntry s = .next s)

/-- R284, R285, R288, R289, R298, R300, R301, R304: the other events of the time unit: a delay exchange begins, plant ports
lose and gain their links, pulses leave and arrive without moving the time-scale back, chain Sync and Announce leave on the
linked chain ports while the unit is master. -/
def Obligations.TimeEvents : Prop := ∀ (s : State) (p ns : Nat), s.Ok →
  (p < 4 →
    (s.on (tp p 1) = true → s.timeUp p = true → 2 ≤ p ∨ s.outstation = false → exec (.delayRequestTransmit p ns) s =
      .next ((s.setPrt p { s.prt p with delayAge := min 17 ((s.prt p).delayAge + 1) }).emit
        (.delayRequest p ((ns + s.latency p true) % (2 ^ 48 * 1000000000)) (decide (p < 2) && s.reg 0x2A0002 == 1)
          (-s.asymmetry p) (if s.reg (tp p 0xE) = 0 then 0 else 1)))) ∧
    (s.on (tp p 1) = false ∨ s.timeUp p = false ∨ (p < 2 ∧ s.outstation = true) →
      exec (.delayRequestTransmit p ns) s = .next s)) ∧
  (p < 2 →
    let lost := ((s.setReg (tp p 0xC) 0).setPrt p {}).setReg (tp p 0xD) 0
    let last := s.bestPort = some p ∧ lost.bestPort = none ∧ s.tieSteers = false ∧ s.outstation = false
    (¬ last → exec (.plantPortLinkDown p) s = .next lost.showPorts) ∧
    (last → exec (.plantPortLinkDown p) s = .next lost.enterHoldover.showPorts) ∧
    (∀ n, n = 10 ∨ n = 100 ∨ n = 1000 →
      (s.blockUp (8 + p) = true → exec (.plantPortLinkUp p n) s = .next (s.setReg (tp p 0xC) n).showPorts) ∧
      (s.blockUp (8 + p) = false → exec (.plantPortLinkUp p n) s = .next s))) ∧
  (let now := s.tick.nowNs / 1000000000
   let second := if s.time.ppsSecond < now then now else now + 1
   let beyond := s.running = true ∧ s.tick.started = true ∧ s.tick.nextNs < second * 1000000000
   (beyond → exec .ppsOutPulse s = .next s) ∧
   (¬ beyond → ∃ t, exec .ppsOutPulse s = .next t ∧ t.tick = { s.tick with nowNs := max s.tick.nowNs (second * 1000000000) } ∧
     t.time = { s.time with ppsSecond := second } ∧
     t.regs = s.regs ∧ t.out = s.out ++ (if s.reg 0x2A000A = 0 then []
       else [.ppsPulse second (s.reg 0x2A0009) (s.reg 0x2A000A == 1)]))) ∧
  (s.on 0x2A3004 = true → ∃ t, exec (.ppsInEdge ns) s = .next t ∧ t.reg 0x2A3001 = leNat (ts96 ns) % 2 ^ 96 ∧
    t.regI 0x2A3002 = ((ns + 500000000) % 1000000000 : Nat) - 500000000 ∧ Counts 0x2A3003 1 s t ∧ SetsBit (causeOf 9) 4 s t ∧
    Apart [0x2A3001, 0x2A3002, 0x2A3003, causeOf 9] s t) ∧
  (s.on 0x2A3004 = false → exec (.ppsInEdge ns) s = .next s) ∧
  (s.outstation = false → s.active = true → s.running = true →
    (s.time.syncBarNs ≤ ns → exec (.chainSyncTransmit ns) s = .next { s with out := s.out ++ (linkedPorts s).map (fun q =>
      .chainSync q ((ns + s.latency (2 + q) true) % (2 ^ 48 * 1000000000)) (s.on 0x2A0004)
        (if s.reg (tp (2 + q) 0xE) = 0 then 0 else 1)) }) ∧
    (ns < s.time.syncBarNs → exec (.chainSyncTransmit ns) s = .next s) ∧
    exec .chainAnnounceTransmit s = .next { s with out := s.out ++ (linkedPorts s).map (fun q =>
      .chainAnnounce q (s.reg 0x2A0108) (s.reg 0x2A0109 + 1) (s.regI 0x2A010A) (s.bit 0x2A0107 5) (!s.bit 0x2A0107 4)
        (if s.reg (tp (2 + q) 0xE) = 0 then 0 else 1)) }) ∧
  (s.outstation = true ∨ s.active = false ∨ s.running = false →
    exec (.chainSyncTransmit ns) s = .next s ∧ exec .chainAnnounceTransmit s = .next s)

namespace Sys2Proof.Stated

open Sys2Proof Sys2Proof.Machine

/-- The keeper's interface locks: of the units that the last write sent, the last `k`, in a number left to timing, are
discarded whole and what they were to replace stands (R320, R321; log entry 101). A locked interface has nothing under way.
-/
def Locks (s t : State) : Prop := ∃ k, k ≤ s.keep.units.length ∧ (s.keep.locked = true → k = 0) ∧
  let w := (s.keep.units.take k).foldl State.putKeeper s
  t = { w with keep := { w.keep with locked := true, units := [] }, free := t.free }

end Sys2Proof.Stated

/-- R308, R312, R313, R316, R318 to R322: the keeper. A temperature sample moves the calendar on by its second (16 s on
VBAT) and by the whole cycles of the correction that fall due, and the calendar stops at its end; discipline sets the clock
and shows how far it was off; a wake asserts WAKE_N, or is missed; the keeper locks, discarding whole units of at most 32
bytes, changes supply, and judges its contents before it unlocks. -/
def Obligations.KeeperEvents : Prop := ∀ s : State, s.Ok →
  (∀ w : Word, ∃ t, exec (.keeperTemperatureSample w) s = .next t ∧ t.reg (ks 2) = w.toNat ∧
    (let step : Nat := if s.keep.onVbat then 16 else 1
     let due := (s.keep.trimRest : Int) + s.trimCycles * step
     let clock := (((s.keep.clock + 32768 * step : Nat) : Int) + due / 1024).toNat
     t.keep.wakeSince = s.keep.wakeSince + 256 * step ∧ t.keep.trimRest = (due % 1024).toNat ∧ t.keep.units = [] ∧
     (s.bit (ks 1) bCalEnd = true → t.keep.clock = s.keep.clock) ∧
     (s.bit (ks 1) bCalEnd = false → clock ≤ lastClock → t.keep.clock = clock) ∧
     (s.bit (ks 1) bCalEnd = false → lastClock < clock → t.keep.clock = lastClock ∧ t.bit (ks 1) bCalEnd = true)) ∧
    (-200000 ≤ t.regI (ks 4) ∧ t.regI (ks 4) ≤ 200000) ∧ t.mem = s.mem ∧ t.engines = s.engines ∧ t.tick = s.tick) ∧
  (s.disciplined = true → s.keep.locked = false → s.tu = tuLocked → ∃ t, exec .discipline s = .next t ∧
    t.keep = { s.keep with clock := min s.utcClock lastClock } ∧ t.reg (ks 6) = s.tickNo % 2 ^ 64 ∧
    t.regI (ks 5) = clampInt (-2147483648) 2147483647 (roundAway (((s.keep.clock : Int) - s.utcClock) * 1000000) 32768) ∧
    Only [ks 5, ks 6] s t ∧ t = { s with regs := t.regs, keep := t.keep }) ∧
  (s.disciplined = false ∨ s.keep.locked = true ∨ s.tu ≠ tuLocked → exec .discipline s = .next s) ∧
  (∃ t, exec .calendarEnd s = .next t ∧ t.keep = { s.keep with clock := lastClock } ∧ SetsBit (ks 1) bCalEnd s t ∧
    Only [ks 1] s t ∧ t = { s with regs := t.regs, keep := t.keep }) ∧
  (s.keep.wakeInterval = 0 → exec .keeperWake s = .next s) ∧
  (s.keep.wakeInterval ≠ 0 → ∃ t, exec .keeperWake s = .next t ∧ t.keep = { s.keep with wakeSince := 0 } ∧
    t.bit (ks 1) bWakeN = true ∧
    (s.bit (ks 1) bWakeN = true → Counts 0x2B1103 1 s t ∧ Only [0x2B1103] s t) ∧
    (s.bit (ks 1) bWakeN = false → Counts 0x2B1102 1 s t ∧ SetsBit (causeOf 10) 0 s t ∧
      Only [ks 1, 0x2B1102, causeOf 10] s t)) ∧
  (∃ t, exec .keeperInterfaceLock s = .next t ∧ Locks s t) ∧
  (∀ n u, u ∈ s.hostUnits n → u.old.length ≤ 32) ∧
  (s.keep.onVbat = false → exec .retentionLost s = .next s ∧ (∀ n, exec (.switchToMain n) s = .next s) ∧
    ∃ u t, exec .switchToVbat s = .next t ∧ Locks s u ∧ t.keep = { u.keep with onVbat := true, usedSince := true } ∧
      t.bit (ks 1) bBackup = true ∧ Counts (ks 9) 1 u t ∧ Only [ks 1, ks 9] u t ∧
      t = { u with regs := t.regs, keep := t.keep }) ∧
  (s.keep.onVbat = true → exec .switchToVbat s = .next s ∧
    exec .retentionLost s = .next { s with keep := { s.keep with lost := true } } ∧
    ∀ n, exec (.switchToMain n) s =
      .next ({ s with keep := { s.keep with onVbat := false } }.setReg (ks 0xA) (min n 0xFFFFFFFF))) ∧
  (s.keep.locked = false ∨ s.keep.onVbat = true → exec .keeperInterfaceUnlock s = .next s) ∧
  (s.keep.locked = true → s.keep.onVbat = false → ∃ t, exec .keeperInterfaceUnlock s = .next t ∧
    t.keep.locked = false ∧ t.keep.judged = true ∧
    (s.keep.lost = false → keeperHeaderOk s.keep.header = true → t.reg (ks 0xB) = 0 ∧ Only [ks 0xB] s t ∧
      t.keep = { s.keep with locked := false, judged := true }) ∧
    (s.keep.lost = true → t.reg (ks 0xB) = 1) ∧
    (s.keep.lost = false → keeperHeaderOk s.keep.header = false → t.reg (ks 0xB) = 2) ∧
    (s.keep.lost = true ∨ keeperHeaderOk s.keep.header = false →
      t.keep.clock = lostClock ∧ t.keep.wakeInterval = 0 ∧ t.keep.ageing = 0 ∧ t.bit (ks 1) bTimeLost = true ∧
      t.reg 0x2B2002 = 0 ∧ t.reg 0x2B2003 = 0 ∧ t.reg 0x2B2004 = 0 ∧ t.hostArea = List.replicate 2048 0 ∧ t.panel.journal = [] ∧
      keeperHeaderOk t.keep.header = true))

namespace Sys2Proof.Stated

open Sys2Proof Sys2Proof.Machine

/-- The transmit and receive error counters after an event of ISO 11898-1; a success with the receive counter above 127
leaves a value of 119 to 127 that the standard does not fix (R332). -/
def Errors (kind : CanErrorKind) (tec rec tec' rec' : Nat) : Prop :=
  match kind with
  | .transmit => tec' = min (tec + 8) 511 ∧ rec' = rec
  | .receive => tec' = tec ∧ rec' = min (rec + 1) 511
  | .receivePrimary => tec' = tec ∧ rec' = min (rec + 8) 511
  | .transmitOk => tec' = tec - 1 ∧ rec' = rec
  | .receiveOk => tec' = tec ∧ (if 127 < rec then 119 ≤ rec' ∧ rec' ≤ 127 else rec' = rec - 1)

/-- A frame that the filters give to queue `q` joins it, or waits in the shadow buffer of a held window, or is lost (R337,
R339). -/
def Queued (s t : State) (c q : Nat) (x : CanRecord) : Prop :=
  let r := s.crt c
  (r.level q < 64 → t.can = (s.setCrt c { r with rxq := r.rxq ++ [(q, x)] }).can) ∧
  (64 ≤ r.level q → r.held q = true → (r.shadow q).isNone = true →
    t.can = (s.setCrt c (r.setShadow q (some x))).can ∧ Counts (cst c 0xB) 1 s t) ∧
  (64 ≤ r.level q → r.held q = false ∨ (r.shadow q).isNone = false →
    t.can = s.can ∧ Counts (cst c 9) 1 s t ∧ (t.reg (causeOf 11)).testBit (4 * c + 3) = true)

end Sys2Proof.Stated

/-- R328, R332 to R341, R349: a CAN controller. A frame whose format is in use counts and goes to the CANopen layer, a
receive queue or nowhere, as the filters say; a sent frame leaves the transmit queue; the error counters move and give
error-passive and bus-off; bus-off empties the transmit queue, and the recovery ends it. -/
def Obligations.CanEvents : Prop := ∀ (s : State) (c ns : Nat) (f : CanFrame), s.Ok → c < 4 →
  (f.format < 4 → lengthOk f.format f.data.length = true →
    (s.canMode c = 0 ∨ s.usesFormat c (formatBit f.format) = false → exec (.canFrameReceived c f ns) s = .next s) ∧
    (s.canMode c ≠ 0 → s.usesFormat c (formatBit f.format) = true →
      ∃ t, exec (.canFrameReceived c f ns) s = .next t ∧ Counts (cst c 1) 1 s t ∧
        (s.openTakes c f = true → Only [cst c 1] s t ∧ t = { s with regs := t.regs }) ∧
        (s.openTakes c f = false →
          ((s.frameAction c f).1 = 1 → Queued s t c 0 ⟨f, (s.frameAction c f).2, ns⟩) ∧
          ((s.frameAction c f).1 = 2 → Queued s t c 1 ⟨f, (s.frameAction c f).2, ns⟩) ∧
          ((s.frameAction c f).1 ≠ 1 → (s.frameAction c f).1 ≠ 2 →
            Counts (cw c 8) 1 s t ∧ Only [cst c 1, cw c 8] s t ∧ t = { s with regs := t.regs })))) ∧
  ((s.crt c).txq = [] ∨ s.canSends c = false → exec (.canFrameSent c) s = .next s) ∧
  (∀ x rest, (s.crt c).txq = x :: rest → s.canSends c = true → ∃ t, exec (.canFrameSent c) s = .next t ∧
    t.out = s.out ++ [.canFrame c x.frame] ∧ Counts (cst c 3) 1 s t ∧ Only [cst c 3] s t ∧
    t.can = (s.setCrt c { s.crt c with txq := rest }).can ∧
    (x.tpdo = none → t.open_ = s.open_) ∧
    (∀ n, x.tpdo = some n →
      t.open_ = (s.setTpdo n { s.tpdo n with lastSent := some x.frame.data, sentNs := s.tick.nowNs }).open_)) ∧
  (s.canMode c ≠ 1 ∨ s.canBit c bBusOff = true → exec (.canBusOff c) s = .next s ∧
    ∀ kind, exec (.canProtocolError c kind) s = .next s) ∧
  (s.canMode c = 1 → s.canBit c bBusOff = false →
    (∃ t, exec (.canBusOff c) s = .next t ∧ t.canBit c bBusOff = true ∧ Counts (cst c 7) 1 s t ∧
      (t.reg (causeOf 11)).testBit (4 * c) = true ∧ t.can = (s.setCrt c { s.crt c with txq := [] }).can ∧
      (s.on (cc c 0x11) = true → t.canBit c bRecovering = true) ∧
      (s.on (cc c 0x11) = false → t.canBit c bRecovering = s.canBit c bRecovering)) ∧
    ∀ kind, ∃ t, exec (.canProtocolError c kind) s = .next t ∧
      Errors kind (s.tecCount c) (s.recCount c) (t.tecCount c) (t.recCount c) ∧
      (t.canBit c bErrorPassive = true ↔ 127 < t.tecCount c ∨ 127 < t.recCount c) ∧
      (t.canBit c bBusOff = true ↔ 255 < t.tecCount c) ∧ t.mem = s.mem) ∧
  (s.canMode c = 1 → s.canBit c bErrorPassive = false → ∃ t, exec (.canErrorPassive c) s = .next t ∧
    t.canBit c bErrorPassive = true ∧ SetsBit (causeOf 11) (4 * c + 1) s t ∧ Apart [cc c 0x19, causeOf 11] s t) ∧
  (s.canMode c ≠ 1 ∨ s.canBit c bErrorPassive = true → exec (.canErrorPassive c) s = .next s) ∧
  (s.canBit c bRecovering = true → ∃ t, exec (.busOffRecoveryEnd c) s = .next t ∧ t.canBit c bRecovering = false ∧
    t.canBit c bBusOff = false ∧ t.canBit c bErrorPassive = false ∧ t.tecCount c = 0 ∧ t.recCount c = 0 ∧
    Only [cc c 0x19, cc c 0x1A] s t ∧ t = { s with regs := t.regs }) ∧
  (s.canBit c bRecovering = false → exec (.busOffRecoveryEnd c) s = .next s)

/-- R345, R346, R348, R375, R376: the CANopen device and the address claims of NMEA 2000. NMT moves the device's state where
the command reaches its node; PDO data of another length is counted and dropped; a contended address stays with the lower
NAME. -/
def Obligations.CanopenEvents : Prop := ∀ (s : State) (n c : Nat) (d : List Byte), s.Ok →
  (n < 128 →
    (s.nmtHere n = true →
      exec (.nmtStartRemoteNode n) s = .next { s with open_ := { s.open_ with nmt := .operational } } ∧
      exec (.nmtStopRemoteNode n) s = .next { s with open_ := { s.open_ with nmt := .stopped } } ∧
      exec (.nmtEnterPreOperational n) s = .next { s with open_ := { s.open_ with nmt := .preOperational } }) ∧
    (s.nmtHere n = false → exec (.nmtStartRemoteNode n) s = .next s ∧ exec (.nmtStopRemoteNode n) s = .next s ∧
      exec (.nmtEnterPreOperational n) s = .next s)) ∧
  (s.reg 0x2C0802 = 0 → s.deviceRuns = true → ∃ t, exec .syncReceived s = .next t ∧ t.open_.syncs = s.open_.syncs + 1 ∧
    Counts 0x2C0805 1 s t ∧ Only [0x2C0805] s t ∧ (∀ m, (s.rpdo m).fresh = none → t.rpdo m = s.rpdo m) ∧
    t = { s with regs := t.regs, open_ := t.open_ }) ∧
  (s.reg 0x2C0802 ≠ 0 ∨ s.deviceRuns = false → exec .syncReceived s = .next s) ∧
  (n < 64 →
    let size := (placement (s.reg (keyOf 0x2C40 (n + 1)))).2
    (s.operational = false ∨ s.rpdoOn n = false → exec (.rpdoReceived n d) s = .next s) ∧
    (s.operational = true → s.rpdoOn n = true →
      (d.length ≠ size → exec (.rpdoReceived n d) s = .next (s.count 0x2C0806)) ∧
      (d.length = size → d = [] → exec (.rpdoReceived n d) s = .next s) ∧
      (d.length = size → d ≠ [] → exec (.rpdoReceived n d) s = .next (s.setRpdo n
        (if 254 ≤ s.reg (keyOf (0x1400 + n) 2) then { s.rpdo n with ready := some d } else { s.rpdo n with fresh := some d })))) ∧
    (s.operational = true → s.tpdoOn n = true → 254 ≤ s.tpdoType n → s.reg (keyOf (0x1800 + n) 5) ≠ 0 →
      exec (.tpdoEventTimerExpiry n) s = .next (s.setTpdo n { s.tpdo n with expired := true })) ∧
    (s.operational = false ∨ s.tpdoOn n = false ∨ s.tpdoType n < 254 ∨ s.reg (keyOf (0x1800 + n) 5) = 0 →
      exec (.tpdoEventTimerExpiry n) s = .next s)) ∧
  (s.canopen = some c →
    exec .heartbeatProducerExpiry s = .next (if s.canSends c = true ∧ s.reg 0x101700 ≠ 0 ∧ s.mode ≠ stBench
      then { s with out := s.out ++ [.heartbeat s.open_.nmt.code] } else s)) ∧
  (s.canopen = none → exec .heartbeatProducerExpiry s = .next s) ∧
  (1 ≤ n → n ≤ 8 → exec (.heartbeatConsumerExpiry n) s = .next s) ∧
  (c < 4 →
    exec (.requestForAddressClaim c) s = .next (if s.protocol c = 3 ∧ s.canMode c = 1 ∧ (s.crt c).claimed = true
      then { s with out := s.out ++ [.addressClaim c (s.reg (cc c 0x1B)) (s.reg (cc c 0xF))] } else s) ∧
    ∀ a name, a < 256 → name < 2 ^ 64 →
      let own := s.reg (cc c 0xF)
      let others := (s.crt c).others.filter (fun o => o.1 != name) ++ [(name, a)]
      let u := s.setCrt c { s.crt c with others := others }
      let contended := (s.crt c).claimed = true ∧ a = s.reg (cc c 0x1B) ∧ a ≠ 254
      (s.protocol c ≠ 3 ∨ s.canMode c = 0 → exec (.addressClaimReceived c a name) s = .next s) ∧
      (s.protocol c = 3 → s.canMode c ≠ 0 →
        (¬ contended → exec (.addressClaimReceived c a name) s = .next u) ∧
        (contended → own < name → exec (.addressClaimReceived c a name) s = .next (u.claim c a)) ∧
        (contended → name ≤ own → own.testBit 63 = false → exec (.addressClaimReceived c a name) s = .next (u.claim c 254)) ∧
        (contended → name ≤ own → own.testBit 63 = true →
          exec (.addressClaimReceived c a name) s = .next (u.claim c ((nextFree others a).getD 254)))))

/-- R350 to R354, R448: a received line that is too long or framed badly, or whose checksum fails, is counted; every other
line is delivered; the oldest sentence of a transmit buffer leaves; a datagram of a selected group delivers its lines unless
it repeats one of the other plant port. In BENCHMARK nothing is taken. -/
def Obligations.SentenceEvents : Prop := ∀ (s : State) (p ns : Nat) (l : List Byte) (bad : Bool), s.Ok →
  (p < 4 → lineOk l = true →
    (s.running = false ∨ s.mode = stBench ∨ s.on (sp p 1) = false ∨ s.blockUp (4 + p) = false ∨
        (s.on (sp p 3) = true ∧ (s.srt p).tx ≠ []) → exec (.sentenceReceived p l bad ns) s = .next s) ∧
    (s.running = true → s.mode ≠ stBench → s.on (sp p 1) = true → s.blockUp (4 + p) = true → s.on (sp p 3) = false ∨ (s.srt p).tx = [] →
      let tag := (splitTag l).1
      let body := (splitTag l).2
      let long := 80 < body.length ∨ 100 < tag.length
      (bad = true ∨ long → exec (.sentenceReceived p l bad ns) s = .next (s.count (keyOf (0x2C90 + p) 5))) ∧
      (bad = false → ¬ long → lineChecksum body = some false ∨ (lineChecksum body = none ∧ s.on (sp p 4) = true) →
        exec (.sentenceReceived p l bad ns) s = .next (s.count (keyOf (0x2C90 + p) 3))) ∧
      (bad = false → ¬ long → lineChecksum body = some true ∨ (lineChecksum body = none ∧ s.on (sp p 4) = false) →
        ∃ t, exec (.sentenceReceived p l bad ns) s = .next t ∧ Counts (keyOf (0x2C90 + p) 1) 1 s t ∧
          t = { s with regs := t.regs, sent := t.sent, dict := { s.dict with atClose := t.dict.atClose } } ∧
          (s.on (sp p 9) = false → (s.srt p).imageQ.length < 64 →
            let x : Sentence := ⟨p, ns, l, (lineChecksum body).isSome, !tag.isEmpty⟩
            t.sent = (s.setSrt p { s.srt p with imageQ := (s.srt p).imageQ ++ [x] }).sent)))) ∧
  (p < 4 → (s.srt p).tx = [] → exec (.sentenceTransmitted p) s = .next s) ∧
  (∀ x rest, p < 4 → (s.srt p).tx = x :: rest → exec (.sentenceTransmitted p) s =
    .next ((s.setSrt p { s.srt p with tx := rest }).emit (.sentence p x))) ∧
  (∀ g bytes, p < 2 → g < 8 →
    let heard := s.running && s.mode != stBench && s.on (sp 4 1) && s.blockUp (8 + p) && s.bit 0x2C8801 p &&
      s.reg (keyOf 0x2C88 (5 + g)) != 0 && bytes.take 6 == udpbc
    let recent := s.sent.seen.filter (fun x => decide (ns < x.2.2 + 100000000))
    (heard = false → exec (.datagram61162450 p g bytes ns) s = .next s) ∧
    (∀ k, heard = true → datagramKey bytes = some k →
      ((∃ x, x ∈ recent ∧ x.1 ≠ p ∧ x.2.1 = k) →
        exec (.datagram61162450 p g bytes ns) s = .next { s with sent := { s.sent with seen := recent } }) ∧
      ((∀ x, x ∈ recent → x.1 = p ∨ x.2.1 ≠ k) → exec (.datagram61162450 p g bytes ns) s =
        .next (((datagramLines bytes).filter lineOk).foldl (fun t x => t.takeLine 4 x false ns)
          { s with sent := { s.sent with seen := recent ++ [(p, k, ns)] } }))) ∧
    (heard = true → datagramKey bytes = none → exec (.datagram61162450 p g bytes ns) s =
      .next (((datagramLines bytes).filter lineOk).foldl (fun t x => t.takeLine 4 x false ns)
        { s with sent := { s.sent with seen := recent } })))

namespace Sys2Proof.Stated

open Sys2Proof Sys2Proof.Machine

/-- The sum of a record's bins. -/
def binSum (r : BookRecord) : Nat := r.bins.foldl (fun a b => a + b) 0

/-- A rail fault: every output off, VCOM at 0 V, PRAIL_EN deasserted, every rectangle in flight aborted and counted with its
journal slot kept (R414). -/
def RailFault (s t : State) : Prop :=
  t.panelState = psFault ∧ (t.reg (ps 2)).testBit 5 = true ∧ Counts (ps 9) s.panel.flight.length s t ∧ Counts (ps 0xA) 1 s t ∧
  SetsBit (causeOf 14) 3 s t ∧
  Apart [ps 1, ps 2, ps 9, ps 0xA, causeOf 14] { s with panel := t.panel } t ∧
  t.panel = { s.panel with flight := [], driving := false, vcomMv := 0, railEnable := false, railOk := false }

end Sys2Proof.Stated

/-- R391, R395, R397, R400 to R402: the level book. A sample enters one bin and the extremes; a commit falls due after its
interval, is written, or fails and waits; an operating second moves the count and its mirror, measures, and writes the header
every 600. -/
def Obligations.LevelBook : Prop := ∀ (s : State) (c : Nat), s.Ok → c < 512 →
  (∀ (r : BookRecord) (x : Int) (sec cyc : Nat), r.bins.length = 16 → (∀ b, b ∈ r.bins → b < 0xFFFFFFFF) → 0 < r.width →
    let t := r.add x sec cyc
    binSum t = binSum r + 1 ∧ t.min = Min.min r.min x ∧ t.max = Max.max r.max x ∧
    t.generation = (r.generation + 1) % 2 ^ 32 ∧ t.count = Nat.min (r.count + 1) (2 ^ 64 - 1) ∧
    (∀ k : Nat, k < 14 → r.origin + (k : Int) * r.width ≤ x → x < r.origin + ((k : Int) + 1) * r.width →
      t.bins.getD (k + 1) 0 = r.bins.getD (k + 1) 0 + 1) ∧
    (x < r.origin → t.bins.getD 0 0 = r.bins.getD 0 0 + 1) ∧
    (r.origin + 14 * r.width ≤ x → t.bins.getD 15 0 = r.bins.getD 15 0 + 1)) ∧
  (let b := s.bookRt c
   (s.bookRuns = true → b.dirty = true → b.retry = false → max b.lastCommit s.book.startSec + s.commitInterval c ≤ s.opSeconds →
     exec (.levelBookCommitDue c) s = .next (s.setBookRt c { b with due := true })) ∧
   (s.bookRuns = false ∨ b.dirty = false ∨ b.retry = true ∨ s.opSeconds < max b.lastCommit s.book.startSec + s.commitInterval c →
     exec (.levelBookCommitDue c) s = .next s) ∧
   (∀ ok, b.due = false → exec (.levelBookCommitDone c ok) s = .next s) ∧
   (b.due = true → ∃ t, exec (.levelBookCommitDone c true) s = .next t ∧ Counts 0x2D0108 1 s t ∧ Only [0x2D0108] s t ∧
     (let r := { s.liveRecord c with
        generation := ((s.liveRecord c).generation + 1) % 2 ^ 32, commitSec := s.opSeconds, commitCycle := s.powerCycle }
      t.book.committed = Sparse.set {} s.book.committed c r ∧ t.book.live = Sparse.set {} s.book.live c r) ∧
     t.book.codes = (s.setBookRt c
       { b with due := false, retry := false, dirty := false, lastCommit := s.opSeconds }).book.codes) ∧
   (b.due = true → ∃ t, exec (.levelBookCommitDone c false) s = .next t ∧ Counts 0x2D0106 1 s t ∧ t.reg 0x2D0107 = c ∧
     SetsBit (causeOf 13) 2 s t ∧
     Apart [0x2D0106, 0x2D0107, causeOf 13] (s.setBookRt c { b with due := false, retry := true }) t) ∧
   (b.retry = true → exec (.commitRetryExpiry c) s = .next (s.setBookRt c { b with retry := false, due := true })) ∧
   (b.retry = false → exec (.commitRetryExpiry c) s = .next s)) ∧
  (∀ x : SecondSample,
    (s.rst.supervisorUp = false → exec (.operatingSecond x) s = .next s) ∧
    (s.rst.supervisorUp = true → ∃ t, exec (.operatingSecond x) s = .next t ∧ Counts 0x2D0101 1 s t ∧
      (s.keep.locked = false → t.reg 0x2B2004 = t.reg 0x2D0101) ∧ (s.keep.locked = true → t.reg 0x2B2004 = s.reg 0x2B2004) ∧
      (t.reg 0x2D0101 % 600 = 0 → t.book.headerSec = t.reg 0x2D0101 ∧ t.book.headerCycle = s.powerCycle) ∧
      (t.reg 0x2D0101 % 600 ≠ 0 → t.book.headerSec = s.book.headerSec) ∧
      (∀ k, k < 8 → t.reg (dsl k 1) = (x.lplus.getD k 0).toNat) ∧ t.reg 0x2B0108 = x.vbat.toNat ∧
      t.mem = s.mem ∧ t.engines = s.engines ∧ t.tick = s.tick))

/-- R413, R414, R423 to R427, R430: the panel. The rails rise, fall and fail with what each leaves; a scan boundary ends the
scan, settles VCOM and starts what waits, or lowers the rails for a pending disable. -/
def Obligations.PanelEvents : Prop := ∀ s : State, s.Ok →
  (s.scanning = true →
    let u := s.endScan.settleVcom
    exec .scanBoundary s = .next (if u.pendingOff = true ∧ u.panel.flight = [] then u.lowerRails else u.startScan)) ∧
  (s.scanning = false → s.panelState = psDown → exec .scanBoundary s =
    .next (if s.pendingOn then (s.setBit (ps 2) 0 false).setReg 0x2E0001 1 else s).raiseRails) ∧
  (s.scanning = false → s.panelState ≠ psDown → exec .scanBoundary s = .next s) ∧
  (s.panel.railEnable = true → exec .prailOkAsserted s = .next { s with panel := { s.panel with railOk := true } } ∧
    ∃ t, exec .railFault s = .next t ∧ RailFault s t) ∧
  (s.panel.railEnable = false → exec .prailOkAsserted s = .next s ∧ exec .railFault s = .next s) ∧
  (s.panelState = psRising → s.panel.railOk = false → (∃ t, exec .railUpTimeout s = .next t ∧ RailFault s t) ∧
    exec .railUpDelayExpiry s = .next s) ∧
  (s.panelState = psRising → s.panel.railOk = true → exec .railUpTimeout s = .next s ∧
    let u := { s with panel := { s.panel with driving := true } }.settleVcom
    exec .railUpDelayExpiry s = .next (if u.pendingOff then u.lowerRails else (u.setReg (ps 1) psScan).startScan)) ∧
  (s.panelState ≠ psRising → exec .railUpTimeout s = .next s ∧ exec .railUpDelayExpiry s = .next s) ∧
  (s.panelState = psFault → ∃ t, exec .railFaultRetry s = .next t ∧ (t.reg (ps 2)).testBit 5 = false ∧
    t.panel.tilesKnown = [] ∧ t.panel.flight = [] ∧ t.panel.queue = s.panel.queue ∧
    (s.pendingOff = false → s.panelOn = true → t.panelState = psRising ∧ t.panel.railEnable = true) ∧
    (s.pendingOff = true ∨ s.panelOn = false → t.panelState = psDown)) ∧
  (s.panelState ≠ psFault → exec .railFaultRetry s = .next s) ∧
  (s.scanning = true → s.panel.flight = [] → s.panelWork = false → ∃ t, exec .railHoldExpiry s = .next t ∧
    t.panelState = psFalling ∧ t.panel = { s.panel with driving := false, vcomMv := 0 } ∧ Only [ps 1] s t) ∧
  (s.scanning = false ∨ s.panel.flight ≠ [] ∨ s.panelWork = true → exec .railHoldExpiry s = .next s) ∧
  (s.panelState = psFalling → ∃ t, exec .railDownDelayExpiry s = .next t ∧ t.panelState = psDown ∧
    t.panel = { s.panel with railEnable := false, railOk := false } ∧ t.pendingOff = false ∧ Only [ps 1, ps 2] s t) ∧
  (s.panelState ≠ psFalling → exec .railDownDelayExpiry s = .next s) ∧
  exec .stressCounterCommit s = .next { s with panel := { s.panel with stressStored := s.panel.stress } }

namespace Sys2Proof.Stated

open Sys2Proof Sys2Proof.Machine

/-- Reset source `n` acts (R432 to R436): its bit sets and stays; code 7 only records; a level starts a reset, escalates a
less extensive one in progress, and leaves a more extensive one. -/
def Resets (n : Nat) (s t : State) : Prop :=
  let level := s.levelOf n
  (t.reg 0x2F0001).testBit n = true ∧
  (level = 7 → SetsBit 0x2F0001 n s t ∧ Only [0x2F0001] s t ∧ t = { s with regs := t.regs }) ∧
  (s.rst.progress = none → level ≤ 3 →
    t.reg 0x2F0002 = n ∧ t.reg 0x2F0003 = level ∧ Counts 0x2F0004 1 s t ∧ t.reg 0x2F0005 = s.opSeconds ∧
    t.reg 0x2F0006 = s.powerCycle ∧ t.rst.progress = (if level ≤ 2 then some level else none) ∧
    (level ≤ 1 → t.mode = stOff) ∧ (level = 2 → t.mode = stSelfTest) ∧ (level = 3 → t.mode = s.mode) ∧
    (level ≤ 2 → t.reg 0x250104 = 0)) ∧
  (∀ l, s.rst.progress = some l → level < l → l ≤ 2 →
    t.rst.progress = some level ∧ t.reg 0x2F0002 = n ∧ t.reg 0x2F0003 = level ∧ t.reg 0x2F0004 = s.reg 0x2F0004) ∧
  (∀ l, s.rst.progress = some l → l < level → level ≠ 7 → Only [0x2F0001] s t ∧ t = { s with regs := t.regs })

end Sys2Proof.Stated

/-- R376, R432 to R436, R455, R482: the reset sources. Each completes with the reset that its level gives. -/
def Obligations.ResetSources : Prop := ∀ (s : State) (k : Nat), s.Ok →
  let resets (c : Instr) (n : Nat) : Prop := ∃ t, exec c s = .next t ∧ Resets n s t
  resets .vsupBrownOut 1 ∧ resets .coreBrownOut 2 ∧ resets .rstNAsserted 3 ∧ resets .supervisorWatchdogExpiry 4 ∧
  resets .supervisorLockstepMismatch 5 ∧ resets .thermalReset 13 ∧
  (s.reg 0x2F3001 ≠ 2 ∨ s.fuse.jtagOpen = true → resets .debugReset 14) ∧
  (s.reg 0x2F3001 = 2 → s.fuse.jtagOpen = false → exec .debugReset s = .next s) ∧
  (k < 128 → s.nmtHere k = true → resets (.nmtResetNode k) 10 ∧ resets (.nmtResetCommunication k) 11) ∧
  (k < 128 → s.nmtHere k = false → exec (.nmtResetNode k) s = .next s ∧ exec (.nmtResetCommunication k) s = .next s) ∧
  (∀ c : Clock, s.levelOf 12 ≠ 4 → resets (.clockMonitorFault c) 12) ∧
  (∀ c : Clock, s.levelOf 12 = 4 → ∃ t, exec (.clockMonitorFault c) s = .next t ∧ (t.reg 0x2F0001).testBit 12 = true ∧
    (clockBlocks c = [] → s.rst.progress = none → t.rst.progress = some 1 ∧ t.mode = stOff) ∧
    (clockBlocks c ≠ [] → s.rst.progress = none → t.mode = s.mode ∧ t.rst.progress = none ∧
      Counts 0x2F0211 (clockBlocks c).length s t) ∧
    (∀ l, clockBlocks c ≠ [] → s.rst.progress = some l → l ≤ 2 → t = s.setBit 0x2F0001 12 true)) ∧
  (∃ t, exec .powerOnReset s = .next t ∧ t.reg 0x2F0001 = 1 ∧ t.rst.progress = some 0 ∧ t.mode = stOff ∧ t.reg 0x2F0004 = 0) ∧
  (s.tick.point = .d → exec .deferredResetStart s = .next (s.tick.resetsDue.foldl (fun t n => t.startReset n (t.levelOf n))
    { s with tick := { s.tick with resetsDue := [] } })) ∧
  (s.tick.point ≠ .d → exec .deferredResetStart s = .next s)

/-- R125, R322, R387, R438, R445, R477, R478: the release of a reset. Data memory, engines and the sequencer restart at
every level, the retained range apart; the keeper, the stored analog modes and the reset causes stand; after level 0 or 1
every cause bit of the interrupt tree is clear, every ball but WAKE_N is at rest, and the start begins. R440, R441: a block
that was asked to go idle is reset when it is idle or when its time runs out, and released; a release forced through JTAG
while its clock is not stable leaves it fenced. -/
def Obligations.ResetReleases : Prop :=
  (∀ s : State, s.Ok →
    (s.rst.progress = none → exec .resetRelease s = .next s) ∧
    (∀ l, s.rst.progress = some l → l ≤ 2 → ∃ t, exec .resetRelease s = .next t ∧ t.rst.progress = none ∧
      t.engines = [] ∧ t.tasks = [] ∧ t.tick.point = .none ∧ t.tick.started = false ∧ t.reg 0x2F0001 = s.reg 0x2F0001 ∧
      (t.keep = s.keep) ∧ (∀ k, t.storedMode k = s.storedMode k) ∧ (l = 0 → t.mem = []) ∧
      (l ≤ 1 → ∀ b : Ball, b ≠ .wakeN → t.ball b = idleBall b) ∧
      (∀ a n h, s.img.retWriter = some (a, n, h) → 1 ≤ l → ∀ x,
        Memory.read t.mem x = if memKey 3 0 a ≤ x ∧ x < memKey 3 0 a + n then Memory.read s.mem x else 0) ∧
      (s.img.retWriter = none → t.mem = []) ∧
      (l ≤ 1 → (∀ g, 1 ≤ g → g ≤ 15 → t.reg (causeOf g) = 0) ∧ t.dict.atClose = [] ∧ t.dict.atBoundary = [] ∧
        t.mode = (if l = 1 ∧ s.rst.optionsRead = true then stSelfTest else stOption)) ∧
      (l = 2 → t.mode = (if s.rst.optionsRead = true then stSelfTest else stOption)))) ∧
  (∀ (s : State) (b n : Nat), b < 14 →
    (s.stage b = .waiting →
      exec (.blockIdle b) s = .next ((((s.resetBlock b).setStage b .held).setReg 0x2F020F 0).countBy 0x2F0210 0) ∧
      exec (.blockIdleTimeout b n) s = .next ((((s.resetBlock b).setStage b .held).setReg 0x2F020F 1).countBy 0x2F0210 n)) ∧
    (s.stage b ≠ .waiting → exec (.blockIdle b) s = .next s ∧ exec (.blockIdleTimeout b n) s = .next s) ∧
    (s.stage b = .held ∨ s.stage b = .fenced →
      (b ≠ 11 → exec (.blockRelease b) s = .next (s.setStage b .running)) ∧
      (b = 11 → exec (.blockRelease b) s = .next (s.setStage b .running).panelStart.raiseRails)) ∧
    (s.stage b = .running ∨ s.stage b = .waiting → exec (.blockRelease b) s = .next s) ∧
    (s.stage b = .held → s.reg 0x2F3001 ≠ 2 ∨ s.fuse.jtagOpen = true →
      exec (.jtagForcedRelease b) s = .next ((s.setStage b .fenced).setReg 0x2F020F 2)) ∧
    (s.stage b ≠ .held ∨ (s.reg 0x2F3001 = 2 ∧ s.fuse.jtagOpen = false) → exec (.jtagForcedRelease b) s = .next s))

/-- R361, R400, R442, R445 to R447, R453: the points of a start, each in its order and each once. -/
def Obligations.StartSequence : Prop := ∀ s : State, s.Ok →
  (s.mode = stOption → ∃ t, exec .optionReadComplete s = .next t ∧ t.mode = stSelfTest ∧ t.rst.optionsRead = true ∧
    t.rst.options = s.chosenCopy.1 ∧ t.reg 0x2F0306 = s.chosenCopy.2 ∧
    (s.rst.copy0 = none → s.rst.copy1 = none → (t.reg 0x2F0001).testBit 15 = true) ∧ t.mem = s.mem) ∧
  (s.mode ≠ stOption → exec .optionReadComplete s = .next s) ∧
  (s.mode = stSelfTest → s.rst.optionsRead = true → s.rst.firmwareUp = false →
    let p := s.reg 0x2F3105
    let up (k fallback : Nat) : State :=
      ({ s with rst := { s.rst with firmwareUp := true } }.setReg 0x2F3102 k).setReg 0x2F3108 fallback
    (s.bootable p = true → s.fuse.limitHit = false → exec .firmwareBoot s = .next (up p 0)) ∧
    (s.bootable p = false ∨ s.fuse.limitHit = true → s.bootable (1 - p) = true → exec .firmwareBoot s = .next (up (1 - p) 1)) ∧
    (s.bootable p = false ∨ s.fuse.limitHit = true → s.bootable (1 - p) = false → exec .firmwareBoot s = .next s)) ∧
  (s.mode = stSelfTest → s.rst.firmwareUp = true → s.rst.supervisorUp = false → s.keep.locked = false →
    ∃ t, exec .supervisorStart s = .next t ∧ t.rst.supervisorUp = true ∧ t.rst.reasons = t.benchReasons ∧
      (s.reg 0x2F0304 = 2 → t.reg 0x2B2002 = 0 ∧ t.reg 0x2F0304 = 0) ∧ (s.reg 0x2F0304 ≠ 2 → Counts 0x2B2002 1 s t) ∧
      t.keep.wakeInterval = s.stored 0x2B0003 ∧ t.keep.usedSince = false ∧ t.mode = stSelfTest) ∧
  (s.keep.locked = true → exec .supervisorStart s = .next s) ∧
  (s.mode = stSelfTest → s.rst.supervisorUp = true → s.dict.loaded = false →
    exec .configurationLoaded s = .next s.loadGeneration.settle.loadTime ∧
      (let t := s.loadGeneration.settle.loadTime
       t.dict.loaded = true ∧ t.dict.toDefault = [] ∧ t.mem = s.mem ∧
       (s.dict.generation = none → (t.reg (causeOf 1)).testBit 7 = true ∧ t.mode = stSelfTest)) ∧
      (∀ g x, s.dict.generation = some g → Sparse.rising g.regs = true → x ∈ g.regs → s.dict.toDefault.contains x.1 = false →
        s.loadGeneration.reg x.1 = x.2 % 2 ^ entryBits x.1)) ∧
  (s.rst.supervisorUp = false ∨ s.dict.loaded = true → exec .configurationLoaded s = .next s) ∧
  (∀ n, n ≤ 6 →
    (s.mode = stSelfTest → s.dict.loaded = true →
      exec (.selfTestComplete n) s = .next (if n = 0 then { s with rst := { s.rst with tested := true } }.setReg 0x2F0008 0
        else s.setReg 0x2F0008 n)) ∧
    (s.mode ≠ stSelfTest ∨ s.dict.loaded = false → exec (.selfTestComplete n) s = .next s)) ∧
  (∀ r : LoadReport, s.mode = stSelfTest → s.rst.tested = true → s.rst.imagesUp = false →
    ∃ t, exec (.imagesLoaded r) s = .next t ∧ t.rst.imagesUp = true ∧ t.mode = stSelfTest ∧
      (s.rst.reasons ≠ 0 → t.img = s.img) ∧
      (s.rst.reasons = 0 → r.bankA = true → s.img.bankA.container ≠ [] → ∀ m,
        (verifyProgram s.img.bankA.container s.ownerHash).2 = some m →
          t.img.bankA = { image := some m, container := s.img.bankA.container })) ∧
  (∀ r, s.mode ≠ stSelfTest ∨ s.rst.tested = false ∨ s.rst.imagesUp = true → exec (.imagesLoaded r) s = .next s)

namespace Sys2Proof.Stated

open Sys2Proof Sys2Proof.Machine

/-- The command that writes the bytes `d` to an entry, where its operands are in range. -/
def at_ (ok : Bool) (p : Path) (k : Nat) (d : List Byte) : Option (Path × Nat × List Byte) := if ok = true then some (p, k, d) else none

/-- The write that a command is: its path, the entry and the bytes, from the tables of the entries. -/
def writes (c : Instr) : Option (Path × Nat × List Byte) :=
  match c with
  | .dictionaryWrite p ix sub d => at_ (decide (ix < 65536) && decide (sub < 256)) p (256 * ix + sub) d
  | .sdoDownloadRequest n ix sub d => at_ (decide (n < 4) && decide (ix < 65536) && decide (sub < 256)) (.can n) (256 * ix + sub) d
  | .partnerRequest ix sub (some d) => at_ (decide (ix < 65536) && decide (sub < 256)) .partner (256 * ix + sub) d
  | .stateCommandRun p => some (p, 0x210002, [1])
  | .stateCommandStop p => some (p, 0x210002, [2])
  | .matrixWrite p d => some (p, 0x213001, d)
  | .resetEffect p e => at_ (decide (e < 65536)) p 0x21300A (leBytes 2 e)
  | .bypassCommand p d => some (p, 0x21300B, d)
  | .imageDownload p d => some (p, 0x220001, d)
  | .coldActivation p => some (p, 0x220101, [1])
  | .onlineExchange p => some (p, 0x220101, [2])
  | .exchangeAbort p => some (p, 0x220101, [3])
  | .eraseInactiveBank p => some (p, 0x220101, [4])
  | .loopStatusClear p n v => at_ (decide (n < 128) && decide (v < 2 ^ 32)) p (0x240029 + 256 * n) (leBytes 4 v)
  | .plannedSwitchOver p => some (p, 0x250112, [1])
  | .cancelSwitchOver p => some (p, 0x250112, [2])
  | .leaveNotReady p => some (p, 0x250112, [3])
  | .enterNotReady p => some (p, 0x250112, [4])
  | .startResynchronisation p => some (p, 0x250112, [5])
  | .clearOtLatched p n => at_ (decide (n < 64)) p (0x28100C + 256 * n) [1]
  | .clearSliceOc p k => at_ (decide (k < 8)) p (0x280106 + 256 * k) [1]
  | .clearSliceOtLatched p k => at_ (decide (k < 8)) p (0x280106 + 256 * k) [2]
  | .soeQueueDiscard p => some (p, 0x288005, [1])
  | .hartRequest p d => some (p, 0x299001, d)
  | .hartAbort p n => at_ (decide (n < 256)) p 0x299004 (leBytes 1 n)
  | .timeUnitReset p => some (p, 0x2A010F, [1])
  | .calendarSet p d => some (p, 0x2B1002, d)
  | .calendarCapture p => some (p, 0x2B1003, [1])
  | .wakeAcknowledge p => some (p, 0x2B1101, [1])
  | .startBusOffRecovery p n => at_ (decide (n < 4)) p (0x2C001C + 256 * n) [1]
  | .discardTransmitQueue p n => at_ (decide (n < 4)) p (0x2C001C + 256 * n) [2]
  | .releaseRxq0 p n => at_ (decide (n < 4)) p (0x2C2003 + 256 * n) [1]
  | .releaseRxq1 p n => at_ (decide (n < 4)) p (0x2C2003 + 256 * n) [2]
  | .storeParametersAll p => some (p, 0x101001, [0x73, 0x61, 0x76, 0x65])
  | .storeParametersCommunication p => some (p, 0x101002, [0x73, 0x61, 0x76, 0x65])
  | .storeParametersApplication p => some (p, 0x101003, [0x73, 0x61, 0x76, 0x65])
  | .restoreDefaultsAll p => some (p, 0x101101, [0x6C, 0x6F, 0x61, 0x64])
  | .restoreDefaultsCommunication p => some (p, 0x101102, [0x6C, 0x6F, 0x61, 0x64])
  | .restoreDefaultsApplication p => some (p, 0x101103, [0x6C, 0x6F, 0x61, 0x64])
  | .guardUnlock p => some (p, 0x2F6001, leBytes 4 0x5A584755)
  | .guardRelock p => some (p, 0x2F6001, [0, 0, 0, 0])
  | .causeClear p g b => at_ (between 1 g 15 && decide (b < 2 ^ 32)) p (causeOf g) (leBytes 4 b)
  | .recordRestart p n => at_ (decide (n < 65536)) p 0x2D2003 (leBytes 2 n)
  | .rectangleRequest p d => some (p, 0x2E2001, d)
  | .discardQueuedRequests p => some (p, 0x2E2002, [1])
  | .panelEnable p v => at_ (decide (v < 256)) p 0x2E0001 (leBytes 1 v)
  | .waveformTableWrite p d => some (p, 0x2E1001, d)
  | .resetNodeCommand p => some (p, 0x2F0101, [1])
  | .resetCommunicationCommand p => some (p, 0x2F0101, [2])
  | .blockResetCommand p b => at_ (decide (b < 256)) p 0x2F0212 (leBytes 1 b)
  | .clearFailedStartCounter p => some (p, 0x2F0308, [1])
  | .enterBenchmarkRequest p => some (p, 0x2F0308, [2])
  | .leaveBenchmarkMark p => some (p, 0x2F0308, [3])
  | .optionBlockWrite p d => some (p, 0x2F1001, d)
  | .resetMapProgramming p d => some (p, 0x2F2011, d)
  | .ownerKeyHashProgramming p d => some (p, 0x2F3003, d)
  | .debugKeyHashProgramming p d => some (p, 0x2F3005, d)
  | .lifecycleField p => some (p, 0x2F3006, leBytes 4 0x46494C45)
  | .lifecycleRetire p => some (p, 0x2F3006, leBytes 4 0x52455449)
  | .preferOtherCopy p => some (p, 0x2F3107, [1])
  | .raiseSecurityVersion p => some (p, 0x2F3107, [2])
  | .debugResponse p d => some (p, 0x2F3202, d)
  | _ => none

/-- What the write of a command does to its entry at the point that applies it. -/
def Applied (c : Instr) (s t : State) : Prop :=
  ∃ p k d, writes c = some (p, k, d) ∧ t = s.applyEntry { path := p, key := k, data := d }

/-- A command that a unit refuses at its closing point leaves a reason in a register and changes nothing else. -/
def Reason (key code : Nat) (s t : State) : Prop := t.reg key = code ∧ Only [key] s t ∧ t = { s with regs := t.regs }

end Sys2Proof.Stated

/-- R362, R366, R368, R371: every command that is a write. A path that the module does not serve has no effect; a write that
a check refuses answers its code and changes no entry; one that acts at once, or that comes while no closing points run, is
applied and answered; any other waits, after those accepted before it, for its closing point or frame boundary. -/
def Obligations.WriteCommands : Prop := ∀ (c : Instr) (p : Path) (k : Nat) (d : List Byte) (s : State),
  writes c = some (p, k, d) →
  let w : PendingWrite := { path := p, key := k, data := d }
  let code := firstCode [s.writeRefusal w, if s.inUse k = true then 0x0F000008 else 0]
  (s.serves p = false → exec c s = .next s) ∧
  (s.serves p = true →
    (code ≠ 0 → exec c s = .next ((s.noteRefusal k code).answer { path := p, key := k, code := code })) ∧
    (code = 0 → actsAtOnce k = true ∨ s.running = false →
      exec c s = .next ((s.forward w).applyWrite w false).commandedReset) ∧
    (code = 0 → actsAtOnce k = false → s.running = true →
      (waitsForBoundary k = false → ∃ t, exec c s = .next t ∧ t.dict = { s.dict with atClose := s.dict.atClose ++ [w] } ∧
        Only [0x2F6101] s t ∧ (p = .host → t.reg 0x2F6101 = 1) ∧
        t = { s with dict := t.dict, regs := t.regs, out := (s.forward w).out }) ∧
      (waitsForBoundary k = true → ∃ t, exec c s = .next t ∧ t.dict.atBoundary = s.dict.atBoundary ++ [w] ∧
        t.mem = s.mem ∧ t.out = (s.forward w).out)))

/-- R369, R370: a closing point applies the writes one after another in the order of their acceptance; a write that a later
one to the same entry follows is counted and answered 0x0F00_0010, the others are answered with the code of their outcome.
-/
def Obligations.ClosingWrites : Prop := ∀ (s : State) (w : PendingWrite) (rest : List PendingWrite) (n : Nat),
  s.dict.atClose = w :: rest →
  let s0 : State := { s with dict := { s.dict with atClose := rest } }
  let last := (rest.filter (fun x => x.key == w.key)).isEmpty
  let u := s0.applyEntry w
  s.drainClose (n + 1) = State.drainClose (s0.applyWrite w (!last)) n ∧
  (last = true → s0.applyWrite w (!last) = u.answer { path := w.path, key := w.key, code := s0.lateRefusal w, tag := w.tag }) ∧
  (last = false → s0.applyWrite w (!last) = (u.noteSupersede w.key).answer
    { path := w.path, key := w.key, code := 0x0F000010, tag := w.tag }) ∧
  (s.Ok → let v := s.noteSupersede w.key
    Counts 0x2F6004 1 s v ∧ v.reg 0x2F6008 = s.tickNo ∧ (v.reg (causeOf 15)).testBit 4 = true ∧
    Only [0x2F6004, 0x2F6007, 0x2F6008, causeOf 15] s v ∧
    (w.key / 256 < 65536 → v.reg 0x2F6007 = w.key / 256 * 65536 + w.key % 256))

/-- R81, R82, R102, R110, R111, R121, R124, R127, R136, R138, R148, R171, R191, R195: what the commands of chapters 2 to 6 do
at their closing point. -/
def Obligations.ApplicationWrites : Prop := ∀ (s t : State) (p : Path), s.Ok → p ≠ .forwarded →
  (Applied (.stateCommandRun p) s t →
    let u := s.refresh
    (u.runRefusal = 0 → t = u.enterRun.setReg 0x210007 0 ∧ t.mode = stRun) ∧
    (u.runRefusal ≠ 0 → t.reg 0x210007 = u.runRefusal ∧ (t.reg (causeOf 1)).testBit 3 = true ∧
      Only [0x210007, causeOf 1] u t ∧ t.mem = s.mem ∧ t.engines = s.engines)) ∧
  (Applied (.stateCommandStop p) s t →
    (s.mode = stRun ∨ (s.mode = stHalted ∧ s.mtx.stopped = false) → s.role ≠ 2 →
      t.mode = stStopped ∧ t.tick.stepHeld = false ∧ t.mem = s.mem ∧ t.reg 0x210007 = 0) ∧
    (s.mode ≠ stRun → s.mode ≠ stHalted → t.reg 0x210007 = 6 ∧ t.mode = s.mode ∧ t.mem = s.mem) ∧
    (s.mode = stHalted → s.mtx.stopped = true → s.role ≠ 2 → t.reg 0x210007 = 5 ∧ t.mode = s.mode)) ∧
  (∀ d, Applied (.matrixWrite p d) s t →
    (∀ v, s.readMatrix d = .error v → t.reg 0x213014 = v % 256 ∧ t.mtx = s.mtx) ∧
    (∀ m, s.readMatrix d = .ok m →
      (s.refsOk m = true → t.reg 0x213014 = 0 ∧ t.mtx = { s.mtx with waiting := some m, store := d }) ∧
      (s.refsOk m = false → t.reg 0x213014 = 4 ∧ t.mtx = s.mtx))) ∧
  (∀ e, e < 65536 → Applied (.resetEffect p e) s t →
    (s.resetOk e = true → t = { s with mtx := { s.mtx with resets := s.mtx.resets ++ [e] } }) ∧
    (s.resetOk e = false → Counts 0x21300C 1 s t ∧ Only [0x21300C] s t ∧ t.mtx = s.mtx)) ∧
  (∀ d, Applied (.bypassCommand p d) s t →
    let c := leNat (d.take 2)
    let ms := leNat ((d.drop 4).take 4)
    (s.bypassOk d = true → (t.causeRt c).bypass = (if ms = 0 then none else some ms) ∧
      (∀ n, n ≠ c → t.causeRt n = s.causeRt n) ∧ t.regs = s.regs) ∧
    (s.bypassOk d = false → Counts 0x21300C 1 s t ∧ t.mtx = s.mtx)) ∧
  (∀ d, Applied (.imageDownload p d) s t →
    t.img.download = some d ∧ t.img.target = s.loadBank ∧ t.bank s.loadBank = {} ∧ t.bankState s.loadBank = 0 ∧
    t.bank (1 - s.loadBank) = s.bank (1 - s.loadBank) ∧ t.reg 0x220102 = 2) ∧
  (Applied (.coldActivation p) s t →
    (s.mode = stStopped → s.bankState s.inactiveBank = 1 → s.img.coldPending = none →
      t = { s with img := { s.img with coldPending := some (s.inactiveBank, true) } }) ∧
    (s.mode ≠ stStopped → Reason 0x220103 3 s t) ∧
    (s.mode = stStopped → s.bankState s.inactiveBank ≠ 1 → Reason 0x220103 4 s t)) ∧
  (Applied (.onlineExchange p) s t →
    (s.exchangeRefusal = 0 → t.reg 0x220102 = 4 ∧ t.img.bgDone = 0 ∧ t.img.dirtyPages = [] ∧ t.mem = s.mem ∧ t.mode = s.mode) ∧
    (s.exchangeRefusal ≠ 0 → Reason 0x220103 s.exchangeRefusal s t)) ∧
  (Applied (.exchangeAbort p) s t →
    (s.reg 0x220102 = 4 ∨ s.reg 0x220102 = 5 → t.reg 0x220102 = 3 ∧ t.reg 0x220103 = 2 ∧ (t.reg (causeOf 3)).testBit 2 = true ∧
      t.img.bankA = s.img.bankA ∧ t.img.bankB = s.img.bankB ∧ t.mem = s.mem) ∧
    (s.reg 0x220102 ≠ 4 → s.reg 0x220102 ≠ 5 → Reason 0x220103 3 s t)) ∧
  (Applied (.eraseInactiveBank p) s t →
    (s.reg 0x220102 = 0 ∨ s.reg 0x220102 = 3 → s.inactiveBank ≤ 1 → t.bank s.inactiveBank = {} ∧
      t.bankState s.inactiveBank = 0 ∧ t.reg 0x220102 = 0 ∧ t.bank (1 - s.inactiveBank) = s.bank (1 - s.inactiveBank)) ∧
    (s.reg 0x220102 ≠ 0 → s.reg 0x220102 ≠ 3 → Reason 0x220103 3 s t)) ∧
  (∀ n v, n < 128 → v < 2 ^ 32 → Applied (.loopStatusClear p n v) s t →
    let k := 0x240029 + 256 * n
    Only [k] s t ∧ (∀ b, (t.reg k).testBit b = ((s.reg k).testBit b && !(v.testBit b && decide (8 ≤ b) && decide (b < 16))))) ∧
  (Applied (.plannedSwitchOver p) s t → s.mayPlan = true → SetsBit 0x250107 5 s t ∧ Only [0x250107] s t ∧
    t = { s with regs := t.regs }) ∧
  (Applied (.cancelSwitchOver p) s t → t.pair = { s.pair with target := none } ∧ (t.reg 0x250107).testBit 5 = false ∧
    Only [0x250107] s t) ∧
  (Applied (.leaveNotReady p) s t → Waits s t [4] 3 0 0) ∧
  (Applied (.enterNotReady p) s t → Waits s t [2, 3] 4 7 0) ∧
  (Applied (.startResynchronisation p) s t → t = if s.reg 0x25010E = 0 then s.beginResync else s)

/-- R242, R243, R250, R252, R274, R275, R277, R293, R308, R315, R320, R319, R332, R339, R356: what the commands of the
channels, the time unit, the keeper and the buses do when they are applied. -/
def Obligations.FieldWrites : Prop := ∀ (s t : State) (p : Path), s.Ok →
  (∀ n, n < 64 → Applied (.clearOtLatched p n) s t →
    (s.chanBit n bOtLatched = false → t = s) ∧
    (s.chanBit n bOtLatched = true → t.chanBit n bOtLatched = false ∧ t.reg (0x28100E + 256 * n) = 0 ∧
      (t.drt n).freed = true ∧ (t.reg (causeOf 7)).testBit 1 = true ∧
      Only [0x28100B + 256 * n, 0x28100E + 256 * n, causeOf 7] s t)) ∧
  (∀ k, k < 8 → Applied (.clearSliceOc p k) s t →
    (s.sliceOc k = false → t = s) ∧
    (s.sliceOc k = true → t.sliceOc k = false ∧ (t.reg (causeOf 7)).testBit 2 = true ∧
      Only [0x280102 + 256 * k, causeOf 7] s t)) ∧
  (∀ k, k < 8 → Applied (.clearSliceOtLatched p k) s t →
    (∀ i, i < 8 → t.chanBit (8 * k + i) bOtLatched = false) ∧
    (∀ n, n < 64 → n / 8 ≠ k → t.chanBit n bOtLatched = s.chanBit n bOtLatched ∧ t.drt n = s.drt n)) ∧
  (Applied (.soeQueueDiscard p) s t → t = { s with dig := { s.dig with queue := [] }, regs := t.regs } ∧
    t.reg 0x288001 = 0 ∧ Only [0x288001] s t) ∧
  (∀ d, Applied (.hartRequest p d) s t →
    let n := leNat (d.take 1)
    let q : HartRequest := { tag := leNat ((d.drop 1).take 1), frame := d.drop 4 }
    (4 ≤ (s.art n).hartQueue.length → t = s) ∧
    ((s.art n).hartQueue.length < 4 → (s.art n).hartNow.isSome = true ∨ (s.art n).hartBarred = true →
      (t.art n).hartQueue = (s.art n).hartQueue ++ [q] ∧ t.out = s.out ∧ t.regs = s.regs) ∧
    ((s.art n).hartNow = none → (s.art n).hartQueue = [] → s.active = true → s.reg (hch n 1) ≠ 0 → (s.art n).isolated = false →
      (s.art n).hartBarred = false → (t.art n).hartNow = some q ∧ (t.art n).hartQueue = [] ∧ (t.art n).hartTries = 1 ∧
      t.out = s.out ++ [.hartFrame n (s.hartBytes n q.frame)]) ∧
    (∀ m, m ≠ n → t.art m = s.art m)) ∧
  (∀ n, n < 16 → Applied (.hartAbort p n) s t →
    let r := s.art n
    (r.hartNow.isSome = true → t.regs = s.regs ∧ t.art n = { r with
      hartEnd := if r.hartEnd = .none then .command else r.hartEnd
      hartQueue := r.hartQueue.map (fun q => if q.ending = .none then { q with ending := .command } else q) }) ∧
    (r.hartNow = none → (t.art n).hartQueue = [] ∧
      ((∀ q, q ∈ r.hartQueue → q.ending = .none) → r.hartQueue.length + s.ana.responses.length ≤ 32 → t.ana.responses = s.ana.responses ++
        (s.art n).hartQueue.map (fun q => [BitVec.ofNat 8 n, BitVec.ofNat 8 q.tag, 3, 0, 0, 0, 0, 0])))) ∧
  (Applied (.timeUnitReset p) s t →
    t.tu = tuFree ∧ Counts 0x2A010B 1 s t ∧ t.reg 0x2A010C = s.tickNo ∧ t.tick.stepPending = none ∧
    t.tick.nowNs = s.tick.nowNs ∧ t.tickNo = s.tickNo ∧ t.time.servo = 0 ∧ t.reg 0x2A0106 = s.reg 0x2A0106) ∧
  (s.keep.locked = true → (∀ d, Applied (.calendarSet p d) s t → t = s) ∧ (Applied (.calendarCapture p) s t → t = s) ∧
    (Applied (.wakeAcknowledge p) s t → t = s)) ∧
  (∀ d, s.keep.locked = false → Applied (.calendarSet p d) s t →
    t.keep = { s.keep with clock := calendarClock d } ∧ Only [0x2B0101] s t ∧
    (∀ b, b ∈ [0, 2, 4] → (t.reg 0x2B0101).testBit b = false) ∧
    (∀ b, b ∉ [0, 2, 4] → b < 16 → (t.reg 0x2B0101).testBit b = (s.reg 0x2B0101).testBit b)) ∧
  (s.keep.locked = false → Applied (.calendarCapture p) s t →
    Only [0x2B1004] s t ∧ t = { s with regs := t.regs } ∧ t.reg 0x2B1004 = leNat (calendarBytes s.keep.clock) % 2 ^ 80) ∧
  (s.keep.locked = false → Applied (.wakeAcknowledge p) s t → (t.reg 0x2B0101).testBit 6 = false ∧ Only [0x2B0101] s t ∧ t.keep = s.keep) ∧
  (∀ c, c < 4 →
    (Applied (.startBusOffRecovery p c) s t →
      (s.canBit c bBusOff = true → t.canBit c bRecovering = true ∧ t.canBit c bBusOff = true ∧ t = { s with regs := t.regs }) ∧
      (s.canBit c bBusOff = false → t = s)) ∧
    (Applied (.discardTransmitQueue p c) s t → (t.crt c).txq = [] ∧ t.crt c = { s.crt c with txq := [] } ∧ t.regs = s.regs ∧
      (∀ m, m ≠ c → t.crt m = s.crt m)) ∧
    (∀ q, q < 2 → Applied (if q = 0 then .releaseRxq0 p c else .releaseRxq1 p c) s t →
      ((s.crt c).held q = false → t = s) ∧
      ((s.crt c).held q = true → (t.crt c).held q = false ∧ (t.crt c).shadow q = none ∧
        (t.crt c).rxq = dropFirst q (s.crt c).rxq ++ ((s.crt c).shadow q).toList.map (fun x => (q, x))) ∧
      (∀ m, m ≠ c → t.crt m = s.crt m)))

/-- R359, R360, R374, R386, R405, R419, R422, R426, R434, R437, R440, R444, R446, R447, R450 to R453, R455: what the
commands of chapters 13 to 16 do when they are applied. -/
def Obligations.SystemWrites : Prop := ∀ (s t : State) (p : Path), s.Ok →
  (∀ c n, (c, n) ∈ [(Instr.storeParametersAll p, 1), (.storeParametersCommunication p, 2), (.storeParametersApplication p, 3)] →
    Applied c s t → t.dict = { s.dict with storing := some (s.newGeneration n) } ∧ t.reg 0x2F600B = 1 ∧ Only [0x2F600B] s t) ∧
  (∀ c n, (c, n) ∈ [(Instr.restoreDefaultsAll p, 1), (.restoreDefaultsCommunication p, 2), (.restoreDefaultsApplication p, 3)] →
    Applied c s t → t = { s with dict := { s.dict with toDefault := t.dict.toDefault } } ∧
    (∀ g k, s.dict.generation = some g → (k ∈ t.dict.toDefault ↔ k ∈ s.dict.toDefault ∨
      (k ∈ g.regs.map (fun x => x.1) ++ g.blobs.map (fun x => x.1) ∧
        (n = 1 ∨ (n = 2 ∧ 0x100000 ≤ k ∧ k < 0x200000) ∨ (n = 3 ∧ 0x200000 ≤ k ∧ k < 0x300000)) ∧
        (isGuarded k = false ∨ p ∈ s.dict.unlocked))))) ∧
  (Applied (.guardUnlock p) s t → p ∈ t.dict.unlocked ∧ (∀ q, q ≠ p → (q ∈ t.dict.unlocked ↔ q ∈ s.dict.unlocked)) ∧
    (t.reg (causeOf 15)).testBit 5 = true ∧ Only [causeOf 15] s t) ∧
  (Applied (.guardRelock p) s t → p ∉ t.dict.unlocked ∧ (∀ q, q ≠ p → (q ∈ t.dict.unlocked ↔ q ∈ s.dict.unlocked)) ∧
    t.regs = s.regs) ∧
  (∀ g b, 1 ≤ g → g ≤ 15 → b < 2 ^ 32 → Applied (.causeClear p g b) s t → Only [causeOf g] s t ∧ t = { s with regs := t.regs } ∧
    (∀ n, (t.reg (causeOf g)).testBit n = ((s.reg (causeOf g)).testBit n && !b.testBit n))) ∧
  (∀ n, n < 65536 → Applied (.recordRestart p n) s t →
    (n < 512 → t.liveRecord n = { emptyRecord (s.descriptor n) (((s.liveRecord n).generation + 1) % 2 ^ 32) with
        commitSec := s.opSeconds, commitCycle := s.powerCycle } ∧
      Counts 0x2D0108 1 s t ∧ (∀ m, m ≠ n → t.liveRecord m = s.liveRecord m)) ∧
    (512 ≤ n → n ≠ 0xFFFF → t = s)) ∧
  (∀ d, Applied (.rectangleRequest p d) s t →
    (s.panel.queue.length < 16 → t.panel.queue = s.panel.queue ++ [parseRequest d]) ∧
    (16 ≤ s.panel.queue.length → t = s)) ∧
  (Applied (.discardQueuedRequests p) s t → t = { s with panel := { s.panel with queue := [] } }) ∧
  (Applied (.panelEnable p 0) s t → t.panel.queue = [] ∧ t.reg 0x2E0001 = 0 ∧ t.panel.flight = s.panel.flight) ∧
  (Applied (.panelEnable p 1) s t → s.panelState = psDown ∨ s.panelState = psFault → t.reg 0x2E0001 = 1) ∧
  (∀ d, Applied (.waveformTableWrite p d) s t → t.reg 0x2E1003 = tableVerdict d % 256 ∧
    (tableVerdict d = 0 → t.blob 0x2E1001 = d ∧ t.reg 0x2E1002 = leNat ((d.drop 8).take 4)) ∧
    (tableVerdict d ≠ 0 → t.blob 0x2E1001 = s.blob 0x2E1001)) ∧
  (Applied (.resetNodeCommand p) s t → t = { s with rst := { s.rst with commandDue := some (if p = .partner then 9 else 10) } }) ∧
  (Applied (.resetCommunicationCommand p) s t → t = { s with rst := { s.rst with commandDue := some 11 } }) ∧
  (∀ b, b < 14 → Applied (.blockResetCommand p b) s t → Counts 0x2F0211 1 s t ∧
    Only (if s.stage b = .running then [0x2F0211, 0x2F3201] else [0x2F0211]) s t ∧ t.stage b = (if s.stage b = .running then .waiting else s.stage b) ∧ (∀ c, c ≠ b → t.stage c = s.stage c)) ∧
  (Applied (.clearFailedStartCounter p) s t → (s.keep.locked = false → t.reg 0x2B2002 = 0 ∧ Only [0x2B2002] s t) ∧
    (s.keep.locked = true → t = s)) ∧
  (Applied (.enterBenchmarkRequest p) s t → t.reg 0x2F0304 = 1 ∧ Only [0x2F0304] s t) ∧
  (Applied (.leaveBenchmarkMark p) s t → t.reg 0x2F0304 = 2 ∧ Only [0x2F0304] s t) ∧
  (∀ d o, parseOptions d = some o → Applied (.optionBlockWrite p d) s t →
    let g := min (max s.rst.options.generation (s.reg 0x2F1003) + 1) 0xFFFFFFFF
    t.rst.copy0 = some { o with generation := g } ∧ t.rst.copy1 = some { o with generation := g } ∧ t.reg 0x2F1003 = g ∧
    t.rst.options = s.rst.options ∧ Only [0x2F1003] s t) ∧
  (∀ d, Applied (.resetMapProgramming p d) s t → t.reg 0x2F2012 = 1 ∧
    (∀ n, n < 15 → t.levelOf n = (d.getD n 0).toNat)) ∧
  (∀ d, d.length = 48 →
    (Applied (.ownerKeyHashProgramming p d) s t → t.fuse = { s.fuse with ownerSet := true } ∧ t.reg 0x2F3002 = leNat d ∧
      Only [0x2F3002] s t) ∧
    (Applied (.debugKeyHashProgramming p d) s t → t.fuse = { s.fuse with debugSet := true } ∧ t.reg 0x2F3004 = leNat d ∧
      Only [0x2F3004] s t)) ∧
  (Applied (.lifecycleField p) s t → t = { s with fuse := { s.fuse with fieldBlown := true } }) ∧
  (Applied (.lifecycleRetire p) s t → t = { s with fuse := { s.fuse with retireBlown := true } }) ∧
  (Applied (.preferOtherCopy p) s t → s.reg 0x2F3105 ≤ 1 → t.reg 0x2F3105 = 1 - s.reg 0x2F3105 ∧ t.fuse.limitHit = false ∧
    Only [0x2F3105] s t) ∧
  (Applied (.raiseSecurityVersion p) s t → s.runningSecurity < 65536 →
    t.reg 0x2F3106 = max (s.reg 0x2F3106) s.runningSecurity ∧ Only [0x2F3106] s t) ∧
  (∀ d, Applied (.debugResponse p d) s t →
    (s.responseOk d = true → t.fuse.jtagOpen = true ∧ t.reg 0x2F3203 = 1 ∧ Counts 0x2F3204 1 s t) ∧
    (s.responseOk d = false → t.fuse.refused = s.fuse.refused + 1 ∧ t.fuse.jtagOpen = s.fuse.jtagOpen ∧
      (s.fuse.refused = 2 → t.reg 0x2F3203 = 2)))

/-- R246, R276, R339, R352, R362, R363, R365, R366: reads. A path that is not served has no effect; a read answers the value
in its bytes, least significant first, or the abort of its first failing check; only a read of a queue removes anything, the
records that it returns. R314: the calendar is fetched field by field, each field before or after a carry. R120, R320, R441:
a stored container, the entries of a locked keeper and of a fenced block are not read. -/
def Obligations.EntryReads : Prop := ∀ (s : State) (p : Path) (n ix sub : Nat), s.Ok →
  (∀ c q k, (c, q, k) ∈ [(Instr.soeQueueRead p, p, 0x288002), (.hartResponseRead p, p, 0x299002),
      (.canWindowRead p (n % 4) 0, p, 0x2C2001 + 256 * (n % 4)), (.canWindowRead p (n % 4) 1, p, 0x2C2002 + 256 * (n % 4)),
      (.sentenceQueueRead p (n % 5), p, 0x2C800A + 256 * (n % 5)),
      (.sdoUploadRequest (n % 4) (ix % 65536) (sub % 256), .can (n % 4), 256 * (ix % 65536) + sub % 256),
      (.partnerRequest (ix % 65536) (sub % 256) none, .partner, 256 * (ix % 65536) + sub % 256)] →
    (s.serves q = false → exec c s = .next s) ∧
    (s.serves q = true → ∀ r t, s.readEntry k = (r, t) →
      (∀ code, r = .error code → exec c s = .next (s.answer { path := q, key := k, code := code }) ∧ t = s) ∧
      (∀ bs, r = .ok bs → exec c s = .next (t.answer { path := q, key := k, code := 0, data := bs })))) ∧
  (∀ k w e, entryOf (k / 256) (k % 256) = some e → e.type.size = some w → s.readRefusal k = 0 → s.queueRead k = none →
    (k / 256 < 0x3000 ∨ 0x5FFF < k / 256) → s.readEntry k = (.ok (leBytes w (s.valueOf k)), s)) ∧
  (∀ k e, entryOf (k / 256) (k % 256) = some e → e.access = .wo → (k / 256 < 0x3000 ∨ 0x5FFF < k / 256) →
    s.readEntry k = (.error 0x06010001, s)) ∧
  s.readEntry 0x213001 = (.error 0x08000020, s) ∧
  (∀ k e, entryOf (k / 256) (k % 256) = some e → e.access ≠ .wo → between 0x2B00 (k / 256) 0x2BFF = true → s.keep.locked = true →
    s.readEntry k = (.error 0x0F000017, s)) ∧
  (∀ k e, entryOf (k / 256) (k % 256) = some e → e.access ≠ .wo → between 0x2B00 (k / 256) 0x2BFF = false → k ≠ 0x213001 →
    (k / 256 < 0x3000 ∨ 0x5FFF < k / 256) → s.fencedEntry k = true → s.readEntry k = (.error 0x0F000011, s)) ∧
  (s.keep.locked = false → s.stuck = false → ∃ bs t, s.readEntry 0x2B1001 = (.ok bs, t) ∧ t = { s with free := t.free } ∧
    bs.length = 10 ∧ (∀ i, i < 10 → bs.getD i 0 = (calendarBytes s.keep.clock).getD i 0 ∨
      bs.getD i 0 = (calendarBytes (min lastClock ((s.keep.clock / 32768 + 1) * 32768))).getD i 0) ∧
    (s.bit 0x2B0101 4 = true → bs = calendarBytes s.keep.clock)) ∧
  (s.stuck = false →
    (∃ t, s.readEntry 0x288002 = (.ok ((s.dig.queue.take 64).flatMap SoeEdge.bytes), t) ∧
      t = { s with dig := { s.dig with queue := s.dig.queue.drop 64 }, regs := t.regs } ∧ Only [0x288001] s t ∧
      (s.dig.queue.length < 65536 → t.reg 0x288001 = s.dig.queue.length - 64)) ∧
    s.readEntry 0x299002 = (.ok (s.ana.responses.headD []), { s with ana := { s.ana with responses := s.ana.responses.drop 1 } }) ∧
    (∀ c q, c < 4 → q < 2 → s.stage c ≠ .fenced →
      (s.hostQueue c q = false → s.readEntry (0x2C2001 + q + 256 * c) = (.error 0x06040043, s)) ∧
      (s.hostQueue c q = true → s.readEntry (0x2C2001 + q + 256 * c) = (.ok (s.windowRead c q).1, (s.windowRead c q).2))) ∧
    (∀ c, c < 5 → (c < 4 → s.stage (4 + c) ≠ .fenced) → s.readEntry (0x2C800A + 256 * c) = (.ok (((s.srt c).hostQ.take 16).flatMap Sentence.bytes),
      s.setSrt c { s.srt c with hostQ := (s.srt c).hostQ.drop 16 })))

/-- R379, R380: a datagram of the service. One that the module does not hear is discarded; a request answered within the
last 2 s is answered again and not run again; a transaction beyond the eighth is turned away; a request for the partner is
relayed; the others are served from 1440 bytes times their segment on. -/
def Obligations.DatagramRequests : Prop := ∀ (s : State) (h : UdpHeader) (d : List Byte), s.Ok →
  h.index < 65536 → h.sub < 256 → h.port < 65536 → h.offset < 65536 → h.flags < 256 → h.transaction < 2 ^ 32 → d.length ≤ 1440 →
  let q : Path := .udp h.source
  let k := 256 * h.index + h.sub
  let known (x : UdpDone) : Bool := x.reply.path == q && x.reply.tag / 512 == udpTag h false / 512
  let fresh := s.recentUdp.find? known = none
  let sent (c : Instr) (code : Nat) (bs : List Byte) (t : State) : Prop := exec c s = .next t ∧
    t.out = s.out ++ [.udpReply h.source h.port (leBytes 2 0x5A44 ++ leBytes 1 1 ++
      leBytes 1 (if c = .udpRead h then 0x81 else 0x82) ++ leBytes 4 h.transaction ++ leBytes 2 h.index ++ leBytes 1 h.sub ++
      leBytes 1 h.flags ++ leBytes 2 h.offset ++ leBytes 2 bs.length ++ leBytes 4 code ++ bs)]
  (s.hearsUdp h = false → exec (.udpRead h) s = .next s ∧ exec (.udpWrite h d) s = .next s) ∧
  (s.hearsUdp h = true →
    (∀ x, s.recentUdp.find? known = some x →
      let t : State := { s with out := s.out ++ [.udpReply h.source (x.reply.tag / 2 ^ 25 % 65536) (udpReplyBytes x.reply)] }
      exec (.udpRead h) s = .next t ∧ exec (.udpWrite h d) s = .next t) ∧
    (fresh → s.udpOpen h = false → 8 ≤ s.sessions → ∀ c, c ∈ [Instr.udpRead h, .udpWrite h d] →
      ∃ t, sent c 0x0F000014 [] t ∧ (t.reg (causeOf 15)).testBit 7 = true ∧ Only [causeOf 15] s t) ∧
    (fresh → s.udpOpen h = true ∨ s.sessions < 8 →
      (h.flags.testBit 0 = true → s.tieUp = true →
        let on (w : Bool) : DictState := { s.dict with relayed := s.dict.relayed ++ [{ path := q, key := k, tag := udpTag h w }] }
        exec (.udpRead h) s = .next { s with dict := on false, out := s.out ++ [.tieRequest q k none] } ∧
        exec (.udpWrite h d) s = .next { s with dict := on true, out := s.out ++ [.tieRequest q k (some d)] }) ∧
      (h.flags.testBit 0 = true → s.tieUp = false → ∀ c, c ∈ [Instr.udpRead h, .udpWrite h d] →
        ∃ t, sent c 0x0F000009 [] t ∧ t = { s with out := t.out, dict := t.dict }) ∧
      (h.flags.testBit 0 = false →
        (∀ r t, s.segmentRead q (udpSession h) k (1440 * h.offset) 1440 = (r, t) →
          exec (.udpRead h) s = .next (t.answerRead q k (udpTag h false) r)) ∧
        exec (.udpWrite h d) s = .next (s.segmentWrite
          { path := q, key := k, data := d, tag := udpTag h true, offset := 1440 * h.offset } (udpSession h)
          (h.flags.testBit 1 || decide (d.length < 1440))))))

/-- R365, R371, R379, R382: segments. A read that fits answers whole and leaves no transfer open; a longer one is shown as
it stood at its first segment, and the record views as they stand (R406). A write of one segment is submitted; the first
segment of a longer one opens a transfer, and a further one must follow it, or ends it with 0x0504_0001. -/
def Obligations.Segments : Prop := ∀ (s : State) (p : Path) (tag k a n : Nat) (bs : List Byte) (t : State), s.Ok →
  (s.readEntry k = (.ok bs, t) → (a = 0 ∨ s.dict.transfers.find? (ofTransfer p tag k false) = none) →
    (bs.length ≤ a + n → s.segmentRead p tag k a n = (.ok ((bs.drop a).take n), t)) ∧
    (a + n < bs.length → ∃ u x, s.segmentRead p tag k a n = (.ok ((bs.drop a).take n), u) ∧ x ∈ u.dict.transfers ∧
      x.data = bs ∧ x.next = a + n ∧ ofTransfer p tag k false x = true ∧ u = { s with dict := u.dict })) ∧
  (∀ x, 0 < a → s.dict.transfers.find? (ofTransfer p tag k false) = some x →
    (s.segmentRead p tag k a n).1 = .ok (((if k = 0x2D2001 ∨ k = 0x2D2002 then s.contentOf k else x.data).drop a).take n)) ∧
  (∀ w : PendingWrite, w.key ≠ 0x2E3001 →
    (w.offset = 0 → s.segmentWrite w tag true = s.submit w) ∧
    (w.offset = 0 → s.firstRefusal w = 0 → w.key ≠ 0x220001 →
      let x : Transfer := { path := w.path, key := w.key, write := true, data := w.data, next := w.data.length, tag := tag }
      s.segmentWrite w tag false = ({ s with dict := { s.dict with transfers := s.dict.transfers ++ [x] } }).answer
        { path := w.path, key := w.key, code := 0, tag := w.tag }) ∧
    (w.offset = 0 → s.firstRefusal w ≠ 0 → s.segmentWrite w tag false = (s.noteRefusal w.key (s.firstRefusal w)).answer
      { path := w.path, key := w.key, code := s.firstRefusal w, tag := w.tag }) ∧
    (0 < w.offset → s.dict.transfers.find? (ofTransfer w.path tag w.key true) = none → ∀ last,
      s.segmentWrite w tag last = s.answer { path := w.path, key := w.key, code := 0x05040001, tag := w.tag }) ∧
    (∀ x last, 0 < w.offset → s.dict.transfers.find? (ofTransfer w.path tag w.key true) = some x →
      let s1 := s.dropTransfers (ofTransfer w.path tag w.key true)
      (x.next ≠ w.offset → s.segmentWrite w tag last =
        s1.answer { path := w.path, key := w.key, code := 0x05040001, tag := w.tag }) ∧
      (x.next = w.offset → last = true → s.segmentWrite w tag last =
        s1.submit { w with data := x.data ++ w.data, offset := x.next - x.data.length })))

/-- R382 to R384: the host port takes one request at a time, checks the CRC of every frame, holds the response of a request
until it is fetched, and answers a status poll at once. -/
def Obligations.HostPort : Prop := ∀ (s : State) (f : HostFrame) (d : List Byte) (n crc : Nat), s.Ok →
  f.sequence < 256 → f.index < 65536 → f.sub < 256 → f.length ≤ 4096 → n < 256 →
  let k := 256 * f.index + f.sub
  let req (command : Nat) (x : List Byte) : Nat := crc16 (leBytes 1 command ++ leBytes 1 f.sequence ++ leBytes 2 f.index ++
    leBytes 1 f.sub ++ leBytes 1 f.flags ++ leBytes 2 f.length ++ leBytes 4 f.offset ++ x)
  let failed (t : State) : Prop := t.reg 0x2F6101 = 3 ∧ Counts 0x2F600A 1 s t ∧ (t.reg (causeOf 15)).testBit 1 = true ∧
    Only [0x2F6101, 0x2F600A, causeOf 15] s t ∧ t.out = s.out
  let frame (kind status : Nat) (x : List Byte) : List Byte :=
    let bs := leBytes 1 n ++ leBytes 1 kind ++ leBytes 2 x.length ++ leBytes 4 status ++ x
    bs ++ leBytes 2 (crc16 bs)
  let held : State :=
    ({ s with dict := { s.dict with hostReply := none } }.setReg 0x2F6102 f.sequence).setReg 0x2F6101 1
  (s.serves .host = false → exec (.hostRead f) s = .next s ∧ exec (.hostWrite f d) s = .next s ∧
    exec (.hostFetchResponse n crc) s = .next s ∧ exec (.hostStatusPoll n crc) s = .next s) ∧
  (s.serves .host = true →
    (f.crc ≠ req 1 [] → ∃ t, exec (.hostRead f) s = .next t ∧ failed t) ∧
    (f.length ≠ d.length ∨ f.crc ≠ req 2 d → ∃ t, exec (.hostWrite f d) s = .next t ∧ failed t) ∧
    (s.hostBusy = true →
      (f.crc = req 1 [] → exec (.hostRead f) s = .next ((s.setReg 0x2F6101 4).count 0x2F6103)) ∧
      (f.length = d.length → f.crc = req 2 d → exec (.hostWrite f d) s = .next ((s.setReg 0x2F6101 4).count 0x2F6103))) ∧
    (s.hostBusy = false → f.flags.testBit 0 = false →
      (f.crc = req 1 [] → ∀ r t, held.segmentRead .host 0 k f.offset (if f.length = 0 then 4096 else f.length) = (r, t) →
        exec (.hostRead f) s = .next (t.answerRead .host k f.sequence r)) ∧
      (f.length = d.length → f.crc = req 2 d → exec (.hostWrite f d) s = .next (held.segmentWrite
        { path := .host, key := k, data := d, tag := f.sequence, offset := f.offset } 0
        (f.flags.testBit 1 || decide (d.length < 4096))))) ∧
    (s.hostBusy = false → f.flags.testBit 0 = true → s.tieUp = true →
      let r : DictState := { held.dict with relayed := s.dict.relayed ++ [{ path := .host, key := k, tag := f.sequence }] }
      (f.crc = req 1 [] → exec (.hostRead f) s = .next { held with dict := r, out := s.out ++ [.tieRequest .host k none] }) ∧
      (f.length = d.length → f.crc = req 2 d →
        exec (.hostWrite f d) s = .next { held with dict := r, out := s.out ++ [.tieRequest .host k (some d)] })) ∧
    (crc ≠ crc16 (leBytes 1 3 ++ leBytes 1 n) → ∃ t, exec (.hostFetchResponse n crc) s = .next t ∧ failed t) ∧
    (crc = crc16 (leBytes 1 3 ++ leBytes 1 n) →
      (∀ r, s.dict.hostReply = some r → r.tag = n →
        exec (.hostFetchResponse n crc) s = .next { s with out := s.out ++ [.hostFrame (frame 1 r.code r.data)] }) ∧
      (s.dict.hostReply = none → exec (.hostFetchResponse n crc) s = .next { s with out := s.out ++ [.hostFrame (frame 0 0 [])] })) ∧
    (crc ≠ crc16 (leBytes 1 4 ++ leBytes 1 n) → ∃ t, exec (.hostStatusPoll n crc) s = .next t ∧ failed t) ∧
    (crc = crc16 (leBytes 1 4 ++ leBytes 1 n) → ∃ t, exec (.hostStatusPoll n crc) s = .next t ∧ Only [0x2F6101] s t ∧
      t.out = s.out ++ [.hostFrame (frame 2 0 (leBytes 1 (s.reg 0x2F6101) ++ leBytes 1 (s.reg 0x2F6102) ++ [0, 0]))] ∧
      (s.reg 0x2F6101 ≠ 4 → t.reg 0x2F6101 = s.reg 0x2F6101)))

/-- R359, R363, R374, R453: the end of a store, of a guard window and of a transfer, and a firmware download. -/
def Obligations.StoreAndGuard : Prop := ∀ (s : State) (p : Path), s.Ok →
  (∀ b, s.dict.storing = none → exec (.storeComplete b) s = .next s) ∧
  (∀ g, s.dict.storing = some g →
    (∃ t, exec (.storeComplete true) s = .next t ∧ t.dict.storing = none ∧ t.dict.generation = some g ∧ t.reg 0x2F600B = 0 ∧
      (t.reg (causeOf 15)).testBit 2 = true ∧ Only [0x2F600B, causeOf 15] s t) ∧
    (∃ t, exec (.storeComplete false) s = .next t ∧ t.dict.storing = none ∧ t.dict.generation = s.dict.generation ∧
      t.reg 0x2F600B = 2 ∧ (t.reg (causeOf 15)).testBit 3 = true ∧ Only [0x2F600B, causeOf 15] s t)) ∧
  (p ∈ s.dict.unlocked → ∃ t, exec (.guardWindowExpiry p) s = .next t ∧ p ∉ t.dict.unlocked ∧
    (∀ q, q ≠ p → (q ∈ t.dict.unlocked ↔ q ∈ s.dict.unlocked)) ∧ (t.reg (causeOf 15)).testBit 6 = true ∧ Only [causeOf 15] s t) ∧
  (p ∉ s.dict.unlocked → exec (.guardWindowExpiry p) s = .next s) ∧
  (∀ c, c < 4 → ∃ t, exec (.sdoAbortTransfer c) s = .next t ∧ (∀ x, x ∈ t.dict.transfers ↔ x ∈ s.dict.transfers ∧ x.path ≠ .can c) ∧
    t.out = s.out ∧ Only [0x220102] s t ∧
    ((∀ x, x ∈ s.dict.transfers → x.path = .can c → x.write = true → x.key ≠ 0x220001) → t.regs = s.regs)) ∧
  (∃ t, exec (.transferIdleTimeout p) s = .next t ∧ (∀ x, x ∈ t.dict.transfers ↔ x ∈ s.dict.transfers ∧ x.path ≠ p) ∧
    (∀ c, p = .can c → t.out = s.out ++ (s.dict.transfers.filter (fun x => x.path == p)).map
      (fun x => .reply { path := p, key := x.key, code := 0x05040000, tag := x.tag }))) ∧
  (∀ f : FirmwareCopy,
    let code := firstCode [s.writeRefusal { path := p, key := 0x2F3101, data := [] }, if s.inUse 0x2F3101 = true then 0x0F000008 else 0,
      if f.signed = true then 0 else 0x06090030]
    (s.serves p = false → exec (.firmwareDownload p f) s = .next s) ∧
    (s.serves p = true → code ≠ 0 → exec (.firmwareDownload p f) s = .next (s.answer { path := p, key := 0x2F3101, code := code })) ∧
    (s.serves p = true → code = 0 → ∃ t, exec (.firmwareDownload p f) s = .next t ∧
      (s.reg 0x2F3102 = 0 → t.fuse = { s.fuse with copy1 := { f with security := f.security % 65536 } } ∧
        t.reg 0x2F3104 = f.version % 2 ^ entryBits 0x2F3104) ∧
      (s.reg 0x2F3102 ≠ 0 → t.fuse = { s.fuse with copy0 := { f with security := f.security % 65536 } } ∧
        t.reg 0x2F3103 = f.version % 2 ^ entryBits 0x2F3103)))
end

