-- ==== Sys2Proof/Laws/State.lean ====
section
/-! SUPPORT. What each elementary update of the state leaves in each field. -/

namespace Sys2Proof.Machine

open Sys2Proof

@[simp] theorem State.setReg_regs (s : State) (k v : Nat) : (s.setReg k v).regs = Sparse.set (defaultOf k) s.regs k (fit k v) := rfl
@[simp] theorem State.setReg_blobs (s : State) (k v : Nat) : (s.setReg k v).blobs = s.blobs := rfl
@[simp] theorem State.setReg_mem (s : State) (k v : Nat) : (s.setReg k v).mem = s.mem := rfl
@[simp] theorem State.setReg_engines (s : State) (k v : Nat) : (s.setReg k v).engines = s.engines := rfl
@[simp] theorem State.setReg_tasks (s : State) (k v : Nat) : (s.setReg k v).tasks = s.tasks := rfl
@[simp] theorem State.setReg_tick (s : State) (k v : Nat) : (s.setReg k v).tick = s.tick := rfl
@[simp] theorem State.setReg_img (s : State) (k v : Nat) : (s.setReg k v).img = s.img := rfl
@[simp] theorem State.setReg_mtx (s : State) (k v : Nat) : (s.setReg k v).mtx = s.mtx := rfl
@[simp] theorem State.setReg_loops (s : State) (k v : Nat) : (s.setReg k v).loops = s.loops := rfl
@[simp] theorem State.setReg_pair (s : State) (k v : Nat) : (s.setReg k v).pair = s.pair := rfl
@[simp] theorem State.setReg_chain (s : State) (k v : Nat) : (s.setReg k v).chain = s.chain := rfl
@[simp] theorem State.setReg_ost (s : State) (k v : Nat) : (s.setReg k v).ost = s.ost := rfl
@[simp] theorem State.setReg_dig (s : State) (k v : Nat) : (s.setReg k v).dig = s.dig := rfl
@[simp] theorem State.setReg_ana (s : State) (k v : Nat) : (s.setReg k v).ana = s.ana := rfl
@[simp] theorem State.setReg_time (s : State) (k v : Nat) : (s.setReg k v).time = s.time := rfl
@[simp] theorem State.setReg_keep (s : State) (k v : Nat) : (s.setReg k v).keep = s.keep := rfl
@[simp] theorem State.setReg_can (s : State) (k v : Nat) : (s.setReg k v).can = s.can := rfl
@[simp] theorem State.setReg_open (s : State) (k v : Nat) : (s.setReg k v).open_ = s.open_ := rfl
@[simp] theorem State.setReg_sent (s : State) (k v : Nat) : (s.setReg k v).sent = s.sent := rfl
@[simp] theorem State.setReg_dict (s : State) (k v : Nat) : (s.setReg k v).dict = s.dict := rfl
@[simp] theorem State.setReg_book (s : State) (k v : Nat) : (s.setReg k v).book = s.book := rfl
@[simp] theorem State.setReg_panel (s : State) (k v : Nat) : (s.setReg k v).panel = s.panel := rfl
@[simp] theorem State.setReg_rst (s : State) (k v : Nat) : (s.setReg k v).rst = s.rst := rfl
@[simp] theorem State.setReg_fuse (s : State) (k v : Nat) : (s.setReg k v).fuse = s.fuse := rfl
@[simp] theorem State.setReg_out (s : State) (k v : Nat) : (s.setReg k v).out = s.out := rfl
@[simp] theorem State.setReg_free (s : State) (k v : Nat) : (s.setReg k v).free = s.free := rfl
@[simp] theorem State.setReg_pending (s : State) (k v : Nat) : (s.setReg k v).pending = s.pending := rfl

@[simp] theorem State.setBlob_regs (s : State) (k : Nat) (v : List Byte) : (s.setBlob k v).regs = s.regs := rfl
@[simp] theorem State.setBlob_blobs (s : State) (k : Nat) (v : List Byte) : (s.setBlob k v).blobs = Sparse.set (blobDefault k) s.blobs k v := rfl
@[simp] theorem State.setBlob_mem (s : State) (k : Nat) (v : List Byte) : (s.setBlob k v).mem = s.mem := rfl
@[simp] theorem State.setBlob_engines (s : State) (k : Nat) (v : List Byte) : (s.setBlob k v).engines = s.engines := rfl
@[simp] theorem State.setBlob_tasks (s : State) (k : Nat) (v : List Byte) : (s.setBlob k v).tasks = s.tasks := rfl
@[simp] theorem State.setBlob_tick (s : State) (k : Nat) (v : List Byte) : (s.setBlob k v).tick = s.tick := rfl
@[simp] theorem State.setBlob_img (s : State) (k : Nat) (v : List Byte) : (s.setBlob k v).img = s.img := rfl
@[simp] theorem State.setBlob_mtx (s : State) (k : Nat) (v : List Byte) : (s.setBlob k v).mtx = s.mtx := rfl
@[simp] theorem State.setBlob_loops (s : State) (k : Nat) (v : List Byte) : (s.setBlob k v).loops = s.loops := rfl
@[simp] theorem State.setBlob_pair (s : State) (k : Nat) (v : List Byte) : (s.setBlob k v).pair = s.pair := rfl
@[simp] theorem State.setBlob_chain (s : State) (k : Nat) (v : List Byte) : (s.setBlob k v).chain = s.chain := rfl
@[simp] theorem State.setBlob_ost (s : State) (k : Nat) (v : List Byte) : (s.setBlob k v).ost = s.ost := rfl
@[simp] theorem State.setBlob_dig (s : State) (k : Nat) (v : List Byte) : (s.setBlob k v).dig = s.dig := rfl
@[simp] theorem State.setBlob_ana (s : State) (k : Nat) (v : List Byte) : (s.setBlob k v).ana = s.ana := rfl
@[simp] theorem State.setBlob_time (s : State) (k : Nat) (v : List Byte) : (s.setBlob k v).time = s.time := rfl
@[simp] theorem State.setBlob_keep (s : State) (k : Nat) (v : List Byte) : (s.setBlob k v).keep = s.keep := rfl
@[simp] theorem State.setBlob_can (s : State) (k : Nat) (v : List Byte) : (s.setBlob k v).can = s.can := rfl
@[simp] theorem State.setBlob_open (s : State) (k : Nat) (v : List Byte) : (s.setBlob k v).open_ = s.open_ := rfl
@[simp] theorem State.setBlob_sent (s : State) (k : Nat) (v : List Byte) : (s.setBlob k v).sent = s.sent := rfl
@[simp] theorem State.setBlob_dict (s : State) (k : Nat) (v : List Byte) : (s.setBlob k v).dict = s.dict := rfl
@[simp] theorem State.setBlob_book (s : State) (k : Nat) (v : List Byte) : (s.setBlob k v).book = s.book := rfl
@[simp] theorem State.setBlob_panel (s : State) (k : Nat) (v : List Byte) : (s.setBlob k v).panel = s.panel := rfl
@[simp] theorem State.setBlob_rst (s : State) (k : Nat) (v : List Byte) : (s.setBlob k v).rst = s.rst := rfl
@[simp] theorem State.setBlob_fuse (s : State) (k : Nat) (v : List Byte) : (s.setBlob k v).fuse = s.fuse := rfl
@[simp] theorem State.setBlob_out (s : State) (k : Nat) (v : List Byte) : (s.setBlob k v).out = s.out := rfl
@[simp] theorem State.setBlob_free (s : State) (k : Nat) (v : List Byte) : (s.setBlob k v).free = s.free := rfl
@[simp] theorem State.setBlob_pending (s : State) (k : Nat) (v : List Byte) : (s.setBlob k v).pending = s.pending := rfl

@[simp] theorem State.memWrite_regs (s : State) (a t o : Nat) (bs : List Byte) : (s.memWrite a t o bs).regs = s.regs := rfl
@[simp] theorem State.memWrite_blobs (s : State) (a t o : Nat) (bs : List Byte) : (s.memWrite a t o bs).blobs = s.blobs := rfl
@[simp] theorem State.memWrite_mem (s : State) (a t o : Nat) (bs : List Byte) : (s.memWrite a t o bs).mem = Memory.writeBytes s.mem (memKey a t o) bs := rfl
@[simp] theorem State.memWrite_engines (s : State) (a t o : Nat) (bs : List Byte) : (s.memWrite a t o bs).engines = s.engines := rfl
@[simp] theorem State.memWrite_tasks (s : State) (a t o : Nat) (bs : List Byte) : (s.memWrite a t o bs).tasks = s.tasks := rfl
@[simp] theorem State.memWrite_tick (s : State) (a t o : Nat) (bs : List Byte) : (s.memWrite a t o bs).tick = s.tick := rfl
@[simp] theorem State.memWrite_img (s : State) (a t o : Nat) (bs : List Byte) : (s.memWrite a t o bs).img = s.img := rfl
@[simp] theorem State.memWrite_mtx (s : State) (a t o : Nat) (bs : List Byte) : (s.memWrite a t o bs).mtx = s.mtx := rfl
@[simp] theorem State.memWrite_loops (s : State) (a t o : Nat) (bs : List Byte) : (s.memWrite a t o bs).loops = s.loops := rfl
@[simp] theorem State.memWrite_pair (s : State) (a t o : Nat) (bs : List Byte) : (s.memWrite a t o bs).pair = s.pair := rfl
@[simp] theorem State.memWrite_chain (s : State) (a t o : Nat) (bs : List Byte) : (s.memWrite a t o bs).chain = s.chain := rfl
@[simp] theorem State.memWrite_ost (s : State) (a t o : Nat) (bs : List Byte) : (s.memWrite a t o bs).ost = s.ost := rfl
@[simp] theorem State.memWrite_dig (s : State) (a t o : Nat) (bs : List Byte) : (s.memWrite a t o bs).dig = s.dig := rfl
@[simp] theorem State.memWrite_ana (s : State) (a t o : Nat) (bs : List Byte) : (s.memWrite a t o bs).ana = s.ana := rfl
@[simp] theorem State.memWrite_time (s : State) (a t o : Nat) (bs : List Byte) : (s.memWrite a t o bs).time = s.time := rfl
@[simp] theorem State.memWrite_keep (s : State) (a t o : Nat) (bs : List Byte) : (s.memWrite a t o bs).keep = s.keep := rfl
@[simp] theorem State.memWrite_can (s : State) (a t o : Nat) (bs : List Byte) : (s.memWrite a t o bs).can = s.can := rfl
@[simp] theorem State.memWrite_open (s : State) (a t o : Nat) (bs : List Byte) : (s.memWrite a t o bs).open_ = s.open_ := rfl
@[simp] theorem State.memWrite_sent (s : State) (a t o : Nat) (bs : List Byte) : (s.memWrite a t o bs).sent = s.sent := rfl
@[simp] theorem State.memWrite_dict (s : State) (a t o : Nat) (bs : List Byte) : (s.memWrite a t o bs).dict = s.dict := rfl
@[simp] theorem State.memWrite_book (s : State) (a t o : Nat) (bs : List Byte) : (s.memWrite a t o bs).book = s.book := rfl
@[simp] theorem State.memWrite_panel (s : State) (a t o : Nat) (bs : List Byte) : (s.memWrite a t o bs).panel = s.panel := rfl
@[simp] theorem State.memWrite_rst (s : State) (a t o : Nat) (bs : List Byte) : (s.memWrite a t o bs).rst = s.rst := rfl
@[simp] theorem State.memWrite_fuse (s : State) (a t o : Nat) (bs : List Byte) : (s.memWrite a t o bs).fuse = s.fuse := rfl
@[simp] theorem State.memWrite_out (s : State) (a t o : Nat) (bs : List Byte) : (s.memWrite a t o bs).out = s.out := rfl
@[simp] theorem State.memWrite_free (s : State) (a t o : Nat) (bs : List Byte) : (s.memWrite a t o bs).free = s.free := rfl
@[simp] theorem State.memWrite_pending (s : State) (a t o : Nat) (bs : List Byte) : (s.memWrite a t o bs).pending = s.pending := rfl

@[simp] theorem State.setEngine_regs (s : State) (p : Nat) (e : Engine) : (s.setEngine p e).regs = s.regs := rfl
@[simp] theorem State.setEngine_blobs (s : State) (p : Nat) (e : Engine) : (s.setEngine p e).blobs = s.blobs := rfl
@[simp] theorem State.setEngine_mem (s : State) (p : Nat) (e : Engine) : (s.setEngine p e).mem = s.mem := rfl
@[simp] theorem State.setEngine_engines (s : State) (p : Nat) (e : Engine) : (s.setEngine p e).engines = Sparse.set {} s.engines p e := rfl
@[simp] theorem State.setEngine_tasks (s : State) (p : Nat) (e : Engine) : (s.setEngine p e).tasks = s.tasks := rfl
@[simp] theorem State.setEngine_tick (s : State) (p : Nat) (e : Engine) : (s.setEngine p e).tick = s.tick := rfl
@[simp] theorem State.setEngine_img (s : State) (p : Nat) (e : Engine) : (s.setEngine p e).img = s.img := rfl
@[simp] theorem State.setEngine_mtx (s : State) (p : Nat) (e : Engine) : (s.setEngine p e).mtx = s.mtx := rfl
@[simp] theorem State.setEngine_loops (s : State) (p : Nat) (e : Engine) : (s.setEngine p e).loops = s.loops := rfl
@[simp] theorem State.setEngine_pair (s : State) (p : Nat) (e : Engine) : (s.setEngine p e).pair = s.pair := rfl
@[simp] theorem State.setEngine_chain (s : State) (p : Nat) (e : Engine) : (s.setEngine p e).chain = s.chain := rfl
@[simp] theorem State.setEngine_ost (s : State) (p : Nat) (e : Engine) : (s.setEngine p e).ost = s.ost := rfl
@[simp] theorem State.setEngine_dig (s : State) (p : Nat) (e : Engine) : (s.setEngine p e).dig = s.dig := rfl
@[simp] theorem State.setEngine_ana (s : State) (p : Nat) (e : Engine) : (s.setEngine p e).ana = s.ana := rfl
@[simp] theorem State.setEngine_time (s : State) (p : Nat) (e : Engine) : (s.setEngine p e).time = s.time := rfl
@[simp] theorem State.setEngine_keep (s : State) (p : Nat) (e : Engine) : (s.setEngine p e).keep = s.keep := rfl
@[simp] theorem State.setEngine_can (s : State) (p : Nat) (e : Engine) : (s.setEngine p e).can = s.can := rfl
@[simp] theorem State.setEngine_open (s : State) (p : Nat) (e : Engine) : (s.setEngine p e).open_ = s.open_ := rfl
@[simp] theorem State.setEngine_sent (s : State) (p : Nat) (e : Engine) : (s.setEngine p e).sent = s.sent := rfl
@[simp] theorem State.setEngine_dict (s : State) (p : Nat) (e : Engine) : (s.setEngine p e).dict = s.dict := rfl
@[simp] theorem State.setEngine_book (s : State) (p : Nat) (e : Engine) : (s.setEngine p e).book = s.book := rfl
@[simp] theorem State.setEngine_panel (s : State) (p : Nat) (e : Engine) : (s.setEngine p e).panel = s.panel := rfl
@[simp] theorem State.setEngine_rst (s : State) (p : Nat) (e : Engine) : (s.setEngine p e).rst = s.rst := rfl
@[simp] theorem State.setEngine_fuse (s : State) (p : Nat) (e : Engine) : (s.setEngine p e).fuse = s.fuse := rfl
@[simp] theorem State.setEngine_out (s : State) (p : Nat) (e : Engine) : (s.setEngine p e).out = s.out := rfl
@[simp] theorem State.setEngine_free (s : State) (p : Nat) (e : Engine) : (s.setEngine p e).free = s.free := rfl
@[simp] theorem State.setEngine_pending (s : State) (p : Nat) (e : Engine) : (s.setEngine p e).pending = s.pending := rfl

@[simp] theorem State.setTask_regs (s : State) (k : Nat) (t : TaskRt) : (s.setTask k t).regs = s.regs := rfl
@[simp] theorem State.setTask_blobs (s : State) (k : Nat) (t : TaskRt) : (s.setTask k t).blobs = s.blobs := rfl
@[simp] theorem State.setTask_mem (s : State) (k : Nat) (t : TaskRt) : (s.setTask k t).mem = s.mem := rfl
@[simp] theorem State.setTask_engines (s : State) (k : Nat) (t : TaskRt) : (s.setTask k t).engines = s.engines := rfl
@[simp] theorem State.setTask_tasks (s : State) (k : Nat) (t : TaskRt) : (s.setTask k t).tasks = Sparse.set {} s.tasks k t := rfl
@[simp] theorem State.setTask_tick (s : State) (k : Nat) (t : TaskRt) : (s.setTask k t).tick = s.tick := rfl
@[simp] theorem State.setTask_img (s : State) (k : Nat) (t : TaskRt) : (s.setTask k t).img = s.img := rfl
@[simp] theorem State.setTask_mtx (s : State) (k : Nat) (t : TaskRt) : (s.setTask k t).mtx = s.mtx := rfl
@[simp] theorem State.setTask_loops (s : State) (k : Nat) (t : TaskRt) : (s.setTask k t).loops = s.loops := rfl
@[simp] theorem State.setTask_pair (s : State) (k : Nat) (t : TaskRt) : (s.setTask k t).pair = s.pair := rfl
@[simp] theorem State.setTask_chain (s : State) (k : Nat) (t : TaskRt) : (s.setTask k t).chain = s.chain := rfl
@[simp] theorem State.setTask_ost (s : State) (k : Nat) (t : TaskRt) : (s.setTask k t).ost = s.ost := rfl
@[simp] theorem State.setTask_dig (s : State) (k : Nat) (t : TaskRt) : (s.setTask k t).dig = s.dig := rfl
@[simp] theorem State.setTask_ana (s : State) (k : Nat) (t : TaskRt) : (s.setTask k t).ana = s.ana := rfl
@[simp] theorem State.setTask_time (s : State) (k : Nat) (t : TaskRt) : (s.setTask k t).time = s.time := rfl
@[simp] theorem State.setTask_keep (s : State) (k : Nat) (t : TaskRt) : (s.setTask k t).keep = s.keep := rfl
@[simp] theorem State.setTask_can (s : State) (k : Nat) (t : TaskRt) : (s.setTask k t).can = s.can := rfl
@[simp] theorem State.setTask_open (s : State) (k : Nat) (t : TaskRt) : (s.setTask k t).open_ = s.open_ := rfl
@[simp] theorem State.setTask_sent (s : State) (k : Nat) (t : TaskRt) : (s.setTask k t).sent = s.sent := rfl
@[simp] theorem State.setTask_dict (s : State) (k : Nat) (t : TaskRt) : (s.setTask k t).dict = s.dict := rfl
@[simp] theorem State.setTask_book (s : State) (k : Nat) (t : TaskRt) : (s.setTask k t).book = s.book := rfl
@[simp] theorem State.setTask_panel (s : State) (k : Nat) (t : TaskRt) : (s.setTask k t).panel = s.panel := rfl
@[simp] theorem State.setTask_rst (s : State) (k : Nat) (t : TaskRt) : (s.setTask k t).rst = s.rst := rfl
@[simp] theorem State.setTask_fuse (s : State) (k : Nat) (t : TaskRt) : (s.setTask k t).fuse = s.fuse := rfl
@[simp] theorem State.setTask_out (s : State) (k : Nat) (t : TaskRt) : (s.setTask k t).out = s.out := rfl
@[simp] theorem State.setTask_free (s : State) (k : Nat) (t : TaskRt) : (s.setTask k t).free = s.free := rfl
@[simp] theorem State.setTask_pending (s : State) (k : Nat) (t : TaskRt) : (s.setTask k t).pending = s.pending := rfl

@[simp] theorem State.emit_regs (s : State) (e : Emission) : (s.emit e).regs = s.regs := rfl
@[simp] theorem State.emit_blobs (s : State) (e : Emission) : (s.emit e).blobs = s.blobs := rfl
@[simp] theorem State.emit_mem (s : State) (e : Emission) : (s.emit e).mem = s.mem := rfl
@[simp] theorem State.emit_engines (s : State) (e : Emission) : (s.emit e).engines = s.engines := rfl
@[simp] theorem State.emit_tasks (s : State) (e : Emission) : (s.emit e).tasks = s.tasks := rfl
@[simp] theorem State.emit_tick (s : State) (e : Emission) : (s.emit e).tick = s.tick := rfl
@[simp] theorem State.emit_img (s : State) (e : Emission) : (s.emit e).img = s.img := rfl
@[simp] theorem State.emit_mtx (s : State) (e : Emission) : (s.emit e).mtx = s.mtx := rfl
@[simp] theorem State.emit_loops (s : State) (e : Emission) : (s.emit e).loops = s.loops := rfl
@[simp] theorem State.emit_pair (s : State) (e : Emission) : (s.emit e).pair = s.pair := rfl
@[simp] theorem State.emit_chain (s : State) (e : Emission) : (s.emit e).chain = s.chain := rfl
@[simp] theorem State.emit_ost (s : State) (e : Emission) : (s.emit e).ost = s.ost := rfl
@[simp] theorem State.emit_dig (s : State) (e : Emission) : (s.emit e).dig = s.dig := rfl
@[simp] theorem State.emit_ana (s : State) (e : Emission) : (s.emit e).ana = s.ana := rfl
@[simp] theorem State.emit_time (s : State) (e : Emission) : (s.emit e).time = s.time := rfl
@[simp] theorem State.emit_keep (s : State) (e : Emission) : (s.emit e).keep = s.keep := rfl
@[simp] theorem State.emit_can (s : State) (e : Emission) : (s.emit e).can = s.can := rfl
@[simp] theorem State.emit_open (s : State) (e : Emission) : (s.emit e).open_ = s.open_ := rfl
@[simp] theorem State.emit_sent (s : State) (e : Emission) : (s.emit e).sent = s.sent := rfl
@[simp] theorem State.emit_dict (s : State) (e : Emission) : (s.emit e).dict = s.dict := rfl
@[simp] theorem State.emit_book (s : State) (e : Emission) : (s.emit e).book = s.book := rfl
@[simp] theorem State.emit_panel (s : State) (e : Emission) : (s.emit e).panel = s.panel := rfl
@[simp] theorem State.emit_rst (s : State) (e : Emission) : (s.emit e).rst = s.rst := rfl
@[simp] theorem State.emit_fuse (s : State) (e : Emission) : (s.emit e).fuse = s.fuse := rfl
@[simp] theorem State.emit_out (s : State) (e : Emission) : (s.emit e).out = s.out ++ [e] := rfl
@[simp] theorem State.emit_free (s : State) (e : Emission) : (s.emit e).free = s.free := rfl
@[simp] theorem State.emit_pending (s : State) (e : Emission) : (s.emit e).pending = s.pending := rfl

@[simp] theorem State.setCrt_regs (s : State) (k : Nat) (r : CanRt) : (s.setCrt k r).regs = s.regs := rfl
@[simp] theorem State.setCrt_blobs (s : State) (k : Nat) (r : CanRt) : (s.setCrt k r).blobs = s.blobs := rfl
@[simp] theorem State.setCrt_mem (s : State) (k : Nat) (r : CanRt) : (s.setCrt k r).mem = s.mem := rfl
@[simp] theorem State.setCrt_engines (s : State) (k : Nat) (r : CanRt) : (s.setCrt k r).engines = s.engines := rfl
@[simp] theorem State.setCrt_tasks (s : State) (k : Nat) (r : CanRt) : (s.setCrt k r).tasks = s.tasks := rfl
@[simp] theorem State.setCrt_tick (s : State) (k : Nat) (r : CanRt) : (s.setCrt k r).tick = s.tick := rfl
@[simp] theorem State.setCrt_img (s : State) (k : Nat) (r : CanRt) : (s.setCrt k r).img = s.img := rfl
@[simp] theorem State.setCrt_mtx (s : State) (k : Nat) (r : CanRt) : (s.setCrt k r).mtx = s.mtx := rfl
@[simp] theorem State.setCrt_loops (s : State) (k : Nat) (r : CanRt) : (s.setCrt k r).loops = s.loops := rfl
@[simp] theorem State.setCrt_pair (s : State) (k : Nat) (r : CanRt) : (s.setCrt k r).pair = s.pair := rfl
@[simp] theorem State.setCrt_chain (s : State) (k : Nat) (r : CanRt) : (s.setCrt k r).chain = s.chain := rfl
@[simp] theorem State.setCrt_ost (s : State) (k : Nat) (r : CanRt) : (s.setCrt k r).ost = s.ost := rfl
@[simp] theorem State.setCrt_dig (s : State) (k : Nat) (r : CanRt) : (s.setCrt k r).dig = s.dig := rfl
@[simp] theorem State.setCrt_ana (s : State) (k : Nat) (r : CanRt) : (s.setCrt k r).ana = s.ana := rfl
@[simp] theorem State.setCrt_time (s : State) (k : Nat) (r : CanRt) : (s.setCrt k r).time = s.time := rfl
@[simp] theorem State.setCrt_keep (s : State) (k : Nat) (r : CanRt) : (s.setCrt k r).keep = s.keep := rfl
@[simp] theorem State.setCrt_can (s : State) (k : Nat) (r : CanRt) : (s.setCrt k r).can = Sparse.set {} s.can k r := rfl
@[simp] theorem State.setCrt_open (s : State) (k : Nat) (r : CanRt) : (s.setCrt k r).open_ = s.open_ := rfl
@[simp] theorem State.setCrt_sent (s : State) (k : Nat) (r : CanRt) : (s.setCrt k r).sent = s.sent := rfl
@[simp] theorem State.setCrt_dict (s : State) (k : Nat) (r : CanRt) : (s.setCrt k r).dict = s.dict := rfl
@[simp] theorem State.setCrt_book (s : State) (k : Nat) (r : CanRt) : (s.setCrt k r).book = s.book := rfl
@[simp] theorem State.setCrt_panel (s : State) (k : Nat) (r : CanRt) : (s.setCrt k r).panel = s.panel := rfl
@[simp] theorem State.setCrt_rst (s : State) (k : Nat) (r : CanRt) : (s.setCrt k r).rst = s.rst := rfl
@[simp] theorem State.setCrt_fuse (s : State) (k : Nat) (r : CanRt) : (s.setCrt k r).fuse = s.fuse := rfl
@[simp] theorem State.setCrt_out (s : State) (k : Nat) (r : CanRt) : (s.setCrt k r).out = s.out := rfl
@[simp] theorem State.setCrt_free (s : State) (k : Nat) (r : CanRt) : (s.setCrt k r).free = s.free := rfl
@[simp] theorem State.setCrt_pending (s : State) (k : Nat) (r : CanRt) : (s.setCrt k r).pending = s.pending := rfl

@[simp] theorem State.setLrt_regs (s : State) (k : Nat) (r : LoopRt) : (s.setLrt k r).regs = s.regs := rfl
@[simp] theorem State.setLrt_blobs (s : State) (k : Nat) (r : LoopRt) : (s.setLrt k r).blobs = s.blobs := rfl
@[simp] theorem State.setLrt_mem (s : State) (k : Nat) (r : LoopRt) : (s.setLrt k r).mem = s.mem := rfl
@[simp] theorem State.setLrt_engines (s : State) (k : Nat) (r : LoopRt) : (s.setLrt k r).engines = s.engines := rfl
@[simp] theorem State.setLrt_tasks (s : State) (k : Nat) (r : LoopRt) : (s.setLrt k r).tasks = s.tasks := rfl
@[simp] theorem State.setLrt_tick (s : State) (k : Nat) (r : LoopRt) : (s.setLrt k r).tick = s.tick := rfl
@[simp] theorem State.setLrt_img (s : State) (k : Nat) (r : LoopRt) : (s.setLrt k r).img = s.img := rfl
@[simp] theorem State.setLrt_mtx (s : State) (k : Nat) (r : LoopRt) : (s.setLrt k r).mtx = s.mtx := rfl
@[simp] theorem State.setLrt_loops (s : State) (k : Nat) (r : LoopRt) : (s.setLrt k r).loops = Sparse.set {} s.loops k r := rfl
@[simp] theorem State.setLrt_pair (s : State) (k : Nat) (r : LoopRt) : (s.setLrt k r).pair = s.pair := rfl
@[simp] theorem State.setLrt_chain (s : State) (k : Nat) (r : LoopRt) : (s.setLrt k r).chain = s.chain := rfl
@[simp] theorem State.setLrt_ost (s : State) (k : Nat) (r : LoopRt) : (s.setLrt k r).ost = s.ost := rfl
@[simp] theorem State.setLrt_dig (s : State) (k : Nat) (r : LoopRt) : (s.setLrt k r).dig = s.dig := rfl
@[simp] theorem State.setLrt_ana (s : State) (k : Nat) (r : LoopRt) : (s.setLrt k r).ana = s.ana := rfl
@[simp] theorem State.setLrt_time (s : State) (k : Nat) (r : LoopRt) : (s.setLrt k r).time = s.time := rfl
@[simp] theorem State.setLrt_keep (s : State) (k : Nat) (r : LoopRt) : (s.setLrt k r).keep = s.keep := rfl
@[simp] theorem State.setLrt_can (s : State) (k : Nat) (r : LoopRt) : (s.setLrt k r).can = s.can := rfl
@[simp] theorem State.setLrt_open (s : State) (k : Nat) (r : LoopRt) : (s.setLrt k r).open_ = s.open_ := rfl
@[simp] theorem State.setLrt_sent (s : State) (k : Nat) (r : LoopRt) : (s.setLrt k r).sent = s.sent := rfl
@[simp] theorem State.setLrt_dict (s : State) (k : Nat) (r : LoopRt) : (s.setLrt k r).dict = s.dict := rfl
@[simp] theorem State.setLrt_book (s : State) (k : Nat) (r : LoopRt) : (s.setLrt k r).book = s.book := rfl
@[simp] theorem State.setLrt_panel (s : State) (k : Nat) (r : LoopRt) : (s.setLrt k r).panel = s.panel := rfl
@[simp] theorem State.setLrt_rst (s : State) (k : Nat) (r : LoopRt) : (s.setLrt k r).rst = s.rst := rfl
@[simp] theorem State.setLrt_fuse (s : State) (k : Nat) (r : LoopRt) : (s.setLrt k r).fuse = s.fuse := rfl
@[simp] theorem State.setLrt_out (s : State) (k : Nat) (r : LoopRt) : (s.setLrt k r).out = s.out := rfl
@[simp] theorem State.setLrt_free (s : State) (k : Nat) (r : LoopRt) : (s.setLrt k r).free = s.free := rfl
@[simp] theorem State.setLrt_pending (s : State) (k : Nat) (r : LoopRt) : (s.setLrt k r).pending = s.pending := rfl

end Sys2Proof.Machine
end

