-- ==== Sys2Proof/Laws/Store.lean ====
section
/-! SUPPORT. The laws of the sparse tables: a read after a write, and that every write keeps the canonical form. -/

namespace Sys2Proof.Machine

open Sys2Proof

variable {α : Type}

@[simp] theorem Sparse.get_nil (d : α) (k : Nat) : Sparse.get d [] k = d := rfl

theorem Sparse.get_insert_same (d : α) (m : Sparse α) (k : Nat) (v : α) :
    Sparse.get d (Sparse.insert m k v) k = v := by
  induction m with
  | nil => simp [Sparse.insert, Sparse.get]
  | cons c t ih =>
    obtain ⟨j, w⟩ := c
    simp only [Sparse.insert]
    split
    · simp [Sparse.get]
    · split
      · simp [Sparse.get]
      · rename_i h
        simp [Sparse.get, h, ih]

theorem Sparse.get_insert_other (d : α) (m : Sparse α) (k j : Nat) (v : α) (h : j ≠ k) :
    Sparse.get d (Sparse.insert m k v) j = Sparse.get d m j := by
  induction m with
  | nil => simp [Sparse.insert, Sparse.get, Ne.symm h]
  | cons c t ih =>
    obtain ⟨i, w⟩ := c
    simp only [Sparse.insert]
    split
    · simp [Sparse.get, Ne.symm h]
    · split
      · rename_i e
        subst e
        simp [Sparse.get, Ne.symm h]
      · simp only [Sparse.get, ih]

theorem Sparse.erase_nil (k : Nat) : Sparse.erase ([] : Sparse α) k = [] := rfl

theorem Sparse.erase_cons_same (t : Sparse α) (k : Nat) (w : α) : Sparse.erase ((k, w) :: t) k = Sparse.erase t k := by
  simp [Sparse.erase]

theorem Sparse.erase_cons_other (t : Sparse α) (j k : Nat) (w : α) (h : j ≠ k) :
    Sparse.erase ((j, w) :: t) k = (j, w) :: Sparse.erase t k := by
  simp [Sparse.erase, h]

theorem Sparse.get_erase_other (d : α) (m : Sparse α) (k j : Nat) (h : j ≠ k) :
    Sparse.get d (Sparse.erase m k) j = Sparse.get d m j := by
  induction m with
  | nil => rfl
  | cons c t ih =>
    obtain ⟨i, w⟩ := c
    by_cases e : i = k
    · subst e
      rw [Sparse.erase_cons_same, ih]
      simp [Sparse.get, Ne.symm h]
    · rw [Sparse.erase_cons_other t i k w e]
      simp only [Sparse.get, ih]

/-- A write leaves every other key alone. -/
theorem Sparse.get_set_other [DecidableEq α] (d e : α) (m : Sparse α) (k j : Nat) (v : α) (h : j ≠ k) :
    Sparse.get e (Sparse.set d m k v) j = Sparse.get e m j := by
  unfold Sparse.set
  split
  · exact Sparse.get_erase_other e m k j h
  · exact Sparse.get_insert_other e m k j v h

theorem Sparse.rising_of_wfFrom [DecidableEq α] (f : Nat → α) (m : Sparse α) (lo : Nat)
    (h : Sparse.wfFrom f lo m = true) : Sparse.risingFrom lo m = true := by
  induction m generalizing lo with
  | nil => rfl
  | cons c t ih =>
    obtain ⟨j, w⟩ := c
    simp only [Sparse.wfFrom, Bool.and_eq_true, decide_eq_true_eq] at h
    simp only [Sparse.risingFrom, Bool.and_eq_true, decide_eq_true_eq]
    exact ⟨h.1.1, ih _ h.2⟩

theorem Sparse.get_below (d : α) (m : Sparse α) (lo k : Nat)
    (h : Sparse.risingFrom lo m = true) (hk : k < lo) : Sparse.get d m k = d := by
  induction m generalizing lo with
  | nil => rfl
  | cons c t ih =>
    obtain ⟨j, w⟩ := c
    simp only [Sparse.risingFrom, Bool.and_eq_true, decide_eq_true_eq] at h
    have : j ≠ k := by omega
    simp only [Sparse.get, this, if_false]
    exact ih (j + 1) h.2 (by omega)

theorem Sparse.get_erase_same (d : α) (m : Sparse α) (k : Nat) : Sparse.get d (Sparse.erase m k) k = d := by
  induction m with
  | nil => rfl
  | cons c t ih =>
    obtain ⟨j, w⟩ := c
    by_cases e : j = k
    · subst e
      rw [Sparse.erase_cons_same, ih]
    · rw [Sparse.erase_cons_other t j k w e]
      simp only [Sparse.get, e, if_false, ih]

/-- A read after a write to the same key gives the value written. -/
theorem Sparse.get_set_same [DecidableEq α] (d : α) (m : Sparse α) (k : Nat) (v : α) :
    Sparse.get d (Sparse.set d m k v) k = v := by
  unfold Sparse.set
  split
  · rename_i e
    rw [e]
    exact Sparse.get_erase_same d m k
  · exact Sparse.get_insert_same d m k v

theorem Sparse.risingFrom_mono (m : Sparse α) (a b : Nat) (hab : a ≤ b)
    (h : Sparse.risingFrom b m = true) : Sparse.risingFrom a m = true := by
  cases m with
  | nil => rfl
  | cons c t =>
    obtain ⟨j, w⟩ := c
    simp only [Sparse.risingFrom, Bool.and_eq_true, decide_eq_true_eq] at h ⊢
    exact ⟨by omega, h.2⟩

theorem Sparse.risingFrom_erase (m : Sparse α) (lo k : Nat)
    (h : Sparse.risingFrom lo m = true) : Sparse.risingFrom lo (Sparse.erase m k) = true := by
  induction m generalizing lo with
  | nil => rfl
  | cons c t ih =>
    obtain ⟨j, w⟩ := c
    simp only [Sparse.risingFrom, Bool.and_eq_true, decide_eq_true_eq] at h
    by_cases e : j = k
    · subst e
      rw [Sparse.erase_cons_same]
      exact ih lo (Sparse.risingFrom_mono t lo (j + 1) (by omega) h.2)
    · rw [Sparse.erase_cons_other t j k w e]
      simp only [Sparse.risingFrom, Bool.and_eq_true, decide_eq_true_eq]
      exact ⟨h.1, ih (j + 1) h.2⟩

theorem Sparse.risingFrom_insert (m : Sparse α) (lo k : Nat) (v : α) (hk : lo ≤ k)
    (h : Sparse.risingFrom lo m = true) : Sparse.risingFrom lo (Sparse.insert m k v) = true := by
  induction m generalizing lo with
  | nil => simp [Sparse.insert, Sparse.risingFrom, hk]
  | cons c t ih =>
    obtain ⟨j, w⟩ := c
    have h' := h
    simp only [Sparse.risingFrom, Bool.and_eq_true, decide_eq_true_eq] at h'
    simp only [Sparse.insert]
    split
    · simp only [Sparse.risingFrom, Bool.and_eq_true, decide_eq_true_eq]
      exact ⟨hk, by omega, h'.2⟩
    · split
      · rename_i e
        subst e
        simp only [Sparse.risingFrom, Bool.and_eq_true, decide_eq_true_eq]
        exact ⟨hk, h'.2⟩
      · simp only [Sparse.risingFrom, Bool.and_eq_true, decide_eq_true_eq]
        exact ⟨h'.1, ih (j + 1) (by omega) h'.2⟩

/-- A write keeps the keys rising. -/
theorem Sparse.rising_set [DecidableEq α] (d : α) (m : Sparse α) (k : Nat) (v : α) (h : Sparse.rising m = true) :
    Sparse.rising (Sparse.set d m k v) = true := by
  unfold Sparse.set
  split
  · exact Sparse.risingFrom_erase m 0 k h
  · exact Sparse.risingFrom_insert m 0 k v (Nat.zero_le k) h

/-- A change of the values alone keeps the keys rising. -/
theorem Sparse.rising_map {β : Type} (f : Nat × α → β) (m : Sparse α) (h : Sparse.rising m = true) :
    Sparse.rising (m.map (fun c => (c.1, f c))) = true := by
  have gen : ∀ (m : Sparse α) (lo : Nat), Sparse.risingFrom lo m = true →
      Sparse.risingFrom lo (m.map (fun c => (c.1, f c))) = true := by
    intro m
    induction m with
    | nil => exact fun _ _ => rfl
    | cons c t ih =>
      obtain ⟨j, w⟩ := c
      intro lo h
      simp only [Sparse.risingFrom, Bool.and_eq_true, decide_eq_true_eq] at h
      simp only [List.map_cons, Sparse.risingFrom, Bool.and_eq_true, decide_eq_true_eq]
      exact ⟨h.1, ih _ h.2⟩
  exact gen m 0 h

theorem Sparse.wfFrom_mono [DecidableEq α] (f : Nat → α) (m : Sparse α) (a b : Nat) (hab : a ≤ b)
    (h : Sparse.wfFrom f b m = true) : Sparse.wfFrom f a m = true := by
  cases m with
  | nil => rfl
  | cons c t =>
    obtain ⟨j, w⟩ := c
    simp only [Sparse.wfFrom, Bool.and_eq_true, decide_eq_true_eq] at h ⊢
    exact ⟨⟨by omega, h.1.2⟩, h.2⟩

theorem Sparse.wfFrom_erase [DecidableEq α] (f : Nat → α) (m : Sparse α) (lo k : Nat)
    (h : Sparse.wfFrom f lo m = true) : Sparse.wfFrom f lo (Sparse.erase m k) = true := by
  induction m generalizing lo with
  | nil => rfl
  | cons c t ih =>
    obtain ⟨j, w⟩ := c
    simp only [Sparse.wfFrom, Bool.and_eq_true, decide_eq_true_eq] at h
    by_cases e : j = k
    · subst e
      rw [Sparse.erase_cons_same]
      exact ih lo (Sparse.wfFrom_mono f t lo (j + 1) (by omega) h.2)
    · rw [Sparse.erase_cons_other t j k w e]
      simp only [Sparse.wfFrom, Bool.and_eq_true, decide_eq_true_eq]
      exact ⟨h.1, ih (j + 1) h.2⟩

theorem Sparse.wfFrom_insert [DecidableEq α] (f : Nat → α) (m : Sparse α) (lo k : Nat) (v : α) (hv : v ≠ f k) (hk : lo ≤ k)
    (h : Sparse.wfFrom f lo m = true) : Sparse.wfFrom f lo (Sparse.insert m k v) = true := by
  induction m generalizing lo with
  | nil => simp [Sparse.insert, Sparse.wfFrom, hv, hk]
  | cons c t ih =>
    obtain ⟨j, w⟩ := c
    have h' := h
    simp only [Sparse.wfFrom, Bool.and_eq_true, decide_eq_true_eq] at h'
    simp only [Sparse.insert]
    split
    · simp only [Sparse.wfFrom, Bool.and_eq_true, decide_eq_true_eq]
      exact ⟨⟨hk, by simp [hv]⟩, ⟨by omega, h'.1.2⟩, h'.2⟩
    · split
      · rename_i e
        subst e
        simp only [Sparse.wfFrom, Bool.and_eq_true, decide_eq_true_eq]
        exact ⟨⟨hk, by simp [hv]⟩, h'.2⟩
      · simp only [Sparse.wfFrom, Bool.and_eq_true, decide_eq_true_eq]
        exact ⟨h'.1, ih (j + 1) (by omega) h'.2⟩

/-- A write keeps the canonical form. -/
theorem Sparse.wf_set [DecidableEq α] (f : Nat → α) (m : Sparse α) (k : Nat) (v : α) (h : Sparse.wf f m = true) :
    Sparse.wf f (Sparse.set (f k) m k v) = true := by
  unfold Sparse.set
  split
  · exact Sparse.wfFrom_erase f m 0 k h
  · rename_i e
    exact Sparse.wfFrom_insert f m 0 k v e (Nat.zero_le k) h

theorem Sparse.wfFrom_filter [DecidableEq α] (f : Nat → α) (g : Nat × α → Bool) (m : Sparse α) (lo : Nat)
    (h : Sparse.wfFrom f lo m = true) : Sparse.wfFrom f lo (m.filter g) = true := by
  induction m generalizing lo with
  | nil => rfl
  | cons c t ih =>
    obtain ⟨j, w⟩ := c
    simp only [Sparse.wfFrom, Bool.and_eq_true, decide_eq_true_eq] at h
    rw [List.filter_cons]
    split
    · simp only [Sparse.wfFrom, Bool.and_eq_true, decide_eq_true_eq]
      exact ⟨h.1, ih (j + 1) h.2⟩
    · exact ih lo (Sparse.wfFrom_mono f t lo (j + 1) (by omega) h.2)

/-- Taking keys away keeps the canonical form. -/
theorem Sparse.wf_filter [DecidableEq α] (f : Nat → α) (g : Nat × α → Bool) (m : Sparse α) (h : Sparse.wf f m = true) :
    Sparse.wf f (m.filter g) = true := Sparse.wfFrom_filter f g m 0 h

/-! ## Data memory -/

/-- A byte read back is the byte written. -/
theorem Memory.read_write_same (m : Sparse Byte) (a : Nat) (b : Byte) :
    Memory.read (Memory.write m a b) a = b := Sparse.get_set_same 0 m a b

/-- A write leaves every other byte alone. -/
theorem Memory.read_write_other (m : Sparse Byte) (a x : Nat) (b : Byte) (h : x ≠ a) :
    Memory.read (Memory.write m a b) x = Memory.read m x := Sparse.get_set_other 0 0 m a x b h

/-- A write keeps the memory's canonical form. -/
theorem Memory.wf_write (m : Sparse Byte) (a : Nat) (b : Byte) (h : Memory.wf m = true) :
    Memory.wf (Memory.write m a b) = true := Sparse.wf_set (fun _ => (0 : Byte)) m a b h

/-- A write of consecutive bytes keeps the memory's canonical form. -/
theorem Memory.wf_writeBytes (m : Sparse Byte) (a : Nat) (bs : List Byte) (h : Memory.wf m = true) :
    Memory.wf (Memory.writeBytes m a bs) = true := by
  induction bs generalizing m a with
  | nil => exact h
  | cons b t ih => exact ih _ _ (Memory.wf_write m a b h)

/-- Clearing a range keeps the memory's canonical form. -/
theorem Memory.wf_clear (m : Sparse Byte) (lo n : Nat) (h : Memory.wf m = true) : Memory.wf (Memory.clear m lo n) = true :=
  Sparse.wf_filter _ _ m h

/-- A write of consecutive bytes leaves every byte outside them alone. -/
theorem Memory.read_writeBytes_outside (m : Sparse Byte) (a x : Nat) (bs : List Byte) (h : x < a ∨ a + bs.length ≤ x) :
    Memory.read (Memory.writeBytes m a bs) x = Memory.read m x := by
  induction bs generalizing m a with
  | nil => rfl
  | cons b t ih =>
    simp only [List.length_cons] at h
    rw [Memory.writeBytes, ih _ _ (by omega), Memory.read_write_other _ _ _ _ (by omega)]

/-- Each byte of a write of consecutive bytes reads back. -/
theorem Memory.read_writeBytes_inside (m : Sparse Byte) (a i : Nat) (bs : List Byte) (b : Byte)
    (h : bs[i]? = some b) : Memory.read (Memory.writeBytes m a bs) (a + i) = b := by
  induction bs generalizing m a i with
  | nil => simp at h
  | cons c t ih =>
    rw [Memory.writeBytes]
    cases i with
    | zero =>
      simp only [List.getElem?_cons_zero, Option.some.injEq] at h
      rw [Memory.read_writeBytes_outside _ _ _ _ (by omega), Nat.add_zero, Memory.read_write_same m a c, h]
    | succ n =>
      simp only [List.getElem?_cons_succ] at h
      have := ih (Memory.write m a c) (a + 1) n h
      rwa [show a + 1 + n = a + (n + 1) by omega] at this

/-! ## Registers -/

/-- A register reads back what was written, cut to its width. -/
theorem State.reg_setReg_same (s : State) (k v : Nat) : (s.setReg k v).reg k = fit k v :=
  Sparse.get_set_same _ s.regs k (fit k v)

/-- A write to a register leaves every other register alone. -/
theorem State.reg_setReg_other (s : State) (k j v : Nat) (h : j ≠ k) : (s.setReg k v).reg j = s.reg j :=
  Sparse.get_set_other _ _ s.regs k j (fit k v) h

theorem fit_lt (k v : Nat) : fit k v < 2 ^ entryBits k := Nat.mod_lt _ (Nat.two_pow_pos _)

theorem Sparse.all_erase (g : Nat × α → Bool) (m : Sparse α) (k : Nat) (h : m.all g = true) :
    (Sparse.erase m k).all g = true := by
  simp only [List.all_eq_true, Sparse.erase, List.mem_filter] at h ⊢
  exact fun x hx => h x hx.1

theorem Sparse.all_insert (g : Nat × α → Bool) (m : Sparse α) (k : Nat) (v : α) (hv : g (k, v) = true)
    (h : m.all g = true) : (Sparse.insert m k v).all g = true := by
  induction m with
  | nil => simp [Sparse.insert, hv]
  | cons c t ih =>
    obtain ⟨j, w⟩ := c
    simp only [List.all_cons, Bool.and_eq_true] at h
    simp only [Sparse.insert]
    split
    · simp [hv, h.1, h.2]
    · split
      · simp [hv, h.2]
      · simp [h.1, ih h.2]

/-- A register write keeps the state in canonical form. -/
theorem State.setReg_ok (s : State) (k v : Nat) (h : s.Ok) : (s.setReg k v).Ok where
  regs := Sparse.wf_set defaultOf s.regs k (fit k v) h.regs
  fits := by
    show (Sparse.set (defaultOf k) s.regs k (fit k v)).all _ = true
    unfold Sparse.set
    split
    · exact Sparse.all_erase _ _ _ h.fits
    · exact Sparse.all_insert _ _ _ _ (by simpa using fit_lt k v) h.fits
  mem := h.mem
  engines := h.engines
  tasks := h.tasks

/-- A write to data memory keeps the state in canonical form. -/
theorem State.memWrite_ok (s : State) (a t o : Nat) (bs : List Byte) (h : s.Ok) : (s.memWrite a t o bs).Ok :=
  ⟨h.regs, h.fits, Memory.wf_writeBytes _ _ _ h.mem, h.engines, h.tasks⟩

/-- A write to an engine keeps the state in canonical form. -/
theorem State.setEngine_ok (s : State) (p : Nat) (e : Engine) (h : s.Ok) : (s.setEngine p e).Ok :=
  ⟨h.regs, h.fits, h.mem, Sparse.rising_set _ _ _ _ h.engines, h.tasks⟩

/-- A write to what a task keeps leaves the state in canonical form. -/
theorem State.setTask_ok (s : State) (k : Nat) (t : TaskRt) (h : s.Ok) : (s.setTask k t).Ok :=
  ⟨h.regs, h.fits, h.mem, h.engines, Sparse.rising_set _ _ _ _ h.tasks⟩

/-- A register of a state in canonical form fits its entry, if its default does. -/
theorem State.reg_lt (s : State) (k : Nat) (h : s.Ok) (hd : defaultOf k < 2 ^ entryBits k) : s.reg k < 2 ^ entryBits k := by
  have all : s.regs.all (fun c => decide (c.2 < 2 ^ entryBits c.1)) = true := h.fits
  have gen : ∀ m : Sparse Nat, m.all (fun c => decide (c.2 < 2 ^ entryBits c.1)) = true →
      Sparse.get (defaultOf k) m k < 2 ^ entryBits k := by
    intro m
    induction m with
    | nil => exact fun _ => hd
    | cons c t ih =>
      obtain ⟨j, w⟩ := c
      intro hm
      simp only [List.all_cons, Bool.and_eq_true, decide_eq_true_eq] at hm
      simp only [Sparse.get]
      split
      · rename_i e
        subst e
        exact hm.1
      · exact ih hm.2
  exact gen s.regs all

/-! ## Engines and tasks -/

theorem State.engine_setEngine_other (s : State) (p q : Nat) (e : Engine) (h : q ≠ p) :
    (s.setEngine p e).engine q = s.engine q := Sparse.get_set_other _ _ s.engines p q e h

/-- An engine reads back as it was written. -/
theorem State.engine_setEngine_same (s : State) (p : Nat) (e : Engine) :
    (s.setEngine p e).engine p = e := Sparse.get_set_same _ s.engines p e

theorem State.task_setTask_same (s : State) (k : Nat) (t : TaskRt) :
    (s.setTask k t).task k = t := Sparse.get_set_same _ s.tasks k t

theorem Sparse.insert_insert (m : Sparse α) (k : Nat) (v w : α) : Sparse.insert (Sparse.insert m k v) k w = Sparse.insert m k w := by
  induction m with
  | nil => simp [Sparse.insert]
  | cons c t ih =>
    obtain ⟨j, u⟩ := c
    simp only [Sparse.insert]
    split
    · simp [Sparse.insert]
    · split
      · simp [Sparse.insert]
      · rename_i h1 h2
        simp [Sparse.insert, h1, h2, ih]

theorem Sparse.erase_insert (m : Sparse α) (k : Nat) (v : α) : Sparse.erase (Sparse.insert m k v) k = Sparse.erase m k := by
  induction m with
  | nil => simp [Sparse.insert, Sparse.erase]
  | cons c t ih =>
    obtain ⟨j, u⟩ := c
    simp only [Sparse.insert]
    split
    · rw [Sparse.erase_cons_same]
    · split
      · rename_i h2
        subst h2
        rw [Sparse.erase_cons_same, Sparse.erase_cons_same]
      · rename_i h1 h2
        rw [Sparse.erase_cons_other _ j k u h2, Sparse.erase_cons_other _ j k u h2, ih]

theorem Sparse.erase_erase (m : Sparse α) (k : Nat) : Sparse.erase (Sparse.erase m k) k = Sparse.erase m k := by
  simp [Sparse.erase, List.filter_filter]

theorem Sparse.erase_of_below (m : Sparse α) (lo k : Nat) (h : Sparse.risingFrom lo m = true) (hk : k < lo) :
    Sparse.erase m k = m := by
  induction m generalizing lo with
  | nil => rfl
  | cons c t ih =>
    obtain ⟨j, u⟩ := c
    simp only [Sparse.risingFrom, Bool.and_eq_true, decide_eq_true_eq] at h
    rw [Sparse.erase_cons_other t j k u (by omega), ih (j + 1) h.2 (by omega)]

theorem Sparse.insert_below (m : Sparse α) (lo k : Nat) (v : α) (h : Sparse.risingFrom lo m = true) (hk : k < lo) :
    Sparse.insert m k v = (k, v) :: m := by
  cases m with
  | nil => rfl
  | cons c t =>
    obtain ⟨j, u⟩ := c
    simp only [Sparse.risingFrom, Bool.and_eq_true, decide_eq_true_eq] at h
    have : k < j := by omega
    simp [Sparse.insert, this]

theorem Sparse.insert_erase (m : Sparse α) (lo k : Nat) (v : α) (h : Sparse.risingFrom lo m = true) :
    Sparse.insert (Sparse.erase m k) k v = Sparse.insert m k v := by
  induction m generalizing lo with
  | nil => rfl
  | cons c t ih =>
    obtain ⟨j, u⟩ := c
    simp only [Sparse.risingFrom, Bool.and_eq_true, decide_eq_true_eq] at h
    by_cases e : j = k
    · subst e
      rw [Sparse.erase_cons_same, Sparse.erase_of_below t (j + 1) j h.2 (by omega),
        Sparse.insert_below t (j + 1) j v h.2 (by omega)]
      simp [Sparse.insert]
    · rw [Sparse.erase_cons_other t j k u e]
      simp only [Sparse.insert, e, if_false]
      split
      · rename_i h1
        rw [Sparse.erase_of_below t (j + 1) k h.2 (by omega)]
      · rw [ih (j + 1) h.2]

/-- Of two writes to one key the second stands. -/
theorem Sparse.set_set [DecidableEq α] (d : α) (m : Sparse α) (k : Nat) (v w : α) (h : Sparse.rising m = true) :
    Sparse.set d (Sparse.set d m k v) k w = Sparse.set d m k w := by
  unfold Sparse.set
  split <;> split
  · exact Sparse.erase_erase m k
  · exact Sparse.erase_insert m k v
  · exact Sparse.insert_erase m 0 k w h
  · exact Sparse.insert_insert m k v w

/-- Of two writes to one engine the second stands. -/
theorem State.setEngine_setEngine (s : State) (p : Nat) (e f : Engine) (h : Sparse.rising s.engines = true) :
    (s.setEngine p e).setEngine p f = s.setEngine p f := by
  simp only [State.setEngine]
  rw [Sparse.set_set _ _ _ _ _ h]

end Sys2Proof.Machine
end

