-- ==== Sys2Proof/Laws/Scan.lean ====
section
/-! SUPPORT. What the shared operations of the scan instructions do: the guard, the step past an instruction, stores and
the bytes a pair reads after them. -/

namespace Sys2Proof.Machine

open Sys2Proof

/-! ## The guard and the step past an instruction -/

/-- An instruction of a form the spec gives, on a pair that runs, does what it does. -/
theorem scanGuard_next (s : State) (p : Nat) (ok inside : Bool) (t : State) (hp : p ≤ 14) (hs : (s.engine p).stopped = false)
    (ho : ok = true) (hi : inside = true) : scanGuard s p ok inside t = .next t := by
  simp [scanGuard, Nat.not_lt.mpr hp, ho, hi, hs]

/-- A pair that a mismatch has stopped executes nothing (R80). -/
theorem scanGuard_stopped (s : State) (p : Nat) (ok inside : Bool) (t : State) (hp : p ≤ 14) (hs : (s.engine p).stopped = true)
    (ho : ok = true) (hi : inside = true) : scanGuard s p ok inside t = .next s := by
  simp [scanGuard, Nat.not_lt.mpr hp, ho, hi, hs]

/-- A pair that does not exist executes nothing. -/
theorem scanGuard_none (s : State) (p : Nat) (ok inside : Bool) (t : State) (hp : 14 < p) : scanGuard s p ok inside t = .next s := by
  simp [scanGuard, hp]

/-- What a guarded instruction can answer: the state as it was, or the meaning's, of a form the spec gives, on a pair that
runs. -/
theorem scanGuard_cases (s : State) (p : Nat) (ok inside : Bool) (t u : State) (h : scanGuard s p ok inside t = .next u) :
    u = s ∨ (u = t ∧ p ≤ 14 ∧ ok = true ∧ inside = true ∧ (s.engine p).stopped = false) := by
  unfold scanGuard at h
  split at h
  · cases h; exact Or.inl rfl
  · rename_i h1
    split at h
    · rename_i h2
      split at h
      · rename_i h3
        split at h
        · cases h; exact Or.inl rfl
        · rename_i h4
          cases h; exact Or.inr ⟨rfl, Nat.not_lt.mp h1, h2, h3, by simpa using h4⟩
      · cases h
    · cases h

theorem State.engine_onEngine (s : State) (p : Nat) (f : Engine → Engine) :
    (s.onEngine p f).engine p = f (s.engine p) := State.engine_setEngine_same s p _

theorem State.rising_setEngine (s : State) (p : Nat) (e : Engine) (h : Sparse.rising s.engines = true) :
    Sparse.rising (s.setEngine p e).engines = true := Sparse.rising_set _ _ _ _ h

/-- A change of one engine and the step past the instruction are one write of that engine. -/
theorem State.onEngine_advance (s : State) (p n : Nat) (f : Engine → Engine) (h : Sparse.rising s.engines = true) :
    (s.onEngine p f).advance p n = s.setEngine p ((f (s.engine p)).stepped n) := by
  unfold State.advance
  rw [State.engine_onEngine s p f]
  exact State.setEngine_setEngine s p _ _ h

/-- The same with the operand read between them. -/
theorem State.onEngine_afterRead_advance (s : State) (p n : Nat) (x : Operand) (f : Engine → Engine)
    (h : Sparse.rising s.engines = true) :
    ((s.onEngine p f).afterRead x).advance p n = (s.afterRead x).setEngine p ((f (s.engine p)).stepped n) := by
  unfold State.afterRead
  split
  · have e := State.onEngine_advance s p n f h
    unfold State.advance State.onEngine State.setEngine State.engine at e ⊢
    simp only [State.mk.injEq] at e ⊢
    simp only [e, and_self]
  · exact State.onEngine_advance s p n f h

/-- An instruction without operand. -/
theorem implied_next (s : State) (p n : Nat) (f : Engine → Engine) (hp : p ≤ 14) (hs : (s.engine p).stopped = false)
    (h : Sparse.rising s.engines = true) : implied p n f s = .next (s.setEngine p ((f (s.engine p)).stepped n)) := by
  unfold implied
  rw [scanGuard_next s p _ _ _ hp hs rfl rfl, State.onEngine_advance s p n f h]

/-! ## Stores and the bytes a pair reads -/

theorem overlayPut_get_outside (o : Sparse (Option Byte)) (k j : Nat) (bs : List Byte) (h : j < k ∨ k + bs.length ≤ j) :
    Sparse.get none (overlayPut o k bs) j = Sparse.get none o j := by
  induction bs generalizing o k with
  | nil => rfl
  | cons b t ih =>
    simp only [List.length_cons] at h
    rw [overlayPut, ih _ _ (by omega), Sparse.get_set_other _ _ _ _ _ _ (by omega)]

theorem overlayPut_get_inside (o : Sparse (Option Byte)) (k i : Nat) (bs : List Byte) (b : Byte) (h : bs[i]? = some b) :
    Sparse.get none (overlayPut o k bs) (k + i) = some b := by
  induction bs generalizing o k i with
  | nil => simp at h
  | cons c t ih =>
    rw [overlayPut]
    cases i with
    | zero =>
      simp only [List.getElem?_cons_zero, Option.some.injEq] at h
      rw [overlayPut_get_outside _ _ _ _ (by omega), Nat.add_zero, ← h]
      unfold Sparse.set
      simp [Sparse.get_insert_same]
    | succ n =>
      simp only [List.getElem?_cons_succ] at h
      have := ih (Sparse.set none o k (some c)) (k + 1) n h
      rwa [show k + 1 + n = k + (n + 1) by omega] at this

@[simp] theorem leBytes_length (n v : Nat) : (leBytes n v).length = n := by
  induction n generalizing v with
  | zero => rfl
  | succ n ih => simp [leBytes, ih]

/-- Byte `i` of a number. -/
theorem leBytes_get (n v i : Nat) (h : i < n) : (leBytes n v)[i]? = some (BitVec.ofNat 8 (v / 256 ^ i)) := by
  induction n generalizing v i with
  | zero => omega
  | succ n ih =>
    cases i with
    | zero => simp [leBytes]
    | succ i =>
      simp only [leBytes, List.getElem?_cons_succ]
      rw [ih _ _ (by omega), Nat.div_div_eq_div_mul, Nat.pow_succ, Nat.mul_comm]

/-- The bytes of areas I to E, as a pair's running task sees them. -/
theorem State.byteAt_plain (s : State) (p area off : Nat) (h : area < 8) :
    s.byteAt p area off = (Sparse.get none (s.engine p).overlay (memKey area (s.taskOn p) off)).getD
      (Memory.read s.mem (memKey area (s.taskOn p) off)) := by
  unfold State.byteAt State.engine
  split
  · omega
  · omega
  · rfl

/-- Whether a store reaches the byte with the memory key `k`. -/
def storeReaches (area task off width k : Nat) : Prop := memKey area task off ≤ k ∧ k < memKey area task off + width

/-- A store of plain memory: the engine it leaves. -/
theorem State.putStore_plain (s : State) (p area off width v : Nat) (h : area < 8) :
    s.putStore p area off width v = s.setEngine p ((s.engine p).stored (s.taskOn p) area off width v) := by
  have h8 : area ≠ 8 := by omega
  have h9 : area ≠ 9 := by omega
  unfold State.putStore
  simp only [h8, h9, if_false]

/-- A plain store, a change of the engine and the step past the instruction are one write of that engine. -/
theorem State.putStore_onEngine_advance (s : State) (p area off width v c : Nat) (f : Engine → Engine) (ha : area < 8)
    (h : Sparse.rising s.engines = true) :
    ((s.putStore p area off width v).onEngine p f).advance p c =
      s.setEngine p ((f ((s.engine p).stored (s.taskOn p) area off width v)).stepped c) := by
  rw [State.putStore_plain _ _ _ _ _ _ ha, State.onEngine_advance _ _ _ _ (State.rising_setEngine _ _ _ h),
    State.engine_setEngine_same _ _ _, State.setEngine_setEngine _ _ _ _ h]

/-- A plain store and the step past the instruction are one write of that engine. -/
theorem State.putStore_advanceUnless (s : State) (p area off width v c : Nat) (ha : area < 8)
    (h : Sparse.rising s.engines = true) (hs : (s.engine p).stopped = false) :
    (s.putStore p area off width v).advanceUnless p c =
      s.setEngine p (((s.engine p).stored (s.taskOn p) area off width v).stepped c) := by
  unfold State.advanceUnless
  rw [State.putStore_plain _ _ _ _ _ _ ha, State.engine_setEngine_same _ _ _]
  have : ((s.engine p).stored (s.taskOn p) area off width v).stopped = false := hs
  simp only [this]
  unfold State.advance
  rw [State.engine_setEngine_same _ _ _]
  exact State.setEngine_setEngine _ _ _ _ h

/-- A store that is not compared, or that both engines issue, is performed. -/
theorem State.store_agreed (s : State) (p area off width v : Nat) (agree : Bool)
    (h : s.compared area off = false ∨ agree = true) : s.store p area off width v agree = s.putStore p area off width v := by
  unfold State.store
  rcases h with h | h <;> simp [h]

/-- A compared store that the engines do not both issue is not performed: the pair stops (R80). -/
theorem State.store_mismatch (s : State) (p area off width v : Nat) (h : s.compared area off = true) :
    s.store p area off width v false = s.pairMismatch p := by
  unfold State.store
  simp [h]

/-- The task on a pair is the same after a change of the engine that leaves it. -/
theorem State.taskOn_setEngine (s : State) (p : Nat) (e : Engine)
    (hr : e.running = (s.engine p).running) : (s.setEngine p e).taskOn p = s.taskOn p := by
  show (((s.setEngine p e).engine p).running).getD 0 = _
  rw [State.engine_setEngine_same s p e, hr]
  rfl

/-- Bytes after a write of the pair's engine: the overlay decides. -/
theorem State.byteAt_setEngine (s : State) (p area off : Nat) (e : Engine)
    (hr : e.running = (s.engine p).running) (ha : area < 8) :
    (s.setEngine p e).byteAt p area off = (Sparse.get none e.overlay (memKey area (s.taskOn p) off)).getD
      (Memory.read s.mem (memKey area (s.taskOn p) off)) := by
  rw [State.byteAt_plain _ _ _ _ ha, State.engine_setEngine_same s p e, State.taskOn_setEngine s p e hr]
  rfl

/-- A byte that a store reaches reads as stored. -/
theorem State.byteAt_store_inside (s : State) (p area off width v i : Nat) (e : Engine)
    (hr : e.running = (s.engine p).running) (ha : area < 8) (hi : i < width)
    (ho : e.overlay = overlayPut (s.engine p).overlay (memKey area (s.taskOn p) off) (leBytes width v)) :
    (s.setEngine p e).byteAt p area (off + i) = BitVec.ofNat 8 (v / 256 ^ i) := by
  rw [State.byteAt_setEngine s p area _ e hr ha, ho]
  have : memKey area (s.taskOn p) (off + i) = memKey area (s.taskOn p) off + i := by unfold memKey; omega
  rw [this, overlayPut_get_inside _ _ _ _ _ (leBytes_get width v i hi)]
  rfl

/-- A byte that a store does not reach reads as before. -/
theorem State.byteAt_store_outside (s : State) (p area off width v a o : Nat) (e : Engine)
    (hr : e.running = (s.engine p).running) (ha : a < 8)
    (hk : ¬ storeReaches area (s.taskOn p) off width (memKey a (s.taskOn p) o))
    (ho : e.overlay = overlayPut (s.engine p).overlay (memKey area (s.taskOn p) off) (leBytes width v)) :
    (s.setEngine p e).byteAt p a o = s.byteAt p a o := by
  rw [State.byteAt_setEngine s p a _ e hr ha, ho, overlayPut_get_outside, State.byteAt_plain s p a o ha]
  rw [leBytes_length]
  unfold storeReaches at hk
  omega

/-- The value of `n` bytes of which each reads as byte `i` of `v`. -/
theorem State.natAt_of_bytes (s : State) (p area off n v : Nat)
    (h : ∀ i, i < n → s.byteAt p area (off + i) = BitVec.ofNat 8 (v / 256 ^ i)) : s.natAt p area off n = v % 256 ^ n := by
  induction n generalizing off v with
  | zero => simp [State.natAt, Nat.mod_one]
  | succ n ih =>
    rw [State.natAt]
    have h0 := h 0 (by omega)
    simp only [Nat.add_zero, Nat.pow_zero, Nat.div_one] at h0
    have := ih (off + 1) (v / 256) (fun i hi => by
      have := h (i + 1) (by omega)
      rw [show off + (i + 1) = off + 1 + i by omega] at this
      rw [this, Nat.div_div_eq_div_mul, Nat.pow_succ, Nat.mul_comm])
    rw [h0, this, BitVec.toNat_ofNat]
    have e : (256 : Nat) ^ (n + 1) = 256 * 256 ^ n := by rw [Nat.pow_succ, Nat.mul_comm]
    rw [e, Nat.mod_mul, show (2 : Nat) ^ 8 = 256 by decide]

/-- Equal bytes give equal values. -/
theorem State.natAt_congr (s t : State) (p area off n : Nat) (h : ∀ i, i < n → t.byteAt p area (off + i) = s.byteAt p area (off + i)) :
    t.natAt p area off n = s.natAt p area off n := by
  induction n generalizing off with
  | zero => rfl
  | succ n ih =>
    rw [State.natAt, State.natAt, ih (off + 1) (fun i hi => by
      have := h (i + 1) (by omega)
      rwa [show off + (i + 1) = off + 1 + i by omega] at this)]
    have := h 0 (by omega)
    rw [Nat.add_zero] at this
    rw [this]

theorem State.byteAt_toNat_lt (s : State) (p area off : Nat) : (s.byteAt p area off).toNat < 256 := (s.byteAt p area off).isLt

/-- A value read from `n` bytes fits them. -/
theorem State.natAt_lt (s : State) (p area off n : Nat) : s.natAt p area off n < 256 ^ n := by
  induction n generalizing off with
  | zero => simp [State.natAt]
  | succ n ih =>
    rw [State.natAt]
    have h1 := ih (off + 1)
    have h2 := s.byteAt_toNat_lt p area off
    have e : (256 : Nat) ^ (n + 1) = 256 * 256 ^ n := by rw [Nat.pow_succ, Nat.mul_comm]
    omega

/-- A step past an instruction leaves every byte. -/
theorem State.byteAt_same_overlay (s : State) (p a o : Nat) (e : Engine)
    (hr : e.running = (s.engine p).running) (ho : e.overlay = (s.engine p).overlay) (ha : a < 8) :
    (s.setEngine p e).byteAt p a o = s.byteAt p a o := by
  rw [State.byteAt_setEngine s p a o e hr ha, ho, State.byteAt_plain s p a o ha]

end Sys2Proof.Machine
end

