-- ==== Sys2Proof/Tests/Slice0.lean ====
section
/-! SUPPORT. Tests: a witness for the premises of each statement, one step of each kind of command on a small state with its
expected result taken from the spec, and the smoke test of WellFormed. -/

namespace Sys2Proof.Tests

open Sys2Proof Sys2Proof.Machine Sys2Proof.Stated

set_option Elab.async false

/-- The state after a command; the state itself where it gives none. -/
def after (i : Instr) (s : State) : State :=
  match exec i s with
  | .next t => t
  | _ => s

/-- A command gives a next state. -/
def completes (i : Instr) (s : State) : Bool :=
  match exec i s with
  | .next _ => true
  | _ => false

/-- The canonical form, as a number of checks. -/
def okB (s : State) : Bool :=
  Sparse.wf defaultOf s.regs && s.regsFit && Memory.wf s.mem && Sparse.rising s.engines && Sparse.rising s.tasks

theorem ok_of (s : State) (h : okB s = true) : s.Ok := by
  simp only [okB, Bool.and_eq_true] at h
  exact ⟨h.1.1.1.1, h.1.1.1.2, h.1.1.2, h.1.2, h.2⟩

/-- A module that has passed its start, with registers that differ from their defaults; by default it is STOPPED.
The level book is off. -/
def up (regs : List (Nat × Nat)) : State :=
  { State.reset with
    regs := regs.foldl (fun m c => Sparse.set (defaultOf c.1) m c.1 c.2) [(0x2D0001, 0)]
    dict := { State.reset.dict with loaded := true }
    rst := { optionsRead := true, firmwareUp := true, supervisorUp := true, tested := true, imagesUp := true } }

/-- STOPPED in simplex, with the level book off. -/
def stopped : State := up []

/-- An image with small areas and one cyclic task on pair 0. -/
def small : Image :=
  { mSize := 64, dSize := 64, timers := 4, counters := 4, edgeBits := 64
    tasks := [{ kind := 0, number := 0, pair := 0, period := 1, phase := 0, budget := 1000, entry := 0, lSize := 16 }] }

/-- RUN with that image active, and pair 0 in a task. -/
def scan (e : Engine) : State :=
  { up [(0x210001, 4), (0x220002, 0)] with
    img := { State.reset.img with bankA := { image := some small } }
    engines := [(0, { e with running := some 0 })] }

/-- Pair 0 after an instruction. -/
def eng (i : Instr) (e : Engine) : Engine := (after i (scan e)).engine 0

/-! ## Scan instructions -/

theorem test_scan_ok : (scan {}).Ok := ok_of _ (by decide +kernel)

/-- The premises of a scan statement hold on pair 0 for any accumulators. -/
theorem test_ready : Ready (scan {}) 0 ∧ Ready (scan { a := true, w0 := 4, w1 := 9 }) 0 :=
  ⟨⟨ok_of _ (by decide +kernel), by decide +kernel, by decide +kernel⟩, ⟨ok_of _ (by decide +kernel), by decide +kernel, by decide +kernel⟩⟩

theorem test_witness_bitReads : bitReadOk ⟨2, 511⟩ = true ∧ (scan {}).bitIn 0 ⟨2, 511⟩ = true ∧ bitReadOk ⟨9, 0⟩ = true ∧
    (scan {}).bitIn 0 ⟨9, 0⟩ = true ∧ bitReadOk ⟨15, 1⟩ = true := by decide +kernel

theorem test_ld_flag : (eng (.opLd 0 ⟨15, 1⟩) {}).a = true ∧ (eng (.opLdn 0 ⟨15, 1⟩) { a := true }).a = false ∧
    (eng (.opXor 0 ⟨15, 1⟩) { a := true }).a = false ∧ (eng (.opAndn 0 ⟨15, 0⟩) { a := true }).a = true ∧
    (eng (.opOrn 0 ⟨15, 0⟩) {}).a = true ∧ (eng (.opXorn 0 ⟨15, 1⟩) { a := true }).a = true ∧
    (eng (.opAnd 0 ⟨15, 0⟩) { a := true }).a = false ∧ (eng (.opOr 0 ⟨15, 0⟩) { a := true }).a = true := by decide +kernel

theorem test_witness_bitStores : bitWriteOk ⟨2, 9⟩ = true ∧ (scan {}).bitIn 0 ⟨2, 9⟩ = true ∧
    (scan {}).compared 2 1 = false ∧ edgeOk ⟨7, 63⟩ = true ∧ (scan {}).bitIn 0 ⟨7, 63⟩ = true ∧
    (9 + ((scan { w0 := 502 }).engine 0).w0.toNat) / 8 < 64 := by decide +kernel

theorem test_st_bit : ((after (.opSt 0 ⟨2, 9⟩ true) (scan { a := true })).byteAt 0 2 1) = 2 ∧
    ((after (.opStn 0 ⟨2, 9⟩ true) (scan {})).byteAt 0 2 1) = 2 ∧
    ((after (.opRst 0 ⟨2, 9⟩ true) (after (.opSet 0 ⟨2, 9⟩ true) (scan { a := true }))).byteAt 0 2 1) = 0 ∧
    ((after (.opStx 0 ⟨2, 9⟩ true) (scan { a := true, w0 := 502 })).byteAt 0 2 63) = 0x80 := by decide +kernel

theorem test_edges : (eng (.opEdp 0 ⟨7, 63⟩) { a := true }).a = true ∧ (eng (.opEdn 0 ⟨7, 63⟩) { a := true }).a = false ∧
    ((after (.opEdp 0 ⟨7, 63⟩) (scan { a := true })).byteAt 0 7 7) = 0x80 ∧
    ((after (.opEdn 0 ⟨7, 63⟩) (after (.opClra 0) (after (.opEdp 0 ⟨7, 63⟩) (scan { a := true })))).engine 0).a = true := by decide +kernel

theorem test_accumulators : (eng (.opNot 0) {}).a = true ∧ (eng (.opSwp 0) { w0 := 3, w1 := 5 }).w0 = 5 ∧
    (eng (.opDup 0) { w0 := 3 }).w1 = 3 ∧ (eng (.opTstw 0) { w0 := 3 }).a = true ∧ (eng (.opLda 0) { a := true, w0 := 7 }).w0 = 1 ∧
    (eng (.opSext16 0) { w0 := 0x12348000 }).w0 = 0xFFFF8000 ∧ (eng (.opLdhi 0 ⟨15, 0xFFF⟩) { w0 := 0x12345678 }).w0 = 0xFFF45678 ∧
    (eng (.opLdf 0 ⟨15, 2⟩) { dz := true }).a = true ∧ (eng (.opClf 0 ⟨15, 7⟩) { dz := true, uf := true, ov := true }).dz = false ∧
    (eng (.opNop 0) {}).pc = 1 ∧ (eng (.opSeta 0) {}).a = true ∧ (eng (.opClra 0) { a := true }).a = false := by decide +kernel

theorem test_branch_stack : (eng (.opPsa 0) { a := true }).branch = [(true, .and)] ∧
    (eng (.opPop 0) { a := true, branch := [(false, .and)] }).a = false ∧ (eng (.opPop 0) { a := true, branch := [(true, .xor)] }).a = false ∧
    (eng (.opPeek 0) { branch := [(true, .keep)] }).a = true ∧ (eng (.opPop 0) { branch := [(true, .or)] }).a = true ∧
    (List.replicate 15 ((false, BranchOp.and) : Bool × BranchOp)).length < 16 := by decide +kernel

theorem test_witness_indexed : bitIndexReadOk ⟨2, 8⟩ = true ∧ (scan {}).bitIn 0 ⟨2, 8⟩ = true ∧ wordIndexReadOk ⟨2, 60⟩ = true ∧
    (scan {}).bytesIn 0 4 ⟨2, 60⟩ = true ∧ (60 + 0) % 4 = 0 ∧ 60 + 0 + 4 ≤ (scan {}).areaSize 0 2 ∧
    (scan {}).areaSize 0 2 < 60 + 4 + 4 ∧ (scan {}).areaSize 0 2 ≤ (8 + 504) / 8 ∧ (8 + 503) / 8 < (scan {}).areaSize 0 2 ∧
    partWriteOk 4 ⟨2, 60⟩ = true ∧ (60 + 2) % 4 ≠ 0 := by decide +kernel

theorem test_index_fault : (eng (.opLdx 0 ⟨2, 8⟩) { a := true, w0 := 504 }).a = false ∧
    ((after (.opLdwx 0 ⟨2, 60⟩) (scan { w0 := 4 })).task 0).indexFaults = 1 ∧ (eng (.opLdwx 0 ⟨2, 60⟩) { w0 := 4 }).w0 = 0 ∧
    (eng (.opStwx 0 ⟨2, 60⟩ true) { w0 := 7, w1 := 2 }).tickFaults = 1 ∧
    ((after (.opStwx 0 ⟨2, 56⟩ true) (scan { w0 := 7, w1 := 4 })).byteAt 0 2 60) = 7 := by decide +kernel

theorem test_witness_timers : timerOk ⟨5, 12⟩ = true ∧ (scan {}).bitIn 0 ⟨5, 12⟩ = true ∧ counterOk ⟨6, 12⟩ = true ∧
    (scan {}).bitIn 0 ⟨6, 12⟩ = true := by decide +kernel

/-- A timer whose PT is 0 is through at once with TON; TOF follows its input; TP does not start. -/
theorem test_timers : (eng (.opTon 0 ⟨5, 0⟩) { a := true }).a = true ∧ (eng (.opTof 0 ⟨5, 0⟩) { a := true }).a = true ∧
    (eng (.opTp 0 ⟨5, 0⟩) { a := true }).a = false ∧ (eng (.opTacc 0 ⟨5, 0⟩) {}).a = true ∧
    (eng (.opTrs 0 ⟨5, 0⟩) { a := true }).a = true ∧
    (evalTimer .ton { pt := 10, lt := 5, et := 4, q := false, inp := true, fresh := false, kind := 1 } 11 true).q = true := by decide +kernel

theorem test_counters : ((after (.opCtu 0 ⟨6, 4⟩) (scan { a := true })).counterAt 0 1).cv = 1 ∧
    ((after (.opCtd 0 ⟨6, 4⟩) (scan { a := true })).counterAt 0 1).cv = -1 ∧
    ((after (.opCtu 0 ⟨6, 4⟩) (scan {})).counterAt 0 1).cv = 0 ∧ (eng (.opCtu 0 ⟨6, 4⟩) { a := true }).a = true ∧
    ((after (.opCld 0 ⟨6, 4⟩) (after (.opStw 0 ⟨6, 5⟩ true) (scan { a := true, w0 := 9 }))).counterAt 0 1).cv = 9 ∧
    ((after (.opCrs 0 ⟨6, 4⟩) (after (.opStw 0 ⟨6, 4⟩ true) (scan { a := true, w0 := 9 }))).counterAt 0 1).cv = 0 := by decide +kernel

theorem test_control : targetOk 0x1FFFFF = true ∧ (eng (.opJmp 0 0x1FFFFF) {}).pc = 0x1FFFFF ∧ (eng (.opJc 0 9) {}).pc = 1 ∧
    (eng (.opJcn 0 9) {}).pc = 9 ∧ (eng (.opCall 0 9) { pc := 4 }).calls = [5] ∧ (eng (.opCallc 0 9) { a := true }).pc = 9 ∧
    (eng (.opRet 0) { calls := [7] }).pc = 7 ∧ (List.replicate 7 0).length < 8 := by decide +kernel

theorem test_witness_words : wordReadOk ⟨2, 60⟩ = true ∧ (scan {}).bytesIn 0 4 ⟨2, 60⟩ = true ∧ partReadOk 2 ⟨2, 62⟩ = true ∧
    (scan {}).bytesIn 0 2 ⟨2, 62⟩ = true ∧ partReadOk 1 ⟨2, 63⟩ = true ∧ (scan {}).bytesIn 0 1 ⟨2, 63⟩ = true ∧
    wordWriteOk ⟨5, 5⟩ = true ∧ wordWriteOk ⟨8, 0x3FFC⟩ = true ∧ wordWriteOk ⟨9, 0x100⟩ = true ∧ wordWriteOk ⟨6, 13⟩ = true ∧
    (scan {}).bytesIn 0 4 ⟨6, 13⟩ = true ∧ condWriteOk ⟨8, 0x3FFC⟩ = true ∧ (scan {}).compared 2 60 = false ∧
    (scan {}).bytesIn 0 4 ⟨8, 0x3FFC⟩ = true ∧ (scan {}).bytesIn 0 4 ⟨9, 0x100⟩ = true ∧ (scan {}).bytesIn 0 4 ⟨5, 5⟩ = true ∧
    ((scan {}).compared 8 0x3FFC = false ∨ true = true) := by decide +kernel

theorem test_words : (eng (.opLdw 0 ⟨15, 0xFFFFF⟩) { w0 := 3 }).w0 = 0xFFFFFFFF ∧ (eng (.opLdw 0 ⟨15, 0x7FFFF⟩) { w0 := 3 }).w1 = 3 ∧
    ((after (.opStw 0 ⟨2, 60⟩ true) (scan { w0 := 0x11223344 })).byteAt 0 2 60) = 0x44 ∧
    ((after (.opLdb 0 ⟨2, 60⟩) (after (.opStb 0 ⟨2, 60⟩ true) (scan { w0 := 0x1FF }))).engine 0).w0 = 0xFFFFFFFF ∧
    ((after (.opLdbu 0 ⟨2, 60⟩) (after (.opStb 0 ⟨2, 60⟩ true) (scan { w0 := 0x1FF }))).engine 0).w0 = 0xFF ∧
    ((after (.opLdh 0 ⟨2, 60⟩) (after (.opSth 0 ⟨2, 60⟩ true) (scan { w0 := 0x18000 }))).engine 0).w0 = 0xFFFF8000 ∧
    ((after (.opLdhu 0 ⟨2, 60⟩) (after (.opSth 0 ⟨2, 60⟩ true) (scan { w0 := 0x18000 }))).engine 0).w0 = 0x8000 ∧
    (eng (.opStw 0 ⟨9, 0x100⟩ true) { w0 := 1 }).request = true ∧ (eng (.opStwc 0 ⟨8, 0x3FFC⟩ true) { a := true, w0 := 5 }).pStores = [(0x3FFC, 5)] ∧
    (eng (.opStwc 0 ⟨2, 60⟩ true) { w0 := 5 }).overlay = [] := by decide +kernel

theorem test_arithmetic : (eng (.opAdd 0) { w1 := 0x7FFFFFFF, w0 := 1 }).w0 = 0x7FFFFFFF ∧ (eng (.opAdd 0) { w1 := 0x7FFFFFFF, w0 := 1 }).ov = true ∧
    (eng (.opSub 0) { w1 := 3, w0 := 5 }).w0 = 0xFFFFFFFE ∧ (eng (.opMul 0) { w1 := 0xFFFFFFFD, w0 := 5 }).w0 = 0xFFFFFFF1 ∧
    (eng (.opNeg 0) { w0 := 0x80000000 }).w0 = 0x7FFFFFFF ∧ (eng (.opAbs 0) { w0 := 0xFFFFFFFF }).w0 = 1 ∧
    (eng (.opMin 0) { w1 := 3, w0 := 0xFFFFFFFF }).w0 = 0xFFFFFFFF ∧ (eng (.opMax 0) { w1 := 3, w0 := 0xFFFFFFFF }).w0 = 3 ∧
    (eng (.opAddu 0) { w1 := 0xFFFFFFFF, w0 := 1 }).w0 = 0xFFFFFFFF ∧ (eng (.opSubu 0) { w1 := 1, w0 := 2 }).w0 = 0 ∧
    (eng (.opSat16 0) { w0 := 40000 }).w0 = 32767 ∧ (eng (.opSatu16 0) { w0 := 0xFFFFFFFF }).w0 = 0 := by decide +kernel

theorem test_division : (eng (.opDiv 0) { w1 := 0xFFFFFFF9, w0 := 2 }).w0 = 0xFFFFFFFD ∧ (eng (.opMod 0) { w1 := 0xFFFFFFF9, w0 := 2 }).w0 = 0xFFFFFFFF ∧
    (eng (.opDiv 0) { w1 := 0xFFFFFFF9 }).w0 = 0x80000000 ∧ (eng (.opDiv 0) { w1 := 5 }).dz = true ∧
    (eng (.opDiv 0) { w1 := 0x80000000, w0 := 0xFFFFFFFF }).w0 = 0x7FFFFFFF ∧ (eng (.opMod 0) { w1 := 0x80000000, w0 := 0xFFFFFFFF }).w0 = 0 := by
  decide +kernel

theorem test_logic : (eng (.opAw 0) { w1 := 12, w0 := 10 }).w0 = 8 ∧ (eng (.opOw 0) { w1 := 12, w0 := 10 }).w0 = 14 ∧
    (eng (.opXw 0) { w1 := 12, w0 := 10 }).w0 = 6 ∧ (eng (.opInvw 0) {}).w0 = 0xFFFFFFFF ∧
    (eng (.opShl 0 ⟨15, 31⟩) { w0 := 3 }).w0 = 0x80000000 ∧ (eng (.opShr 0 ⟨15, 31⟩) { w0 := 0x80000000 }).w0 = 1 ∧
    (eng (.opSar 0 ⟨15, 31⟩) { w0 := 0x80000000 }).w0 = 0xFFFFFFFF ∧ (eng (.opRol 0 ⟨15, 4⟩) { w0 := 0xF0000001 }).w0 = 0x1F ∧
    (eng (.opGt 0) { w1 := 1, w0 := 0xFFFFFFFF }).a = true ∧ (eng (.opGtu 0) { w1 := 1, w0 := 0xFFFFFFFF }).a = false ∧
    (eng (.opLe 0) { w1 := 1, w0 := 1 }).a = true ∧ (eng (.opGe 0) { w1 := 0, w0 := 1 }).a = false ∧
    (eng (.opLt 0) { w1 := 0xFFFFFFFF }).a = true ∧ (eng (.opLtu 0) { w1 := 0xFFFFFFFF }).a = false ∧
    (eng (.opEq 0) { w1 := 1, w0 := 1 }).a = true ∧ (eng (.opNe 0) { w1 := 1, w0 := 1 }).a = false := by decide +kernel

/-- 1.5 + 2.5 = 4, 1.5 − 2.5 = −1, 1.5 · 2 = 3, 3 / 2 = 1.5, √4 = 2; 1 / 0 is an infinity with DZ, √−1 is NaN with UF. -/
theorem test_float : (eng (.opFadd 0) { w1 := 0x3FC00000, w0 := 0x40200000 }).w0 = 0x40800000 ∧
    (eng (.opFsub 0) { w1 := 0x3FC00000, w0 := 0x40200000 }).w0 = 0xBF800000 ∧
    (eng (.opFmul 0) { w1 := 0x3FC00000, w0 := 0x40000000 }).w0 = 0x40400000 ∧
    (eng (.opFdiv 0) { w1 := 0x40400000, w0 := 0x40000000 }).w0 = 0x3FC00000 ∧ (eng (.opFsqrt 0) { w0 := 0x40800000 }).w0 = 0x40000000 ∧
    (eng (.opFdiv 0) { w1 := 0x3F800000 }).w0 = 0x7F800000 ∧ (eng (.opFdiv 0) { w1 := 0x3F800000 }).dz = true ∧
    (eng (.opFsqrt 0) { w0 := 0xBF800000 }).w0 = 0x7FC00000 ∧ (eng (.opFsqrt 0) { w0 := 0xBF800000 }).uf = true ∧
    (eng (.opFneg 0) { w0 := 1 }).w0 = 0x80000001 ∧ (eng (.opFabs 0) { w0 := 0x80000001 }).w0 = 1 := by decide +kernel

theorem test_witness_float : IsNaN 0x7FC00000 ∧ IsInf 0xFF800000 ∧ IsZero 0x80000000 ∧ minus 0xBF800000 = true ∧ ¬ IsZero 0xBF800000 ∧
    expo 0x3F800000 ≠ 255 ∧ ¬ IsZero 0x3F800000 ∧ ¬ IsNaN 0x3F800000 ∧ 1 ≤ expo 0x3F800000 ∧ expo 0x3F800000 ≤ 254 ∧
    158 ≤ expo 0x4F000000 ∧ ¬ IsNaN 0x4F000000 ∧ (0x4F000000 : Word) ≠ 0xCF000000 ∧ |((16777216 : Word)).toInt| ≤ 2 ^ 24 := by
  unfold IsNaN IsInf IsZero
  decide +kernel

theorem test_float_compare : (eng (.opFeq 0) { w1 := 0x80000000 }).a = true ∧ (eng (.opFne 0) { w1 := 0x7FC00000 }).a = true ∧
    (eng (.opFlt 0) { w1 := 0xBF800000, w0 := 0x3F800000 }).a = true ∧ (eng (.opFgt 0) { w1 := 0x7FC00000 }).uf = true ∧
    (eng (.opFge 0) { w1 := 0x3F800000, w0 := 0x3F800000 }).a = true ∧ (eng (.opFle 0) { w1 := 0x40000000, w0 := 0x3F800000 }).a = false := by
  decide +kernel

/-- 2.5 rounds to the even 2, −1.5 to −2 or towards zero to −1; 2³¹ is out of range. -/
theorem test_conversion : (eng (.opFti 0) { w0 := 0x40200000 }).w0 = 2 ∧ (eng (.opFti 0) { w0 := 0xBFC00000 }).w0 = 0xFFFFFFFE ∧
    (eng (.opFtit 0) { w0 := 0xBFC00000 }).w0 = 0xFFFFFFFF ∧ (eng (.opItf 0) { w0 := 0xFFFFFFFF }).w0 = 0xBF800000 ∧
    (eng (.opFti 0) { w0 := 0x4F000000 }).w0 = 0x7FFFFFFF ∧ (eng (.opFti 0) { w0 := 0x4F000000 }).ov = true := by decide +kernel

theorem test_witness_engineStores : (scan {}).compared 1 0 = true ∨ (scan {}).compared 2 0 = false := by decide +kernel

theorem test_end : (eng (.opEnd 0 true) { ov := true }).running = none ∧ ((after (.opEnd 0 true) (scan { ov := true })).task 0).ov = true ∧
    (eng (.opEnd 0 false) {}).stopped = true ∧ ((scan {}).engine 0).running = some 0 ∧ ((scan {}).engine 0).tickFaults = 0 ∧
    (after (.opEnd 0 false) (scan {})).reg 0x210101 = 1 := by decide +kernel

/-! ## Reset, queue and tick -/

theorem test_reset_ok : State.reset.Ok := ok_of _ (by decide +kernel)

theorem test_reset_values : State.reset.mode = stOption ∧ State.reset.reg 0x2F0001 = 1 ∧ State.reset.tD = 250 := by decide +kernel

theorem test_stopped : stopped.Ok ∧ stopped.running = true ∧ stopped.outstation = false ∧ stopped.inPair = false ∧
    stopped.startReady = false :=
  ⟨ok_of _ (by decide +kernel), by decide +kernel, by decide +kernel, by decide +kernel, by decide +kernel⟩

/-- The front of the queue runs; an empty queue idles. -/
theorem test_step : step { stopped with pending := [.stepAbsorbed, .closingPoint] } = .next { stopped with pending := [.closingPoint] } ∧
    step State.reset = .next State.reset := ⟨by rfl, by rfl⟩

theorem test_step_ok : ∃ t, step { stopped with pending := [.stepAbsorbed] } = .next t ∧ stopped.Ok :=
  ⟨stopped, rfl, test_stopped.1⟩

/-- 2F40.09's cause 0 sets and a write of 1 that waits no longer clears it. -/
theorem test_setCause :
    let s : State := { stopped with dict := { stopped.dict with atClose := [{ path := .host, key := 0x2F4901, data := [1, 0, 0, 0] }] } }
    (s.setCause 9 0).reg 0x2F4901 = 1 ∧ (s.setCause 9 0).dict.atClose.map (fun w => leNat w.data) = [0] := by decide +kernel

theorem test_registers : ((stopped.setReg 0x2F4901 (2 ^ 32 + 7)).reg 0x2F4901 = 7) ∧
    ((stopped.setReg 0x2F6004 0xFFFFFFFF).count 0x2F6004).reg 0x2F6004 = 0xFFFFFFFF ∧ 31 < entryBits 0x2F4901 ∧
    (stopped.maxReg 0x2F4901 5).reg 0x2F4901 = 5 := by decide +kernel

theorem test_statistics : ((stopped.setReg 0x202009 5).latchOne ⟨0x202009, 0x20200A, 0xFFFFFFFF⟩).reg 0x202009 = 0xFFFFFFFF ∧
    ((stopped.setReg 0x202009 5).latchOne ⟨0x202009, 0x20200A, 0xFFFFFFFF⟩).reg 0x20200A = 5 := by decide +kernel

theorem test_datumEdge : (after (.datumEdge {}) stopped).tick.started = true ∧ (after (.datumEdge {}) stopped).tick.point = .d ∧
    (after (.datumEdge {}) stopped).tick.nextNs = 250000 := by decide +kernel

theorem test_points : (after .closingPoint stopped).tick.point = .c ∧ (after (.computeStart []) stopped).tick.point = .x ∧
    (after .stakingPoint stopped).tick.point = .s ∧ (after .closurePoint stopped).tick.token = true := by decide +kernel

theorem test_points_idle : exec .closingPoint State.reset = .next State.reset ∧ exec .stakingPoint State.reset = .next State.reset ∧
    exec (.datumEdge {}) State.reset = .next State.reset ∧ exec .frameBoundary State.reset = .next State.reset := ⟨rfl, rfl, rfl, rfl⟩

/-- The last tick of a frame, its boundary not yet taken. -/
def lastTick : State :=
  { up [(0x200103, 3999)] with tick := { started := true, nextNs := 250000, boundaryDone := false } }

theorem test_witness_boundary : lastTick.Ok ∧ lastTick.tick.started = true ∧ lastTick.tick.boundaryDone = false ∧
    lastTick.queueErrors.adoptCounts.boundaryNext = true ∧ lastTick.boundaryNext = true ∧ stopped.boundaryNext = false :=
  ⟨ok_of _ (by decide +kernel), by decide +kernel, by decide +kernel, by decide +kernel, by decide +kernel, by decide +kernel⟩

theorem test_frameBoundary : completes .frameBoundary lastTick = true := by decide +kernel

/-- A step of +1000 ns that is pending. -/
def stepping (held : Bool) : State :=
  { lastTick with tick := { lastTick.tick with stepPending := some 1000, stepHeld := held } }

theorem test_stepAbsorbed : (stepping false).Ok ∧ (stepping false).running = true ∧
    (after .stepAbsorbed (stepping false)).tick.nextNs = 251000 ∧ (after .stepAbsorbed (stepping false)).tick.stepPending = none ∧
    exec .stepAbsorbed (stepping true) = .next (stepping true) :=
  ⟨ok_of _ (by decide +kernel), by decide +kernel, by decide +kernel, by decide +kernel, rfl⟩

theorem test_token : { stopped with tick := { token := true } : State }.tick.token = true ∧ stopped.tick.token = false := by decide +kernel

/-! ## Matrix and images -/

/-- A matrix whose one cause trips on input I0.0 with no delay. -/
def matrix1 : Matrix := { causes := [{ inputs := [0], threshold := 0, hysteresis := 0, vote := 1, flags := 3, delay := 0, maxBypass := 60 }] }

def withMatrix : State := { stopped with mtx := { stopped.mtx with active := some matrix1 } }

theorem test_witness_causeTrip : withMatrix.mtx.active = some matrix1 ∧ (matrix1.causes[0]?).isSome = true ∧
    withMatrix.mtx.stopped = false ∧ withMatrix.running = true ∧ completes (.causeTrip 0) withMatrix = true := by decide +kernel

theorem test_bypassExpiry :
    let s := withMatrix.setCauseRt 0 { bypass := some 0 }
    (s.causeRt 0).bypass = some 0 ∧ ((after (.bypassExpiry 0) s).causeRt 0).bypass = none := by decide +kernel

/-- A download of bytes that are no container, an exchange in PREPARING, and a bank record that waits. -/
theorem test_imageEvents :
    let d : State := { stopped with img := { stopped.img with download := some [1, 2, 3] } }
    let e : State := up [(0x210001, 4), (0x220102, 4)]
    let b : State := up [(0x22000B, 0)]
    (after .imageVerificationDone d).img.download = none ∧ (after .imageVerificationDone d).reg 0x220102 = 0 ∧
      (after .imageVerificationDone d).reg 0x22000C ≠ 0 ∧
      (after .preparationLimitExpiry e).reg 0x220103 = 0xD ∧ (after .backgroundTransferDone e).img.bgComplete = true ∧
      (after .bankRecordCommitted b).reg 0x22000B = 1 := by decide +kernel

theorem test_witness_images : (up [(0x210001, 4), (0x220102, 4)]).Ok ∧ (up [(0x22000B, 0)]).Ok ∧
    (up [(0x210001, 4), (0x220102, 4)]).reg 0x220102 = 4 ∧ (up [(0x210001, 4), (0x220102, 4)]).img.bgComplete = false ∧
    (up [(0x22000B, 0)]).reg 0x22000B = 0 ∧ stopped.reg 0x220102 ≠ 4 ∧ stopped.img.download = none :=
  ⟨ok_of _ (by decide +kernel), ok_of _ (by decide +kernel), by decide +kernel, by decide +kernel, by decide +kernel, by decide +kernel, by decide +kernel⟩

/-! ## The pair -/

/-- Unit A of a pair in a role, with both lanes up. -/
def unitA (role : Nat) (pair : PairState := {}) : State :=
  { up [(0x250002, 1), (0x250101, role), (0x250105, 3)] with pair := pair }

theorem test_witness_pair : (unitA 1).Ok ∧ (unitA 2).Ok ∧ (unitA 3).Ok ∧ (unitA 4).Ok ∧ (unitA 1).tieUp = true ∧
    (unitA 1).running = true ∧ (unitA 2).role = 2 :=
  ⟨ok_of _ (by decide +kernel), ok_of _ (by decide +kernel), ok_of _ (by decide +kernel), ok_of _ (by decide +kernel), by decide +kernel, by decide +kernel, by decide +kernel⟩

theorem test_imageFrame :
    let s := { unitA 2 with tick := { point := .d } }
    let f : ImageFrame := { tick := 0, whole := true }
    (after (.imageFrame { f with failed := [0] }) s).pair.image = some { f with failed := [0] } ∧
    (after (.imageFrame { f with failed := [0, 1] }) s).pair.image = none ∧ (after (.imageFrame { f with failed := [0, 1] }) s).reg 0x252009 = 1 ∧
    (after (.imageFrame { f with failed := [1] }) s).reg 0x252007 = 1 ∧ s.beforeX 0 = true ∧ (unitA 2).beforeX 0 = false ∧
    (after (.imageFrame f) s).reg 0x252005 = 0 := by decide +kernel

theorem test_roleStatus : (after (.roleStatusFrame { unit := 2, role := 2, checksum := 0 }) (unitA 1)).reg 0x250102 = 2 ∧
    (after (.roleStatusFrame { unit := 2, role := 2, checksum := 0 }) (unitA 1)).pair.heard = 2 := by decide +kernel

theorem test_outputDigest : (after (.outputDigest 5 ⟨7, []⟩) (unitA 1)).pair.digest = some (5, 7) ∧
    (after (.outputDigest 5 ⟨7, []⟩) (unitA 2)).pair.digest = none := by decide +kernel

theorem test_faultNotice : (after (.faultNotice ⟨0, []⟩) (unitA 1)).reg 0x250102 = 4 ∧
    (after (.faultNotice ⟨0, []⟩) (unitA 2)).pair.change = some { sources := [2], role := 1, kind := 1 } ∧
    (after (.faultNotice ⟨0, []⟩) { unitA 1 with pair := { abdicated := some 0 }, tick := { point := .s } }).pair.abdicated = none ∧
    (after (.outputDigest 0 ⟨7, []⟩) { unitA 1 with pair := { abdicated := some 0 }, tick := { point := .s } }).role = 4 ∧
    (after (.faultNotice ⟨0, []⟩) (unitA 3)).pair.change = none := by decide +kernel

theorem test_fullOutputImage :
    let s := unitA 1 { digest := some (0, 1) }
    s.tick.staked.tick = 0 ∧ s.pair.passed = false ∧ (after (.fullOutputImage 0 ⟨[], []⟩) s).reg 0x252003 = 1 := by decide +kernel

theorem test_writeForward : (unitA 2).standbyRefuses 0x281002 = true ∧ waitsForBoundary 0x281002 = false ∧
    (unitA 2).standbyRefuses 0x200003 = true ∧ waitsForBoundary 0x200003 = true ∧ (unitA 2).standbyRefuses 0x2F6201 = false ∧
    (after (.writeForwardFrame 0x2810 2 ⟨[1], []⟩ ⟨0, 0⟩) (unitA 2)).dict.atClose.length = 1 ∧
    (after (.writeForwardFrame 0x2000 3 ⟨[1, 0], []⟩ ⟨0, 0⟩) (unitA 2)).dict.atBoundary.length = 1 := by decide +kernel

/-- A resynchronisation in one of its steps. -/
def resync (step : Nat) (pair : PairState := {}) : State :=
  { up [(0x250002, 1), (0x250101, 3), (0x250105, 3), (0x25010E, step)] with pair := pair }

theorem test_resyncData : (resync 4).Ok ∧ 4 ≤ (resync 4).reg 0x25010E ∧
    (after (.resynchronisationDataFrame 0 ⟨[1, 2], []⟩) (resync 4)).reg 0x25010E = 5 ∧
    Memory.read (after (.resynchronisationDataFrame 0 ⟨[1, 2], []⟩) (resync 4)).mem 1 = 2 ∧
    (after (.resynchronisationDataFrame 0x80000 ⟨[], []⟩) (resync 5)).mem = [] :=
  ⟨ok_of _ (by decide +kernel), by decide +kernel, by decide +kernel, by decide +kernel, by decide +kernel⟩

theorem test_bankCopy :
    let s := resync 2 { toCopy := [0], partner := some { unit := 2, role := 1, checksum := 0 } }
    s.role = 3 ∧ s.reg 0x25010E = 2 ∧ s.pair.toCopy.contains 0 = true ∧ (heard s).takeStore 0 [1] false = none ∧
      completes (.bankCopyComplete 0 ⟨[1], []⟩ false) s = true := by decide +kernel

theorem test_tieCommands : (after (.tieCommandFrame ⟨.run, []⟩) (unitA 2)).dict.atClose.length = 1 ∧
    (after (.tieCommandFrame ⟨.takeOver, []⟩) (unitA 2)).pair.change = some { sources := [2], role := 1, kind := 3 } ∧
    (after (.tieCommandFrame ⟨.leaveStep false, []⟩) (unitA 2)).pair.change = some { sources := [2], role := 3 } ∧
    (after (.tieCommandFrame ⟨.halt 0, []⟩) (unitA 2)).mode = stHalted ∧
    (after (.tieCommandFrame ⟨.switchOver true, []⟩) (unitA 2)).pair.target = some true ∧
    (after (.tieCommandFrame ⟨.targetFrame 9, []⟩) (unitA 2)).pair.gapMissed = true := by decide +kernel

theorem test_lanes : (after (.tieLinkLaneFail 0) (unitA 1)).reg 0x250105 = 2 ∧
    (after (.tieLinkLaneFail 1) (after (.tieLinkLaneFail 0) (unitA 1))).reg 0x250102 = 0xFF ∧
    (after (.tieLinkLaneUp 0) (after (.tieLinkLaneFail 0) (unitA 1))).reg 0x250105 = 3 ∧ (unitA 1).blockUp 13 = true := by decide +kernel

theorem test_silence :
    let w := { unitA 2 { watch := some 0 } with regs := [(0x200101, 1), (0x210001, 3), (0x250002, 1), (0x250101, 2), (0x250103, 1), (0x250105, 3)] }
    let v := { unitA 2 { watch := some 0 } with regs := [(0x200101, 1), (0x210001, 3), (0x250002, 1), (0x250101, 2), (0x250105, 3)] }
    w.tickNo = 1 ∧ w.on 0x250103 = true ∧ (after .silenceWatchClose w).role = 3 ∧ v.on 0x250103 = false ∧
      (after .silenceWatchClose v).pair.change = some { sources := [2], role := 1, kind := 2 } ∧
      (after (.roleInChange false) w).pair.change = some { sources := [2], role := 1, kind := 2 } := by decide +kernel

theorem test_closureVerdict : completes .closureVerdict (unitA 1 { verdictDue := true }) = true := by decide +kernel

/-- Unit A without its partner, in step 9 of NOT-READY. -/
def alone : State := up [(0x250002, 1), (0x250101, 4), (0x250108, 9)]

theorem test_claim : alone.Ok ∧ alone.inPair = true ∧ alone.running = true ∧ alone.on 0x250103 = false ∧ alone.reached = false ∧
    alone.reg 0x250108 = 9 :=
  ⟨ok_of _ (by decide +kernel), by decide +kernel, by decide +kernel, by decide +kernel, by decide +kernel, by decide +kernel⟩

theorem test_driverTurnOff :
    let s := { unitA 2 with regs := [(0x210001, 3), (0x250002, 1), (0x250101, 2), (0x250103, 1), (0x250105, 3)] }
    s.active = false ∧ s.on 0x250103 = true ∧ (after .driverTurnOff s).dig.holdOverA = true := by decide +kernel

theorem test_resyncEvents : (after .resynchronisationPassComplete (resync 5)).reg 0x25010E = 6 ∧
    (after .resynchronisationLimitExpiry (resync 5)).pair.attempts = 1 ∧
    (after .resynchronisationLimitExpiry (resync 5 { attempts := 2 })).role = 4 := by decide +kernel

/-- The events of the pair do nothing where nothing of their kind is under way. -/
theorem test_pair_still : exec (.causeTrip 1023) stopped = .next stopped ∧ exec (.bypassExpiry 1) withMatrix = .next withMatrix ∧
    exec .silenceWatchClose (unitA 2) = .next (unitA 2) ∧ exec .closureVerdict (unitA 2) = .next (unitA 2) ∧
    exec .claimWaitExpiry stopped = .next stopped ∧ exec .driverTurnOff stopped = .next stopped ∧
    exec .handbackHoldOffExpiry stopped = .next stopped ∧
    exec .resynchronisationPassComplete (unitA 2) = .next (unitA 2) := ⟨rfl, rfl, rfl, rfl, rfl, rfl, rfl, rfl⟩

/-! ## The chain -/

/-- A traverse frame of tick 0 that the outstation of address 1 has answered. -/
def header (direction reflector : Nat) : ChainHeader :=
  { direction := direction, source := 0, station := 7, tick := 0, datumNs := 0, nextNs := 250000, period := 250, flags := 0, slots := 1
    reflector := reflector }

def slot1 : Slot := { address := 1, state := 1, length := 0, status := 0, hop := 1, checksum := 0, payload := [] }

/-- A controller with outstation 1, at D or later in tick 0, and an outstation of address 1. -/
def chain1 (p : Point) : State := { up [(0x260001, 1), (recK 1 1, 1)] with tick := { started := true, point := p } }
def station (more : List (Nat × Nat)) : State :=
  let s := up ([(0x27000C, 7), (0x270001, 1)] ++ more)
  { s with rst := { s.rst with options := { role := 1, address := 1 } } }

theorem test_chain_ok : (chain1 .d).Ok ∧ (station []).Ok := ⟨ok_of _ (by decide +kernel), ok_of _ (by decide +kernel)⟩

theorem test_witness_chain : (chain1 .d).chainMaster = true ∧ (chain1 .c).tick.point ≠ .d ∧ (header 1 0xFE).tick = (chain1 .d).tickNo ∧
    1 ≤ slot1.address ∧ slot1.address ≤ 32 ∧ stopped.chainMaster = false ∧ (station []).forwards = true ∧
    (station []).acceptsFrame (header 0 0) = true ∧ (station []).acceptsFrame { header 0 0 with station := 8 } = false ∧
    stopped.forwards = false := by decide +kernel

theorem test_traverseReturn :
    (after (.traverseFrameReturn (header 1 0xFE) [slot1] true) (chain1 .d)).chain.back1 = some 0xFE ∧
    ((after (.traverseFrameReturn (header 1 0xFE) [slot1] true) (chain1 .d)).outRec 1).rx1.isSome = true ∧
    (after (.traverseFrameReturn (header 0 0) [slot1] false) stopped).reg 0x261003 = 1 ∧
    completes (.traverseFrameReturn (header 1 0xFE) [slot1] true) (chain1 .c) = true := by decide +kernel

theorem test_chainPorts : (after (.chainPortLinkUp 1 1000) stopped).reg 0x260103 = 1 ∧
    (after (.chainPortLinkUp 1 100) stopped).reg 0x260103 = 0 ∧ (after (.chainPortLinkDown 0) stopped).reg 0x260102 = 0 := by decide +kernel

theorem test_outstation :
    (after (.traverseFrame 0 (header 0 0) [slot1]) (station [(0x260102, 1), (0x260103, 1)])).ost.accepted = true ∧
    (after (.stakeFrame 0 (header 0 0) []) (station [])).out = [.forwardFrame 0 { header 0 0 with hops := 1, reflector := 1 } []] ∧
    (after (.stakeFrame 1 (header 0 3) []) (station [])).out = [.forwardFrame 1 { header 0 3 with hops := 1, reflector := 1 } []] ∧
    (after (.stakeFrame 1 (header 0 3) [7]) (station [(0x260102, 1)])).out = [.forwardFrame 0 (header 0 3) [7]] ∧
    (after (.tokenFrame 0 (header 0 0) [] 0) (station [])).ost.tokens = [] := by decide +kernel

theorem test_token_body : (after (.tokenFrame 0 (header 0 0) (leBytes 8 5 ++ leBytes 4 (crc32c (leBytes 8 5))) 300000) (station [])).ost.tokens =
    [⟨0, 0, 250000, 5, 0, true⟩] := by decide +kernel

theorem test_holdLimit :
    let s := { station [(0x270017, 20), (0x270002, 10), (0x270010, 1)] with ost := { accepted := true } }
    s.outstation = true ∧ s.reg 0x270002 ≤ s.reg 0x270017 ∧ (after .holdLimitExpiry s).ost.expired = true ∧
      (after .holdLimitExpiry s).reg 0x270010 = 0 ∧ (after .holdLimitExpiry s).reg 0x270018 = 1 := by decide +kernel

theorem test_chain_still : exec (.foreignFrameDiscard 1) stopped = .next stopped ∧
    exec (.stakeFrame 0 (header 0 0) []) stopped = .next stopped ∧ exec .holdLimitExpiry stopped = .next stopped := ⟨rfl, rfl, rfl⟩

/-! ## Digital channels and slices -/

/-- Channel 0 in a mode, with its stage on and its slice supplied; channel 63 as an output with its open-load test on. -/
def stage (mode : Nat) (more : List (Nat × Nat) := []) : State :=
  up ([(dsl 0 2, 0), (dsl 7 2, 0), (dch 0 1, mode), (dch 0 0xB, 2 ^ bStageOn), (dch 63 1, 4), (dch 63 7, 1)] ++ more)

theorem test_digital_ok : (stage 4).Ok ∧ (stage 1).Ok := ⟨ok_of _ (by decide +kernel), ok_of _ (by decide +kernel)⟩

theorem test_witness_diagnostics : (stage 4).isOutput 0 = true ∧ (stage 4).sliceLow 0 = false ∧ (stage 4).active = true ∧
    (stage 4).chanBit 0 bStageOn = true ∧ (stage 4 [(dch 0 6, 1)]).on (dch 0 6) = true ∧ (stage 1 [(dch 0 3, 1)]).on (dch 0 3) = true ∧
    (stage 1).chanMode 0 = 1 ∧ (stage 5).chanMode 0 = 5 ∧ (stage 4).chanBit 63 bDemag = false := by decide +kernel

theorem test_overload : (after (.overloadDetect 0) (stage 4)).chanBit 0 bOverload = true ∧ (after (.overloadDetect 0) (stage 4)).reg 0x2F4701 = 1 ∧
    (after (.overloadClear 0) (after (.overloadDetect 0) (stage 4))).chanBit 0 bOverload = false := by decide +kernel

theorem test_openload : (after (.openloadOnDetect 0) (stage 4 [(dch 0 6, 1)])).chanBit 0 bOpenOn = true ∧
    (after (.openloadOffDetect 63) (stage 4)).chanBit 63 bOpenOff = true ∧
    (after (.openloadClear 0) (after (.openloadOnDetect 0) (stage 4 [(dch 0 6, 1)]))).chanBit 0 bOpenOn = false := by decide +kernel

theorem test_wirebreak : (after (.wirebreakDetect 0) (stage 1 [(dch 0 3, 1)])).chanBit 0 bWirebreak = true ∧
    (after (.wirebreakClear 0) (after (.wirebreakDetect 0) (stage 1 [(dch 0 3, 1)]))).chanBit 0 bWirebreak = false := by decide +kernel

theorem test_readback :
    let s := (stage 5 [(dch 0 8, 2)]).setDrt 0 { mismatchRun := 2 }
    s.reg (dch 0 8) ≤ (s.drt 0).mismatchRun ∧ (after (.readbackFault 0) s).chanBit 0 bReadback = true := by decide +kernel

theorem test_inputFilter :
    let s := stage 1 [(dch 0 4, 1)]
    let full : State := { s with dig := { s.dig with edges := List.replicate 4 ⟨0, true, 0⟩ } }
    (after (.inputFilterAccept 0 .high 5999) s).dig.edges = [⟨0, true, 5000⟩] ∧
      (after (.inputFilterAccept 0 .high 5999) full).reg (dch 0 0x19) = 1 ∧
      ((after (.inputFilterAccept 0 .high 5999) (stage 1)).drt 0).accepted = true ∧
      completes (.inputFilterAccept 0 .between 0) s = true := by decide +kernel

theorem test_demagEnd : (after (.demagEnd 0 77) (up [(dch 0 0xB, 2 ^ bDemag)])).chanBit 0 bDemag = false ∧
    ((after (.demagEnd 0 77) (up [(dch 0 0xB, 2 ^ bDemag)])).drt 0).demagNs = 77 := by decide +kernel

theorem test_overtemp : Off (after (.overtempTrip 0 9) (stage 4 [(dch 0 0xA, 3)])) 0 ∧
    (after (.overtempTrip 0 9) (stage 4 [(dch 0 0xA, 3)])).chanBit 0 bOtLatched = false ∧
    (after (.overtempTrip 0 9) (stage 4 [(dch 0 0xA, 1)])).chanBit 0 bOtLatched = true ∧
    (after (.tripCountClear 0) (stage 4 [(dch 0 0xE, 3)])).reg (dch 0 0xE) = 0 := by
  unfold Off
  decide +kernel

theorem test_lPlus : (after (.lPlusLowSet 0) (stage 4)).sliceLow 0 = true ∧ Off (after (.lPlusLowSet 0) (stage 4)) 0 ∧
    (after (.lPlusLowClear 0) (after (.lPlusLowSet 0) (stage 4))).sliceLow 0 = false := by
  unfold Off
  decide +kernel

theorem test_sliceOc : (after (.sliceOcTrip 0) (stage 4)).sliceOc 0 = true ∧ Off (after (.sliceOcTrip 0) (stage 4)) 0 := by
  unfold Off
  decide +kernel

theorem test_holdLatch :
    let s := { stage 4 with dig := { everReleased := true, holdEdges := 60000 } }
    s.holdLimit ≤ s.dig.holdEdges ∧ (after (.holdLatchLimitExpiry 0) s).dig.holdOverA = true ∧
      (after (.holdLatchLimitExpiry 0) s).chanBit 0 bStageOn = false := by decide +kernel

theorem test_digital_still : exec (.overloadDetect 1) (stage 4) = .next (stage 4) ∧ exec (.demagEnd 0 1) (stage 4) = .next (stage 4) ∧
    exec (.overtempTrip 0 1) (stage 1) = .next (stage 1) ∧ exec (.tripCountClear 1) (stage 4) = .next (stage 4) ∧
    exec (.lPlusLowClear 0) (stage 4) = .next (stage 4) ∧ exec (.holdLatchLimitExpiry 1) (stage 4) = .next (stage 4) ∧
    exec (.openloadOnDetect 0) (stage 1) = .next (stage 1) ∧ exec (.openloadOffDetect 0) (stage 4) = .next (stage 4) ∧
    exec (.wirebreakDetect 0) (stage 4) = .next (stage 4) ∧ exec (.readbackFault 0) (stage 4) = .next (stage 4) :=
  ⟨rfl, rfl, rfl, rfl, rfl, rfl, rfl, rfl, rfl, rfl⟩

/-! ## Analog channels and HART -/

/-- Channel 0 in a mode. -/
def ana (r : AnalogRt) (more : List (Nat × Nat) := []) : State := (up more).setArt 0 r

theorem test_analog_ok : (ana { modeInForce := 2 }).Ok ∧ (ana {} [(ach 0 8, 2 ^ bMiswire)]).Ok :=
  ⟨ok_of _ (by decide +kernel), ok_of _ (by decide +kernel)⟩

theorem test_limit : (ana { modeInForce := 2 }).anaMode 0 = 2 ∧ (after (.limitDetect 0) (ana { modeInForce := 2 })).anaBit 0 bLimit = true ∧
    (after (.limitClear 0) (after (.limitDetect 0) (ana { modeInForce := 2 }))).anaBit 0 bLimit = false ∧
    (after (.analogOvertempTrip 0) (ana { modeInForce := 2 })).anaBit 0 bAnaOvertemp = true := by decide +kernel

theorem test_compliance :
    let s := ana { modeInForce := 3, shortRun := 3 }
    s.active = true ∧ (after (.complianceSet 0) s).anaBit 0 bCompliance = true ∧ (after (.complianceSet 0) s).anaBit 0 bAlarmUnsure = true ∧
      (after (.complianceClear 0) (ana { modeInForce := 3, fullRun := 3 } [(ach 0 8, 24)])).anaBit 0 bCompliance = false ∧
      (after (.analogOvertempTrip 0) s).anaBit 0 bAnaOvertemp = true := by decide +kernel

theorem test_miswire : ((after (.miswireDetect 0) (ana { modeInForce := 1 })).art 0).isolated = true ∧
    (after (.miswireProbe 0 true) (ana { probes := 9 } [(ach 0 8, 2 ^ bMiswire)])).anaBit 0 bMiswire = false ∧
    ((after (.miswireProbe 0 true) (ana { probes := 8 } [(ach 0 8, 2 ^ bMiswire)])).art 0).probes = 9 ∧
    ((after (.miswireProbe 0 false) (ana { probes := 8 } [(ach 0 8, 2 ^ bMiswire)])).art 0).probes = 0 := by decide +kernel

theorem test_modeChange :
    let s := { ana { modeInForce := 1, pendingMode := some 3 } [(ach 0 8, 2 ^ bModePending)] with tick := { point := .d } }
    (s.art 0).pendingMode = some 3 ∧ s.anaBusy 0 = false ∧ (after (.analogModeChangeApplied 0) s).anaMode 0 = 3 ∧
      (after (.analogModeChangeApplied 0) s).anaBit 0 bModePending = false := by decide +kernel

theorem test_supply :
    let s := ana { modeInForce := 1 } [(0x290102, 0)]
    s.reg 0x290102 ≠ 1 ∧ (after (.supplySet 0) s).reg 0x290102 = 1 ∧ (after (.supplySet 0) s).anaBit 0 bSupply = true ∧
      (after (.supplyClear 0) (after (.supplySet 0) s)).anaBit 0 bSupply = false := by decide +kernel

/-- A transaction of channel 0 is under way, with retries left. -/
def talking (tries : Nat) (how : HartEnding := .none) (n : Nat := 0) : State :=
  let s := ana { modeInForce := 1, hartNow := some { tag := 5, frame := [2, 128, 0, 0] }, hartTries := tries, hartEnd := how } [(hch 0 1, 1), (hch 0 2, 1), (hch 0 4, 2)]
  { s with ana := { s.ana with responses := List.replicate n [] } }

theorem test_hart_ok : (talking 1).Ok := ok_of _ (by decide +kernel)

theorem test_hart_response : (talking 1).ownMaster 0 [6, 128] = true ∧ (talking 1).ownMaster 0 [6, 0] = false ∧
    ¬ (([6, 128] : List Byte).getD 0 0).toNat % 8 = 1 ∧ (([1] : List Byte).getD 0 0).toNat % 8 = 1 ∧
    (after (.hartResponseFrame 0 [6, 128] true 2500) (talking 1)).ana.responses = [[0, 5, 0, 1, 3, 0, 0, 0, 6, 128]] ∧
    ((after (.hartResponseFrame 0 [6, 128] true 2500) (talking 1)).art 0).hartNow = none := by decide +kernel

theorem test_hart_retry : ((after (.hartResponseTimeout 0 1) (talking 1)).art 0).hartTries = 2 ∧
    (after (.hartResponseTimeout 0 1000) (talking 3)).ana.responses = [[0, 5, 1, 3, 1, 0, 0, 0]] ∧
    (after (.hartResponseFrame 0 [] false 1000) (talking 3)).reg (hch 0 0xD) = 1 ∧
    (after (.hartResponseTimeout 0 1000) (talking 3 .none 32)).reg 0x299005 = 1 ∧
    ((after (.hartResponseTimeout 0 1) (talking 1 .command)).art 0).hartNow = none := by decide +kernel

theorem test_hart_burst : (after (.hartBurstFrame 0 [1, 2]) (talking 1)).blob (hch 0 0xA) = [1, 2] ∧
    (after (.hartBurstFrame 0 [1, 2]) (talking 1)).reg (hch 0 9) = 1 := by decide +kernel

theorem test_analog_still : exec (.limitDetect 0) stopped = .next stopped ∧ exec (.complianceSet 0) stopped = .next stopped ∧
    exec (.complianceClear 0) stopped = .next stopped ∧ exec (.miswireDetect 0) stopped = .next stopped ∧
    exec (.miswireProbe 0 true) stopped = .next stopped ∧ exec (.analogModeChangeApplied 0) stopped = .next stopped ∧
    exec (.hartBurstFrame 0 []) stopped = .next stopped ∧ exec (.hartResponseTimeout 0 1) stopped = .next stopped ∧
    exec (.analogOvertempTrip 0) stopped = .next stopped := ⟨rfl, rfl, rfl, rfl, rfl, rfl, rfl, rfl, rfl⟩

/-! ## Time -/

/-- Time port 0 on with its link up, and port 2. -/
def ports (more : List (Nat × Nat) := []) : State := up ([(tp 0 1, 1), (tp 0 2, 1), (tp 0 0xC, 1000), (tp 2 1, 1), (tp 2 0xC, 1000)] ++ more)

def sync0 : PtpEvent := { domain := ports.reg 0x2A0001, source := 1, sequence := 2, twoStep := true, originNs := 0, rxNs := 5 }

def announce0 : Announce :=
  { domain := ports.reg 0x2A0001, source := 1, identity := 9, priority1 := 1, clockClass := 6, accuracy := 0, variance := 0, priority2 := 0
    stepsRemoved := 0, utcOffset := 37, utcValid := true, timescalePtp := true, minorVersion := 1 }

theorem test_ports_ok : ports.Ok := ok_of _ (by decide +kernel)

theorem test_witness_ptp : ports.hears 0 sync0.domain 1 false = true ∧ ports.hears 1 sync0.domain 1 false = false ∧
    ports.hears 2 sync0.domain 1 false = true ∧ ports.hears 0 sync0.domain 1 true = false ∧
    (ports.prt 0).sync = none ∧ (ports.prt 0).master = none ∧ ports.outstation = false ∧ false = (ports.reg (tp 0 2) == 2) := by decide +kernel

theorem test_ptpSync : ((after (.ptpSync 0 sync0) ports).prt 0).sync = some sync0 ∧ (after (.ptpSync 0 sync0) ports).reg (tp 0 0xF) = 1 ∧
    completes (.ptpFollowUp 0 sync0) (after (.ptpSync 0 sync0) ports) = true ∧
    completes (.ptpSync 0 { sync0 with twoStep := false }) ports = true := by decide +kernel

theorem test_ptpAnnounce : ((after (.ptpAnnounce 0 announce0) ports).prt 0).master = some announce0 ∧
    ((after (.ptpAnnounce 0 { announce0 with source := 2, priority1 := 0 }) (after (.ptpAnnounce 0 announce0) ports)).prt 0).master =
      some { announce0 with source := 2, priority1 := 0 } ∧
    ((after (.ptpAnnounce 0 { announce0 with source := 2, priority1 := 2 }) (after (.ptpAnnounce 0 announce0) ports)).prt 0).master =
      some announce0 := by decide +kernel

theorem test_ptpDelay : completes (.ptpDelayExchange 0
    { domain := ports.reg 0x2A0001, peer := false, t1 := 1000, t2 := 2000, t3 := 2100, t4 := 1300 }) ports = true := by decide +kernel

theorem test_witness_servo : stopped.time.measured = false ∧ stopped.running = true ∧ State.reset.running = false ∧
    1000 < ((1001 : Int)).natAbs ∧ ({ stopped with time := { measured := true, inRun := 15 } } : State).tu ≠ tuStep ∧
    (up [(0x2A0101, 2)]).tu = tuLocked ∧ (up [(0x2A0101, 4)]).tu = tuStep ∧ within stopped 0 ∧ ¬ within stopped 1000000 := by
  unfold within
  decide +kernel

theorem test_firstStep : (stopped.measure 1001).tick.stepPending = some (-1001) ∧ (stopped.measure 1001).time.measured = true ∧
    (after .holdoverEntry (up [(0x2A0101, 1)])).tu = tuHoldover := by decide +kernel

theorem test_delayRequest : (after (.delayRequestTransmit 0 7) (ports)).out.length = 1 ∧
    ((after (.delayRequestTransmit 0 7) ports).prt 0).delayAge = 17 := by decide +kernel

theorem test_plantPorts : ports.bestPort ≠ some 0 ∧ (after (.plantPortLinkDown 0) ports).reg (tp 0 0xC) = 0 ∧ ports.blockUp 8 = true ∧
    (after (.plantPortLinkUp 1 100) ports).reg (tp 1 0xC) = 100 ∧
    (after (.plantPortLinkDown 0) (after (.ptpAnnounce 0 announce0) ports)).bestPort = none := by decide +kernel

theorem test_pps : (after .ppsOutPulse (up [(0x2A000A, 1), (0x2A0009, 100)])).out = [.ppsPulse 1 100 true] ∧
    (after .ppsOutPulse (up [(0x2A000A, 2), (0x2A0009, 100)])).out = [.ppsPulse 1 100 false] ∧ (after .ppsOutPulse stopped).tick.nowNs = 1000000000 ∧
    (after (.ppsInEdge 2000000003) (up [(0x2A3004, 1)])).regI 0x2A3002 = 3 ∧
    (after (.ppsInEdge 2000000003) (up [(0x2A3004, 1)])).reg 0x2A3003 = 1 := by decide +kernel

theorem test_chainSync : (after (.chainSyncTransmit 5) (up [(0x260102, 1), (0x260103, 1)])).out.length = 2 ∧
    (after .chainAnnounceTransmit (up [(0x260102, 1), (0x260103, 0)])).out.length = 1 ∧ stopped.active = true := by decide +kernel

theorem test_time_still : exec (.ptpUnsupportedMessage 0) ports = .next ports ∧ exec (.ptpSync 1 sync0) ports = .next ports ∧
    exec (.ptpFollowUp 0 sync0) ports = .next ports ∧ exec .holdoverEntry stopped = .next stopped ∧
    exec (.ppsInEdge 0) (up [(0x2A3004, 0)]) = .next (up [(0x2A3004, 0)]) ∧
    exec .chainAnnounceTransmit State.reset = .next State.reset := ⟨rfl, rfl, rfl, rfl, rfl, rfl⟩

/-! ## The keeper -/

/-- The keeper unlocked on VSUP. -/
def keeper (k : KeeperState) (more : List (Nat × Nat) := []) : State := { up more with keep := k }

theorem test_keeper_ok : (keeper { locked := false }).Ok := ok_of _ (by decide +kernel)

theorem test_temperature : completes (.keeperTemperatureSample 0x190000) (keeper { locked := false }) = true ∧
    (keeper {}).bit (ks 1) bCalEnd = false ∧ (0 : Nat) + 32768 * 16 ≤ lastClock ∧ lastClock < lastClock + 32768 := by decide +kernel

theorem test_discipline :
    let s := { keeper { locked := false } [(0x210001, 4), (0x2A0101, 2), (0x2B0002, 1)] with tick := { nowNs := 100000000000 } }
    s.disciplined = true ∧ s.keep.locked = false ∧ s.tu = tuLocked ∧ (after .discipline s).keep.clock = s.utcClock ∧
      s.bit (ks 1) bCalEnd = false := by decide +kernel

theorem test_calendarEnd : (after .calendarEnd (keeper {})).keep.clock = lastClock ∧ (after .calendarEnd (keeper {})).bit (ks 1) bCalEnd = true := by
  decide +kernel

theorem test_wake : (after .keeperWake (keeper { wakeInterval := 60 })).bit (ks 1) bWakeN = true ∧
    (after .keeperWake (keeper { wakeInterval := 60 })).reg 0x2B1102 = 1 ∧
    (after .keeperWake (after .keeperWake (keeper { wakeInterval := 60 }))).reg 0x2B1103 = 1 := by decide +kernel

theorem test_supplies : (after .switchToVbat (keeper { locked := false })).keep.locked = true ∧ (after .switchToVbat (keeper {})).reg (ks 9) = 1 ∧
    (after (.switchToMain 33) (keeper { onVbat := true })).reg (ks 0xA) = 33 ∧ (after .retentionLost (keeper { onVbat := true })).keep.lost = true ∧
    (after .keeperInterfaceLock (keeper { locked := false })).keep.locked = true := by decide +kernel

theorem test_unlock : (after .keeperInterfaceUnlock (keeper { locked := true })).keep.locked = false ∧
    (after .keeperInterfaceUnlock (keeper { locked := true })).reg (ks 0xB) = 0 ∧
    (after .keeperInterfaceUnlock (keeper { locked := true, header := [] })).reg (ks 0xB) = 2 ∧
    (after .keeperInterfaceUnlock (keeper { locked := true, lost := true })).keep.clock = lostClock := by decide +kernel

theorem test_keeper_still : exec .discipline stopped = .next stopped ∧ exec .keeperWake (keeper {}) = .next (keeper {}) ∧
    exec .switchToVbat (keeper { onVbat := true }) = .next (keeper { onVbat := true }) ∧
    exec (.switchToMain 1) (keeper {}) = .next (keeper {}) ∧
    exec .keeperInterfaceUnlock (keeper { locked := false }) = .next (keeper { locked := false }) := ⟨rfl, rfl, rfl, rfl, rfl⟩


/-! ## CAN, CANopen and sentences -/

/-- CAN 0 in normal operation. -/
def can (r : CanRt) (more : List (Nat × Nat) := []) : State := { up ((cc 0 1, 1) :: more) with can := [(0, r)] }

/-- A base frame of two bytes. -/
def frame0 : CanFrame := { ident := 0x123, data := [1, 2] }

/-- A record of that frame. -/
def rec0 : CanRecord := ⟨frame0, 0, 7⟩

/-- A full queue. -/
def full (q : Nat) : List (Nat × CanRecord) := List.replicate 64 (q, rec0)

theorem test_can_ok : (can {} [(cc 0 0x18, 1)]).Ok ∧ (can { rxq := full 0 }).Ok := ⟨ok_of _ (by decide +kernel), ok_of _ (by decide +kernel)⟩

/-- R333 to R335, R337: default action 1 queues the frame with no filter; action 0 discards and counts it. -/
theorem test_frameReceived : ((after (.canFrameReceived 0 frame0 7) (can {} [(cc 0 0x18, 1)])).crt 0).rxq = [(0, ⟨frame0, 0xFFFF, 7⟩)] ∧
    (after (.canFrameReceived 0 frame0 7) (can {} [(cc 0 0x18, 2)])).reg (cst 0 1) = 1 ∧
    (after (.canFrameReceived 0 frame0 7) (can {})).reg (cw 0 8) = 1 ∧ (can {}).openTakes 0 frame0 = false ∧
    (can {}).bit (cc 0 3) (formatBit 0) = true ∧ lengthOk 0 2 = true := by decide +kernel

/-- R337, R339: a frame beyond 64 waits in the shadow of a held window, or is lost and counted. -/
theorem test_fullQueue : ((after (.canFrameReceived 0 frame0 7) (can { rxq := full 0, held0 := true } [(cc 0 0x18, 1)])).crt 0).shadow0.isSome = true ∧
    (after (.canFrameReceived 0 frame0 7) (can { rxq := full 0 } [(cc 0 0x18, 1)])).reg (cst 0 9) = 1 ∧
    (after (.canFrameReceived 0 frame0 7) (can { rxq := full 1 } [(cc 0 0x18, 2)])).reg (causeOf 11) = 8 := by decide +kernel

theorem test_openTakes : (can {} [(cc 0 2, 1), (cc 0 0xE, 5)]).openTakes 0 { frame0 with ident := 0x605 } = true ∧
    completes (.canFrameReceived 0 { frame0 with ident := 0x605 } 7) (can {} [(cc 0 2, 1), (cc 0 0xE, 5)]) = true := by decide +kernel

/-- R335: an FD frame holds up to 64 bytes, a classic one up to 8. -/
theorem test_fdFrame : lengthOk 2 64 = true ∧ lengthOk 0 9 = false ∧
    completes (.canFrameReceived 0 { frame0 with format := 2, data := List.replicate 12 0 } 0) (can {} [(cc 0 3, 7)]) = true := by decide +kernel

theorem test_frameSent : (after (.canFrameSent 0) (can { txq := [{ frame := frame0 }] })).out = [.canFrame 0 frame0] ∧
    ((after (.canFrameSent 0) (can { txq := [{ frame := frame0 }] })).crt 0).txq = [] ∧
    (after (.canFrameSent 0) (can { txq := [{ frame := frame0 }] })).reg (cst 0 3) = 1 ∧
    ((after (.canFrameSent 0) (can { txq := [{ tpdo := some 3, frame := frame0 }] })).tpdo 3).lastSent = some [1, 2] := by decide +kernel

theorem test_busOff : (after (.canBusOff 0) (can { txq := [{ frame := frame0 }] })).canBit 0 bBusOff = true ∧
    ((after (.canBusOff 0) (can { txq := [{ frame := frame0 }] })).crt 0).txq = [] ∧ (after (.canBusOff 0) (can {})).reg (causeOf 11) = 1 ∧
    (after (.busOffRecoveryEnd 0) (after (.canBusOff 0) (can {} [(cc 0 0x11, 1)]))).canBit 0 bBusOff = false := by decide +kernel

/-- R332: 16 transmit errors reach 128, error-passive; 32 reach 256, bus-off. -/
theorem test_errors : (after (.canProtocolError 0 .transmit) (can {} [(cc 0 0x1A, 120)])).canBit 0 bErrorPassive = true ∧
    (after (.canProtocolError 0 .transmit) (can {} [(cc 0 0x1A, 248)])).canBit 0 bBusOff = true ∧
    (after (.canProtocolError 0 .receivePrimary) (can {} [(cc 0 0x1A, 0x60000)])).recCount 0 = 14 ∧
    (after (.canProtocolError 0 .transmitOk) (can {} [(cc 0 0x1A, 3)])).tecCount 0 = 2 ∧
    (after (.canProtocolError 0 .receiveOk) (can {} [(cc 0 0x1A, 0x30000)])).recCount 0 = 2 ∧
    (after (.canErrorPassive 0) (can {})).reg (causeOf 11) = 2 := by decide +kernel

theorem test_receiveOk : completes (.canProtocolError 0 .receiveOk) (can {} [(cc 0 0x1A, 0x900000)]) = true := by decide +kernel

theorem test_can_still : exec (.canFrameReceived 0 frame0 0) stopped = .next stopped ∧ exec (.canFrameSent 0) (can {}) = .next (can {}) ∧
    exec (.canBusOff 0) stopped = .next stopped ∧ exec (.canProtocolError 0 .transmit) stopped = .next stopped ∧
    exec (.canErrorPassive 0) stopped = .next stopped ∧ exec (.busOffRecoveryEnd 0) stopped = .next stopped := ⟨rfl, rfl, rfl, rfl, rfl, rfl⟩

/-- The CANopen device on CAN 0, operational, with RPDO 0 of two bytes from a SYNC and TPDO 0 on its event timer. -/
def device (r : Nat) : State :=
  { can {} [(0x2C0801, 0), (cc 0 2, 2), (cc 0 0xE, 5), (0x2C4001, 0x00200000), (0x140001, 0x205), (0x140002, r),
      (0x2C4101, 0x00200010), (0x180001, 0x185), (0x180002, 254), (0x180005, 100), (0x101700, 1000)] with
    open_ := { stopped.open_ with nmt := .operational } }

theorem test_nmt : (device 0).nmtHere 5 = true ∧ (device 0).nmtHere 0 = true ∧ (device 0).nmtHere 6 = false ∧
    (after (.nmtStopRemoteNode 5) (device 0)).open_.nmt = .stopped ∧ (after (.nmtEnterPreOperational 0) (device 0)).open_.nmt = .preOperational ∧
    (after (.nmtStartRemoteNode 5) (after (.nmtStopRemoteNode 0) (device 0))).open_.nmt = .operational := by decide +kernel

theorem test_device_ok : (device 0).Ok := ok_of _ (by decide +kernel)

/-- R345: data that came before the SYNC becomes ready with it; type 254 needs none; a wrong length is counted. -/
theorem test_rpdo : (device 0).operational = true ∧ (device 0).deviceRuns = true ∧ (device 0).rpdoOn 0 = true ∧ (placement ((device 0).reg (keyOf 0x2C40 1))).2 = 2 ∧
    ((after .syncReceived (after (.rpdoReceived 0 [1, 2]) (device 0))).rpdo 0).ready = some [1, 2] ∧
    ((after (.rpdoReceived 0 [1, 2]) (device 254)).rpdo 0).ready = some [1, 2] ∧
    (after (.rpdoReceived 0 [1]) (device 0)).reg 0x2C0806 = 1 ∧ (after .syncReceived (device 0)).reg 0x2C0805 = 1 := by decide +kernel

theorem test_tpdo : ((after (.tpdoEventTimerExpiry 0) (device 0)).tpdo 0).expired = true ∧ (device 0).tpdoOn 0 = true ∧
    (after .heartbeatProducerExpiry (device 0)).out = [.heartbeat 5] ∧ (device 0).canopen = some 0 := by decide +kernel

/-- CAN 0 on NMEA 2000 with an address claimed. -/
def nmea (own : Nat) : State := can { claimed := true } [(cc 0 2, 3), (cc 0 0x1B, 30), (cc 0 0xF, own)]

/-- R348: the lower NAME keeps the address; the other, if its NAME says that it can, takes the next free one. -/
theorem test_addressClaim : (after (.requestForAddressClaim 0) (nmea 7)).out = [.addressClaim 0 30 7] ∧
    (after (.addressClaimReceived 0 30 9) (nmea 7)).reg (cc 0 0x1B) = 30 ∧ (after (.addressClaimReceived 0 30 3) (nmea 7)).reg (cc 0 0x1B) = 254 ∧
    (after (.addressClaimReceived 0 30 3) (nmea (2 ^ 63 + 7))).reg (cc 0 0x1B) ≠ 30 ∧
    ((after (.addressClaimReceived 0 31 3) (nmea 7)).crt 0).others = [(3, 31)] ∧
    ((can { claimed := true } [(cc 0 2, 3)]).protocol 0 = 3) := by decide +kernel

theorem test_canopen_still : exec .syncReceived stopped = .next stopped ∧ exec (.rpdoReceived 0 [1]) stopped = .next stopped ∧
    exec (.tpdoEventTimerExpiry 0) stopped = .next stopped ∧ exec .heartbeatProducerExpiry stopped = .next stopped ∧
    exec (.heartbeatConsumerExpiry 1) (device 0) = .next (device 0) ∧ exec (.nmtStopRemoteNode 6) (device 0) = .next (device 0) ∧
    exec (.requestForAddressClaim 0) stopped = .next stopped ∧ exec (.addressClaimReceived 0 30 9) stopped = .next stopped :=
  ⟨rfl, rfl, rfl, rfl, rfl, rfl, rfl, rfl⟩

/-- Sentence path 0 enabled. -/
def line0 (more : List (Nat × Nat) := []) (x : SentRt := {}) : State := { up ((sp 0 1, 1) :: more) with sent := { paths := [(0, x)] } }

/-- `$A*41`: the exclusive or of the characters between $ and * is 41h. -/
def body0 : List Byte := [0x24, 0x41, 0x2A, 0x34, 0x31]

theorem test_sentence : lineOk body0 = true ∧ lineChecksum body0 = some true ∧ lineChecksum [0x24, 0x41, 0x2A, 0x34, 0x32] = some false ∧
    lineChecksum [0x24, 0x41] = none ∧ (after (.sentenceReceived 0 body0 false 9) (line0 [(sp 0 9, 0)])).reg 0x2C9001 = 1 ∧
    ((after (.sentenceReceived 0 body0 false 9) (line0 [(sp 0 9, 0)])).srt 0).imageQ = [⟨0, 9, body0, true, false⟩] ∧
    (after (.sentenceReceived 0 body0 true 9) (line0)).reg 0x2C9005 = 1 ∧
    (after (.sentenceReceived 0 [0x24, 0x41, 0x2A, 0x34, 0x32] false 9) (line0)).reg 0x2C9003 = 1 ∧
    (after (.sentenceReceived 0 [0x24, 0x41] false 9) (line0 [(sp 0 4, 1)])).reg 0x2C9003 = 1 := by decide +kernel

theorem test_sentence_ok : (line0).Ok ∧ (line0 [(sp 0 4, 1), (sp 0 9, 0)]).Ok := ⟨ok_of _ (by decide +kernel), ok_of _ (by decide +kernel)⟩

theorem test_sentenceSent : (after (.sentenceTransmitted 0) (line0 [] { tx := [body0] })).out = [.sentence 0 body0] ∧
    ((after (.sentenceTransmitted 0) (line0 [] { tx := [body0] })).srt 0).tx = [] := by decide +kernel

/-- The datagram path with group 0 selected on both plant ports. -/
def group : State := up [(sp 4 1, 1), (0x2C8801, 3), (keyOf 0x2C88 5, 1)]

/-- R354: "UdPbC", a zero, a tag block with a key and a line; the same key at the other plant port within 100 ms is dropped.
-/
theorem test_datagram :
    let d := udpbc ++ body0 ++ [13, 10]
    (group.running && group.on (sp 4 1) && group.blockUp 8 && group.bit 0x2C8801 0 && group.reg (keyOf 0x2C88 5) != 0) = true ∧
    udpbc.length = 6 ∧ (after (.datagram61162450 0 0 d 5) group).reg 0x2C9401 = 1 := by decide +kernel

theorem test_sentences_still : exec (.sentenceReceived 0 body0 false 0) stopped = .next stopped ∧ exec (.sentenceTransmitted 0) stopped = .next stopped ∧
    exec (.datagram61162450 0 0 [] 0) stopped = .next stopped := ⟨rfl, rfl, rfl⟩

/-! ## The level book and the panel -/

/-- A record with 16 bins at 0, of width 10 from 0. -/
def rec16 : BookRecord := { bins := List.replicate 16 0, width := 10 }

/-- R397: bin 0 takes what lies below the origin, bin 15 what lies above, bin k + 1 the k-th interval. -/
theorem test_bins : (rec16.add 25 1 1).bins.getD 3 0 = 1 ∧ (rec16.add (-1) 1 1).bins.getD 0 0 = 1 ∧ (rec16.add 140 1 1).bins.getD 15 0 = 1 ∧
    (rec16.add 139 1 1).bins.getD 14 0 = 1 ∧ (rec16.add 25 1 1).max = 25 ∧ binSum rec16 = 0 := by decide +kernel

/-- A module whose level book runs, with what it keeps of code 3. -/
def book (b : BookRt) : State :=
  { up [(0x2D0101, 700), (0x2D0102, 2)] with regs := (up [(0x2D0101, 700), (0x2D0102, 2)]).regs.filter (fun x => x.1 != 0x2D0001)
                                             book := { codes := [(3, b)] } }

theorem test_commit : completes (.levelBookCommitDue 3) (book { dirty := true }) = true ∧
    (after (.levelBookCommitDone 3 false) (book { due := true })).reg 0x2D0107 = 3 ∧
    ((after (.levelBookCommitDone 3 false) (book { due := true })).bookRt 3).retry = true ∧
    (after (.levelBookCommitDone 3 true) (book { due := true })).reg 0x2D0108 = 1 ∧
    ((after (.levelBookCommitDone 3 true) (book { due := true })).bookRt 3).due = false ∧
    (after (.commitRetryExpiry 3) (book { retry := true })) = { book { retry := true } with book := { codes := [(3, { due := true })] } } :=
  ⟨by decide +kernel, by decide +kernel, by decide +kernel, by decide +kernel, by decide +kernel, rfl⟩

theorem test_commitDue : ∃ s : State, s.bookRuns = true ∧ (s.bookRt 3).dirty = true ∧ (s.bookRt 3).retry = false ∧
    max (s.bookRt 3).lastCommit s.book.startSec + s.commitInterval 3 ≤ s.opSeconds ∧ s.Ok :=
  ⟨{ up [(0x2D0001, 1), (0x2D0101, 70000)] with book := { codes := [(3, { dirty := true })] } }, by decide +kernel, by decide +kernel,
    by decide +kernel, by decide +kernel, ok_of _ (by decide +kernel)⟩

theorem test_second : (after (.operatingSecond {}) (up [(0x2D0101, 599)])).reg 0x2D0101 = 600 ∧
    (after (.operatingSecond {}) (up [(0x2D0101, 599)])).book.headerSec = 600 ∧
    (after (.operatingSecond { lplus := [24000] }) (up [])).reg (dsl 0 1) = 24000 ∧
    (after (.operatingSecond {}) (keeper { locked := false })).reg 0x2B2004 = 1 := by decide +kernel

theorem test_book_still : exec (.operatingSecond {}) State.reset = .next State.reset ∧ exec (.levelBookCommitDue 3) stopped = .next stopped ∧
    exec (.levelBookCommitDone 3 true) stopped = .next stopped ∧ exec (.commitRetryExpiry 3) stopped = .next stopped := ⟨rfl, rfl, rfl, rfl⟩

/-- A module whose panel is in a state. -/
def panel (st : Nat) (p : PanelState) (more : List (Nat × Nat) := []) : State := { up ((ps 1, st) :: (0x2E0001, 1) :: more) with panel := p }

/-- A rectangle of 8 by 1 in its last scan but one. -/
def flying : Rect := { request := ⟨0, 0, 8, 1, 0, 7, false, false⟩, slot := 0, mode := 0, band := 0, ext := 0, n := 2, total := 2, scan := 0, table := [] }

theorem test_panel_ok : (panel psFault {}).Ok ∧ (panel psRising { railEnable := true }).Ok := ⟨ok_of _ (by decide +kernel), ok_of _ (by decide +kernel)⟩

theorem test_railFault : (after .railFault (panel psScan { railEnable := true, railOk := true, flight := [flying] })).reg (ps 9) = 1 ∧
    (after .railFault (panel psScan { railEnable := true, flight := [flying] })).panel.flight = [] ∧
    (after .railFault (panel psScan { railEnable := true })).panelState = psFault ∧
    (after .railUpTimeout (panel psRising { railEnable := true })).reg (causeOf 14) = 8 ∧
    (after .prailOkAsserted (panel psRising { railEnable := true })).panel.railOk = true := by decide +kernel

/-- R413: the rails stand after the delay and scanning begins; a request to disable that came meanwhile lowers them. -/
theorem test_rails : (after .railUpDelayExpiry (panel psRising { railEnable := true, railOk := true })).panelState = psScan ∧
    (after .railUpDelayExpiry (panel psRising { railEnable := true, railOk := true } [(ps 2, 2)])).panelState = psFalling ∧
    (after .railHoldExpiry (panel psScan { railEnable := true, railOk := true, driving := true })).panelState = psFalling ∧
    (after .railDownDelayExpiry (panel psFalling { railEnable := true, railOk := true } [(ps 2, 2)])).panelState = psDown ∧
    (after .railFaultRetry (panel psFault { tilesKnown := [3], started := true } [(ps 2, 32)])).panelState = psRising := by decide +kernel

theorem test_scanBoundary : (after .scanBoundary (panel psScan { railEnable := true, driving := true } [(ps 2, 2)])).panelState = psFalling ∧
    (after .scanBoundary (panel psScan { railEnable := true, driving := true, flight := [flying] } [(ps 2, 2)])).panel.flight.length = 1 ∧
    (after .scanBoundary (panel psDown {} [(ps 2, 1), (0x2E0001, 0)])).reg 0x2E0001 = 1 ∧
    (after .stressCounterCommit (panel psDown { stress := [(3, 4)] })).panel.stressStored = [(3, 4)] := by decide +kernel

theorem test_panel_still : exec .railFault stopped = .next stopped ∧ exec .prailOkAsserted stopped = .next stopped ∧
    exec .railUpTimeout stopped = .next stopped ∧ exec .railUpDelayExpiry stopped = .next stopped ∧ exec .railFaultRetry stopped = .next stopped ∧
    exec .railHoldExpiry stopped = .next stopped ∧ exec .railDownDelayExpiry stopped = .next stopped := ⟨rfl, rfl, rfl, rfl, rfl, rfl, rfl⟩

/-! ## Reset and start -/

/-- Every source completes; the reset itself opens a challenge of an open value. -/
theorem test_sources : completes .rstNAsserted stopped = true ∧ completes .vsupBrownOut stopped = true ∧ completes .coreBrownOut stopped = true ∧
    completes .supervisorWatchdogExpiry stopped = true ∧ completes .supervisorLockstepMismatch stopped = true ∧
    completes .thermalReset stopped = true ∧ completes .debugReset (up [(0x2F3001, 0)]) = true ∧ completes .powerOnReset stopped = true ∧
    completes (.nmtResetNode 5) (device 0) = true ∧ completes (.nmtResetCommunication 0) (device 0) = true ∧
    completes (.clockMonitorFault .refclk) stopped = true := by decide +kernel

/-- R436: a reset in progress gives way to a more extensive one only. -/
theorem test_escalation :
    let s (l : Nat) := { up [(0x2F0002, 9)] with rst := { stopped.rst with progress := some l } }
    (after .vsupBrownOut (s 1)).rst.progress = some 0 ∧ (after .rstNAsserted (s 0)).rst.progress = some 0 ∧
    (after .rstNAsserted (s 0)).reg 0x2F0002 = 9 ∧ (after .rstNAsserted (s 0)).reg 0x2F0001 = 9 ∧ (after .rstNAsserted (s 2)).reg 0x2F0002 = 3 ∧
    (after .rstNAsserted (s 1)).reg 0x2F0002 = 3 := by decide +kernel

/-- R434: code 7 only records. -/
theorem test_recordOnly : (after .rstNAsserted (up [(0x2F2004, 7)])).rst.progress = none ∧
    (after .thermalReset (up [(0x2F200E, 7)])).reg 0x2F0001 = 8193 ∧ (after .supervisorWatchdogExpiry (up [(0x2F2005, 7)])).reg 0x2F0001 = 17 ∧
    (after (.nmtResetNode 5) { device 0 with regs := Sparse.set (defaultOf 0x2F200B) (device 0).regs 0x2F200B 7 }).reg 0x2F0001 = 1025 := by
  decide +kernel

theorem test_clockFault : (up [(0x2F200D, 4)]).levelOf 12 = 4 ∧
    completes (.clockMonitorFault .canPll) (up [(0x2F200D, 4)]) = true ∧ clockBlocks .timePll = [10] ∧
    (after (.clockMonitorFault .canPll) { up [(0x2F200D, 4)] with rst := { stopped.rst with progress := some 2 } }).reg 0x2F0211 = 0 :=
  by decide +kernel

/-- R435: a source found at S starts its reset at the datum edge. -/
theorem test_deferred : completes .deferredResetStart { stopped with tick := { stopped.tick with point := .d, resetsDue := [5] } } = true := by
  decide +kernel

/-- A reset of a level in progress. -/
def resetting (l : Nat) (more : List (Nat × Nat) := []) : State :=
  { up ((causeOf 3, 8) :: (0x2F0001, 2) :: more) with rst := { stopped.rst with progress := some l }, mem := [(memKey 3 0 5, 7)] }

theorem test_resetting_ok : (resetting 1).Ok := ok_of _ (by decide +kernel)

theorem test_release : completes .resetRelease (resetting 0) = true ∧ completes .resetRelease (resetting 1) = true ∧
    (after .resetRelease (resetting 2)).mode = stSelfTest ∧ (after .resetRelease (resetting 2)).mem = [] ∧
    (after .resetRelease (resetting 2)).reg 0x2F0001 = 2 := by decide +kernel

/-- R49, R125: the retained range of the image that wrote it stays. -/
theorem test_retained :
    let s := { resetting 2 with img := { State.reset.img with retWriter := some (4, 4, 0) } }
    Memory.read (after .resetRelease s).mem (memKey 3 0 5) = 7 := by decide +kernel

theorem test_blocks : (after (.blockIdle 3) { stopped with rst := { stopped.rst with blocks := [(3, .waiting)] } }).stage 3 = .held ∧
    (after (.blockIdleTimeout 3 2) { stopped with rst := { stopped.rst with blocks := [(3, .waiting)] } }).reg 0x2F0210 = 2 ∧
    (after (.blockRelease 3) { stopped with rst := { stopped.rst with blocks := [(3, .held)] } }).stage 3 = .running ∧
    (after (.jtagForcedRelease 3) { up [(0x2F3001, 0)] with rst := { stopped.rst with blocks := [(3, .held)] } }).stage 3 = .fenced ∧
    (after (.blockRelease 11) { stopped with rst := { stopped.rst with blocks := [(11, .fenced)] } }).stage 11 = .running := by decide +kernel

theorem test_reset_still : exec .resetRelease stopped = .next stopped ∧ exec .deferredResetStart stopped = .next stopped ∧
    exec (.blockIdle 0) stopped = .next stopped ∧ exec (.blockIdleTimeout 0 1) stopped = .next stopped ∧
    exec (.blockRelease 0) stopped = .next stopped ∧ exec (.jtagForcedRelease 0) stopped = .next stopped ∧
    exec .debugReset (up [(0x2F3001, 2)]) = .next (up [(0x2F3001, 2)]) ∧ exec (.nmtResetNode 5) stopped = .next stopped :=
  ⟨rfl, rfl, rfl, rfl, rfl, rfl, rfl, rfl⟩

/-- A start that has reached a point; the firmware copies are signed and of version 0. -/
def start (r : ResetState) (loaded : Bool := false) (st : Nat := stSelfTest) : State :=
  { up [(0x210001, st)] with rst := r, fuse := { copy0 := {}, copy1 := {} }, keep := { locked := false }
                             dict := { State.reset.dict with loaded := loaded } }

theorem test_start_ok : (start {} false).Ok ∧ (start { optionsRead := true, firmwareUp := true } false).Ok :=
  ⟨ok_of _ (by decide +kernel), ok_of _ (by decide +kernel)⟩

/-- R443: the copy with the higher generation counts; with no valid copy the cause bit sets. -/
theorem test_options : (after .optionReadComplete (start { copy1 := some { generation := 2, limit := 5 } } false stOption)).rst.options.limit = 5 ∧
    (after .optionReadComplete (start {} false stOption)).mode = stSelfTest ∧
    (after .optionReadComplete (start { copy0 := none, copy1 := none } false stOption)).reg 0x2F0306 = 0xFF := by decide +kernel

theorem test_boot : completes .firmwareBoot (start { optionsRead := true }) = true := by decide +kernel

theorem test_supervisorStart : completes .supervisorStart (start { optionsRead := true, firmwareUp := true }) = true ∧
    completes .configurationLoaded (start { supervisorUp := true }) = true := by decide +kernel

theorem test_selfTest : (after (.selfTestComplete 0) (start {} true)).rst.tested = true ∧ (after (.selfTestComplete 4) (start {} true)).reg 0x2F0008 = 4 := by
  decide +kernel

theorem test_images : (after (.imagesLoaded {}) (start { tested := true })).rst.imagesUp = true := by decide +kernel

theorem test_start_still : exec .optionReadComplete stopped = .next stopped ∧ exec .firmwareBoot stopped = .next stopped ∧
    exec .supervisorStart stopped = .next stopped ∧ exec .configurationLoaded stopped = .next stopped ∧
    exec (.selfTestComplete 1) stopped = .next stopped ∧ exec (.imagesLoaded {}) stopped = .next stopped := ⟨rfl, rfl, rfl, rfl, rfl, rfl⟩

/-! ## The dictionary -/

/-- Each write command is a write and completes, where it is applied at once. -/
theorem test_writes_first : ((
  [.dictionaryWrite .host 0x2100 2 [2], .sdoDownloadRequest 0 0x2100 2 [2], .partnerRequest 0x2100 2 (some [2]), .stateCommandRun .host,
    .stateCommandStop .host, .matrixWrite .host [], .resetEffect .host 3, .bypassCommand .host [0, 0, 0, 0, 0, 0, 0, 0], .imageDownload .host [1], .coldActivation .host,
    .onlineExchange .host, .exchangeAbort .host, .eraseInactiveBank .host, .loopStatusClear .host 1 0x100, .plannedSwitchOver .host, .cancelSwitchOver .host,
    .leaveNotReady .host, .enterNotReady .host, .startResynchronisation .host, .clearOtLatched .host 1, .clearSliceOc .host 1, .clearSliceOtLatched .host 1,
    .soeQueueDiscard .host, .hartRequest .host [0, 1, 0, 0, 2], .hartAbort .host 0, .timeUnitReset .host] : List Instr)).all
    (fun c => (writes c).isSome && completes c stopped) = true := by decide +kernel

theorem test_writes_second : ((
  [.calendarSet .host [0, 0, 0, 0, 0, 0, 0, 0], .calendarCapture .host, .wakeAcknowledge .host, .startBusOffRecovery .host 0, .discardTransmitQueue .host 0,
    .releaseRxq0 .host 0, .releaseRxq1 .host 0, .storeParametersAll .host, .storeParametersCommunication .host, .storeParametersApplication .host,
    .restoreDefaultsAll .host, .restoreDefaultsCommunication .host, .restoreDefaultsApplication .host, .guardUnlock .host, .guardRelock .host,
    .causeClear .host 1 1, .recordRestart .host 3, .rectangleRequest .host [0, 0, 0, 0, 0, 0, 0, 0, 0, 0, 0, 0], .discardQueuedRequests .host,
    .panelEnable .host 0, .waveformTableWrite .host [], .resetNodeCommand .host, .resetCommunicationCommand .host, .blockResetCommand .host 3,
    .clearFailedStartCounter .host, .enterBenchmarkRequest .host, .leaveBenchmarkMark .host, .optionBlockWrite .host [], .resetMapProgramming .host [],
    .ownerKeyHashProgramming .host [], .debugKeyHashProgramming .host [], .lifecycleField .host, .lifecycleRetire .host, .preferOtherCopy .host,
    .raiseSecurityVersion .host, .debugResponse .host []] : List Instr)).all
    (fun c => (writes c).isSome && completes c stopped) = true := by decide +kernel

theorem test_writes_unserved : exec (.stateCommandRun (.can 0)) stopped = .next stopped ∧ stopped.serves (.can 0) = false ∧
    stopped.serves .host = true := ⟨rfl, by decide +kernel⟩

/-- What a write command does where it is applied. -/
def apply (c : Instr) (s : State) : State :=
  match writes c with
  | some (p, k, d) => s.applyEntry { path := p, key := k, data := d }
  | none => s

theorem test_applied : Applied (.eraseInactiveBank .host) stopped (apply (.eraseInactiveBank .host) stopped) := ⟨_, _, _, rfl, rfl⟩

/-- R362, R366, R368: while the sequencer runs, an accepted write waits for C; a refused one answers its code at once:
0x0609_0011 for a sub-index that does not exist, 0x0609_0030 for a value out of range, 0x0F00_0003 under the guard. -/
theorem test_acceptance : (stopped.write .host 0x220101 [4]).dict.atClose = [⟨.host, 0x220101, [4], 0, 0, 0⟩] ∧
    ((stopped.write .host 0x210077 [2]).dict.hostReply.map (fun r => r.code)) = some 0x06090011 ∧
    ((stopped.write .host 0x220101 [9]).dict.hostReply.map (fun r => r.code)) = some 0x06090030 ∧
    ((stopped.write .host 0x2F3107 [1]).dict.hostReply.map (fun r => r.code)) = some 0x0F000003 ∧
    (stopped.write .host 0x2F6001 [0x55, 0x47, 0x58, 0x5A]).dict.unlocked = [.host] ∧
    waitsForBoundary 0x210001 = false ∧ actsAtOnce 0x2F6001 = true := by decide +kernel

/-- R372: a write of an entry under frame-boundary control waits for the boundary. -/
theorem test_boundary : waitsForBoundary 0x210008 = ((entryOf 0x2100 8).map (fun e => e.access) == some .rwf || tickShape.contains 0x210008) ∧
    tickShape ≠ [] := by decide +kernel

/-- R370: two writes of one entry: the first is superseded and counted, the second is applied. -/
theorem test_closing :
    let s := { stopped with dict := { stopped.dict with atClose := [⟨.host, 0x2E0004, [1], 0, 0, 0⟩, ⟨.udp 1, 0x2E0004, [2], 0, 0, 0⟩] } }
    (s.drainClose 5).reg 0x2F6004 = 1 ∧ (s.drainClose 5).reg 0x2F6007 = 0x2E000004 ∧
    ((s.drainClose 5).dict.hostReply.map (fun r => r.code)) = some 0x0F000010 ∧ (s.drainClose 5).reg (causeOf 15) = 17 := by decide +kernel

theorem test_apply_state : (apply (.stateCommandRun .host) stopped).reg 0x210007 ≠ 0 ∧ (apply (.stateCommandStop .host) (scan {})).mode = stStopped ∧
    (apply (.stateCommandStop .host) stopped).reg 0x210007 = 6 ∧ (scan {}).role ≠ 2 := by decide +kernel

theorem test_apply_matrix : (apply (.matrixWrite .host []) stopped).mtx = stopped.mtx ∧ (apply (.resetEffect .host 3) stopped).reg 0x21300C = 1 ∧
    (apply (.bypassCommand .host [0, 0]) stopped).reg 0x21300C = 1 := by decide +kernel

theorem test_apply_images : (apply (.imageDownload .host [1]) stopped).reg 0x220102 = 2 ∧ (apply (.coldActivation .host) stopped).reg 0x220103 = 4 ∧
    (apply (.coldActivation .host) (scan {})).reg 0x220103 = 3 ∧ (apply (.onlineExchange .host) stopped).reg 0x220103 ≠ 0 ∧
    (apply (.exchangeAbort .host) (up [(0x220102, 4)])).reg 0x220103 = 2 ∧ (apply (.exchangeAbort .host) stopped).reg 0x220103 = 3 ∧
    (apply (.eraseInactiveBank .host) stopped).reg 0x220102 = 0 ∧ (apply (.eraseInactiveBank .host) (up [(0x220102, 2)])).reg 0x220103 = 3 := by
  decide +kernel

/-- R148: a write of 1 clears latched bits 15 to 8 only. -/
theorem test_apply_loop : (apply (.loopStatusClear .host 1 0xFFFF) (up [(0x240129, 0x30303)])).reg 0x240129 = 0x30003 := by decide +kernel

theorem test_apply_pair : (apply (.cancelSwitchOver .host) (up [(0x250107, 32)])).reg 0x250107 = 0 ∧
    (apply (.startResynchronisation .host) (up [(0x25010E, 1)])).reg 0x25010E = 1 := by decide +kernel

theorem test_apply_digital : (apply (.clearOtLatched .host 1) (up [(0x28110B, 2 ^ bOtLatched), (0x28110E, 4)])).reg 0x28110E = 0 ∧
    ((apply (.clearOtLatched .host 1) (up [(0x28110B, 2 ^ bOtLatched)])).drt 1).freed = true ∧
    (apply (.clearSliceOtLatched .host 0) (up [(0x28110B, 2 ^ bOtLatched)])).chanBit 1 bOtLatched = false ∧
    (apply (.soeQueueDiscard .host) { up [(0x288001, 3)] with dig := { stopped.dig with queue := [] } }).reg 0x288001 = 0 := by decide +kernel

/-- R273, R274: a request goes out where the channel carries HART; the answer to an aborted one says so. -/
theorem test_apply_hart : (apply (.hartRequest .host [2, 7, 0, 0, 1]) (up [(hch 2 1, 1)])).out.length = 1 ∧
    (apply (.hartAbort .host 2) { up [] with ana := { stopped.ana with channels := [(2, { hartQueue := [{ tag := 7, frame := [1] }] })] } }).ana.responses =
      [[2, 7, 3, 0, 0, 0, 0, 0]] := by decide +kernel

theorem test_apply_time : (apply (.timeUnitReset .host) (up [(0x2A0101, 2), (0x2A0106, 1)])).tu = tuFree ∧
    (apply (.timeUnitReset .host) (up [(0x2A0106, 1)])).reg 0x2A0106 = 1 ∧ (apply (.timeUnitReset .host) stopped).reg 0x2A010B = 1 := by decide +kernel

/-- R308: 1 January 1970, 00:00:01 is second 1 of the calendar. -/
theorem test_apply_keeper : (apply (.calendarSet .host [0xB2, 7, 1, 1, 0, 0, 1, 0, 0, 0]) (keeper { locked := false })).keep.clock = 32768 ∧
    (apply (.calendarCapture .host) (keeper { clock := 32768, locked := false })).reg 0x2B1004 % 65536 = 1970 ∧
    (apply (.wakeAcknowledge .host) (keeper { locked := false } [(0x2B0101, 64)])).reg 0x2B0101 = 0 ∧
    (apply (.wakeAcknowledge .host) (up [(0x2B0101, 64)])).reg 0x2B0101 = 64 := by decide +kernel

theorem test_apply_can : (apply (.startBusOffRecovery .host 0) (up [(cc 0 0x19, 2 ^ bBusOff)])).canBit 0 bRecovering = true ∧
    ((apply (.discardTransmitQueue .host 0) (can { txq := [{ frame := frame0 }] })).crt 0).txq = [] ∧
    ((apply (.releaseRxq0 .host 0) (can { rxq := full 0, held0 := true, shadow0 := some rec0 })).crt 0).rxq.length = 64 ∧
    ((apply (.releaseRxq1 .host 0) (can { rxq := full 1, held1 := true })).crt 0).rxq.length = 63 := by decide +kernel

theorem test_apply_store : (apply (.storeParametersAll .host) stopped).reg 0x2F600B = 1 ∧
    (apply (.restoreDefaultsAll .host) { stopped with dict := { stopped.dict with generation := some { regs := [(0x210001, 5), (0x2F1001, 3)] } } }).dict.toDefault =
      [0x210001] ∧
    (apply (.guardUnlock .host) stopped).dict.unlocked = [.host] ∧
    (apply (.guardRelock .host) { stopped with dict := { stopped.dict with unlocked := [.host, .udp 1] } }).dict.unlocked = [.udp 1] ∧
    (apply (.causeClear .host 3 5) (up [(causeOf 3, 7)])).reg (causeOf 3) = 2 := by decide +kernel

theorem test_apply_panel : (apply (.rectangleRequest .host [0, 0, 0, 0, 8, 0, 1, 0, 2, 7, 0, 0]) stopped).panel.queue.length = 1 ∧
    (apply (.discardQueuedRequests .host) (panel psDown { queue := [⟨0, 0, 8, 1, 0, 0, false, false⟩] })).panel.queue = [] ∧
    (apply (.panelEnable .host 0) (panel psScan { flight := [flying], queue := [⟨0, 0, 8, 1, 0, 0, false, false⟩] })).reg 0x2E0001 = 0 ∧
    (apply (.panelEnable .host 1) stopped).reg 0x2E0001 = 1 ∧ (apply (.waveformTableWrite .host []) stopped).reg 0x2E1003 ≠ 0 := by decide +kernel

theorem test_apply_system : (apply (.resetNodeCommand .host) stopped).rst.commandDue = some 10 ∧
    (apply (.resetNodeCommand .partner) stopped).rst.commandDue = some 9 ∧ (apply (.resetCommunicationCommand .host) stopped).rst.commandDue = some 11 ∧
    (apply (.blockResetCommand .host 3) stopped).stage 3 = .waiting ∧ (apply (.clearFailedStartCounter .host) (keeper { locked := false } [(0x2B2002, 3)])).reg 0x2B2002 = 0 ∧
    (apply (.enterBenchmarkRequest .host) stopped).reg 0x2F0304 = 1 ∧ (apply (.leaveBenchmarkMark .host) stopped).reg 0x2F0304 = 2 ∧
    (apply (.preferOtherCopy .host) (up [(0x2F3105, 1)])).reg 0x2F3105 = 0 ∧ (apply (.lifecycleField .host) stopped).fuse.fieldBlown = true ∧
    (apply (.lifecycleRetire .host) stopped).fuse.retireBlown = true := by decide +kernel

theorem test_apply_fuses : (apply (.resetMapProgramming .host [1, 2, 3]) stopped).levelOf 1 = 2 ∧
    (apply (.ownerKeyHashProgramming .host [7]) stopped).reg 0x2F3002 = 7 ∧ (apply (.debugKeyHashProgramming .host [7]) stopped).fuse.debugSet = true ∧
    completes (.debugResponse .host []) stopped = true := by decide +kernel

theorem test_apply_record : ((apply (.recordRestart .host 3) { book {} with book := { live := [(3, { rec16 with generation := 4 })] } }).liveRecord 3).generation = 5 ∧
    (apply (.recordRestart .host 3) (book {})).reg 0x2D0108 = 1 ∧ (512 : Nat) ≤ 600 := by decide +kernel

/-- R365, R366: a read answers the bytes of the value, or the abort of its check. -/
theorem test_reads : (stopped.readEntry 0x210001).1 = .ok [3, 0] ∨ (stopped.readEntry 0x210001).1 = .ok [3] := by decide +kernel

theorem test_read_refused : (match (stopped.readEntry 0x210002).1 with | .error e => e | .ok _ => 0) = 0x06010001 ∧
    (match (stopped.readEntry 0x210077).1 with | .error e => e | .ok _ => 0) = 0x06090011 ∧ stopped.stuck = false := by decide +kernel

theorem test_read_commands : (((
    [.soeQueueRead .host, .hartResponseRead .host, .canWindowRead .host 0 0, .canWindowRead .host 0 1, .sentenceQueueRead .host 0,
      .sdoUploadRequest 0 0x2100 1, .partnerRequest 0x2100 1 none] : List Instr)).all (fun c => completes c stopped)) = true := by decide +kernel

theorem test_queue_reads :
    ({ stopped with ana := { stopped.ana with responses := [[1, 2], [3]] } }.readEntry 0x299002).2.ana.responses = [[3]] ∧
    (({ line0 with sent := { paths := [(0, { hostQ := [⟨0, 9, body0, true, false⟩] })] } }.readEntry 0x2C800A).2.srt 0).hostQ = [] := by decide +kernel

/-- A datagram on plant port 0, whose address is set. -/
def dgram : UdpHeader := { source := 9, port := 5000, plantPort := 0, magic := 0x5A44, version := 1, transaction := 3, index := 0x2100, sub := 1, flags := 0, offset := 0 }

/-- A module with an address on plant port 0. -/
def onNet (d : DictState) : State := { up [(0x2F6201, 0x0A000001)] with dict := { d with loaded := true } }

/-- R379, R380: a request is answered; the same again gets the kept answer; the ninth transaction is turned away. -/
theorem test_udp : (onNet {}).hearsUdp dgram = true ∧ (after (.udpRead dgram) (onNet {})).out.length = 1 ∧
    (after (.udpRead dgram) (after (.udpRead dgram) (onNet {}))).out.length = 2 ∧
    ((after (.udpRead dgram) (onNet {})).recentUdp.find? (fun x => x.reply.path == .udp 9 && x.reply.tag / 512 == udpTag dgram false / 512)).isSome = true ∧
    (after (.udpRead { dgram with flags := 1 }) (onNet {})).out.length = 1 ∧
    (after (.udpWrite { dgram with sub := 0xB } [1]) (onNet {})).out.length = 1 ∧
    (after (.udpRead dgram) (onNet { transfers := List.replicate 8 ⟨.udp 1, 0x220001, true, [], 0, 1⟩ })).reg (causeOf 15) = 128 := by
  decide +kernel

theorem test_udp_still : exec (.udpRead dgram) stopped = .next stopped ∧ exec (.udpWrite dgram []) stopped = .next stopped := ⟨rfl, rfl⟩

/-- R371, R379: a read longer than its segment stays open; a further segment of a write must follow. -/
theorem test_segments :
    let long : State := { stopped with dict := { stopped.dict with transfers := [⟨.host, 0x220001, true, [1, 2], 2, 0⟩] } }
    (long.segmentWrite { path := .host, key := 0x220001, data := [3], offset := 5 } 0 true).dict.hostReply.map (fun r => r.code) = some 0x05040001 ∧
    (long.segmentWrite { path := .host, key := 0x220001, data := [3], offset := 2 } 0 true).img.download = some [1, 2, 3] ∧
    (stopped.segmentWrite { path := .host, key := 0x2E1001, data := [1] } 0 false).dict.transfers.length = 1 ∧
    (stopped.segmentRead .host 0 0x2F0001 0 1).2.dict.transfers.length = 1 := by decide +kernel

/-- A host frame of a read of 2100.01 with its CRC. -/
def hostRead0 : HostFrame := { sequence := 4, index := 0x2100, sub := 1, flags := 0, length := 0, offset := 0, crc := crc16 [1, 4, 0, 0x21, 1, 0, 0, 0, 0, 0, 0, 0] }

/-- R383: the CRC of the characters "123456789" under these parameters is 29B1h. -/
theorem test_crc16 : crc16 [0x31, 0x32, 0x33, 0x34, 0x35, 0x36, 0x37, 0x38, 0x39] = 0x29B1 := by decide +kernel

/-- A host write waits for its closing point. -/
def busy : State := stopped.write .host 0x220101 [4]

theorem test_host : ((after (.hostRead hostRead0) stopped).dict.hostReply.map (fun r => r.tag)) = some 4 ∧
    (after (.hostRead { hostRead0 with crc := 0 }) stopped).reg 0x2F6101 = 3 ∧
    (after (.hostWrite { hostRead0 with length := 1 } [0]) stopped).reg 0x2F600A = 1 ∧
    (after (.hostFetchResponse 4 (crc16 [3, 4])) stopped).out.length = 1 ∧
    (after (.hostFetchResponse 4 (crc16 [3, 4])) (after (.hostRead hostRead0) stopped)).out.length = 1 ∧
    (after (.hostFetchResponse 4 0) stopped).reg 0x2F600A = 1 ∧ (after (.hostStatusPoll 4 0) stopped).reg 0x2F6101 = 3 ∧
    (after (.hostStatusPoll 4 (crc16 [4, 4])) stopped).out.length = 1 ∧
    (after (.hostRead hostRead0) busy).reg 0x2F6103 = 1 ∧ (after (.hostRead hostRead0) busy).reg 0x2F6101 = 4 := by
  decide +kernel

theorem test_host_still : exec (.hostRead hostRead0) State.reset = .next State.reset ∧
    exec (.hostWrite { hostRead0 with length := 1 } [0]) State.reset = .next State.reset := ⟨rfl, rfl⟩

theorem test_store : (after (.storeComplete true) { up [(0x2F600B, 1)] with dict := { stopped.dict with storing := some {} } }).dict.generation = some {} ∧
    (after (.storeComplete false) { up [(0x2F600B, 1)] with dict := { stopped.dict with storing := some {} } }).reg 0x2F600B = 2 ∧
    (after (.guardWindowExpiry .host) { stopped with dict := { stopped.dict with unlocked := [.host, .udp 1] } }).dict.unlocked = [.udp 1] := by
  decide +kernel

theorem test_transfers :
    let s : State := { stopped with dict := { stopped.dict with transfers := [⟨.can 1, 0x2E1001, true, [], 0, 0⟩, ⟨.host, 0x2E1001, false, [], 0, 0⟩] } }
    (after (.sdoAbortTransfer 1) s).dict.transfers.length = 1 ∧ (after (.transferIdleTimeout (.can 1)) s).out.length = 1 ∧
    (after (.transferIdleTimeout .host) s).dict.transfers.length = 1 := by decide +kernel

theorem test_firmware : completes (.firmwareDownload .host {}) stopped = true ∧ completes (.firmwareDownload .host { version := 7 })
    { up [(0x2F3102, 0)] with dict := { stopped.dict with unlocked := [.host] } } = true := by decide +kernel

theorem test_store_still : exec (.storeComplete true) stopped = .next stopped ∧ exec (.guardWindowExpiry .host) stopped = .next stopped ∧
    exec (.firmwareDownload (.can 0) {}) stopped = .next stopped := ⟨rfl, rfl, rfl⟩

/-! ## Compared stores, scan words and WellFormed -/

/-- `scan` with a retained range in D. -/
def scanRet (e : Engine) : State :=
  { scan e with img := { State.reset.img with bankA := { image := some { small with retStart := 4, retSize := 4 } } } }

/-- R80: a compared store that the checking engine does not issue stops the pair and counts. -/
theorem test_mismatch : (scanRet {}).compared 3 4 = true ∧ bitWriteOk ⟨3, 32⟩ = true ∧ (scanRet {}).bitIn 0 ⟨3, 32⟩ = true ∧
    Ready (scanRet { a := true }) 0 ∧ (after (.opSet 0 ⟨3, 32⟩ false) (scanRet { a := true })).reg 0x210101 = 1 ∧
    ((after (.opSet 0 ⟨3, 32⟩ false) (scanRet { a := true })).engine 0).stopped = true ∧
    (after (.opSet 0 ⟨3, 32⟩ true) (scanRet { a := true })).byteAt 0 3 4 = 1 :=
  ⟨by decide +kernel, by decide +kernel, by decide +kernel, ⟨ok_of _ (by decide +kernel), by decide +kernel, by decide +kernel⟩, by decide +kernel, by decide +kernel,
    by decide +kernel⟩

/-- R51, R60 to R70: an opcode of each family, with its word from the table. -/
theorem test_words_decoded : scanDecode 0 0x02200005 = some (.opLdn 0 ⟨2, 5⟩) ∧ scanDecode 0 0x0B300007 = some (.opSet 0 ⟨3, 7⟩ true) ∧
    scanDecode 0 0x1B000000 = some (.opPsk 0) ∧ scanDecode 0 0x12300008 = some (.opLdx 0 ⟨3, 8⟩) ∧
    scanDecode 0 0x2050000C = some (.opTon 0 ⟨5, 12⟩) ∧ scanDecode 0 0x35000000 = some (.opRet 0) := by decide +kernel

/-- Every check of WellFormed on a scan instruction refuses an ill-formed term. -/
theorem test_wf_scan : ((
    [.opNop 15, .opLd 0 ⟨12, 0⟩, .opLdn 15 ⟨2, 0⟩, .opAnd 0 ⟨13, 0⟩, .opAndn 0 ⟨13, 0⟩, .opOr 0 ⟨13, 0⟩, .opOrn 0 ⟨13, 0⟩, .opXor 0 ⟨13, 0⟩,
      .opXorn 0 ⟨13, 0⟩, .opSt 0 ⟨0, 0⟩ true, .opStn 0 ⟨0, 0⟩ true, .opSet 0 ⟨0, 0⟩ true, .opRst 0 ⟨0, 0⟩ true, .opNot 15, .opSeta 15,
      .opClra 15, .opEdp 0 ⟨2, 0⟩, .opEdn 0 ⟨2, 0⟩, .opLdx 0 ⟨15, 0⟩, .opStx 0 ⟨0, 0⟩ true, .opPsa 15, .opPso 15, .opPsx 15, .opPsk 15,
      .opPop 15, .opPeek 15] : List Instr)).all (fun i => !i.wf) = true := by decide +kernel

theorem test_wf_words : ((
    [.opTon 0 ⟨2, 0⟩, .opTof 0 ⟨5, 1⟩, .opTp 0 ⟨2, 0⟩, .opTacc 0 ⟨2, 0⟩, .opTrs 0 ⟨2, 0⟩, .opCtu 0 ⟨5, 0⟩, .opCtd 0 ⟨5, 0⟩, .opCrs 0 ⟨5, 0⟩,
      .opCld 0 ⟨5, 0⟩, .opJmp 0 0x200000, .opJc 0 0x200000, .opJcn 0 0x200000, .opCall 0 0x200000, .opCallc 0 0x200000, .opRet 15,
      .opEnd 15 true, .opLdf 0 ⟨15, 3⟩, .opClf 0 ⟨15, 8⟩, .opLdw 0 ⟨2, 1⟩, .opLdh 0 ⟨2, 1⟩, .opLdhu 0 ⟨2, 1⟩, .opLdb 0 ⟨12, 0⟩,
      .opLdbu 0 ⟨12, 0⟩, .opLdhi 0 ⟨15, 4096⟩, .opStw 0 ⟨0, 0⟩ true, .opSth 0 ⟨2, 1⟩ true, .opStb 0 ⟨0, 0⟩ true, .opStwc 0 ⟨2, 1⟩ true] : List Instr)).all
    (fun i => !i.wf) = true := by decide +kernel

theorem test_wf_pairs : ((
    [.opLdwx 0 ⟨2, 1⟩, .opStwx 0 ⟨0, 0⟩ true, .opAdd 15, .opSub 15, .opMul 15, .opDiv 15, .opMod 15, .opNeg 15, .opAbs 15, .opMin 15, .opMax 15,
      .opAddu 15, .opSubu 15, .opAw 15, .opOw 15, .opXw 15, .opInvw 15, .opShl 0 ⟨15, 32⟩, .opShr 0 ⟨15, 32⟩, .opSar 0 ⟨15, 32⟩, .opRol 0 ⟨15, 32⟩,
      .opEq 15, .opNe 15, .opGt 15, .opGe 15, .opLt 15, .opLe 15, .opGtu 15, .opLtu 15, .opFadd 15, .opFsub 15, .opFmul 15, .opFdiv 15,
      .opFneg 15, .opFabs 15, .opFsqrt 15] : List Instr)).all (fun i => !i.wf) = true ∧ ((
    [.opFeq 15, .opFne 15, .opFgt 15, .opFge 15, .opFlt 15, .opFle 15, .opItf 15, .opFti 15, .opFtit 15, .opSat16 15, .opSatu16 15,
      .opSext16 15, .opSwp 15, .opDup 15, .opTstw 15, .opLda 15] : List Instr)).all (fun i => !i.wf) = true := by decide +kernel

/-- So does every check on the other commands. -/
theorem test_wf_events : ((
    [.computeStart [20], .causeTrip 1024, .bypassExpiry 1024, .resetEffect .host 65536, .loopStatusClear .host 128 0,
      .loopStatusClear .host 0 (2 ^ 32), .writeForwardFrame 65536 0 ⟨[], []⟩ ⟨0, 0⟩, .writeForwardFrame 0 256 ⟨[], []⟩ ⟨0, 0⟩, .resynchronisationDataFrame 0x80080 ⟨[], []⟩,
      .bankCopyComplete 3 ⟨[], []⟩ true, .tieLinkLaneFail 2, .tieLinkLaneUp 2, .stakeFrame 2 (header 0 0) [], .chainPortLinkDown 2, .foreignFrameDiscard 2,
      .traverseFrameReturn { header 0 0 with direction := 2 } [] 0, .lPlusLowSet 8, .lPlusLowClear 8, .demagEnd 64 0, .overloadDetect 64,
      .overloadClear 64, .overtempTrip 64 0, .tripCountClear 64, .openloadOnDetect 64, .openloadOffDetect 64, .openloadClear 64] : List Instr)).all
    (fun i => !i.wf) = true := by decide +kernel

theorem test_wf_field : ((
    [.wirebreakDetect 64, .wirebreakClear 64, .readbackFault 64, .sliceOcTrip 8, .clearOtLatched .host 64, .clearSliceOc .host 8,
      .clearSliceOtLatched .host 8, .holdLatchLimitExpiry 2, .supplySet 4, .supplyClear 4, .complianceSet 16, .complianceClear 16,
      .miswireDetect 16, .miswireProbe 16 true, .limitDetect 16, .limitClear 16, .analogOvertempTrip 16, .analogModeChangeApplied 16,
      .hartResponseTimeout 16 0, .hartAbort .host 16, .hartBurstFrame 16 [], .ptpSync 4 sync0, .ptpFollowUp 4 sync0, .ptpAnnounce 4 announce0,
      .ptpUnsupportedMessage 4, .delayRequestTransmit 4 0, .plantPortLinkDown 2, .plantPortLinkUp 0 11] : List Instr)).all
    (fun i => !i.wf) = true := by decide +kernel

theorem test_wf_buses : ((
    [.canFrameReceived 4 frame0 0, .canFrameReceived 0 { frame0 with format := 4 } 0, .canFrameReceived 0 { frame0 with data := List.replicate 9 0 } 0,
      .canFrameSent 4, .canBusOff 4, .canErrorPassive 4, .busOffRecoveryEnd 4, .startBusOffRecovery .host 4, .discardTransmitQueue .host 4,
      .canWindowRead .host 4 0, .canWindowRead .host 0 2, .releaseRxq0 .host 4, .releaseRxq1 .host 4, .rpdoReceived 64 [],
      .tpdoEventTimerExpiry 64, .sdoUploadRequest 4 0 0, .sdoDownloadRequest 0 65536 0 [], .sdoAbortTransfer 4, .nmtStartRemoteNode 128,
      .nmtStopRemoteNode 128, .nmtEnterPreOperational 128, .nmtResetNode 128, .nmtResetCommunication 128, .addressClaimReceived 0 256 0,
      .requestForAddressClaim 4, .sentenceReceived 4 body0 false 0, .sentenceReceived 0 [0] false 0, .sentenceQueueRead .host 5,
      .sentenceTransmitted 4, .datagram61162450 2 0 [] 0, .datagram61162450 0 8 [] 0, .canProtocolError 4 .transmit,
      .heartbeatConsumerExpiry 0] : List Instr)).all (fun i => !i.wf) = true := by decide +kernel

theorem test_wf_system : ((
    [.dictionaryWrite .host 65536 0 [], .udpRead { dgram with index := 65536 }, .udpWrite dgram (List.replicate 1441 0),
      .hostRead { hostRead0 with length := 4097 }, .hostWrite hostRead0 [0], .hostFetchResponse 256 0, .hostStatusPoll 256 0,
      .partnerRequest 0 256 none, .causeClear .host 0 0, .causeClear .host 16 0, .levelBookCommitDue 512, .levelBookCommitDone 512 true,
      .commitRetryExpiry 512, .recordRestart .host 65536, .panelEnable .host 256, .blockResetCommand .host 256, .blockIdle 14,
      .blockIdleTimeout 14 0, .blockRelease 14, .jtagForcedRelease 14, .selfTestComplete 7] : List Instr)).all (fun i => !i.wf) = true := by
  decide +kernel

theorem test_wf_frames : ((
    [.traverseFrame 2 (header 0 0) [], .tokenFrame 2 (header 0 0) [] 0, .chainPortLinkUp 2 100, .inputFilterAccept 64 .low 0,
      .hartResponseFrame 16 [] true 0, .addressClaimReceived 0 0 (2 ^ 64), .traverseFrameReturn (header 0 0) [{ slot1 with address := 33 }] true,
      .sdoUploadRequest 0 0 256, .writeForwardFrame 0 256 ⟨[], []⟩ ⟨0, 0⟩, .causeClear .host 1 (2 ^ 32)] : List Instr)).all (fun i => !i.wf) = true := by
  decide +kernel

/-- And well-formed terms are accepted. -/
theorem test_wf_good : ((
    [.opLd 14 ⟨2, 511⟩, .opEnd 0 false, .opLdw 0 ⟨15, 0xFFFFF⟩, .opJmp 3 0x1FFFFF, .closingPoint, .computeStart [19], .causeTrip 1023,
      .hostRead hostRead0, .sentenceReceived 0 body0 false 0, .recordRestart .host 65535, .selfTestComplete 6,
      .plantPortLinkUp 1 1000] : List Instr)).all Instr.wf = true := by decide +kernel

/-! ## More premises of the statements -/

theorem test_witness_points : (station []).outstation = true ∧ (station []).running = true ∧
    (after .stakingPoint (station [])).tick.point = .s ∧ (after (.computeStart [3]) (station [])).tick.point = .none ∧
    withMatrix.causeDone 0 = false ∧ (after (.causeTrip 0) withMatrix).causeDone 0 = true := by decide +kernel

/-- R177, R362: a partner's claim, and its answer to a relayed request. -/
theorem test_tie_more :
    let p : RoleStatus := { unit := 2, role := 4, checksum := 0, resolving := true }
    let asked : State := { unitA 1 with dict := { stopped.dict with relayed := [⟨.host, 0x210001, 5⟩] } }
    (after (.tieCommandFrame ⟨.claim 0, []⟩) (unitA 4 { partner := some p })).reg 0x250102 = 1 ∧ (unitA 4).role = 4 ∧
    (after (.tieCommandFrame ⟨.answer .host 0x210001 5 0 [3], []⟩) asked).dict.relayed = [] ∧
    ((after (.tieCommandFrame ⟨.answer .host 0x210001 5 0 [3], []⟩) asked).dict.hostReply.map (fun r => r.data)) = some [3] ∧
    (after (.tieCommandFrame ⟨.answer .host 0x210001 6 0 [3], []⟩) asked).dict.hostReply = none := by decide +kernel

/-- R135: the active's verdict arms a standby whose copy is complete. R186: a divergence moves its count up to the limit. -/
theorem test_standby_more :
    let e (st : Nat) (done : Bool) : State := { up [(0x250002, 1), (0x250101, 2), (0x250105, 3), (0x220102, st)] with
      img := { stopped.img with bgComplete := done } }
    let d (n : Nat) : State := up [(0x250002, 1), (0x250101, 2), (0x250105, 3), (0x251009, n), (0x25000B, 3)]
    (after (.tieCommandFrame ⟨.exchangeVerdict true, []⟩) (e 4 true)).reg 0x220102 = 5 ∧
    (after (.tieCommandFrame ⟨.exchangeVerdict true, []⟩) (e 4 false)).pair.gapMissed = true ∧
    (after (.tieCommandFrame ⟨.exchangeVerdict false, []⟩) (e 5 true)).reg 0x220102 = 4 ∧
    (after (.tieCommandFrame ⟨.targetFrame 9, []⟩) (e 4 true)).reg 0x220104 = 9 ∧
    (after (.tieCommandFrame ⟨.leaveStep true, []⟩) (d 1)).reg 0x251009 = 2 ∧
    (after (.tieCommandFrame ⟨.leaveStep true, []⟩) (d 1)).pair.change = some { sources := [2], role := 3 } ∧
    (after (.tieCommandFrame ⟨.leaveStep true, []⟩) (d 2)).role = 4 ∧ (after (.tieCommandFrame ⟨.checksum, []⟩) (d 0)).pair.change =
      some { sources := [2], role := 4, reason := 2 } := by decide +kernel

/-- R185: the four verdicts of a module with one readback channel, and one with none. -/
theorem test_verdicts :
    let s (mine : Nat) (theirs : Nat) (more : List (Nat × Nat)) : State :=
      { up ([(0x250002, 1), (0x250101, 1), (0x250105, 3), (dsl 0 2, 0)] ++ more) with
        pair := { verdictDue := true, partner := some { unit := 2, role := 2, checksum := 0, readback := theirs } }
        tick := { latchedDigital := mine } }
    let ch := [(dch 0 1, 5)]
    (after .closureVerdict (s 0 0 ch)).reg 0x251001 = 1 ∧ (after .closureVerdict (s 0 0 ch)).tick.token = true ∧
    (after .closureVerdict (s 1 1 ch)).reg 0x251001 = 2 ∧ (after .closureVerdict (s 1 1 ch)).role = 4 ∧
    (after .closureVerdict (s 0 1 ch)).reg 0x251001 = 3 ∧ (after .closureVerdict (s 1 0 ch)).reg 0x251001 = 4 ∧
    (after .closureVerdict (s 0 0 [(0x250008, 1)])).reg 0x251001 = 5 ∧
    (after .closureVerdict (s 0 0 [(0x250008, 1)])).mode = stHalted ∧ (after .closureVerdict (s 0 0 [(0x250008, 0)])).mode = stStopped := by
  decide +kernel

/-- R183, R188: a takeover that waits stands at the close of the watch; an active that deasserts ROLE_OUT at S calls the
standby. -/
theorem test_watch_more :
    let r := [(0x250002, 1), (0x250101, 2), (0x250103, 1), (0x250105, 3)]
    let w : State := { up ((0x200101, 1) :: r) with pair := { watch := some 0, change := some { sources := [2], role := 1, kind := 1 } } }
    let a : State := { up r with tick := { point := .s } }
    (after .silenceWatchClose w).role = 2 ∧ (after .silenceWatchClose w).pair.change = w.pair.change ∧
    (after (.roleInChange false) a).pair.change = some { sources := [2], role := 1, kind := 1 } ∧
    (after (.roleInChange false) (up r)).pair.change = none := by decide +kernel

theorem test_copy_more :
    let s := resync 2 { toCopy := [0], partner := some { unit := 2, role := 1, checksum := 0 } }
    ((heard s).takeStore 0 [] true).isSome = true ∧ (after (.bankCopyComplete 0 ⟨[], []⟩ true) s).pair.toCopy = [] ∧
    (after (.bankCopyComplete 0 ⟨[1], []⟩ false) s).reg 0x220009 = 2 ∧ (resync 2).pair.partner = none ∧
    (after (.resynchronisationDataFrame 0x80001 ⟨[7], []⟩) (resync 5)).mem = [] := by decide +kernel

/-- R222: a standby with a chain reads the frames that it forwards. -/
theorem test_reads_more :
    let s : State := up [(0x250002, 1), (0x250101, 2), (0x250105, 3), (0x260001, 1), (0x260002, 7), (recK 1 1, 1), (0x260102, 1), (0x260103, 1)]
    let body := leBytes 8 5 ++ leBytes 4 (crc32c (leBytes 8 5))
    s.forwards = true ∧ s.readsFrame (header 0 0) = true ∧ s.acceptsFrame (header 0 0) = false ∧
    ((after (.traverseFrame 0 (header 0 0) [slot1]) s).outRec 1).rx0.isSome = true ∧
    (after (.tokenFrame 0 (header 0 0) body 0) s).chain.seen = some (0, 0) ∧
    (station []).readsFrame (header 0 0) = false := by decide +kernel

/-- R237, R244: a broken contact where it is monitored; a demagnetisation that ends after the edge. R248: a hold that a
reset meets. -/
theorem test_field_more :
    let s := stage 1 [(dch 0 3, 1), (dch 0 0xB, 2 ^ bWirebreak)]
    let off : State := { State.reset with regs := (up [(dch 0 1, 4), (dch 0 0xB, 2 ^ bStageOn), (0x210001, 0)]).regs, dig := { everReleased := true } }
    s.wireMonitored 0 = true ∧ (stage 1).wireMonitored 0 = false ∧ ((after (.inputFilterAccept 0 .broken 0) s).drt 0).broken = true ∧
    s.inputValue 0 = false ∧ s.chanValid 0 = false ∧ exec (.inputFilterAccept 0 .broken 0) (stage 1) = .next (stage 1) ∧
    ((after (.demagEnd 0 0) (up [(dch 0 0xB, 2 ^ bDemag)])).drt 0).demagNs = 0 ∧ off.running = false ∧
    (after (.holdLatchLimitExpiry 0) off).chanBit 0 bStageOn = false :=
  ⟨by decide +kernel, by decide +kernel, by decide +kernel, by decide +kernel, by decide +kernel, rfl, by decide +kernel, by decide +kernel,
    by decide +kernel⟩

/-- R269, R277: the mode in force written anew; a channel that waits for the datum edge after an abort. -/
theorem test_analog_more :
    let s := { ana { modeInForce := 3, pendingMode := some 3 } [(ach 0 8, 24)] with tick := { point := .d } }
    let b := { ana { modeInForce := 1, hartBarred := true, hartQueue := [{ tag := 1, frame := [2] }] } [(hch 0 1, 1)] with tick := { point := .d } }
    (after (.analogModeChangeApplied 0) s).anaBit 0 bCompliance = true ∧ ((after (.analogModeChangeApplied 0) s).art 0).pendingMode = none ∧
    (b.hartStart 0).out = [] ∧ ((b.hartEdge 0).art 0).hartNow.isSome = true ∧ ¬ (stopped.tick.point = .d) := by decide +kernel

/-- R287, R292, R298, R300: a lost master gives way, a step outside the tick, a node that passes messages on, a pulse beyond
the edge. -/
theorem test_time_more :
    let lost := ports.setPrt 0 { master := some announce0, stale := true }
    let worse := { announce0 with source := 2, priority1 := 2 }
    let node := station [(0x260102, 1), (0x260103, 1), (tp 2 0xC, 1000), (tp 3 0xC, 1000)]
    let beyond : State := { up [(0x2A000A, 1)] with tick := { started := true, nextNs := 250000 } }
    ((after (.ptpAnnounce 0 worse) lost).prt 0).master = some worse ∧ (State.reset.measure 1001).tu = tuAcquiring ∧
    node.onward 2 = some 1 ∧ node.onward 0 = none ∧ (node.passSync 2 sync0).out.length = 1 ∧
    (node.passSync 2 { sync0 with twoStep := false }).out.length = 1 ∧ exec .ppsOutPulse beyond = .next beyond ∧
    beyond.running = true := ⟨by decide +kernel, by decide +kernel, by decide +kernel, by decide +kernel, by decide +kernel, by decide +kernel, rfl,
      by decide +kernel⟩

/-- R321: a lock discards whole units of the write under way. -/
theorem test_keeper_more :
    let s := (keeper { locked := false }).writeHostArea (List.replicate 40 9)
    s.keep.units.length = 2 ∧ (s.keep.units.map (fun u => u.old.length)) = [8, 32] ∧ (after .keeperInterfaceLock s).keep.units = [] ∧
    (s.putKeeper ⟨0x2B2001, 32, List.replicate 8 0⟩).hostArea.getD 31 0 = 9 ∧
    (s.putKeeper ⟨0x2B2001, 32, List.replicate 8 0⟩).hostArea.getD 32 0 = 0 := by decide +kernel

theorem test_buses_more : (can {} [(cc 0 3, 0)]).usesFormat 0 (formatBit 3) = false ∧ (can {}).usesFormat 0 (formatBit 0) = true ∧
    (placement 0).2 = 0 ∧ (up [(0x210001, stBench), (sp 0 1, 1)]).mode = stBench ∧
    exec (.sentenceReceived 0 body0 false 9) (up [(0x210001, stBench), (sp 0 1, 1)]) = .next (up [(0x210001, stBench), (sp 0 1, 1)]) ∧
    datagramKey [] = none :=
  ⟨by decide +kernel, by decide +kernel, by decide +kernel, by decide +kernel, rfl, by decide +kernel⟩

/-- R314, R320, R441: reads of the calendar, of a locked keeper, of a fenced block, of the matrix store. -/
theorem test_reads_refused :
    let code (s : State) (k : Nat) : Nat := match (s.readEntry k).1 with | .error e => e | .ok _ => 0
    let fenced : State := { stopped with rst := { stopped.rst with blocks := [(0, .fenced)] } }
    code (keeper {}) 0x2B1001 = 0x0F000017 ∧ code (keeper { locked := false }) 0x2B1001 = 0 ∧ code fenced 0x2C0001 = 0x0F000011 ∧
    fenced.fencedEntry 0x2C0001 = true ∧ code stopped 0x213001 = 0x08000020 ∧ stopped.stage 0 ≠ .fenced ∧
    (keeper { locked := false }).queueRead 0x2B1004 = none := by decide +kernel

/-- R362, R379, R382: requests for the partner over a tie link that is up, and one that is down. -/
theorem test_relay :
    let far : UdpHeader := { dgram with flags := 1 }
    let paired : State := { unitA 1 with regs := (up [(0x250002, 1), (0x250101, 1), (0x250105, 3), (0x2F6201, 0x0A000001)]).regs }
    let f : HostFrame := { hostRead0 with flags := 1, crc := crc16 [1, 4, 0, 0x21, 1, 1, 0, 0, 0, 0, 0, 0] }
    let w : HostFrame := { hostRead0 with flags := 1, length := 1, crc := crc16 [2, 4, 0, 0x21, 1, 1, 1, 0, 0, 0, 0, 0, 7] }
    paired.tieUp = true ∧ paired.hearsUdp far = true ∧ (after (.udpRead far) paired).dict.relayed.length = 1 ∧
    (after (.udpWrite far [1]) paired).out.length = 1 ∧ (onNet {}).tieUp = false ∧
    (after (.hostRead f) paired).dict.relayed = [⟨.host, 0x210001, 4⟩] ∧ (after (.hostWrite w [7]) paired).out.length = 1 ∧
    (after (.hostRead f) paired).hostBusy = true ∧ (after (.hostWrite w []) paired).reg 0x2F6101 = 3 := by decide +kernel

/-- R366, R371: a write of the target plane from an offset on; a copy of the record views as it stands. -/
theorem test_segments_more :
    let open_ : State := { stopped with dict := { stopped.dict with transfers := [⟨.host, 0x2D2001, false, [], 4, 0⟩] } }
    (open_.dict.transfers.find? (ofTransfer .host 0 0x2D2001 false)).isSome = true ∧
    stopped.firstRefusal { path := .host, key := 0x2E1001, data := [1] } = 0 ∧ stopped.dict.transfers.find? (ofTransfer .host 0 0x2E1001 true) = none ∧
    (State.reset.serves .host = false) ∧ ({ State.reset with rst := { State.reset.rst with optionsRead := true } } : State).serves .host = true ∧
    ({ State.reset with rst := { State.reset.rst with optionsRead := true } } : State).running = false ∧
    waitsForBoundary 0x200003 = true ∧ actsAtOnce 0x200003 = false := by decide +kernel

/-- R274, R277: a full request queue; an abort of a transaction under way marks what is queued. -/
theorem test_hart_more :
    let q : HartRequest := { tag := 7, frame := [1] }
    let s : State := ana { modeInForce := 1, hartNow := some q, hartQueue := [q, q, q, q] }
    4 ≤ (s.art 0).hartQueue.length ∧ ((apply (.hartRequest .host [0, 7, 0, 0, 1]) s).art 0).hartQueue.length = 4 ∧
    ((apply (.hartAbort .host 0) s).art 0).hartEnd = .command ∧
    (((apply (.hartAbort .host 0) s).art 0).hartQueue.map (fun x => x.ending)) = List.replicate 4 .command := by decide +kernel
end Sys2Proof.Tests
end

section
/-! SUPPORT. Every step keeps the canonical form of the state: one lemma for each operation of the model, in the order
of the model's files, that it takes a state in canonical form to one; then one case for each command. A proof follows
the text of its operation: `h.setReg.count` is about a register write and then a count, `.ite` about the two branches of
a choice. -/

namespace Sys2Proof.Machine

open Sys2Proof

variable {s t : State}

/-! ## Answers in canonical form -/

/-- The state that a command answers, if it answers one, is in canonical form. -/
inductive Result.Ok : Result → Prop
  | next {t : State} (h : t.Ok) : Result.Ok (.next t)
  | fault {r : Fault} : Result.Ok (.fault r)
  | refused {r : Refusal} : Result.Ok (.refused r)

/-- The state that an operation answers, if it answers one, is in canonical form. -/
inductive MaybeOk : Option State → Prop
  | none : MaybeOk none
  | some {t : State} (h : t.Ok) : MaybeOk (some t)

theorem Result.Ok.ite {c : Prop} {d : Decidable c} {r q : Result} (hr : r.Ok) (hq : q.Ok) :
    Result.Ok (if c then r else q) := by
  split <;> assumption

theorem MaybeOk.ite {c : Prop} {d : Decidable c} {o p : Option State} (ho : MaybeOk o) (hp : MaybeOk p) :
    MaybeOk (if c then o else p) := by
  split <;> assumption

theorem MaybeOk.orElse {o p : Option State} (ho : MaybeOk o) (hp : MaybeOk p) : MaybeOk (o <|> p) := by
  cases ho with
  | none => exact hp
  | some h => exact .some h

theorem State.Ok.getD {o : Option State} (ho : MaybeOk o) (h : s.Ok) : (o.getD s).Ok := by
  cases ho with
  | none => exact h
  | some ht => exact ht

/-! ## Rules of composition -/

theorem State.Ok.ite {c : Prop} {d : Decidable c} (hs : s.Ok) (ht : t.Ok) : State.Ok (if c then s else t) := by
  split <;> assumption

/-- One more operation where a condition holds. -/
theorem State.Ok.stepIf {c : Prop} {d : Decidable c} (h : s.Ok) (step : s.Ok → t.Ok) : State.Ok (if c then t else s) :=
  .ite (step h) h

/-- One more operation where a condition does not hold. -/
theorem State.Ok.stepUnless {c : Prop} {d : Decidable c} (h : s.Ok) (step : s.Ok → t.Ok) :
    State.Ok (if c then s else t) :=
  .ite h (step h)

theorem State.Ok.iteSnd {α : Type} {c : Prop} {d : Decidable c} {p q : α × State} (hp : p.2.Ok) (hq : q.2.Ok) :
    State.Ok (if c then p else q).2 := by
  split <;> assumption

theorem State.Ok.foldl {α : Type} {xs : List α} {f : State → α → State} (h : s.Ok)
    (step : ∀ {t : State} {x : α}, t.Ok → (f t x).Ok) : State.Ok (xs.foldl f s) :=
  List.foldlRecOn xs f h fun _ ht _ _ => step ht

theorem State.Ok.each {α : Type} {xs : List α} {f : State → α → State} (h : s.Ok)
    (step : ∀ {t : State} {x : α}, t.Ok → (f t x).Ok) : (s.each xs f).Ok :=
  h.foldl step

/-- The canonical form speaks of registers, data memory, engines and tasks alone: any other field may change. -/
theorem State.Ok.frame (h : s.Ok) {blobs tick img mtx loops pair chain ost dig ana time keep can open_ sent dict book panel
    rst fuse out free pending} :
    State.Ok { s with
      blobs := blobs, tick := tick, img := img, mtx := mtx, loops := loops, pair := pair, chain := chain, ost := ost
      dig := dig, ana := ana, time := time, keep := keep, can := can, open_ := open_, sent := sent, dict := dict
      book := book, panel := panel, rst := rst, fuse := fuse, out := out, free := free, pending := pending } :=
  ⟨h.regs, h.fits, h.mem, h.engines, h.tasks⟩

/-! ## Data memory -/

theorem Memory.wf_foldl {α : Type} {xs : List α} {f : Sparse Byte → α → Sparse Byte} {m : Sparse Byte}
    (h : Memory.wf m = true) (step : ∀ {n : Sparse Byte} {x : α}, Memory.wf n = true → Memory.wf (f n x) = true) :
    Memory.wf (xs.foldl f m) = true :=
  List.foldlRecOn (motive := fun n => Memory.wf n = true) xs f h fun _ hn _ _ => step hn

theorem Memory.wf_copyBytes {src dst : Sparse Byte} {a b n : Nat} (h : Memory.wf dst = true) :
    Memory.wf (copyBytes src dst a b n) = true :=
  Memory.wf_writeBytes _ _ _ h

theorem Memory.wf_copyBits {src dst : Sparse Byte} {base a b n : Nat} (h : Memory.wf dst = true) :
    Memory.wf (copyBits src dst base a b n) = true :=
  Memory.wf_foldl h (Memory.wf_write _ _ _)

theorem Image.wf_initMem (m : Image) : Memory.wf m.initMem = true :=
  Memory.wf_foldl (Memory.wf_foldl (Memory.wf_foldl rfl (Memory.wf_writeBytes _ _ _)) (Memory.wf_writeBytes _ _ _))
    (Memory.wf_writeBytes _ _ _)

theorem Image.wf_runMem (m : Image) : Memory.wf m.runMem = true := Memory.wf_clear _ _ _ m.wf_initMem

theorem Memory.wf_moveMonument {old : Image} {src dst : Sparse Byte} {n : Monument} (h : Memory.wf dst = true) :
    Memory.wf (moveMonument old src dst n) = true := by
  have timers : ∀ {f : Sparse Byte → Nat → List Byte} {a : Nat → Nat},
      Memory.wf ((List.range n.size).foldl (fun m k => Memory.writeBytes m (a k) (f m k)) dst) = true :=
    Memory.wf_foldl h (Memory.wf_writeBytes _ _ _)
  unfold moveMonument
  split
  · exact h
  all_goals
    dsimp only
    split_ifs
    · exact timers
    · exact timers
    · exact h
    · exact Memory.wf_copyBits h
    · exact Memory.wf_copyBytes h

theorem Memory.wf_ite {c : Prop} {d : Decidable c} {m n : Sparse Byte} (hm : Memory.wf m = true) (hn : Memory.wf n = true) :
    Memory.wf (if c then m else n) = true := by
  split <;> assumption

theorem Memory.wf_exchangeMem (old new : Image) (src : Sparse Byte) : Memory.wf (exchangeMem old new src) = true :=
  Memory.wf_foldl
    (Memory.wf_foldl (Memory.wf_copyBytes (Memory.wf_copyBytes (Memory.wf_copyBytes new.wf_initMem)))
      fun h => Memory.wf_ite (Memory.wf_copyBytes h) h)
    Memory.wf_moveMonument

theorem State.Ok.wf_keptMemory {level : Nat} (h : s.Ok) : Memory.wf (s.keptMemory level) = true := by
  unfold State.keptMemory
  split
  · exact Memory.wf_ite rfl (Sparse.wf_filter _ _ _ h.mem)
  · rfl

/-! ## Updates of registers, data memory, engines and tasks -/

theorem State.Ok.setReg {key v : Nat} (h : s.Ok) : (s.setReg key v).Ok := State.setReg_ok s key v h
theorem State.Ok.memWrite {area task off : Nat} {bs : List Byte} (h : s.Ok) : (s.memWrite area task off bs).Ok :=
  State.memWrite_ok s area task off bs h
theorem State.Ok.setEngine {p : Nat} {e : Engine} (h : s.Ok) : (s.setEngine p e).Ok := State.setEngine_ok s p e h
theorem State.Ok.setTask {k : Nat} {t : TaskRt} (h : s.Ok) : (s.setTask k t).Ok := State.setTask_ok s k t h
theorem State.Ok.draw (h : s.Ok) : s.draw.2.Ok := h.frame

/-- Registers that are taken away leave the others as they are. -/
theorem State.Ok.filterRegs {f : Nat × Nat → Bool} (h : s.Ok) : State.Ok { s with regs := s.regs.filter f } where
  regs := Sparse.wf_filter _ _ _ h.regs
  fits := List.all_eq_true.mpr fun x hx => List.all_eq_true.mp h.fits x (List.mem_of_mem_filter hx)
  mem := h.mem
  engines := h.engines
  tasks := h.tasks

/-- No engine and no task left. -/
theorem State.Ok.emptied {tick : TickState} (h : s.Ok) :
    State.Ok { s with tasks := [], engines := [], tick := tick } :=
  ⟨h.regs, h.fits, h.mem, rfl, rfl⟩

/-! ## The operations of Machine/Ops -/

theorem Result.Ok.whenValid {s t : State} {c : Bool} (h : s.Ok) (ht : t.Ok) : Result.Ok (whenValid c s t) :=
  .next (.ite ht h)

theorem State.Ok.setRegI {key : Nat} {v : Int} (h : s.Ok) : (s.setRegI key v).Ok := h.setReg
theorem State.Ok.setBit {key n : Nat} {b : Bool} (h : s.Ok) : (s.setBit key n b).Ok := h.setReg
theorem State.Ok.countBy {key n : Nat} (h : s.Ok) : (s.countBy key n).Ok := h.setReg
theorem State.Ok.count {key : Nat} (h : s.Ok) : (s.count key).Ok := h.countBy
theorem State.Ok.maxReg {key v : Nat} (h : s.Ok) : (s.maxReg key v).Ok := .ite h.setReg h
theorem State.Ok.minReg {key v : Nat} (h : s.Ok) : (s.minReg key v).Ok := .ite h.setReg h
theorem State.Ok.setBlob {key : Nat} {v : List Byte} (h : s.Ok) : (s.setBlob key v).Ok := h.frame
theorem State.Ok.setKeeper {key v : Nat} (h : s.Ok) : (s.setKeeper key v).Ok := .ite h h.frame.setReg
theorem State.Ok.emit {e : Emission} (h : s.Ok) : (s.emit e).Ok := h.frame
theorem State.Ok.setCause {g n : Nat} (h : s.Ok) : (s.setCause g n).Ok := h.setReg.frame.stepIf (·.emit)
theorem State.Ok.causeIf {c : Bool} {g n : Nat} (h : s.Ok) : (s.causeIf c g n).Ok := .ite h.setCause h

theorem State.Ok.recordError {code p1 p2 : Nat} (h : s.Ok) : (s.recordError code p1 p2).Ok :=
  .ite (h.setReg.stepIf (·.frame)) h

theorem State.Ok.setMode {m : Nat} (h : s.Ok) : (s.setMode m).Ok := .ite h h.setReg.setCause.causeIf.causeIf

theorem State.Ok.sendReply {r : Reply} (h : s.Ok) : (s.sendReply r).Ok := by
  unfold State.sendReply
  split <;> exact h.emit

theorem State.Ok.answer {r : Reply} (h : s.Ok) : (s.answer r).Ok := by
  unfold State.answer
  split
  · exact (h.frame.stepUnless (·.setReg)).setCause
  · exact h
  · exact h.frame.sendReply
  · exact h.sendReply

theorem State.Ok.latchOne {x : Statistic} (h : s.Ok) : (s.latchOne x).Ok := h.setReg.setReg
theorem State.Ok.latchAll (h : s.Ok) : s.latchAll.Ok := h.each (·.latchOne)

/-! ## The operations of Machine/Digital -/

theorem State.Ok.setDrt {n : Nat} {r : DigitalRt} (h : s.Ok) : (s.setDrt n r).Ok := h.frame
theorem State.Ok.noteDiag {n b : Nat} (h : s.Ok) : (s.noteDiag n b).Ok := .setCause (.recordError (.ite h h.count))
theorem State.Ok.raiseDiag {n b : Nat} (h : s.Ok) : (s.raiseDiag n b).Ok := .ite h h.setBit.noteDiag
theorem State.Ok.dropDiag {n b : Nat} (h : s.Ok) : (s.dropDiag n b).Ok := .ite h.setBit.setCause h
theorem State.Ok.stageOff {n : Nat} (h : s.Ok) : (s.stageOff n).Ok := .ite h.setBit.setBit.dropDiag.dropDiag h
theorem State.Ok.stageOn {n : Nat} (h : s.Ok) : (s.stageOn n).Ok := .ite h h.setBit.setBit.dropDiag.dropDiag.setDrt
theorem State.Ok.unlatchOt {n : Nat} (h : s.Ok) : (s.unlatchOt n).Ok := .ite h.dropDiag.setReg.setDrt h

theorem State.Ok.edgeStage {release : Bool} {cooled n : Nat} (h : s.Ok) : (s.edgeStage release cooled n).Ok :=
  .ite h
    (.ite (h.setBit.stepIf (·.unlatchOt.stageOff))
      (.ite h (.ite (.ite h.setBit h) (.ite h (h.setBit.stepIf (·.stageOn))))))

theorem State.Ok.clearSlice {k : Nat} (h : s.Ok) : (s.clearSlice k).Ok :=
  .ite (h.setBit.setCause.each (fun ht => .ite ht.setCause ht)) h

theorem State.Ok.markHeld (h : s.Ok) : s.markHeld.Ok := h.each (fun ht => .ite ht.setDrt ht)

theorem State.Ok.releaseStages {cooled : Nat} (h : s.Ok) : (s.releaseStages cooled).Ok :=
  ((h.frame.each (fun ht => .ite ht.clearSlice ht)).each (·.edgeStage)).markHeld

theorem State.Ok.dropDie {die : Nat} (h : s.Ok) : (s.dropDie die).Ok :=
  h.frame.each (fun ht => .ite ht ht.setBit.stageOff)

theorem State.Ok.holdExpiry {die : Nat} (h : s.Ok) : (s.holdExpiry die).Ok := .ite h.dropDie h

theorem State.Ok.holdStages {cooled : Nat} (h : s.Ok) : (s.holdStages cooled).Ok :=
  .ite (h.frame.holdExpiry.holdExpiry.each (fun ht => .ite ht.edgeStage ht)).markHeld h.markHeld

theorem State.Ok.readbackTrip {n : Nat} (h : s.Ok) : (s.readbackTrip n).Ok := .ite h.raiseDiag h

theorem State.Ok.compareReadback {n : Nat} (h : s.Ok) : (s.compareReadback n).Ok :=
  .ite h (.ite h (.ite h.setDrt.dropDiag h.setDrt.readbackTrip))

theorem State.Ok.setQueue {q : List SoeEdge} (h : s.Ok) : (s.setQueue q).Ok := h.frame.setReg

theorem State.Ok.queueEdge {e : SoeEdge} (h : s.Ok) : (s.queueEdge e).Ok :=
  .ite h.count.setCause h.causeIf.frame.setReg

theorem State.Ok.deliverEdges {previousNs : Nat} (h : s.Ok) : (s.deliverEdges previousNs).Ok :=
  h.frame.each (·.queueEdge.count)

theorem State.Ok.latchDigital {previousNs : Nat} (h : s.Ok) : (s.latchDigital previousNs).Ok := by
  unfold State.latchDigital
  exact (h.frame.each (·.compareReadback)).deliverEdges

theorem State.Ok.endSliceHold {k : Nat} (h : s.Ok) : (s.endSliceHold k).Ok := h.frame

theorem Result.Ok.execLPlusLowSet {slice : Nat} (h : s.Ok) : Result.Ok (execLPlusLowSet slice s) :=
  .whenValid h
    (.ite h
      ((h.setBit.setReg.count.setCause.stepIf (·.endSliceHold)).each (fun ht => .ite ht ht.setBit.stageOff.noteDiag)))

theorem State.Ok.stampEdge {n : Nat} {rising : Bool} {stampNs : Nat} (h : s.Ok) : (s.stampEdge n rising stampNs).Ok :=
  .ite (.ite h.count h.frame) h

theorem Result.Ok.execSliceOcTrip {slice : Nat} (h : s.Ok) : Result.Ok (execSliceOcTrip slice s) :=
  .whenValid h (.ite h (h.setBit.count.setCause.each (fun ht => .ite ht ht.setBit.stageOff.noteDiag)))

theorem MaybeOk.digitalApply {key v : Nat} (h : s.Ok) : MaybeOk (s.digitalApply key v) :=
  .ite (.some h.unlatchOt)
    (.ite (.some (.ite h.setReg h.stageOff.setBit.setReg))
      (.ite (.some (.ite h.clearSlice (h.each (·.unlatchOt)))) (.ite (.some h.setQueue) .none)))

theorem State.Ok.soeRead (h : s.Ok) : s.soeRead.2.Ok := h.setQueue
theorem State.Ok.dropRecords {returned : List (List Byte)} (h : s.Ok) : (s.dropRecords returned).Ok := h.setQueue

/-! ## The operations of Machine/Analog -/

theorem State.Ok.setArt {n : Nat} {r : AnalogRt} (h : s.Ok) : (s.setArt n r).Ok := h.frame
theorem State.Ok.useMode {n m : Nat} (h : s.Ok) : (s.useMode n m).Ok := h.setArt.frame
theorem State.Ok.anaRaise {n b : Nat} (h : s.Ok) : (s.anaRaise n b).Ok := .ite h h.setBit.count.recordError.setCause
theorem State.Ok.anaDrop {n b : Nat} (h : s.Ok) : (s.anaDrop n b).Ok := .ite h.setBit.setCause h
theorem State.Ok.anaFlag {n b : Nat} {on : Bool} (h : s.Ok) : (s.anaFlag n b on).Ok := .ite h.anaRaise h.anaDrop

theorem State.Ok.checkNe43 {n : Nat} (h : s.Ok) : (s.checkNe43 n).Ok :=
  have hs1 : State.Ok _ := .ite h.anaRaise (.ite h.anaDrop h)
  .ite h.anaFlag.anaFlag (.ite (.ite hs1.anaRaise (hs1.stepIf (·.anaDrop))) h.anaDrop.anaDrop)

theorem State.Ok.checkCompliance {n : Nat} (h : s.Ok) : (s.checkCompliance n).Ok :=
  .ite h (.ite h.setArt.anaRaise.setBit (h.setArt.stepIf (·.anaDrop.setBit)))

theorem State.Ok.countAnalog {n : Nat} (h : s.Ok) : (s.countAnalog n).Ok :=
  .stepIf (.stepIf (.ite h.count h) (·.count)) (·.count)

theorem State.Ok.anaFresh {n : Nat} (h : s.Ok) : (s.anaFresh n).Ok :=
  have hs1 := h.each (·.anaDrop)
  .anaFlag (.ite hs1 (hs1.each (·.setBit)))

theorem State.Ok.applyMode {n : Nat} (h : s.Ok) : (s.applyMode n).Ok := by
  unfold State.applyMode
  split
  · exact h
  · exact
      have hs1 := h.setArt.setBit
      .ite h (.ite hs1.useMode hs1.setArt.useMode.anaFresh)

theorem State.Ok.anaEdge {cooled n : Nat} (h : s.Ok) : (s.anaEdge cooled n).Ok :=
  .applyMode (.stepIf (.ite h.anaDrop h) (·.setArt))

theorem State.Ok.latchVolts {volts : List Word} (h : s.Ok) : (s.latchVolts volts).Ok :=
  (h.each (·.setReg)).each (fun ht => .ite ht ht.setRegI)

theorem State.Ok.latchAnalog {field : FieldSample} (h : s.Ok) : (s.latchAnalog field).Ok :=
  (h.each (·.anaEdge)).latchVolts.frame.each (·.checkNe43.checkCompliance.countAnalog)

theorem State.Ok.releaseAnalog {before : List Word} (h : s.Ok) : (s.releaseAnalog before).Ok :=
  h.each (fun ht => .ite ht ht.setArt)

theorem State.Ok.hartPlace {record : List Byte} (h : s.Ok) : (s.hartPlace record).Ok :=
  .ite h.count.setCause h.frame.setCause

theorem State.Ok.hartStart {n : Nat} (h : s.Ok) : (s.hartStart n).Ok := by
  unfold State.hartStart
  dsimp only
  split
  · exact .ite h.setArt.emit h
  · exact h

theorem State.Ok.hartEdge {n : Nat} (h : s.Ok) : (s.hartEdge n).Ok := .hartStart (.ite h.setArt h)
theorem State.Ok.hartFlush {n : Nat} (h : s.Ok) : (s.hartFlush n).Ok := h.setArt.each (·.hartPlace)

theorem State.Ok.hartFinish {n result durationUs : Nat} {response : List Byte} (h : s.Ok) :
    (s.hartFinish n result durationUs response).Ok := by
  unfold State.hartFinish
  dsimp only
  split
  · exact h
  · exact (h.setArt.count.stepIf (·.count)).hartPlace

theorem State.Ok.hartAborted {n durationUs : Nat} (h : s.Ok) : (s.hartAborted n durationUs).Ok :=
  h.hartFinish.hartFlush.setArt

theorem State.Ok.hartRetry {n result durationUs : Nat} (h : s.Ok) : (s.hartRetry n result durationUs).Ok := by
  unfold State.hartRetry
  dsimp only
  split
  · exact h
  · exact .ite h.hartAborted (.ite h.setArt.emit h.hartFinish.hartStart)

theorem State.Ok.hartStop {n : Nat} {how : HartEnding} (h : s.Ok) : (s.hartStop n how).Ok :=
  h.setArt.stepUnless (·.hartFlush)

theorem State.Ok.hartLeave (h : s.Ok) : s.hartLeave.Ok := h.each (·.hartStop)

theorem State.Ok.hartBurst {n : Nat} {frame : List Byte} (h : s.Ok) : (s.hartBurst n frame).Ok :=
  h.setBlob.count.setCause

theorem Result.Ok.execHartResponseFrame {channel : Nat} {frame : List Byte} {intact : Bool} {durationUs : Nat} (h : s.Ok) :
    Result.Ok (execHartResponseFrame channel frame intact durationUs s) :=
  .whenValid h (.ite h.hartBurst (.ite h (.ite h.hartRetry (.ite h.hartAborted h.hartFinish.hartStart))))

theorem State.Ok.anaModeWrite {n v : Nat} (h : s.Ok) : (s.anaModeWrite n v).Ok :=
  h.setReg.setBit.setArt.stepUnless (·.hartStop)

theorem MaybeOk.analogApply {key : Nat} {data : List Byte} (h : s.Ok) : MaybeOk (s.analogApply key data) :=
  .ite (.some h.anaModeWrite) (.ite (.some (.ite h h.setArt.hartStart)) (.ite (.some h.hartStop) .none))

theorem State.Ok.hartRead (h : s.Ok) : s.hartRead.2.Ok := h.frame
theorem State.Ok.dropResponse {bs : List Byte} (h : s.Ok) : (s.dropResponse bs).Ok := .ite h.hartRead h

/-! ## The operations of Machine/Operands -/

theorem State.Ok.afterRead {x : Operand} (h : s.Ok) : (s.afterRead x).Ok := .ite h.frame h
theorem State.Ok.pairMismatch {p : Nat} (h : s.Ok) : (s.pairMismatch p).Ok := h.setEngine.count

theorem State.Ok.putStore {p area off width v : Nat} (h : s.Ok) : (s.putStore p area off width v).Ok :=
  .ite h.setEngine (.ite h.setEngine h.setEngine)

theorem State.Ok.store {p area off width v : Nat} {agree : Bool} (h : s.Ok) : (s.store p area off width v agree).Ok :=
  .ite h.pairMismatch h.putStore

theorem State.Ok.storeBit {p area addr : Nat} {b agree : Bool} (h : s.Ok) : (s.storeBit p area addr b agree).Ok :=
  h.store

theorem State.Ok.recount {p n : Nat} (h : s.Ok) : (s.recount p n).Ok := h.store
theorem State.Ok.indexFault {p : Nat} (h : s.Ok) : (s.indexFault p).Ok := h.setTask.setEngine

theorem Result.Ok.scanGuard {s t : State} {p : Nat} {ok inside : Bool} (h : s.Ok) (ht : t.Ok) :
    Result.Ok (scanGuard s p ok inside t) := .ite (.next h) (.ite (.ite (.ite (.next h) (.next ht)) .fault) .refused)

theorem State.Ok.advance {p n : Nat} (h : s.Ok) : (s.advance p n).Ok := h.setEngine
theorem State.Ok.advanceUnless {p n : Nat} (h : s.Ok) : (s.advanceUnless p n).Ok := .ite h h.advance
theorem State.Ok.onEngine {p : Nat} {f : Engine → Engine} (h : s.Ok) : (s.onEngine p f).Ok := h.setEngine

theorem State.Ok.suppressStore {p area off width v : Nat} (h : s.Ok) : (s.suppressStore p area off width v).Ok :=
  h.indexFault.onEngine

/-! ## The operations of Machine/Bits -/

theorem Result.Ok.bitLogic {p : Nat} {x : Operand} {f : Bool → Bool → Bool} (h : s.Ok) :
    Result.Ok (bitLogic p x f s) := .scanGuard h h.onEngine.afterRead.advance

theorem Result.Ok.implied {p cycles : Nat} {f : Engine → Engine} (h : s.Ok) : Result.Ok (implied p cycles f s) :=
  .scanGuard h h.onEngine.advance

theorem Result.Ok.bitStore {p : Nat} {x : Operand} {c v : Bool → Bool} {agree : Bool} (h : s.Ok) :
    Result.Ok (bitStore p x c v agree s) := .scanGuard h (.advanceUnless (.ite h.storeBit h))

theorem Result.Ok.edgeOp {p : Nat} {x : Operand} {f : Bool → Bool → Bool} (h : s.Ok) : Result.Ok (edgeOp p x f s) :=
  .scanGuard h h.storeBit.onEngine.advance

theorem Result.Ok.pushBranch {p : Nat} {op : BranchOp} (h : s.Ok) : Result.Ok (pushBranch p op s) :=
  .scanGuard h h.onEngine.advance

/-! ## The operations of Machine/Words -/

theorem Result.Ok.loadPart {n : Nat} {sign : Bool} {p : Nat} {x : Operand} (h : s.Ok) :
    Result.Ok (loadPart n sign p x s) := .scanGuard h h.onEngine.afterRead.advance

theorem State.Ok.storeWord {p : Nat} {x : Operand} {w : Word} {agree : Bool} (h : s.Ok) :
    (s.storeWord p x w agree).Ok := h.store.stepIf (·.recount)

theorem Result.Ok.storePart {n p : Nat} {x : Operand} {agree : Bool} (h : s.Ok) :
    Result.Ok (storePart n p x agree s) := .scanGuard h h.store.advanceUnless

/-! ## The operations of Machine/Arith -/

theorem Result.Ok.wordOp {p cycles : Nat} {f : Word → Word → Flagged} (h : s.Ok) : Result.Ok (wordOp p cycles f s) :=
  .implied h

theorem Result.Ok.plainOp {p : Nat} {f : Word → Word → Word} (h : s.Ok) : Result.Ok (plainOp p f s) := .wordOp h
theorem Result.Ok.compareOp {p : Nat} {f : Word → Word → Bool} (h : s.Ok) : Result.Ok (compareOp p f s) := .implied h

theorem Result.Ok.floatCompare {p : Nat} {f : Word → Word → Bool × FlagSet} (h : s.Ok) :
    Result.Ok (floatCompare p f s) := .implied h

theorem Result.Ok.shiftOp {p : Nat} {x : Operand} {f : Word → Nat → Word} (h : s.Ok) : Result.Ok (shiftOp p x f s) :=
  .scanGuard h h.onEngine.advance

/-! ## The operations of Machine/Control -/

theorem State.Ok.jumpTo {p target cycles : Nat} (h : s.Ok) : (s.jumpTo p target cycles).Ok := h.onEngine

theorem Result.Ok.jumpIf {p target : Nat} {c : Bool → Bool} (h : s.Ok) : Result.Ok (jumpIf p target c s) :=
  .scanGuard h (.ite h.jumpTo h.advance)

theorem State.Ok.callTo {p target : Nat} (h : s.Ok) : (s.callTo p target).Ok := h.onEngine.jumpTo
theorem State.Ok.beginTask {p k : Nat} (h : s.Ok) : (s.beginTask p k).Ok := h.setTask.onEngine.stepIf (·.count)

theorem State.Ok.beginNext {p : Nat} (h : s.Ok) : (s.beginNext p).Ok := by
  unfold State.beginNext
  dsimp only
  split
  · exact h.setEngine
  · exact h.setEngine.beginTask

theorem State.Ok.reportFaults {p k : Nat} (h : s.Ok) : (s.reportFaults p k).Ok := .ite h h.recordError

theorem State.Ok.countEnd {k cycles : Nat} (h : s.Ok) : (s.countEnd k cycles).Ok :=
  .ite (h.maxReg.stepIf (·.count)) (.ite h.setReg h)

theorem State.Ok.endTask {p k : Nat} (h : s.Ok) : (s.endTask p k).Ok := h.setTask.reportFaults.countEnd.beginNext

theorem Result.Ok.execEnd {p : Nat} {agree : Bool} (h : s.Ok) : Result.Ok (execEnd p agree s) :=
  .scanGuard h (by
    split
    · exact h
    · exact .ite h.onEngine.endTask h.onEngine.reportFaults.pairMismatch)

/-! ## The operations of Machine/Chain -/

theorem State.Ok.setOutRec {k : Nat} {r : OutRec} (h : s.Ok) : (s.setOutRec k r).Ok := h.frame
theorem State.Ok.relink (h : s.Ok) : s.relink.Ok := h.setReg.setReg
theorem State.Ok.chainInit (h : s.Ok) : s.chainInit.Ok := (h.frame.each (·.setReg)).relink

theorem State.Ok.sendChain {kind slots : Nat} {body : List Byte} (h : s.Ok) : (s.sendChain kind slots body).Ok :=
  h.emit.emit

theorem State.Ok.chainAtD (h : s.Ok) : s.chainAtD.Ok :=
  .ite (h.frame.chainInit.stepUnless (·.setReg.setCause)) (h.frame.stepIf (·.sendChain))

theorem State.Ok.chainBoundary (h : s.Ok) : s.chainBoundary.Ok :=
  .ite (h.each (fun ht => .ite ht.setReg.setReg.setOutRec.recordError.setCause ht)).relink h

theorem State.Ok.noteSlot {k : Nat} {r : OutRec} (h : s.Ok) : (s.noteSlot k r).Ok := by
  unfold State.noteSlot
  extract_lets s1 s2 s3
  have hs2 : s2.Ok := by
    unfold s2
    split
    · exact h.setReg.stepIf (·.count)
    · exact h.setReg
  have hs3 : s3.Ok := by
    unfold s3
    split
    · exact hs2.setReg
    · exact hs2
  split
  · exact hs3
  · exact (hs3.setReg.setReg.stepIf (·.count)).stepIf (·.count)

theorem State.Ok.dropStation {k why : Nat} (h : s.Ok) : (s.dropStation k why).Ok :=
  h.setReg.setReg.setReg.recordError.setCause

theorem State.Ok.placeBytes {area addr : Nat} {bs : List Byte} (h : s.Ok) : (s.placeBytes area addr bs).Ok :=
  .ite h h.memWrite

theorem State.Ok.imageStation {k : Nat} (h : s.Ok) : (s.imageStation k).Ok := by
  unfold State.imageStation
  dsimp only
  split
  · exact h.setOutRec.setBlob.setReg.placeBytes
  · exact h.setBlob.setReg.placeBytes

theorem State.Ok.closeStation {k : Nat} (h : s.Ok) : (s.closeStation k).Ok :=
  (((h.noteSlot.setOutRec.stepIf (·.count)).stepUnless (·.count)).stepIf (·.dropStation)).imageStation

theorem State.Ok.closeRing (h : s.Ok) : s.closeRing.Ok :=
  .stepUnless (.stepIf (.setReg (.setReg (.ite h.count h))) (·.setReg)) (·.setReg.setCause)

theorem State.Ok.noteForwarded (h : s.Ok) : s.noteForwarded.Ok := .ite (h.each (·.noteSlot)) h

theorem State.Ok.chainAtC (h : s.Ok) : s.chainAtC.Ok :=
  .ite (h.noteForwarded.each (·.closeStation)).relink.closeRing.frame
    (.ite (h.noteForwarded.each (·.imageStation)).frame h.noteForwarded)

theorem State.Ok.chainAtS (h : s.Ok) : s.chainAtS.Ok := .ite h.frame.sendChain h
theorem State.Ok.chainAtK (h : s.Ok) : s.chainAtK.Ok := .ite h.sendChain h

theorem State.Ok.chainRelease {token : Bool} (h : s.Ok) : (s.chainRelease token).Ok :=
  .ite (h.each (fun ht => .ite ht.setOutRec ht.setOutRec)) h

theorem State.Ok.showOutputs (h : s.Ok) : s.showOutputs.Ok :=
  .ite (h.each fun ht => .setReg (by
    split
    · exact ht.setBlob
    · exact ht)) h

theorem State.Ok.takeSlots {direction : Nat} {slots : List Slot} (h : s.Ok) : (s.takeSlots direction slots).Ok :=
  h.each (·.setOutRec)

/-! ## The operations of Machine/Outstation -/

theorem State.Ok.setOwnLink {v : Nat} (h : s.Ok) : (s.setOwnLink v).Ok := .ite h h.setReg.setCause
theorem State.Ok.releaseSet {o : OutputSet} (h : s.Ok) : (s.releaseSet o).Ok := h.frame

theorem State.Ok.outputsOff {cooled : Nat} (h : s.Ok) : (s.outputsOff cooled).Ok :=
  .ite h.markHeld h.releaseSet.releaseStages.releaseAnalog

theorem State.Ok.holdLimitExpiry (h : s.Ok) : s.holdLimitExpiry.Ok :=
  .ite (h.count.setCause.setOwnLink.frame.stepIf (·.frame.releaseSet)) h

theorem State.Ok.retireStakes (h : s.Ok) : s.retireStakes.Ok := h.each (fun ht => .ite ht.count.frame ht)
theorem State.Ok.formStatus {synced rejected : Bool} (h : s.Ok) : (s.formStatus synced rejected).Ok := h.frame

theorem State.Ok.outstationEdge {cooled : Nat} (h : s.Ok) : (s.outstationEdge cooled).Ok :=
  have hs1 := h.frame.stepIf (·.frame)
  .formStatus (.retireStakes (.ite hs1.frame.outputsOff (by
    split
    · exact hs1.frame.frame.setReg.setReg.setOwnLink.releaseSet.releaseStages.releaseAnalog
    · exact
        have ht := hs1.frame.stepIf (·.count.holdLimitExpiry)
        .ite ht.releaseStages.releaseAnalog (.ite ht.holdStages ht.outputsOff))))

theorem State.Ok.countReflection {port : Nat} (h : s.Ok) : (s.countReflection port).Ok := .ite h.count h

theorem State.Ok.takeFlags {h : ChainHeader} (hs : s.Ok) : (s.takeFlags h).Ok :=
  .frame (.ite hs.count.count.setCause hs)

theorem State.Ok.takeHeader {h : ChainHeader} (hs : s.Ok) : (s.takeHeader h).Ok :=
  (hs.takeFlags.stepIf (·.frame)).frame

theorem State.Ok.readSlots {h : ChainHeader} {slots : List Slot} (hs : s.Ok) : (s.readSlots h slots).Ok :=
  .ite hs.takeSlots hs

theorem State.Ok.readToken {h : ChainHeader} {body : List Byte} (hs : s.Ok) : (s.readToken h body).Ok :=
  .ite hs.frame hs

theorem Result.Ok.execTraverseFrame {port : Nat} {header : ChainHeader} {slots : List Slot} (h : s.Ok) :
    Result.Ok (execTraverseFrame port header slots s) :=
  .whenValid h
    (.ite h (.ite h.readSlots.countReflection.emit (h.frame.takeHeader.stepIf (·.frame)).countReflection.emit))

theorem State.Ok.keepStake {h : ChainHeader} {body : List Byte} (hs : s.Ok) : (s.keepStake h body).Ok := by
  unfold State.keepStake
  extract_lets slot old same add s1 new ost s2
  have hs2 : s2.Ok := (hs.stepUnless (·.count)).frame
  clear_value slot s2
  split
  · exact hs2.setReg.setReg.setReg
  · exact hs2

theorem State.Ok.keepToken {h : ChainHeader} {body : List Byte} {atNs : Nat} (hs : s.Ok) :
    (s.keepToken h body atNs).Ok := .ite hs (.ite hs (hs.frame.stepIf (·.count.frame)))

/-! ## The operations of Machine/Matrix -/

theorem State.Ok.showMatrix (h : s.Ok) : s.showMatrix.Ok := h.setReg.setReg.setReg.setReg.setReg
theorem State.Ok.activateMatrix {m : Matrix} (h : s.Ok) : (s.activateMatrix m).Ok := h.frame.showMatrix

theorem State.Ok.matrixWritten {bs : List Byte} (h : s.Ok) : (s.matrixWritten bs).Ok := by
  unfold State.matrixWritten
  split
  · exact h.setReg
  · exact .ite h.frame.setReg h.setReg

theorem State.Ok.matrixBoundary (h : s.Ok) : s.matrixBoundary.Ok := by
  unfold State.matrixBoundary
  split
  · exact h
  · exact .ite h.setReg.activateMatrix.frame h.setReg.frame

theorem State.Ok.setCauseRt {c : Nat} {r : CauseRt} (h : s.Ok) : (s.setCauseRt c r).Ok := h.frame
theorem State.Ok.setEffectRt {e : Nat} {r : EffectRt} (h : s.Ok) : (s.setEffectRt e r).Ok := h.frame
theorem State.Ok.evalCause {n : Nat} {c : Cause} (h : s.Ok) : (s.evalCause n c).Ok := h.setCauseRt.stepIf (·.count)

theorem State.Ok.countBypass {n : Nat} (h : s.Ok) : (s.countBypass n).Ok := by
  unfold State.countBypass
  dsimp only
  split
  · exact h.setCauseRt
  · exact h

theorem State.Ok.endBypass {n : Nat} (h : s.Ok) : (s.endBypass n).Ok := .ite h.setCauseRt.recordError h

theorem State.Ok.evalEffect {n : Nat} {e : Effect} (h : s.Ok) : (s.evalEffect n e).Ok :=
  .stepIf (.setEffectRt (.ite h.count h)) (·.recordError)

theorem State.Ok.eachAt {α : Type} {n : Nat} {xs : List α} {f : State → Nat → α → State} (h : s.Ok)
    (step : ∀ {t : State} {k : Nat} {x : α}, t.Ok → (f t k x).Ok) : (s.eachAt n xs f).Ok := by
  induction xs generalizing s n with
  | nil => exact h
  | cons x xs ih => exact ih (step h)

theorem State.Ok.restoreLatches {m : Matrix} (h : s.Ok) : (s.restoreLatches m).Ok :=
  .ite (h.frame.each (·.setEffectRt)) h.frame

theorem State.Ok.evaluateMatrix (h : s.Ok) : s.evaluateMatrix.Ok :=
  .ite h (by
    split
    · exact h.frame
    · exact ((((((h.restoreLatches.eachAt (fun ht => .ite ht ht.evalCause)).each (·.countBypass)).eachAt
        (·.evalEffect)).each (·.endBypass)).stepIf (·.count)).stepIf (·.count)).frame)

theorem Result.Ok.execCauseTrip {cause : Nat} (h : s.Ok) : Result.Ok (execCauseTrip cause s) :=
  .next (by
    split
    · split
      · exact .ite h h.evalCause.frame
      · exact h
    · exact h)

theorem MaybeOk.matrixApply {key : Nat} {data : List Byte} (h : s.Ok) : MaybeOk (s.matrixApply key data) :=
  .ite (.some h.matrixWritten) (.ite (.some (.ite h.frame h.count)) (.ite (.some (.ite h.setCauseRt h.count)) .none))

theorem State.Ok.endBypasses (h : s.Ok) : s.endBypasses.Ok := h.each (·.setCauseRt)

/-! ## The operations of Machine/Loops -/

theorem State.Ok.setLrt {n : Nat} {r : LoopRt} (h : s.Ok) : (s.setLrt n r).Ok := h.frame
theorem State.Ok.loopsAtC (h : s.Ok) : s.loopsAtC.Ok := h.each (·.setLrt)
theorem State.Ok.stick {n bits : Nat} (h : s.Ok) : (s.stick n bits).Ok := h.setReg.causeIf.causeIf

theorem State.Ok.countFlags {n : Nat} {f : LoopFlags} (h : s.Ok) : (s.countFlags n f).Ok :=
  (h.each (fun ht => .ite ht.count ht)).stepIf (·.setLrt)

theorem State.Ok.loopRefuse {n : Nat} (h : s.Ok) : (s.loopRefuse n).Ok := h.stick
theorem State.Ok.showPending {n : Nat} (h : s.Ok) : (s.showPending n).Ok := h.setReg
theorem State.Ok.noteBump {n : Nat} {kp b : Int} (h : s.Ok) : (s.noteBump n kp b).Ok := .ite h.setLrt h

theorem State.Ok.windowApply {n sub v : Nat} (h : s.Ok) : (s.windowApply n sub v).Ok :=
  have hs1 : State.Ok _ := .ite h.noteBump h
  .ite h.setReg (.ite h (.ite h.loopRefuse (.ite (hs1.setReg.stepUnless (·.setBit)).showPending hs1.setReg)))

theorem State.Ok.applyPStore {x : Nat × Word} (h : s.Ok) : (s.applyPStore x).Ok := h.windowApply

theorem State.Ok.finishSample {n : Nat} {x : LoopResult} (h : s.Ok) : (s.finishSample n x).Ok :=
  h.setLrt.setRegI.setRegI.setRegI.setRegI.setRegI.setRegI.setReg.stick.countFlags.causeIf.showPending

theorem State.Ok.backCalc {n : Nat} {x : LoopTerms} {out : Int} (h : s.Ok) : (s.backCalc n x out).2.Ok :=
  .iteSnd (.iteSnd h.draw h) h

theorem State.Ok.trackValue {base : State} {n : Nat} (h : s.Ok) : (s.trackValue base n).2.Ok := by
  unfold State.trackValue
  split
  · exact h
  · exact .iteSnd h.draw h
  · split
    · exact h
    · exact h.draw

theorem State.Ok.sampleFollow {n mode : Nat} {y target : Int} {held : Bool} {f : LoopFlags} (h : s.Ok) :
    (s.sampleFollow n mode y target held f).Ok := h.backCalc.finishSample

theorem State.Ok.sampleStop {n mode : Nat} {y : Int} {f : LoopFlags} (h : s.Ok) : (s.sampleStop n mode y f).Ok :=
  .ite h.finishSample h.finishSample

theorem State.Ok.sampleAuto {s base : State} {n mode : Nat} {y : Int} {f0 : LoopFlags} (h : s.Ok) :
    (s.sampleAuto base n mode y f0).Ok := h.setLrt.finishSample

theorem State.Ok.sampleHeld {s base : State} {n mode : Nat} {y : Int} {f : LoopFlags} (h : s.Ok) :
    (s.sampleHeld base n mode y f).Ok := h.finishSample

theorem State.Ok.sample {base : State} {n : Nat} (h : s.Ok) : (base.sample s n).Ok := by
  have hs1 {v : Nat} {c : Bool} : State.Ok (if c then (s.loopRefuse n).setReg (lb n 0x1B) v else s) :=
    .ite h.loopRefuse.setReg h
  unfold State.sample
  dsimp only
  split
  · exact hs1.sampleFollow
  · exact hs1.trackValue.sampleFollow
  iterate 2 exact .ite hs1.sampleHeld (.ite hs1.setReg.setRegI.sampleFollow hs1.sampleAuto)
  · exact hs1.sampleStop

theorem State.Ok.loopMismatch {pair : Nat} (h : s.Ok) : (s.loopMismatch pair).Ok := h.frame.count.setReg.setCause

theorem State.Ok.sampleLoops {bad : List Nat} (h : s.Ok) : (s.sampleLoops bad).Ok :=
  (h.frame.each (·.sample)).each (·.loopMismatch)

theorem State.Ok.loopsStart (h : s.Ok) : s.loopsStart.Ok := h.each (·.setLrt.setReg.setReg)
theorem State.Ok.loopsForceOff (h : s.Ok) : s.loopsForceOff.Ok := h.each (·.setLrt.setReg.setReg)

theorem State.Ok.noteOverrides {refs : List OutRef} (h : s.Ok) : (s.noteOverrides refs).Ok :=
  h.each (fun ht => .ite ht ht.setLrt)

theorem MaybeOk.loopApply {key v : Nat} (h : s.Ok) : MaybeOk (s.loopApply key v) :=
  .ite (.ite (.some h.windowApply) (.ite (.some h.noteBump.setReg) (.ite (.some h.setReg.loopRefuse) .none))) .none

/-! ## The operations of Machine/Budget -/

theorem State.Ok.refreshBudget (h : s.Ok) : s.refreshBudget.Ok :=
  h.setReg.setReg.setReg.setReg.setReg.setReg.setReg.setReg.setReg.setReg.stepUnless (·.setReg.setCause)

theorem State.Ok.refreshCapacity (h : s.Ok) : s.refreshCapacity.Ok := (h.setReg.setReg.each (·.setReg)).setReg.setReg
theorem State.Ok.refresh (h : s.Ok) : s.refresh.Ok := h.refreshBudget.refreshCapacity.showMatrix

/-! ## The operations of Machine/Images -/

theorem State.Ok.setBank {n : Nat} {b : Bank} (h : s.Ok) : (s.setBank n b).Ok := .ite h.frame h.frame

theorem State.Ok.showBank {n st : Nat} (h : s.Ok) : (s.showBank n st).Ok :=
  .ite h.setReg.setReg.setReg.setReg h.setReg.setReg.setReg.setReg

theorem State.Ok.emptyBank {n : Nat} (h : s.Ok) : (s.emptyBank n).Ok := by
  unfold State.emptyBank
  dsimp only
  split
  · exact h.setBank.showBank.stepIf (·.frame)
  · exact h.setBank.showBank

theorem State.Ok.showImage (h : s.Ok) : s.showImage.Ok :=
  (h.setReg.setReg.each (fun ht => by
    split
    · exact ht.setReg.setReg.setReg.setReg.setReg.setReg
    · exact ht.foldl (·.setReg))).setReg.setReg.setReg.setReg.setReg.refreshCapacity

theorem State.Ok.makeActive {n : Nat} (h : s.Ok) : (s.makeActive n).Ok := h.setReg.setReg.setReg.showImage

theorem State.Ok.coldBoundary (h : s.Ok) : s.coldBoundary.Ok := by
  unfold State.coldBoundary
  split
  · exact h
  · exact .ite h.frame.setReg (.ite h.frame.setReg h.frame.makeActive.setReg)

theorem State.Ok.initData (h : s.Ok) : s.initData.Ok :=
  .setReg (.setReg ⟨h.regs, h.fits, Memory.wf_ite (Memory.wf_copyBytes (Memory.wf_copyBytes s.image.wf_runMem))
    (Memory.wf_copyBytes s.image.wf_runMem), h.engines, h.tasks⟩)

theorem State.Ok.showTransfer {dirty : Nat} (h : s.Ok) : (s.showTransfer dirty).Ok :=
  h.setReg.setReg.setReg.setReg.setReg.setReg.setReg.setReg.setReg.setReg

theorem State.Ok.startExchange (h : s.Ok) : s.startExchange.Ok := h.frame.setReg.showTransfer

theorem State.Ok.abortExchange {result : Nat} (h : s.Ok) : (s.abortExchange result).Ok :=
  .ite h.frame.setReg.setReg.setReg.setCause h

theorem State.Ok.copyPieces {xs : List (Nat × Nat × Nat)} (h : s.Ok) : (s.copyPieces xs).Ok :=
  ⟨h.regs, h.fits, Memory.wf_foldl h.mem Memory.wf_copyBytes, h.engines, h.tasks⟩

theorem State.Ok.setDirty {pages : List Nat} (h : s.Ok) : (s.setDirty pages).Ok := h.frame.setReg
theorem State.Ok.recopy {n : Nat} (h : s.Ok) : (s.recopy n).Ok := h.copyPieces.setDirty
theorem State.Ok.copyOn {n : Nat} (h : s.Ok) : (s.copyOn n).Ok := h.copyPieces.frame.setReg
theorem State.Ok.backgroundCopy (h : s.Ok) : s.backgroundCopy.Ok := .ite (.stepUnless (.ite h h.copyOn) (·.recopy)) h
theorem State.Ok.noteDirty {keys : List Nat} (h : s.Ok) : (s.noteDirty keys).Ok := .ite (.ite h h.setDirty) h

theorem State.Ok.armExchange (h : s.Ok) : s.armExchange.Ok :=
  .ite (.ite (h.showTransfer.stepIf (·.setReg.setReg)) (h.showTransfer.stepIf (·.frame))) h

theorem State.Ok.followVerdict {armed : Bool} (h : s.Ok) : (s.followVerdict armed).Ok :=
  .ite (.ite h (.ite h.setReg h.frame)) (.ite h.setReg h)

theorem State.Ok.exchangeBoundary (h : s.Ok) : s.exchangeBoundary.Ok :=
  .ite (.setCause (.setReg (.setReg (.count (.setReg (.setReg (.each (.makeActive
    ⟨h.regs, h.fits, Memory.wf_exchangeMem _ _ _, h.engines, Sparse.rising_map _ s.tasks h.tasks⟩)
      (·.setTask)))))))) h

theorem State.Ok.finishVerification (h : s.Ok) : s.finishVerification.Ok := by
  unfold State.finishVerification
  split
  · exact h
  · exact
      have hs1 := h.frame.setReg.setReg
      .setCause (by
        split
        · exact hs1.setBank.showBank.setReg
        · exact hs1.emptyBank.setReg)

theorem State.Ok.startDownload {bs : List Byte} (h : s.Ok) : (s.startDownload bs).Ok := h.frame.emptyBank.setReg

theorem State.Ok.exchangeCommand {v : Nat} (h : s.Ok) : (s.exchangeCommand v).Ok := by
  unfold State.exchangeCommand
  split
  · exact .ite h h.frame
  · exact h.startExchange
  · exact h.abortExchange
  · exact h.emptyBank.setReg

theorem MaybeOk.imageApply {key v : Nat} (h : s.Ok) : MaybeOk (s.imageApply key v) :=
  .ite (.some (.ite h.exchangeCommand h.setReg)) .none

theorem State.Ok.exportWrite {x : Export} {data : List Byte} (h : s.Ok) : (s.exportWrite x data).Ok :=
  .ite h.memWrite h.memWrite

/-! ## The operations of Machine/Buses -/

theorem State.Ok.setCrt {c : Nat} {r : CanRt} (h : s.Ok) : (s.setCrt c r).Ok := h.frame
theorem State.Ok.errorPassive {c : Nat} (h : s.Ok) : (s.errorPassive c).Ok := .ite h h.setBit.setCause
theorem State.Ok.startRecovery {c : Nat} (h : s.Ok) : (s.startRecovery c).Ok := .ite h.setBit h

theorem State.Ok.busOff {c : Nat} (h : s.Ok) : (s.busOff c).Ok :=
  .ite h (h.setBit.setCrt.count.recordError.setCause.stepIf (·.startRecovery))

theorem State.Ok.setErrors {c t r : Nat} (h : s.Ok) : (s.setErrors c t r).Ok :=
  .stepIf (.ite h.setReg.errorPassive (h.setReg.stepUnless (·.setBit))) (·.busOff)

theorem State.Ok.protocolEvent {c : Nat} {kind : CanErrorKind} (h : s.Ok) : (s.protocolEvent c kind).Ok := by
  unfold State.protocolEvent
  split
  · exact h.setErrors
  · exact h.setErrors
  · exact h.setErrors
  · exact h.setErrors
  · exact .ite h.draw.setErrors h.setErrors

theorem State.Ok.queueFrame {c q : Nat} {x : CanRecord} (h : s.Ok) : (s.queueFrame c q x).Ok :=
  .ite h.setCrt.causeIf (.ite h.setCrt.count h.count.setCause)

theorem State.Ok.windowRead {c q : Nat} (h : s.Ok) : (s.windowRead c q).2.Ok := by
  unfold State.windowRead
  split
  · exact h.setCrt
  · exact h

theorem State.Ok.windowRelease {c q : Nat} (h : s.Ok) : (s.windowRelease c q).Ok := .ite h.setCrt h
theorem State.Ok.closeCan {c : Nat} (h : s.Ok) : (s.closeCan c).Ok := .ite h h.setCrt.placeBytes
theorem State.Ok.setRpdo {n : Nat} {r : RpdoRt} (h : s.Ok) : (s.setRpdo n r).Ok := h.frame
theorem State.Ok.setTpdo {n : Nat} {r : TpdoRt} (h : s.Ok) : (s.setTpdo n r).Ok := h.frame

theorem State.Ok.syncRpdos (h : s.Ok) : s.syncRpdos.Ok :=
  h.count.each (fun ht => by
    split
    · exact ht.setRpdo
    · exact ht)

theorem State.Ok.closeRpdos (h : s.Ok) : s.closeRpdos.Ok :=
  h.each fun ht => by
    dsimp only
    split
    · exact ht.setRpdo.placeBytes
    · exact ht

theorem State.Ok.setSrt {p : Nat} {r : SentRt} (h : s.Ok) : (s.setSrt p r).Ok := h.frame
theorem State.Ok.stakeBuses (h : s.Ok) : s.stakeBuses.Ok := ((h.each (·.setCrt)).each (·.setTpdo)).each (·.setSrt)
theorem State.Ok.pushFrame {c : Nat} {x : CanTx} (h : s.Ok) : (s.pushFrame c x).Ok := .ite h.setCrt h

theorem State.Ok.edgeSyncTpdo {c : Nat} {send : Bool} {events n : Nat} (h : s.Ok) :
    (s.edgeSyncTpdo c send events n).Ok :=
  .ite h (.ite h.setTpdo ((h.setTpdo.stepIf (·.setCrt.count)).stepIf (·.pushFrame)))

theorem State.Ok.edgeEventTpdo {c : Nat} {send : Bool} {n : Nat} (h : s.Ok) : (s.edgeEventTpdo c send n).Ok :=
  .ite h.setTpdo.pushFrame h

theorem State.Ok.edgeArea {c : Nat} (h : s.Ok) : (s.edgeArea c).Ok :=
  have hs1 := h.setCrt.countBy
  .ite h (.ite hs1.count (hs1.each (·.pushFrame)))

theorem State.Ok.sendDatagrams {texts : List (List Byte)} (h : s.Ok) : (s.sendDatagrams texts).Ok :=
  h.setSrt.each (fun ht => ht.each (·.emit))

theorem State.Ok.edgeSentences {p : Nat} (h : s.Ok) : (s.edgeSentences p).Ok :=
  .ite h (.ite h.setSrt.count (.ite h.setSrt.sendDatagrams h.setSrt.setSrt))

theorem State.Ok.busesAtD {token : Bool} (h : s.Ok) : (s.busesAtD token).Ok :=
  have hs3 := (h.each (·.count)).frame.stepIf (·.pushFrame.syncRpdos)
  have hs4 : State.Ok _ := .ite (hs3.each (·.edgeSyncTpdo)) hs3
  have hs5 : State.Ok _ := .ite (hs4.each (·.edgeArea)) hs4
  have hs6 : State.Ok _ := .ite (hs5.each (·.edgeEventTpdo)) hs5
  .ite (hs6.each (·.edgeSentences)) hs6

theorem State.Ok.busesLeave (h : s.Ok) : s.busesLeave.Ok := (h.each (·.setCrt)).each (·.setSrt)
theorem State.Ok.busesStop (h : s.Ok) : s.busesStop.Ok := (h.each (·.setCrt)).each (·.setSrt)
theorem State.Ok.claim {c address : Nat} (h : s.Ok) : (s.claim c address).Ok := h.setCrt.setReg.setBit.emit

theorem State.Ok.closeClaim {c : Nat} (h : s.Ok) : (s.closeClaim c).Ok :=
  .ite (.ite h h.claim) (.ite h.setCrt.setReg.setBit h)

theorem State.Ok.deliverSentence {p : Nat} {x : Sentence} (h : s.Ok) : (s.deliverSentence p x).Ok :=
  have hs2 := h.count.stepIf (·.setSrt)
  .ite hs2 (.ite hs2.setSrt.causeIf hs2.count.setCause)

theorem State.Ok.takeLine {p : Nat} {chars : List Byte} {framingError : Bool} {stampNs : Nat} (h : s.Ok) :
    (s.takeLine p chars framingError stampNs).Ok := .ite h.count (.ite h.count h.deliverSentence)

theorem State.Ok.closePath {p : Nat} (h : s.Ok) : (s.closePath p).Ok := .ite h h.setSrt.placeBytes
theorem State.Ok.sentenceRead {p : Nat} (h : s.Ok) : (s.sentenceRead p).2.Ok := h.setSrt

theorem State.Ok.busesAtC (h : s.Ok) : s.busesAtC.Ok :=
  (((h.each (fun ht => by
    split
    · exact .ite ht ht.setCrt.setReg.setBit
    · exact ht)).each (·.closeClaim)).each (·.closeCan)).closeRpdos.each (·.closePath)

theorem Result.Ok.execCanFrameSent {c : Nat} (h : s.Ok) : Result.Ok (execCanFrameSent c s) :=
  .whenValid h (by
    split
    · exact h
    · exact
        have hs1 := h.setCrt.count.emit
        .ite h (by
          split
          · exact hs1.setTpdo
          · exact hs1))

theorem State.Ok.setNmt {node : Nat} {n : NmtState} (h : s.Ok) : (s.setNmt node n).Ok := .ite h.frame h

theorem Result.Ok.execHeartbeatProducerExpiry (h : s.Ok) : Result.Ok (execHeartbeatProducerExpiry s) :=
  .next (by
    split
    · exact .ite h.emit h
    · exact h)

theorem Result.Ok.execAddressClaimReceived {c address name : Nat} (h : s.Ok) :
    Result.Ok (execAddressClaimReceived c address name s) :=
  .whenValid h (.ite h (.ite h.setCrt (.ite h.setCrt.claim (.ite h.setCrt.claim h.setCrt.claim))))

theorem Result.Ok.execSentenceTransmitted {port : Nat} (h : s.Ok) : Result.Ok (execSentenceTransmitted port s) :=
  .whenValid h (by
    split
    · exact h
    · exact h.setSrt.emit)

theorem State.Ok.showDevice (h : s.Ok) : s.showDevice.Ok := h.setReg

theorem MaybeOk.busApply {key v : Nat} (h : s.Ok) : MaybeOk (s.busApply key v) :=
  .ite
    (.ite (.ite (.some h.setCrt.setBit) (.some h.setReg))
      (.ite (.some h.setReg.showDevice) (.ite (.some (.ite h.startRecovery h.setCrt)) .none)))
    (.ite (.some h.windowRelease) .none)

/-! ## The operations of Machine/Book -/

theorem State.Ok.setBookRt {c : Nat} {r : BookRt} (h : s.Ok) : (s.setBookRt c r).Ok := h.frame
theorem State.Ok.setLive {c : Nat} {r : BookRecord} (h : s.Ok) : (s.setLive c r).Ok := h.frame

theorem State.Ok.requestCommit {c : Nat} (h : s.Ok) : (s.requestCommit c).Ok :=
  .ite h (.ite h.setBookRt h.setLive.count.setCause)

theorem State.Ok.takeSample {c : Nat} {x : Int} (h : s.Ok) : (s.takeSample c x).Ok :=
  h.setLive.setBookRt.stepIf (·.setCause.requestCommit)

theorem State.Ok.sampleBook {c : Nat} {x : Int} (h : s.Ok) : (s.sampleBook c x).Ok :=
  .ite h (.ite h.setBookRt h.takeSample)

theorem State.Ok.sampleNat {c x : Nat} (h : s.Ok) : (s.sampleNat c x).Ok := h.sampleBook
theorem State.Ok.markDue {c : Nat} (h : s.Ok) : (s.markDue c).Ok := .ite h.setBookRt h
theorem State.Ok.commitRecord {c : Nat} (h : s.Ok) : (s.commitRecord c).Ok := h.setLive.frame.setBookRt.count
theorem State.Ok.restartRecord {c : Nat} (h : s.Ok) : (s.restartRecord c).Ok := h.setLive.setBookRt.commitRecord

theorem State.Ok.restartRecords {code : Nat} (h : s.Ok) : (s.restartRecords code).Ok :=
  .ite (h.each (·.restartRecord)) (.ite h.restartRecord h)

theorem State.Ok.setDescriptors {bs : List Byte} (h : s.Ok) : (s.setDescriptors bs).Ok :=
  h.setBlob.each (·.restartRecord)

theorem State.Ok.sampleSources (h : s.Ok) : s.sampleSources.Ok :=
  h.each (fun ht => .ite ht.setBit.sampleBook ht.setBit)

theorem State.Ok.sampleEdge (h : s.Ok) : s.sampleEdge.Ok := .ite h ((h.each (·.sampleBook)).each (·.sampleBook))

theorem State.Ok.sampleFrame (h : s.Ok) : s.sampleFrame.Ok :=
  (((h.each (·.sampleNat.setLrt)).stepIf (·.sampleNat.sampleNat.sampleNat)).each (·.sampleNat)).stepIf
    (·.sampleNat.sampleNat)

theorem State.Ok.writeBookHeader (h : s.Ok) : s.writeBookHeader.Ok := h.frame

theorem Result.Ok.execOperatingSecond {x : SecondSample} (h : s.Ok) : Result.Ok (execOperatingSecond x s) :=
  have hs5 := (((h.count.setKeeper.stepIf (·.writeBookHeader)).each (·.setReg)).each (·.setReg)).setReg
  .next
    (.ite h
      (.ite hs5
        ((((hs5.sampleBook.each (·.sampleBook)).sampleBook.each (·.sampleBook)).each (·.sampleBook)).each (·.markDue))))

theorem MaybeOk.bookApply {key : Nat} {data : List Byte} (h : s.Ok) : MaybeOk (s.bookApply key data) :=
  .ite (.some h.setDescriptors) (.ite (.some h.restartRecords) .none)

/-! ## The operations of Machine/Time -/

theorem State.Ok.setPrt {n : Nat} {r : PortRt} (h : s.Ok) : (s.setPrt n r).Ok := h.frame
theorem State.Ok.setTu {v : Nat} (h : s.Ok) : (s.setTu v).Ok := .ite h h.setReg.setCause
theorem State.Ok.applyRate (h : s.Ok) : s.applyRate.Ok := h.setRegI.setRegI.causeIf.setBit
theorem State.Ok.setServo {v : Int} (h : s.Ok) : (s.setServo v).Ok := h.frame.applyRate
theorem State.Ok.enterHoldover (h : s.Ok) : s.enterHoldover.Ok := .ite h.setServo.setTu h

theorem State.Ok.applyStep {amount : Int} (h : s.Ok) : (s.applyStep amount).Ok :=
  h.frame.setReg.setRegI.setBit.setCause.setTu

theorem State.Ok.stepAtOnce (h : s.Ok) : s.stepAtOnce.Ok := by
  unfold State.stepAtOnce
  split
  · exact h.applyStep
  · exact h

theorem State.Ok.holdStep {amount : Int} (h : s.Ok) : (s.holdStep amount).Ok := h.frame
theorem State.Ok.slew (h : s.Ok) : s.slew.Ok := h.draw.setServo.frame
theorem State.Ok.acquire {offset : Int} (h : s.Ok) : (s.acquire offset).Ok := .ite h.frame.setTu h.frame
theorem State.Ok.keepLock {offset : Int} (h : s.Ok) : (s.keepLock offset).Ok := .ite h.frame.setTu h.frame
theorem State.Ok.showOffset {offset : Int} (h : s.Ok) : (s.showOffset offset).Ok := h.setRegI.maxReg.setBit

theorem State.Ok.firstMeasure {offset : Int} (h : s.Ok) : (s.firstMeasure offset).Ok :=
  .ite h.frame.setTu.slew.acquire (.ite h.frame.setTu.holdStep h.frame.applyStep)

theorem State.Ok.measure {offset : Int} (h : s.Ok) : (s.measure offset).Ok :=
  have hs1 := h.showOffset.sampleBook
  .ite hs1.firstMeasure (.ite (.ite hs1.holdStep hs1.applyStep) (.ite hs1.slew.keepLock hs1.setTu.slew.acquire))

theorem State.Ok.clearServo (h : s.Ok) : s.clearServo.Ok := h.frame.setReg.setReg.setReg.setReg

theorem State.Ok.resetTimeUnit (h : s.Ok) : s.resetTimeUnit.Ok :=
  (h.clearServo.each (·.setReg.setReg)).setReg.setReg.setReg.setTu.count.setReg

theorem State.Ok.showMaster {a : Announce} {legacy : Bool} (h : s.Ok) : (s.showMaster a legacy).Ok :=
  h.causeIf.setReg.setReg.setBit.setBit.setRegI.setBit

theorem State.Ok.noMaster (h : s.Ok) : s.noMaster.Ok := h.setBit.setBit.setReg

theorem State.Ok.showPorts (h : s.Ok) : s.showPorts.Ok :=
  .ite h (by
    split
    · split
      · exact .ite h.noMaster h.showMaster
      · exact h.noMaster
    · exact h.noMaster)

theorem State.Ok.portMeasure {port source : Nat} {offset : Option Int} (h : s.Ok) :
    (s.portMeasure port source offset).Ok := by
  unfold State.portMeasure
  split
  · exact h
  · exact .ite h (.ite (.measure (.setReg (.ite h.setPrt.showPorts h))) (.ite h.setRegI h))

theorem State.Ok.passSync {port : Nat} {m : PtpEvent} (h : s.Ok) : (s.passSync port m).Ok := by
  unfold State.passSync
  split
  · exact h
  · exact .ite h.draw.setPrt.emit h.draw.emit

theorem State.Ok.passFollowUp {port : Nat} {m : PtpEvent} (h : s.Ok) : (s.passFollowUp port m).Ok := by
  unfold State.passFollowUp
  split
  · exact h
  · exact h.emit

theorem State.Ok.passAnnounce {port : Nat} {m : Announce} (h : s.Ok) : (s.passAnnounce port m).Ok := by
  unfold State.passAnnounce
  split
  · exact h
  · exact h.emit

theorem Result.Ok.execPtpSync {port : Nat} {m : PtpEvent} (h : s.Ok) : Result.Ok (execPtpSync port m s) :=
  have hs1 := h.count.setReg
  .whenValid h (.ite h (.passSync (.ite hs1.setPrt hs1.setPrt.portMeasure)))

theorem Result.Ok.execPtpFollowUp {port : Nat} {m : PtpEvent} (h : s.Ok) : Result.Ok (execPtpFollowUp port m s) :=
  .whenValid h (.ite h (.passFollowUp (by
    split
    · exact h
    · exact .ite h h.setPrt.portMeasure)))

theorem Result.Ok.execHoldoverEntry (h : s.Ok) : Result.Ok (execHoldoverEntry s) :=
  .next (.ite (by
    split
    · exact .ite h.enterHoldover h.enterHoldover.setPrt.showPorts
    · exact h.enterHoldover) h)

theorem MaybeOk.timeApply {key v : Nat} (h : s.Ok) : MaybeOk (s.timeApply key v) :=
  .ite (.some h.setReg.applyRate)
    (.ite (.some h.setReg.setReg)
      (.ite (.some h.resetTimeUnit) (.ite (.some (.ite h.setReg.setPrt.showPorts h.setReg.showPorts)) .none)))

/-! ## The operations of Machine/Modes -/

theorem State.Ok.noteSource {n : Nat} (h : s.Ok) : (s.noteSource n).Ok := h.setBit.stepUnless (·.frame)
theorem State.Ok.clearRunCounters (h : s.Ok) : s.clearRunCounters.Ok := h.setReg.setReg.each (·.setReg)

theorem State.Ok.enterRun (h : s.Ok) : s.enterRun.Ok := by
  unfold State.enterRun
  extract_lets s1 tick s2 s3
  have hs1 : s1.Ok := h.initData.clearRunCounters
  have hs2 : s2.Ok := hs1.emptied
  have hs3 : s3.Ok := hs2.each (·.setTask)
  exact hs3.loopsStart.setReg.setMode

theorem State.Ok.endRun (h : s.Ok) : s.endRun.Ok := .ite h.loopsForceOff.abortExchange.busesStop.frame h
theorem State.Ok.stopModule (h : s.Ok) : s.stopModule.Ok := h.endRun.setMode.frame

theorem State.Ok.recordHalt {cause task pair : Nat} (h : s.Ok) : (s.recordHalt cause task pair).Ok :=
  .ite h h.setReg.setReg.setReg.setReg

theorem State.Ok.halt {cause task pair : Nat} (h : s.Ok) : (s.halt cause task pair).Ok := h.recordHalt.endRun.setMode
theorem State.Ok.deliverErrors (h : s.Ok) : s.deliverErrors.Ok := h.frame.memWrite.setReg
theorem State.Ok.startPair {p : Nat} {work : List Nat} (h : s.Ok) : (s.startPair p work).Ok := h.setEngine.beginNext

theorem State.Ok.startTasks (h : s.Ok) : s.startTasks.Ok :=
  .each (.ite h.deliverErrors h) (fun ht => .ite ht ht.startPair)

theorem State.Ok.queueErrors (h : s.Ok) : s.queueErrors.Ok := h.frame.stepUnless (·.setReg.countBy)

theorem State.Ok.abandon (h : s.Ok) : s.abandon.Ok :=
  ⟨h.regs, h.fits, h.mem, Sparse.rising_map _ _ h.engines, h.tasks⟩

theorem State.Ok.commitPair {p : Nat} (h : s.Ok) : (s.commitPair p).Ok :=
  ⟨h.regs, h.fits, Memory.wf_foldl h.mem fun hn => by
    split
    · exact Memory.wf_write _ _ _ hn
    · exact hn, h.engines, h.tasks⟩

theorem State.Ok.clearOverlays (h : s.Ok) : s.clearOverlays.Ok :=
  ⟨h.regs, h.fits, h.mem, Sparse.rising_map _ _ h.engines, h.tasks⟩

theorem State.Ok.commitStores (h : s.Ok) : s.commitStores.Ok :=
  .ite h.clearOverlays (h.each (·.commitPair)).noteDirty.clearOverlays

theorem State.Ok.placeSoe (h : s.Ok) : s.placeSoe.Ok := .ite h h.placeBytes

theorem State.Ok.showViews {flags : Nat} (h : s.Ok) : (s.showViews flags).Ok :=
  (h.setReg.setReg.setReg.setReg.setReg.setReg.setReg.setReg.each (·.setReg.setReg)).showOutputs

theorem State.Ok.closeImage (h : s.Ok) : s.closeImage.Ok :=
  h.placeBytes.placeBytes.frame.placeSoe.chainAtC.busesAtC.loopsAtC.stepUnless (·.showViews)

theorem State.Ok.stakeLoopWords (h : s.Ok) : s.stakeLoopWords.Ok :=
  .ite h (h.each (fun ht => by
    split
    · exact .ite ht.placeBytes ht
    · exact ht))

theorem State.Ok.showClamp {refs : List OutRef} (h : s.Ok) : (s.showClamp refs).Ok := h.each (·.setBit)

theorem State.Ok.stakeOutputs (h : s.Ok) : s.stakeOutputs.Ok :=
  h.stakeLoopWords.noteOverrides.showClamp.stakeBuses.frame

theorem State.Ok.releaseOutputs {cooled : Nat} (h : s.Ok) : (s.releaseOutputs cooled).Ok :=
  .ite h.releaseSet.releaseStages.releaseAnalog h.holdStages

/-! ## The operations of Machine/Pair -/

theorem State.Ok.stopResync (h : s.Ok) : s.stopResync.Ok := h.frame.setReg

theorem State.Ok.leaveActive (h : s.Ok) : s.leaveActive.Ok :=
  (h.each (·.answer)).frame.setReg.setBit.hartLeave.busesLeave.abortExchange

theorem State.Ok.enterActive (h : s.Ok) : s.enterActive.Ok :=
  (h.frame.setReg.abortExchange.each (·.setTask)).recordError

theorem State.Ok.setRole {code reason : Nat} (h : s.Ok) : (s.setRole code reason).Ok :=
  have hs4 := (h.setReg.stepIf (·.leaveActive)).setReg.setCause.stepUnless (·.stopResync)
  .ite h.setReg (.stepIf (.stepIf (.ite hs4.frame hs4.frame.setBit.setBit) (·.enterActive)) (·.stopModule))

theorem State.Ok.setPartnerRole {code : Nat} (h : s.Ok) : (s.setPartnerRole code).Ok :=
  .ite h (((h.setReg.setCause.stepIf (·.recordError.abortExchange)).stepIf (·.frame.setBit.setReg)).stepIf (·.frame))

theorem State.Ok.recordSwitch {kind : Nat} (h : s.Ok) : (s.recordSwitch kind).Ok := h.setReg.setReg.count.setCause
theorem State.Ok.autoStart (h : s.Ok) : s.autoStart.Ok := .ite h.enterRun h

theorem State.Ok.becomeActive {kind : Nat} (h : s.Ok) : (s.becomeActive kind).Ok :=
  .stepIf (.recordSwitch (.setRole (.ite h.stopModule h))) (·.frame.autoStart)

theorem State.Ok.changeRole {c : RoleChange} (h : s.Ok) : (s.changeRole c).Ok := h.frame
theorem State.Ok.takeOver {kind : Nat} (h : s.Ok) : (s.takeOver kind).Ok := h.changeRole
theorem State.Ok.endRelayed {code : Nat} (h : s.Ok) : (s.endRelayed code).Ok := h.frame.each (·.answer)

theorem State.Ok.setUnreachable {b : Bool} (h : s.Ok) : (s.setUnreachable b).Ok :=
  .setBit (.causeIf (.ite h.endRelayed h))

theorem State.Ok.afterCopy {p : RoleStatus} (h : s.Ok) : (s.afterCopy p).Ok := .setReg (.ite h.makeActive h)

theorem State.Ok.beginResync (h : s.Ok) : s.beginResync.Ok := by
  unfold State.beginResync
  split
  · exact h
  · exact
      have hs1 := h.frame.setReg.setReg
      .ite h (.ite h.setRole (.ite hs1.afterCopy hs1.setReg))

theorem State.Ok.failAttempt (h : s.Ok) : s.failAttempt.Ok :=
  have hs1 := h.stopResync.setCause
  .ite hs1.frame.setRole hs1.frame.beginResync

theorem MaybeOk.takeStore {store : Nat} {bs : List Byte} {tagOk : Bool} (h : s.Ok) :
    MaybeOk (s.takeStore store bs tagOk) :=
  .ite
    (.ite (.some h.emptyBank) (by
      split
      · exact .some h.setBank.showBank
      · exact .none))
    (.ite (.some h.frame.showMatrix) (by
      split
      · exact .some h.frame.activateMatrix
      · exact .none))

theorem State.Ok.takeLoopPage {n : Nat} {bs : List Byte} (h : s.Ok) : (s.takeLoopPage n bs).Ok :=
  h.setLrt.each (·.setReg)

theorem State.Ok.takePage {page : Nat} {bs : List Byte} (h : s.Ok) : (s.takePage page bs).Ok :=
  .ite ⟨h.regs, h.fits, Memory.wf_writeBytes _ _ _ h.mem, h.engines, h.tasks⟩ h.takeLoopPage

theorem State.Ok.adoptCounts (h : s.Ok) : s.adoptCounts.Ok := by
  unfold State.adoptCounts
  split
  · exact .ite h.setReg.setReg.setReg.setMode h
  · exact h

theorem State.Ok.retainStream (h : s.Ok) : s.retainStream.Ok := h.frame.stepIf (·.frame.setReg)
theorem State.Ok.declareInStep (h : s.Ok) : s.declareInStep.Ok := .ite h.frame.setReg.retainStream.setRole.setCause h

theorem State.Ok.resolveRole (h : s.Ok) : s.resolveRole.Ok := by
  unfold State.resolveRole
  split
  · exact .ite
      (.ite h.setRole (.ite (.ite h.setRole h.setRole) (.ite (.ite h.becomeActive.emit h) (.ite h.becomeActive h))))
      (.ite h.setUnreachable h)
  · exact .ite h.setUnreachable h

theorem State.Ok.applyChange (h : s.Ok) : s.applyChange.Ok := by
  unfold State.applyChange
  split
  · exact h
  · exact .ite h.frame (.ite h.frame.setRole (h.frame.stepUnless (·.becomeActive)))

theorem State.Ok.agePartner (h : s.Ok) : s.agePartner.Ok := h.frame.stepIf (·.setPartnerRole)

theorem State.Ok.pairAtD (h : s.Ok) : s.pairAtD.Ok :=
  .ite h ((((h.setReg.applyChange.stepIf (·.setRole)).stepIf (·.resolveRole)).stepIf (·.emit)).stepIf (·.beginResync))

theorem State.Ok.sendStatus (h : s.Ok) : s.sendStatus.Ok := .agePartner (.ite h.emit h)

theorem State.Ok.pairBoundary (h : s.Ok) : s.pairBoundary.Ok :=
  .ite h (by
    split
    · exact h.declareInStep
    · exact .ite h.frame.setRole.setReg.setCause.recordSwitch (h.frame.stepIf (·.becomeActive.setReg.frame.setCause)))

theorem State.Ok.nameFrame (h : s.Ok) : s.nameFrame.Ok := .ite h.setReg.emit h
theorem State.Ok.pairAtC (h : s.Ok) : s.pairAtC.Ok := .ite h.nameFrame.emit (h.nameFrame.stepIf (·.frame))

theorem State.Ok.takeImage {f : ImageFrame} (h : s.Ok) : (s.takeImage f).Ok :=
  .relink (.each (.each ⟨h.regs, h.fits, Memory.wf_writeBytes _ _ _ (Memory.wf_clear _ _ _ h.mem), h.engines, h.tasks⟩
    (·.setLrt)) (·.setReg))

theorem State.Ok.showImageOf {f : ImageFrame} (h : s.Ok) : (s.showImageOf f).Ok :=
  (h.each (fun ht =>
    .ite ht.setReg.setBlob (by
    split
    · exact ht.setReg.setBlob
    · exact ht.setReg))).showViews

theorem State.Ok.closeWatch (h : s.Ok) : s.closeWatch.Ok :=
  have hs1 := h.frame.setBit
  .ite hs1 (.ite (hs1.stepUnless (·.setUnreachable)).setRole hs1.takeOver)

theorem State.Ok.openWatch (h : s.Ok) : s.openWatch.Ok :=
  have hs1 := h.count.count
  .ite hs1.closeWatch (.ite hs1.frame.setBit hs1.takeOver)

theorem State.Ok.showLineFault (h : s.Ok) : s.showLineFault.Ok := h.causeIf.setBit

theorem State.Ok.pairAtX (h : s.Ok) : s.pairAtX.Ok :=
  .ite h.frame (by
    split
    · exact
        have hs1 := h.takeImage.showImageOf.showLineFault
        .ite h.closeWatch.frame (.ite hs1.frame.changeRole.frame hs1.frame)
    · exact h.openWatch.frame
    · exact h.takeImage.frame
    · exact h.frame)

theorem State.Ok.faultActive (h : s.Ok) : s.faultActive.Ok := h.frame.emit
theorem State.Ok.abdicate (h : s.Ok) : s.abdicate.Ok := h.frame.setRole
theorem State.Ok.sendVerdict (h : s.Ok) : s.sendVerdict.Ok := .ite (.ite h.emit (.ite h.emit h)) h

theorem State.Ok.pairAtS {fault : Bool} (h : s.Ok) : (s.pairAtS fault).Ok :=
  .ite h (by
    split
    · exact .ite h.faultActive h.frame.sendVerdict
    · exact .ite h.emit.setRole (.ite h.frame.emit h)
    · exact .ite h.setReg (.ite h.setReg h)
    · exact h)

theorem State.Ok.issueToken (h : s.Ok) : s.issueToken.Ok := h.frame.chainAtK
theorem State.Ok.setTarget (h : s.Ok) : s.setTarget.Ok := .ite (.ite h.frame.emit h) h

theorem State.Ok.closureMismatch (h : s.Ok) : s.closureMismatch.Ok :=
  (h.setReg.count.stepIf (·.frame.setReg)).frame.emit

theorem State.Ok.closureCheck (h : s.Ok) : s.closureCheck.Ok :=
  .ite h.frame.issueToken (.ite h.frame.issueToken (by
    split
    · exact .ite h.setPartnerRole.emit.issueToken (.ite h.frame.setReg.frame.setTarget.issueToken h.closureMismatch)
    · exact h.setPartnerRole.emit.issueToken))

theorem State.Ok.pairAtK (h : s.Ok) : s.pairAtK.Ok :=
  .ite h.issueToken
    (.ite h.issueToken (.ite h (.ite h.abdicate (.ite h.frame.setRole.recordSwitch h.frame.closureCheck))))

theorem State.Ok.actOnVerdict {v : Nat} (h : s.Ok) : (s.actOnVerdict v).Ok :=
  .ite h.setRole.stopModule.emit (.ite h.setReg.halt.causeIf.emit h.setReg.emit.issueToken)

theorem State.Ok.decideVerdict (h : s.Ok) : s.decideVerdict.Ok :=
  h.setReg.setReg.setReg.setReg.setReg.frame.setCause.actOnVerdict

theorem State.Ok.showDiffs (h : s.Ok) : s.showDiffs.Ok := h.setReg.setReg

theorem State.Ok.hear {f : State → State} (h : s.Ok) (step : ∀ {t : State}, t.Ok → (f t).Ok) : (s.hear f).Ok :=
  .ite (step h.frame) h

theorem State.Ok.countFailed {failed : List Nat} {inTime : Bool} (h : s.Ok) : (s.countFailed failed inTime).Ok :=
  (h.each (·.count)).stepIf (·.count)

theorem State.Ok.tieFrame {failed : List Nat} {inTime : Bool} {f : State → State} (h : s.Ok)
    (step : ∀ {t : State}, t.Ok → (f t).Ok) : (s.tieFrame failed inTime f).Ok :=
  .ite (h.countFailed.hear step) h.countFailed

theorem State.Ok.takeStatus {f : RoleStatus} (h : s.Ok) : (s.takeStatus f).Ok := by
  unfold State.takeStatus
  extract_lets s1 s2 s3 s4 s5 s6
  have hs5 : s5.Ok := (h.frame.setUnreachable.setPartnerRole.stepIf (·.abortExchange)).stepIf (·.changeRole)
  have hs6 : s6.Ok := .ite (.ite hs5.setReg hs5.stopResync) hs5
  split
  · exact hs6.stepIf (·.measure)
  · exact hs6

theorem State.Ok.takeDigest {tick digest : Nat} (h : s.Ok) : (s.takeDigest tick digest).Ok :=
  .ite h (h.frame.stepIf (·.abdicate))

theorem State.Ok.takeNotice {tick : Nat} (h : s.Ok) : (s.takeNotice tick).Ok :=
  .ite h.frame.setPartnerRole (.ite h.takeOver h)

theorem State.Ok.takeFullImage {tick : Nat} {data : List Byte} (h : s.Ok) : (s.takeFullImage tick data).Ok :=
  .ite h.frame.showDiffs.count h

theorem State.Ok.takeCommand {command : TieCommand} (h : s.Ok) : (s.takeCommand command).Ok := by
  unfold State.takeCommand
  dsimp only
  split
  · exact .ite h.frame.setPartnerRole h
  · exact .ite h.frame h
  · exact .ite h.frame h
  · exact .ite h (.ite h.setReg h.frame)
  · exact .ite h.frame.answer h
  · exact .ite h.followVerdict h
  · exact .ite h.frame h
  · exact .ite h.emit h
  · exact .ite h.changeRole h
  · exact .ite h (.ite h.setReg.setRole h.setReg.changeRole)
  · exact .ite h.takeOver h
  · exact .ite h.halt.setReg h
  · exact .ite h.changeRole h

theorem State.Ok.takeStream {page : Nat} {data : List Byte} (h : s.Ok) : (s.takeStream page data).Ok :=
  .ite (h.takePage.countBy.stepIf (·.setReg)) h

theorem State.Ok.takeCopy {store : Nat} {data : List Byte} {tagOk : Bool} (h : s.Ok) :
    (s.takeCopy store data tagOk).Ok :=
  .ite (by
    split
    next u _ hu _ =>
      have ht : MaybeOk (some u) := hu ▸ .takeStore h
      cases ht with
      | some ht => exact ht.frame.stepIf (·.afterCopy)
    · exact .failAttempt (.ite h.showBank.setCause h)) h

theorem Result.Ok.execSilenceWatchClose (h : s.Ok) : Result.Ok (execSilenceWatchClose s) :=
  .next (by
    split
    · exact .ite h.closeWatch h
    · exact h)

theorem State.Ok.planSwitch (h : s.Ok) : s.planSwitch.Ok := .ite h.setBit h

theorem State.Ok.pairCommand {v : Nat} (h : s.Ok) : (s.pairCommand v).Ok := by
  unfold State.pairCommand
  split
  · exact h.planSwitch
  · exact h.frame.setBit
  · exact h.changeRole
  · exact h.changeRole
  · exact .ite h.beginResync h
  · exact h

theorem MaybeOk.pairApply {key v : Nat} (h : s.Ok) : MaybeOk (s.pairApply key v) := .ite (.some h.pairCommand) .none

/-! ## The operations of Machine/Panel -/

theorem State.Ok.writeTable {bs : List Byte} (h : s.Ok) : (s.writeTable bs).Ok := h.setReg.stepIf (·.setBlob.setReg)
theorem State.Ok.refreshBand (h : s.Ok) : s.refreshBand.Ok := h.setRegI.setReg.setBit
theorem State.Ok.raiseRails (h : s.Ok) : s.raiseRails.Ok := .ite h.frame.setReg h
theorem State.Ok.lowerRails (h : s.Ok) : s.lowerRails.Ok := h.frame.setReg

theorem State.Ok.railFault (h : s.Ok) : s.railFault.Ok := by
  unfold State.railFault
  exact h.countBy.frame.setReg.setBit.count.setCause

theorem State.Ok.setSlot {k : Nat} {x : Option JournalSlot} (h : s.Ok) : (s.setSlot k x).Ok := h.frame
theorem State.Ok.panelStart (h : s.Ok) : s.panelStart.Ok := h.frame
theorem State.Ok.panelStop (h : s.Ok) : s.panelStop.Ok := h.frame.setReg.setReg
theorem State.Ok.stressScan (h : s.Ok) : s.stressScan.Ok := h.each (fun ht => .ite ht.frame ht.frame)
theorem State.Ok.joinQueue {bs : List Byte} (h : s.Ok) : (s.joinQueue bs).Ok := .ite h h.frame.raiseRails

theorem State.Ok.startRect {k : Nat} {r : RectRequest} (h : s.Ok) : (s.startRect k r).Ok :=
  (h.setSlot.frame.stepIf (·.count)).setReg.setBit.stepIf (·.count.setCause)

theorem State.Ok.completeRect {r : Rect} (h : s.Ok) : (s.completeRect r).Ok := by
  unfold State.completeRect
  exact (h.frame.stepUnless (·.setSlot)).count.setReg.setCause

theorem State.Ok.endScan (h : s.Ok) : s.endScan.Ok := h.stressScan.frame.each (·.completeRect)

theorem State.Ok.overlapWait {r : RectRequest} (h : s.Ok) : (s.overlapWait r).1.Ok := by
  unfold State.overlapWait
  split
  · exact h
  · dsimp only
    exact h.count.setCause

theorem State.Ok.startQueued {waiting todo : List RectRequest} (h : s.Ok) : (s.startQueued waiting todo).Ok := by
  induction todo generalizing s waiting with
  | nil => exact h.frame
  | cons r rest ih =>
    unfold State.startQueued
    dsimp only
    split
    · exact ih h.overlapWait
    · split
      · exact .ite (ih h.startRect) (ih h)
      · exact ih h

theorem State.Ok.startRecovery' (h : s.Ok) : s.startRecovery'.Ok := (h.each (·.startRect)).frame

theorem State.Ok.startScan (h : s.Ok) : s.startScan.Ok :=
  .ite h (.ite (.ite h h.startRecovery'.setReg) (.ite h h.startQueued.setReg))

theorem State.Ok.settleVcom (h : s.Ok) : s.settleVcom.Ok := .ite h.frame.setBit h.setBit

theorem State.Ok.scanBoundary (h : s.Ok) : s.scanBoundary.Ok :=
  have hs1 := h.endScan.settleVcom
  .ite (.ite hs1.lowerRails hs1.startScan) (.ite (.raiseRails (.ite h.setBit.setReg h)) h)

theorem Result.Ok.execRailUpDelayExpiry (h : s.Ok) : Result.Ok (execRailUpDelayExpiry s) :=
  have hs1 := h.frame.settleVcom
  .next (.ite (.ite hs1.lowerRails hs1.setReg.startScan) h)

theorem Result.Ok.execRailFaultRetry (h : s.Ok) : Result.Ok (execRailFaultRetry s) :=
  have hs1 := h.setReg.setBit.panelStart
  .next (.ite (.ite hs1.setBit (hs1.stepIf (·.frame.setReg))) h)

theorem State.Ok.enablePanel {v : Nat} (h : s.Ok) : (s.enablePanel v).Ok :=
  have hs1 := h.frame.setReg.setBit
  .ite (.ite hs1 (hs1.setBit.stepIf (·.lowerRails))) (.ite h.setReg.raiseRails h.setBit)

theorem MaybeOk.panelApply {key : Nat} {data : List Byte} {offset : Nat} (h : s.Ok) :
    MaybeOk (s.panelApply key data offset) :=
  .ite (.some h.enablePanel)
    (.ite (.some h.setReg.settleVcom)
      (.ite (.some h.setReg.refreshBand)
        (.ite (.some h.frame.refreshBand)
          (.ite (.some h.writeTable.raiseRails)
            (.ite (.some h.joinQueue) (.ite (.some h.frame) (.ite (.some h.frame) .none)))))))

/-! ## The operations of Machine/Keeper -/

theorem State.Ok.endCalendar (h : s.Ok) : s.endCalendar.Ok := h.frame.setBit

theorem State.Ok.advanceClock {seconds : Nat} (h : s.Ok) : (s.advanceClock seconds).Ok :=
  .ite h.frame (.ite h.frame.endCalendar h.frame.frame)

theorem State.Ok.calendarRead (h : s.Ok) : s.calendarRead.2.Ok := .iteSnd h h.draw
theorem State.Ok.setCalendar {bs : List Byte} (h : s.Ok) : (s.setCalendar bs).Ok := h.frame.setReg
theorem State.Ok.badCalendar (h : s.Ok) : s.badCalendar.Ok := h.causeIf.setBit.count

theorem State.Ok.tempTerm (h : s.Ok) : s.tempTerm.2.Ok := by
  unfold State.tempTerm
  split
  · exact h
  · exact h.draw

theorem State.Ok.recomputeTrim (h : s.Ok) : s.recomputeTrim.Ok := h.tempTerm.setRegI.setRegI.causeIf.setBit
theorem State.Ok.putKeeper {u : KeeperUnit} (h : s.Ok) : (s.putKeeper u).Ok := .ite h.setBlob h.setReg

theorem State.Ok.lockKeeper (h : s.Ok) : s.lockKeeper.Ok := by
  have hs1 : State.Ok (if s.keep.locked || s.keep.units.length == 0 then (0, s) else
      (s.draw.1 % (s.keep.units.length + 1), s.draw.2)).2 := .iteSnd h h.draw
  unfold State.lockKeeper
  exact (hs1.each (·.putKeeper)).frame

theorem State.Ok.keeperInvalid {reason : Nat} (h : s.Ok) : (s.keeperInvalid reason).Ok :=
  h.frame.setReg.setReg.setReg.setBlob.setReg.setReg.setReg.setBit.setBit.setReg

theorem State.Ok.writeHostArea {data : List Byte} (h : s.Ok) : (s.writeHostArea data).Ok := h.frame.setBlob

theorem MaybeOk.keeperApply {key : Nat} {data : List Byte} (h : s.Ok) : MaybeOk (s.keeperApply key data) :=
  .ite (.some h)
    (.ite (.some h.frame.setReg)
      (.ite (.some h.frame.setReg)
        (.ite (.some h.setCalendar)
          (.ite (.some h.setReg) (.ite (.some h.setBit) (.ite (.some h.writeHostArea) .none))))))

/-! ## The operations of Machine/Reset -/

theorem State.Ok.dropTransfers {f : Transfer → Bool} (h : s.Ok) : (s.dropTransfers f).Ok := h.frame.stepIf (·.setReg)

theorem State.Ok.endTransactions {f : Path → Bool} (h : s.Ok) : (s.endTransactions f).Ok :=
  (((h.each (·.answer)).each (·.answer)).each (·.answer)).frame.dropTransfers

theorem State.Ok.setStage {b : Nat} {x : BlockStage} (h : s.Ok) : (s.setStage b x).Ok := h.frame

theorem State.Ok.resetCan {c : Nat} (h : s.Ok) : (s.resetCan c).Ok :=
  h.setCrt.setReg.setReg.setReg.setBit.endTransactions.stepIf (·.frame)

theorem State.Ok.resetPlant {p : Nat} (h : s.Ok) : (s.resetPlant p).Ok :=
  (h.setReg.setPrt.setReg.stepIf (·.enterHoldover)).frame.showPorts.endTransactions

theorem State.Ok.resetHost (h : s.Ok) : s.resetHost.Ok := h.frame.setReg.endTransactions

theorem State.Ok.resetTie (h : s.Ok) : s.resetTie.Ok := by
  unfold State.resetTie
  extract_lets pair s1
  have hs1 : s1.Ok := h.frame.setReg.setPartnerRole
  exact (hs1.stepIf (·.stopResync)).endRelayed.endTransactions

theorem State.Ok.resetBlock {b : Nat} (h : s.Ok) : (s.resetBlock b).Ok :=
  .ite h.resetCan
    (.ite h.setSrt (.ite h.resetPlant (.ite h.resetTimeUnit (.ite h.panelStop (.ite h.resetHost h.resetTie)))))

theorem State.Ok.askIdle {b : Nat} (h : s.Ok) : (s.askIdle b).Ok := .ite h.setStage h

theorem State.Ok.holdBlock {b result units : Nat} (h : s.Ok) : (s.holdBlock b result units).Ok :=
  .ite h.resetBlock.setStage.setReg.countBy h

theorem State.Ok.releaseBlock {b : Nat} (h : s.Ok) : (s.releaseBlock b).Ok :=
  .ite (h.setStage.stepIf (·.panelStart.raiseRails)) h

theorem State.Ok.newChallenge (h : s.Ok) : s.newChallenge.Ok := h.draw.setReg
theorem State.Ok.blockReset {b : Nat} (h : s.Ok) : (s.blockReset b).Ok := .count (.askIdle (.ite h.newChallenge h))

theorem State.Ok.communicationReset (h : s.Ok) : s.communicationReset.Ok :=
  (((h.filterRegs.frame.each (·.setReg)).each (·.setBlob)).each (·.setCrt)).showDevice.each (·.askIdle)

theorem State.Ok.recordReset {n level : Nat} (h : s.Ok) : (s.recordReset n level).Ok :=
  h.setReg.setReg.count.setReg.setReg

theorem State.Ok.assertReset {level : Nat} (h : s.Ok) : (s.assertReset level).Ok :=
  h.abortExchange.stepAtOnce.frame.setReg.setMode

theorem State.Ok.startReset {n level : Nat} (h : s.Ok) : (s.startReset n level).Ok := by
  unfold State.startReset
  split
  · exact .ite h.setReg.setReg.assertReset (.ite h.setReg h)
  · exact
      have hs1 := h.recordReset.newChallenge
      .ite hs1.assertReset (hs1.stepIf (·.communicationReset))

theorem State.Ok.raise {n : Nat} (h : s.Ok) : (s.raise n).Ok := h.setBit.stepUnless (·.startReset)

theorem State.Ok.restartCore {level : Nat} (h : s.Ok) : (s.restartCore level).Ok :=
  ⟨h.regs, h.fits, h.wf_keptMemory, rfl, rfl⟩

theorem State.Ok.applicationReset (h : s.Ok) : s.applicationReset.Ok :=
  .refresh (.showImage (.chainInit (.setReg h.restartCore.filterRegs)))

theorem State.Ok.systemReset {level : Nat} (h : s.Ok) : (s.systemReset level).Ok := by
  unfold State.systemReset
  extract_lets cut s1
  have hs1 : s1.Ok := (h.stepIf (·.draw)).restartCore
  exact ⟨h.filterRegs.regs, h.filterRegs.fits, hs1.mem, hs1.engines, hs1.tasks⟩

theorem State.Ok.ageLifecycle (h : s.Ok) : s.ageLifecycle.Ok :=
  .ite h.frame.setReg.setReg.setReg.setReg (.ite h.setReg h)

theorem State.Ok.countStart (h : s.Ok) : s.countStart.Ok := h.setKeeper.stepIf (·.frame)
theorem State.Ok.decideStart (h : s.Ok) : s.decideStart.Ok := h.frame

theorem State.Ok.release {level : Nat} (h : s.Ok) : (s.release level).Ok :=
  have hs1 := h.frame.frame.applicationReset
  .ite (.ite hs1.setReg.countStart.decideStart hs1.setReg)
    ((((h.frame.systemReset.stepIf (·.ageLifecycle)).stepIf (·.setReg)).resetTimeUnit.stepIf (·.setReg)).setReg)

theorem State.Ok.useOptions {o : OptionBlock} {copy : Nat} (h : s.Ok) : (s.useOptions o copy).Ok :=
  h.frame.setReg.setReg.setReg.setReg.setReg

theorem State.Ok.writeOptions {o : OptionBlock} (h : s.Ok) : (s.writeOptions o).Ok := h.frame.setReg

theorem State.Ok.writeParsedOptions {o : Option OptionBlock} (h : s.Ok) : ((o.map s.writeOptions).getD s).Ok := by
  cases o with
  | none => exact h
  | some o => exact h.writeOptions

theorem State.Ok.writeKeeper (h : s.Ok) : s.writeKeeper.Ok := h.frame

theorem State.Ok.resumeCounts (h : s.Ok) : s.resumeCounts.Ok :=
  h.setReg.setReg.setReg.setReg.frame.setKeeper.setKeeper.writeBookHeader

theorem State.Ok.takeMark (h : s.Ok) : s.takeMark.Ok := .ite h.setReg.setKeeper h

theorem Result.Ok.execSupervisorStart (h : s.Ok) : Result.Ok (execSupervisorStart s) :=
  .next (.ite h.writeKeeper.countStart.takeMark.resumeCounts.causeIf.causeIf.setBit.frame.panelStart.decideStart h)

theorem State.Ok.loadTime (h : s.Ok) : s.loadTime.Ok := h.frame.setReg

theorem State.Ok.loadGeneration (h : s.Ok) : s.loadGeneration.Ok := by
  unfold State.loadGeneration
  dsimp only
  split
  · exact h.frame.setCause
  · exact ((h.each (·.setReg)).each (·.setBlob)).frame

theorem State.Ok.settle (h : s.Ok) : s.settle.Ok :=
  (h.each (·.useMode)).frame.refreshBand.showDevice.chainInit.applyRate.refresh

theorem State.Ok.loadFrom {n : Nat} {tagOk : Bool} (h : s.Ok) : (s.loadFrom n tagOk).Ok :=
  .ite h.showBank (by
    split
    · exact h.setBank.showBank
    · exact h.showBank.setCause)

theorem State.Ok.loadMatrix {tagOk : Bool} (h : s.Ok) : (s.loadMatrix tagOk).Ok :=
  .ite h.showMatrix (by
    split
    · exact h.activateMatrix
    · exact h.showMatrix)

theorem Result.Ok.execImagesLoaded {report : LoadReport} (h : s.Ok) : Result.Ok (execImagesLoaded report s) :=
  .next (.ite (.frame (.loadMatrix (.ite h h.loadFrom.loadFrom.setReg.setReg.setReg.showImage.refresh))) h)

theorem State.Ok.endSelfTest (h : s.Ok) : s.endSelfTest.Ok :=
  have hs1 := h.draw.setReg
  have hs3 : State.Ok _ := .ite hs1.setReg.setReg.setReg hs1.setReg.setReg.setReg
  .causeIf
    (.raiseRails (.frame (.ite (hs3.setMode.endBypasses.stepIf (·.setReg)) (hs3.setMode.stepUnless (·.autoStart)))))

theorem Result.Ok.execClockMonitorFault {clock : Clock} (h : s.Ok) : Result.Ok (execClockMonitorFault clock s) :=
  .next (.ite h.raise (.ite h.setBit.startReset (.ite h.setBit.startReset (h.setBit.startReset.each (·.blockReset)))))

theorem Result.Ok.execResetRelease (h : s.Ok) : Result.Ok (execResetRelease s) :=
  .next (by
    split
    · exact h.release
    · exact h)

theorem State.Ok.judgeResponse {bs : List Byte} (h : s.Ok) : (s.judgeResponse bs).Ok :=
  .ite h.frame.setReg.count.newChallenge (h.frame.stepIf (·.setReg)).newChallenge

theorem State.Ok.download {c : FirmwareCopy} (h : s.Ok) : (s.download c).Ok := .ite h.frame.setReg h.frame.setReg

theorem MaybeOk.resetApply {path : Path} {key : Nat} {data : List Byte} (h : s.Ok) :
    MaybeOk (s.resetApply path key data) :=
  .ite (.ite (.some h.frame) (.ite (.some h.frame) (.some h.frame)))
    (.ite (.some h.blockReset)
      (.ite (.some (.ite h.setKeeper h.setReg))
        (.ite (.some h.writeParsedOptions)
          (.ite (.some (h.each (·.setReg)).setReg)
            (.ite (.some h.frame.setReg)
              (.ite (.some h.frame.setReg)
                (.ite (.some (.ite h.frame h.frame))
                  (.ite (.some (.ite h.frame.setReg h.setReg)) (.ite (.some h.judgeResponse) .none)))))))))

theorem State.Ok.commandedReset (h : s.Ok) : s.commandedReset.Ok := by
  unfold State.commandedReset
  split
  · exact h.frame.raise
  · exact h

/-! ## The operations of Machine/Access -/

theorem State.Ok.queueRead {key : Nat} (h : s.Ok) : MaybeOk ((s.queueRead key).map (·.2)) := by
  unfold State.queueRead
  dsimp only
  split_ifs
  · exact .some h.soeRead
  · exact .some h.hartRead
  · exact .some h.calendarRead
  · exact .some h.windowRead
  · exact .some h.sentenceRead
  · exact .none

theorem State.Ok.readEntry {key : Nat} (h : s.Ok) : (s.readEntry key).2.Ok := by
  have hq := h.queueRead (key := key)
  unfold State.readEntry
  dsimp only
  split_ifs
  · exact h
  · split <;> exact h
  · split
    next p hp =>
      rw [hp] at hq
      cases hq with
      | some ht => exact ht
    next => split <;> exact h

theorem State.Ok.noteRefusal {key code : Nat} (h : s.Ok) : (s.noteRefusal key code).Ok :=
  .ite h.badCalendar (.ite h.setReg (.ite h.setReg.setCause (.ite h.count h)))

theorem State.Ok.beginStore {n : Nat} (h : s.Ok) : (s.beginStore n).Ok := h.frame.setReg
theorem State.Ok.markDefaults {path : Path} {n : Nat} (h : s.Ok) : (s.markDefaults path n).Ok := h.frame

theorem State.Ok.stateCommand {s0 : State} {path : Path} {v : Nat} (h : s0.Ok) : (s0.stateCommand path v).Ok :=
  have hs : State.Ok _ := .ite h.refresh h
  .ite hs.setReg.setCause (.setReg (.ite hs.enterRun hs.stopModule))

theorem MaybeOk.dictApply {w : PendingWrite} (h : s.Ok) : MaybeOk (s.dictApply w) :=
  .ite (.some h.beginStore)
    (.ite (.some h.markDefaults)
      (.ite (.some h.stateCommand)
        (.ite (.some h.setReg)
          (.ite (.some h.setReg)
            (.ite (.some (.ite h.frame h.frame.setCause))
              (.ite (.some h.startDownload) (.ite (.some (.ite h.download h)) .none)))))))

theorem State.Ok.putEntry {key : Nat} {data : List Byte} (h : s.Ok) : (s.putEntry key data).Ok :=
  .ite h.setBlob h.setReg

theorem State.Ok.applyEntry {w : PendingWrite} (h : s.Ok) : (s.applyEntry w).Ok :=
  .ite (.ite h (by
    split
    · exact h.exportWrite.noteDirty
    · exact h))
    (.stepIf (.getD (.orElse (.dictApply h) (.orElse (.resetApply h) (.orElse (.digitalApply h) (.orElse (.analogApply h)
      (.orElse (.matrixApply h) (.orElse (.loopApply h) (.orElse (.imageApply h) (.orElse (.busApply h) (.orElse (.bookApply h)
      (.orElse (.timeApply h) (.orElse (.keeperApply h) (.orElse (.panelApply h) (.pairApply h))))))))))))) h.putEntry)
      (·.refresh))

theorem State.Ok.noteSupersede {key : Nat} (h : s.Ok) : (s.noteSupersede key).Ok := by
  unfold State.noteSupersede
  exact h.frame.count.setReg.setReg.setCause

theorem State.Ok.applyWrite {w : PendingWrite} {again : Bool} (h : s.Ok) : (s.applyWrite w again).Ok :=
  .ite h.applyEntry.noteSupersede.answer h.applyEntry.answer

theorem State.Ok.drainClose {n : Nat} (h : s.Ok) : (s.drainClose n).Ok := by
  induction n generalizing s with
  | zero => exact h
  | succ n ih =>
    unfold State.drainClose
    split
    · exact h
    · exact ih h.frame.applyWrite

theorem State.Ok.drainStores {xs : List (Nat × Word)} (h : s.Ok) : (s.drainStores xs).Ok := by
  induction xs generalizing s with
  | nil => exact h
  | cons x xs ih => exact ih (h.applyPStore.stepIf (·.noteSupersede))

theorem State.Ok.closeDictionary (h : s.Ok) : s.closeDictionary.Ok := h.frame.drainStores.drainClose.frame

theorem State.Ok.drainBoundary {ws : List PendingWrite} (h : s.Ok) : (s.drainBoundary ws).Ok := by
  induction ws generalizing s with
  | nil => exact h
  | cons w ws ih => exact ih h.applyWrite

theorem State.Ok.boundaryDictionary (h : s.Ok) : s.boundaryDictionary.Ok := h.frame.drainBoundary.refreshBudget
theorem State.Ok.forward {w : PendingWrite} (h : s.Ok) : (s.forward w).Ok := .ite (.ite h.emit h.emit) h
theorem State.Ok.executing {path : Path} (h : s.Ok) : (s.executing path).Ok := .ite h.setReg h

theorem State.Ok.accept {w : PendingWrite} (h : s.Ok) : (s.accept w).Ok :=
  .ite h.forward.applyWrite.commandedReset
    (.ite (h.forward.frame.executing.stepIf (·.refresh)) h.forward.frame.executing)

theorem State.Ok.submit {w : PendingWrite} (h : s.Ok) : (s.submit w).Ok := .ite h.accept h.noteRefusal.answer

theorem State.Ok.write {path : Path} {key : Nat} {data : List Byte} (h : s.Ok) : (s.write path key data).Ok :=
  .ite h.submit h

theorem State.Ok.command {path : Path} {key v : Nat} (h : s.Ok) : (s.command path key v).Ok := h.write

/-! ## The operations of Machine/Paths -/

theorem State.Ok.takeRead {key : Nat} {bs : List Byte} (h : s.Ok) : (s.takeRead key bs).Ok :=
  .ite h.setSrt (.ite h.dropRecords (.ite h.dropResponse (.getD h.queueRead h)))

theorem State.Ok.segmentRead {path : Path} {tag key start n : Nat} (h : s.Ok) :
    (s.segmentRead path tag key start n).2.Ok := by
  have ht := h.readEntry (key := key)
  unfold State.segmentRead
  split
  · exact .ite h.dropTransfers.takeRead h.dropTransfers.frame
  · split
    · exact h
    next e =>
      rw [e] at ht
      exact .iteSnd ht h.dropTransfers.frame

theorem State.Ok.answerRead {path : Path} {key tag : Nat} {r : Except Nat (List Byte)} (h : s.Ok) :
    (s.answerRead path key tag r).Ok := by
  unfold State.answerRead
  split <;> exact h.answer

theorem State.Ok.openWrite {w : PendingWrite} {session : Nat} (h : s.Ok) : (s.openWrite w session).Ok :=
  .ite h.noteRefusal.answer (h.frame.stepIf (·.emptyBank.setReg)).answer

theorem State.Ok.continueWrite {w : PendingWrite} {session : Nat} {last : Bool} (h : s.Ok) :
    (s.continueWrite w session last).Ok := by
  unfold State.continueWrite
  split
  · exact h.answer
  · exact .ite h.dropTransfers.answer (.ite h.dropTransfers.submit (h.dropTransfers.frame.stepIf (·.setReg)).answer)

theorem State.Ok.segmentWrite {w : PendingWrite} {session : Nat} {last : Bool} (h : s.Ok) :
    (s.segmentWrite w session last).Ok := .ite h.continueWrite (.ite h.submit h.openWrite)

theorem State.Ok.readOn {path : Path} {key : Nat} (h : s.Ok) : (s.readOn path key).Ok := .ite h.readEntry.answerRead h

theorem State.Ok.relay {path : Path} {key tag : Nat} {write : Option (List Byte)} (h : s.Ok) :
    (s.relay path key tag write).Ok := .ite h.frame.emit h.answer

theorem State.Ok.udpRequest {x : UdpHeader} {write : Option (List Byte)} {serve : State → State} (h : s.Ok)
    (step : ∀ {t : State}, t.Ok → (serve t).Ok) : (s.udpRequest x write serve).Ok :=
  .ite h (by
    split
    · exact h.sendReply
    · exact .ite h.answer.setCause (.ite h.relay (step h)))

theorem State.Ok.hostCrcFail (h : s.Ok) : s.hostCrcFail.Ok := h.setReg.count.setCause

theorem State.Ok.hostRequest {f : HostFrame} {good : Bool} {write : Option (List Byte)} {serve : State → State}
    (h : s.Ok) (step : ∀ {t : State}, t.Ok → (serve t).Ok) : (s.hostRequest f good write serve).Ok :=
  .ite h (.ite h.hostCrcFail (.ite h.setReg.count (.ite h.frame.setReg.setReg.relay (step h.frame.setReg.setReg))))

theorem State.Ok.driveHost {sequence kind status : Nat} {data : List Byte} (h : s.Ok) :
    (s.driveHost sequence kind status data).Ok := h.emit

theorem Result.Ok.execHostFetchResponse {sequence crc : Nat} (h : s.Ok) :
    Result.Ok (execHostFetchResponse sequence crc s) :=
  .whenValid h (.ite h (.ite h.hostCrcFail (by
    split
    · exact .ite h.driveHost h.driveHost
    · exact h.driveHost)))

theorem Result.Ok.execPartnerRequest {ix sub : Nat} {write : Option (List Byte)} (h : s.Ok) :
    Result.Ok (execPartnerRequest ix sub write s) :=
  .whenValid h (by
    split
    · exact h.write
    · exact h.readOn)

theorem Result.Ok.execStoreComplete {success : Bool} (h : s.Ok) : Result.Ok (execStoreComplete success s) :=
  .next (by
    split
    · exact h
    · exact .ite h.frame.setReg.setCause h.frame.setReg.setCause)

/-! ## The operations of Machine/Tick -/

theorem State.Ok.countTick (h : s.Ok) : s.countTick.Ok := .ite h.setReg.setReg.setReg h.setReg.setReg
theorem State.Ok.endFrame {length : Nat} (h : s.Ok) : (s.endFrame length).Ok := .setReg (.ite h.setKeeper h)

theorem State.Ok.latchFrame {frame : Nat} (h : s.Ok) : (s.latchFrame frame).Ok := by
  unfold State.latchFrame
  exact h.endFrame.setReg.setReg.latchAll.setCause

theorem State.Ok.boundaryChanges (h : s.Ok) : s.boundaryChanges.Ok :=
  h.boundaryDictionary.sampleFrame.refresh.matrixBoundary.chainBoundary.coldBoundary.exchangeBoundary.refresh

theorem State.Ok.beginTick (h : s.Ok) : s.beginTick.Ok :=
  have hs1 := h.queueErrors.adoptCounts
  .ite hs1.countTick.latchFrame.boundaryChanges.frame hs1.countTick

theorem State.Ok.absorb (h : s.Ok) : s.absorb.Ok := by
  unfold State.absorb
  split
  · exact .ite h h.applyStep.setReg.frame
  · exact h

theorem State.Ok.countStretch (h : s.Ok) : s.countStretch.Ok := .ite h.count.count.count.setCause h

theorem State.Ok.judgeSync (h : s.Ok) : s.judgeSync.Ok :=
  have hs1 := h.frame.setReg
  .ite hs1 (hs1.count.stepIf (·.recordError.setCause))

theorem State.Ok.placeEdge {stageError : Nat} (h : s.Ok) : (s.placeEdge stageError).Ok :=
  h.frame.countStretch.judgeSync

theorem State.Ok.latchInputs {field : FieldSample} {previousNs : Nat} (h : s.Ok) :
    (s.latchInputs field previousNs).Ok := ((h.each (·.setReg)).each (·.setReg)).latchDigital.latchAnalog.sampleEdge

theorem State.Ok.releaseEdge {cooled : Nat} (h : s.Ok) : (s.releaseEdge cooled).Ok :=
  .ite h.outstationEdge h.releaseOutputs.chainRelease.busesAtD.frame

theorem State.Ok.countSteady (h : s.Ok) : s.countSteady.Ok := .ite h.count h

theorem State.Ok.edgeEnd (h : s.Ok) : s.edgeEnd.Ok :=
  .countSteady (.each (.stepIf (.chainAtD (.ite h.frame.pairBoundary h)) (·.sendStatus)) (·.hartEdge))

theorem State.Ok.datumEdge {field : FieldSample} (h : s.Ok) : (s.datumEdge field).Ok :=
  .edgeEnd
    (.releaseEdge (.pairAtD (.latchInputs (.placeEdge (.ite h.endSelfTest.refresh (h.absorb.stepIf (·.beginTick)))))))

theorem State.Ok.atPoint {p : Point} {ns : Nat} (h : s.Ok) : (s.atPoint p ns).Ok := h.frame

theorem State.Ok.noteMismatch {pair : Nat} (h : s.Ok) : (s.noteMismatch pair).Ok :=
  .ite (.ite h.pairMismatch h) (.ite (.ite h h.frame.count) h)

theorem State.Ok.compute {faults : List Nat} (h : s.Ok) : (s.compute faults).Ok :=
  .each (.evaluateMatrix (.ite h.startTasks.sampleLoops h)) (·.noteMismatch)

theorem State.Ok.sampleTick (h : s.Ok) : s.sampleTick.Ok :=
  have hs2 := h.sampleNat.each (·.sampleNat)
  .ite h.sampleNat (by
    split
    · exact hs2.minReg.sampleNat
    · exact hs2)

theorem State.Ok.sampleWords (h : s.Ok) : s.sampleWords.Ok := .ite h.sampleSources h

theorem State.Ok.noteFaults {f : TickFaults} (h : s.Ok) : (s.noteFaults f).Ok :=
  have hs1 := h.each (fun ht => .ite ht.count ht)
  (((hs1.stepIf (·.noteSource)).stepIf (·.noteSource)).stepUnless (·.noteSource)).causeIf.causeIf

theorem State.Ok.haltFor {f : TickFaults} (h : s.Ok) : (s.haltFor f).Ok :=
  .ite (h.frame.stepUnless (·.halt)) (.ite h.halt (by
    split
    · exact h.halt
    · exact h))

theorem State.Ok.settleEngines (h : s.Ok) : s.settleEngines.Ok :=
  ⟨h.regs, h.fits, h.mem, Sparse.rising_map _ _ h.abandon.engines, h.tasks⟩

theorem State.Ok.endCompute (h : s.Ok) : s.endCompute.Ok :=
  .ite (h.commitStores.stepIf (·.planSwitch)) h.clearOverlays

theorem State.Ok.stakingPoint (h : s.Ok) : s.stakingPoint.Ok :=
  ((h.atPoint.sampleTick.noteFaults.endCompute.sampleWords.haltFor.settleEngines.stepIf (·.armExchange)).stepUnless
    (·.frame)).stakeOutputs.chainAtS.pairAtS

/-! ## The operations of Machine/Timers -/

theorem State.Ok.putTimer {p n : Nat} {t : Timer} (h : s.Ok) : (s.putTimer p n t).Ok := h.store

theorem Result.Ok.timerOp {k : TimerKind} {p : Nat} {x : Operand} (h : s.Ok) : Result.Ok (timerOp k p x s) :=
  .scanGuard h h.putTimer.onEngine.advance

theorem State.Ok.putCounter {p n : Nat} {wr : Bool} {c : Counter} (h : s.Ok) : (s.putCounter p n wr c).Ok :=
  .store (.ite h.store h)

theorem Result.Ok.counterOp {p cycles : Nat} {x : Operand} {wr : Counter → Bool → Bool} {f : Counter → Bool → Counter}
    {r ov : Counter → Bool → Bool} (h : s.Ok) :
    Result.Ok (counterOp p cycles x wr f r ov s) := .scanGuard h h.putCounter.onEngine.advance

/-! ## One step -/

theorem exec_ok (h : s.Ok) (c : Instr) : Result.Ok (exec c s) := by
  unfold exec
  cases c with
  | datumEdge => exact .next (.ite h.datumEdge h)
  | computeStart => exact .whenValid h (.ite (h.atPoint.pairAtX.frame.stepIf (·.compute)).backgroundCopy h)
  | causeTrip => exact .execCauseTrip h
  | bypassExpiry => exact .next h.endBypass
  | opNop => exact .implied h
  | opLd | opLdn | opAnd | opAndn | opOr | opOrn | opXor | opXorn => exact .bitLogic h
  | opSt | opStn | opSet | opRst => exact .bitStore h
  | opNot | opSeta | opClra => exact .implied h
  | opEdp | opEdn => exact .edgeOp h
  | opLdx => exact .scanGuard h (.ite h.onEngine.advance h.indexFault.onEngine.advance)
  | opStx => exact .scanGuard h (.advanceUnless (.ite h.storeBit h.suppressStore))
  | opPsa | opPso | opPsx | opPsk => exact .pushBranch h
  | opPop | opPeek => exact .scanGuard h h.onEngine.advance
  | opTon | opTof | opTp | opTacc => exact .timerOp h
  | opTrs => exact .scanGuard h (.advance (.ite h.putTimer h))
  | opCtu | opCtd | opCrs | opCld => exact .counterOp h
  | opJmp | opJc | opJcn => exact .jumpIf h
  | opCall => exact .scanGuard h h.callTo
  | opCallc => exact .scanGuard h (.ite h.callTo h.advance)
  | opRet => exact .scanGuard h h.onEngine.jumpTo
  | opEnd => exact .execEnd h
  | opLdf | opClf => exact .scanGuard h h.onEngine.advance
  | opLdw => exact .scanGuard h h.onEngine.afterRead.advance
  | opLdh | opLdhu | opLdb | opLdbu => exact .loadPart h
  | opLdhi => exact .scanGuard h h.onEngine.advance
  | opStw => exact .scanGuard h h.storeWord.advanceUnless
  | opSth | opStb => exact .storePart h
  | opStwc => exact .scanGuard h (.advanceUnless (.ite h.storeWord h))
  | opLdwx => exact .scanGuard h (.ite h.onEngine.advance h.indexFault.onEngine.advance)
  | opStwx => exact .scanGuard h (.advanceUnless (.ite h.store h.suppressStore))
  | opAdd | opSub | opMul | opDiv | opMod | opNeg | opAbs => exact .wordOp h
  | opMin | opMax => exact .plainOp h
  | opAddu | opSubu => exact .wordOp h
  | opAw | opOw | opXw | opInvw => exact .plainOp h
  | opShl | opShr | opSar | opRol => exact .shiftOp h
  | opEq | opNe | opGt | opGe | opLt | opLe | opGtu | opLtu => exact .compareOp h
  | opFadd | opFsub | opFmul | opFdiv => exact .wordOp h
  | opFneg | opFabs => exact .plainOp h
  | opFsqrt => exact .wordOp h
  | opFeq | opFne | opFgt | opFge | opFlt | opFle => exact .floatCompare h
  | opItf | opFti | opFtit | opSat16 | opSatu16 => exact .wordOp h
  | opSext16 => exact .plainOp h
  | opSwp | opDup | opTstw | opLda => exact .implied h
  | stateCommandRun | stateCommandStop => exact .next h.command
  | matrixWrite => exact .next h.write
  | resetEffect => exact .whenValid h h.command
  | bypassCommand | imageDownload => exact .next h.write
  | loopStatusClear => exact .whenValid h h.command
  | imageFrame => exact .next (.ite (h.tieFrame (·.frame)) h.countFailed)
  | writeForwardFrame => exact .whenValid h (h.tieFrame (fun ht => .ite ht (.ite ht.frame.refresh ht.frame)))
  | roleStatusFrame => exact .next (h.tieFrame (·.takeStatus))
  | outputDigest => exact .next (h.tieFrame (·.takeDigest))
  | faultNotice => exact .next (h.tieFrame (·.takeNotice))
  | fullOutputImage => exact .next (h.tieFrame (·.takeFullImage))
  | tieCommandFrame => exact .next (h.tieFrame (·.takeCommand))
  | resynchronisationDataFrame => exact .whenValid h (h.tieFrame (·.takeStream))
  | bankCopyComplete => exact .whenValid h (h.tieFrame (·.takeCopy))
  | tieLinkLaneFail => exact .whenValid h (.ite (h.setReg.frame.setPartnerRole.stepIf (·.stopResync)) h.setReg)
  | roleInChange => exact .next (.ite h.setReg (.ite h.setReg.takeOver (h.setReg.stepIf (·.takeOver))))
  | traverseFrame => exact .execTraverseFrame h
  | traverseFrameReturn => exact .whenValid h (.stepUnless (.ite h h.count) (·.frame.takeSlots))
  | stakeFrame => exact .whenValid h (.ite h (.emit (.countReflection (.ite h.keepStake h))))
  | tokenFrame => exact .whenValid h (.ite h (.emit (.countReflection (.ite h.keepToken h.readToken))))
  | chainPortLinkDown => exact .whenValid h h.setReg.setReg.setReg.setPrt
  | chainPortLinkUp => exact .whenValid h h.setReg.setReg
  | foreignFrameDiscard => exact .whenValid h h
  | lPlusLowSet => exact .execLPlusLowSet h
  | lPlusLowClear => exact .whenValid h (.ite (h.setBit.setReg.setCause.each (fun ht => .ite ht ht.setCause)) h)
  | inputFilterAccept => exact .whenValid h (.ite h (h.setDrt.stepUnless (·.stampEdge)))
  | demagEnd => exact .whenValid h (.ite h.setBit.setDrt h)
  | overloadDetect => exact .whenValid h (.ite h.raiseDiag h)
  | overloadClear => exact .whenValid h h.dropDiag
  | overtempTrip => exact .whenValid h (.ite (h.stageOff.setBit.raiseDiag.count.setDrt.stepIf (·.raiseDiag)) h)
  | tripCountClear => exact .whenValid h (.ite h.setReg h)
  | openloadOnDetect | openloadOffDetect => exact .whenValid h (.ite h.raiseDiag h)
  | openloadClear => exact .whenValid h h.dropDiag.dropDiag
  | wirebreakDetect => exact .whenValid h (.ite h.raiseDiag h)
  | wirebreakClear => exact .whenValid h h.dropDiag
  | readbackFault => exact .whenValid h h.readbackTrip
  | sliceOcTrip => exact .execSliceOcTrip h
  | clearOtLatched | clearSliceOc => exact .whenValid h h.command
  | soeQueueRead => exact .next h.readOn
  | holdLatchLimitExpiry => exact .whenValid h h.holdExpiry
  | supplySet => exact .whenValid h (.ite h (h.setReg.count.each (fun ht => .ite ht ht.anaRaise)))
  | supplyClear => exact .whenValid h (h.setReg.each (·.anaDrop))
  | complianceSet => exact .whenValid h (.ite h.anaRaise.setBit h)
  | complianceClear => exact .whenValid h (.ite h.anaDrop.setBit h)
  | miswireDetect => exact .whenValid h (.ite h h.anaRaise.setArt.hartFinish.hartFlush)
  | miswireProbe => exact .whenValid h (.ite (h.setArt.stepIf (·.anaDrop)) h)
  | limitDetect => exact .whenValid h (.ite h.anaRaise h)
  | limitClear => exact .whenValid h h.anaDrop
  | analogOvertempTrip => exact .whenValid h (.ite h.anaRaise h)
  | analogModeChangeApplied => exact .whenValid h (.ite h.applyMode h)
  | hartRequest => exact .next h.write
  | hartResponseFrame => exact .execHartResponseFrame h
  | hartResponseTimeout => exact .whenValid h h.hartRetry
  | hartResponseRead => exact .next h.readOn
  | hartAbort => exact .whenValid h h.command
  | hartBurstFrame => exact .whenValid h (.ite h h.hartBurst)
  | ptpSync => exact .execPtpSync h
  | ptpFollowUp => exact .execPtpFollowUp h
  | ptpAnnounce => exact .whenValid h (.ite h (.ite (.passAnnounce (.ite h.showMaster h)) (.ite h h.setPrt.showPorts)))
  | ptpDelayExchange => exact .whenValid h (.ite h h.count.setReg.setReg.setPrt.maxReg)
  | ptpUnsupportedMessage => exact .whenValid h h
  | ppsInEdge => exact .next (.ite h.setReg.setRegI.count.setCause h)
  | chainSyncTransmit => exact .next (.ite (h.each (·.emit)) h)
  | calendarSet => exact .next h.write
  | calendarCapture => exact .next h.command
  | keeperTemperatureSample => exact .next h.advanceClock.frame.setReg.recomputeTrim.refreshBand
  | wakeAcknowledge => exact .next h.command
  | switchToMain => exact .next (.ite h.frame.setReg h)
  | canFrameReceived => exact .whenValid h (.ite h (.ite h.count (.ite h.count.queueFrame h.count.count)))
  | canFrameSent => exact .execCanFrameSent h
  | canBusOff => exact .whenValid h (.ite h.busOff h)
  | canErrorPassive => exact .whenValid h (.ite h.errorPassive h)
  | busOffRecoveryEnd => exact .whenValid h (.ite h.setBit.setBit.setBit.setReg h)
  | startBusOffRecovery | discardTransmitQueue => exact .whenValid h h.command
  | canWindowRead => exact .whenValid h h.readOn
  | releaseRxq0 | releaseRxq1 => exact .whenValid h h.command
  | rpdoReceived => exact .whenValid h (.ite h (.ite h.count (.ite h (.ite h.setRpdo h.setRpdo))))
  | tpdoEventTimerExpiry => exact .whenValid h (.ite h.setTpdo h)
  | sdoUploadRequest => exact .whenValid h h.readOn
  | sdoDownloadRequest => exact .whenValid h h.write
  | sdoAbortTransfer => exact .whenValid h h.dropTransfers
  | nmtStartRemoteNode | nmtStopRemoteNode | nmtEnterPreOperational => exact .whenValid h h.setNmt
  | nmtResetNode | nmtResetCommunication => exact .whenValid h (.ite h.raise h)
  | addressClaimReceived => exact .execAddressClaimReceived h
  | requestForAddressClaim => exact .whenValid h (.ite h.emit h)
  | sentenceReceived => exact .whenValid h (.ite h h.takeLine)
  | sentenceQueueRead => exact .whenValid h h.readOn
  | datagram61162450 => exact .whenValid h (.ite h (.ite h.frame (h.frame.each (·.takeLine))))
  | dictionaryWrite => exact .whenValid h h.write
  | storeComplete => exact .execStoreComplete h
  | guardUnlock | guardRelock => exact .next h.command
  | guardWindowExpiry => exact .next (.ite h.frame.setCause h)
  | transferIdleTimeout => exact .next (h.each (·.answer)).dropTransfers
  | udpRead => exact .whenValid h (h.udpRequest (·.segmentRead.answerRead))
  | udpWrite => exact .whenValid h (h.udpRequest (·.segmentWrite))
  | hostRead => exact .whenValid h (h.hostRequest (·.segmentRead.answerRead))
  | hostWrite => exact .whenValid h (h.hostRequest (·.segmentWrite))
  | hostFetchResponse => exact .execHostFetchResponse h
  | hostStatusPoll => exact .whenValid h (.ite h (.ite h.hostCrcFail (h.driveHost.stepIf (·.setReg))))
  | partnerRequest => exact .execPartnerRequest h
  | causeClear => exact .whenValid h h.command
  | levelBookCommitDue => exact .whenValid h (.ite h.markDue h)
  | levelBookCommitDone => exact .whenValid h (.ite h (.ite h.commitRecord h.setBookRt.count.setReg.setCause))
  | commitRetryExpiry => exact .whenValid h (.ite h.setBookRt h)
  | recordRestart => exact .whenValid h h.command
  | operatingSecond => exact .execOperatingSecond h
  | rectangleRequest => exact .next h.write
  | clockMonitorFault => exact .execClockMonitorFault h
  | blockResetCommand => exact .whenValid h h.command
  | blockIdle | blockIdleTimeout => exact .whenValid h h.holdBlock
  | blockRelease => exact .whenValid h h.releaseBlock
  | selfTestComplete => exact .whenValid h (.ite (.ite h.frame.setReg h.setReg) h)
  | imagesLoaded => exact .execImagesLoaded h
  | tieLinkLaneUp => exact .whenValid h (.ite h.setReg h)
  | plantPortLinkDown => exact .whenValid h (h.setReg.setPrt.setReg.stepIf (·.enterHoldover)).showPorts
  | plantPortLinkUp => exact .whenValid h (.ite h.setReg.showPorts h)
  | canProtocolError => exact .whenValid h (.ite h.protocolEvent h)
  | heartbeatConsumerExpiry => exact .whenValid h h
  | delayRequestTransmit => exact .whenValid h (.ite h.setPrt.emit h)
  | sentenceTransmitted => exact .execSentenceTransmitted h
  | jtagForcedRelease => exact .whenValid h (.ite h.setStage.setReg h)
  | coldActivation | onlineExchange | exchangeAbort | eraseInactiveBank | plannedSwitchOver | cancelSwitchOver
  | leaveNotReady | enterNotReady | startResynchronisation => exact .next h.command
  | clearSliceOtLatched => exact .whenValid h h.command
  | soeQueueDiscard | timeUnitReset | storeParametersAll | storeParametersCommunication | storeParametersApplication
  | restoreDefaultsAll | restoreDefaultsCommunication | restoreDefaultsApplication | discardQueuedRequests =>
    exact .next h.command
  | panelEnable => exact .whenValid h h.command
  | waveformTableWrite => exact .next h.write
  | resetNodeCommand | resetCommunicationCommand | clearFailedStartCounter | enterBenchmarkRequest | leaveBenchmarkMark =>
    exact .next h.command
  | optionBlockWrite | resetMapProgramming | ownerKeyHashProgramming | debugKeyHashProgramming => exact .next h.write
  | lifecycleField | lifecycleRetire => exact .next h.command
  | firmwareDownload => exact .next (.ite (.answer (.ite h.download h)) h)
  | preferOtherCopy | raiseSecurityVersion => exact .next h.command
  | debugResponse => exact .next h.write
  | closingPoint => exact .next (.ite h.atPoint.closeDictionary.closeImage.pairAtC.commandedReset h)
  | stakingPoint => exact .next (.ite h (.ite h.atPoint h.stakingPoint))
  | closurePoint => exact .next (.ite h (h.atPoint.stepUnless (·.pairAtK)))
  | frameBoundary => exact .next (.ite h.beginTick h)
  | stepAbsorbed => exact .next (.ite h.absorb h)
  | imageVerificationDone => exact .next h.finishVerification
  | backgroundTransferDone => exact .next (.ite h.copyOn h)
  | preparationLimitExpiry => exact .next (.ite h.abortExchange h)
  | bankRecordCommitted => exact .next (.ite h.frame.setReg.setCause h)
  | closureVerdict => exact .next (.ite h.decideVerdict h)
  | silenceWatchClose => exact .execSilenceWatchClose h
  | claimWaitExpiry => exact .next (.ite h.changeRole h)
  | driverTurnOff => exact .next (.ite h.dropDie.dropDie h)
  | handbackHoldOffExpiry => exact .next (.ite h.frame h)
  | resynchronisationPassComplete => exact .next (.ite h.frame.setReg h)
  | resynchronisationLimitExpiry => exact .next (.ite h.failAttempt h)
  | holdLimitExpiry => exact .next (.ite h.holdLimitExpiry h)
  | holdoverEntry => exact .execHoldoverEntry h
  | ppsOutPulse => exact .next (.ite h (h.frame.stepUnless (·.emit)))
  | chainAnnounceTransmit => exact .next (.ite (h.each (·.emit)) h)
  | discipline => exact .next (.ite h.setRegI.setReg.frame h)
  | calendarEnd => exact .next h.endCalendar
  | keeperWake => exact .next (.ite h (.ite h.frame.count h.frame.setBit.count.setCause))
  | keeperInterfaceLock => exact .next h.lockKeeper
  | switchToVbat => exact .next (.ite h h.lockKeeper.frame.setBit.count)
  | keeperInterfaceUnlock => exact .next (.ite (.frame (.ite h.keeperInvalid (.ite h.keeperInvalid h.setReg))) h)
  | retentionLost => exact .next (.ite h.frame h)
  | syncReceived => exact .next (.ite h.frame.syncRpdos h)
  | heartbeatProducerExpiry => exact .execHeartbeatProducerExpiry h
  | scanBoundary => exact .next h.scanBoundary
  | prailOkAsserted => exact .next (.ite h.frame h)
  | railUpDelayExpiry => exact .execRailUpDelayExpiry h
  | railUpTimeout | railFault => exact .next (.ite h.railFault h)
  | railFaultRetry => exact .execRailFaultRetry h
  | railHoldExpiry => exact .next (.ite h.lowerRails h)
  | railDownDelayExpiry => exact .next (.ite h.frame.setReg.setBit h)
  | stressCounterCommit => exact .next h.frame
  | powerOnReset => exact .next h.frame.setReg.setReg.startReset.setReg
  | vsupBrownOut | coreBrownOut | rstNAsserted | supervisorWatchdogExpiry | supervisorLockstepMismatch | thermalReset =>
    exact .next h.raise
  | debugReset => exact .next (.ite h h.raise)
  | deferredResetStart => exact .next (.ite (h.frame.each (·.startReset)) h)
  | resetRelease => exact .execResetRelease h
  | optionReadComplete => exact .next (.ite (h.useOptions.stepIf (·.setBit)).setMode h)
  | firmwareBoot => exact .next (.ite (.ite h.frame.setReg.setReg (.ite h.frame.setReg.setReg h)) h)
  | supervisorStart => exact .execSupervisorStart h
  | configurationLoaded => exact .next (.ite h.loadGeneration.settle.loadTime h)

/-- Settles O22: a step runs the front of the queue, and each command keeps the canonical form. -/
theorem stepKeepsOk : Obligations.StepKeepsOk := by
  intro s t h e
  unfold step at e
  split at e
  · cases e; exact h
  next c rest _ =>
    have ht := exec_ok (s := { s with pending := rest }) h.frame c
    rw [e] at ht
    cases ht with
    | next ht => exact ht

end Sys2Proof.Machine
end

section
/-! SUPPORT. The register operations (R10, R43) and the frame latch (R42). The latch is a fold over the statistics; it acts
on each one alone because no two of them share a register. That is shown block by block, where a block's registers lie in
an interval of indexes, so that a range of entries of one layout takes one check of its first entry. -/

namespace Sys2Proof.Machine

open Sys2Proof Sys2Proof.Stated

/-! ## Single bits of a number -/

theorem testBit_add_two_pow {v n : Nat} (m : Nat) (h : v.testBit n = false) :
    (v + 2 ^ n).testBit m = if m = n then true else v.testBit m := by
  induction n generalizing v m with
  | zero =>
    have even : v % 2 = 0 := by simpa using h
    cases m with
    | zero => simp [Nat.testBit_zero]; omega
    | succ m =>
      have half : (v + 1) / 2 = v / 2 := by omega
      simp [Nat.testBit_add_one, half]
  | succ n ih =>
    have half : (v + 2 ^ (n + 1)) / 2 = v / 2 + 2 ^ n := by omega
    cases m with
    | zero => simp [Nat.testBit_zero]; omega
    | succ m =>
      rw [Nat.testBit_add_one, half, ih m (Nat.testBit_add_one v n ▸ h), Nat.testBit_add_one]
      simp

theorem testBit_sub_two_pow {v n : Nat} (m : Nat) (h : v.testBit n = true) :
    (v - 2 ^ n).testBit m = if m = n then false else v.testBit m := by
  have back : v - 2 ^ n + 2 ^ n = v := Nat.sub_add_cancel (Nat.ge_two_pow_of_testBit h)
  have clear : (v - 2 ^ n).testBit n = false := by
    have flip := Nat.testBit_two_pow_add_eq (v - 2 ^ n) n
    rw [Nat.add_comm, back, h] at flip
    simpa using flip
  have add := testBit_add_two_pow m clear
  rw [back] at add
  split
  next e => rw [e, clear]
  next e => rw [add, if_neg e]

theorem testBit_withBit (v n m : Nat) (b : Bool) : (withBit v n b).testBit m = if m = n then b else v.testBit m := by
  unfold withBit
  split
  next e =>
    split
    next same => rw [same, e]
    next => rfl
  next e =>
    cases b with
    | true => exact testBit_add_two_pow m (by simpa using e)
    | false => exact testBit_sub_two_pow m (by simpa using e)

/-! ## One register -/

theorem defaultOf_lt (k : Nat) : defaultOf k < 2 ^ entryBits k := by
  unfold defaultOf
  have mod (x : Nat) : x % 2 ^ entryBits k < 2 ^ entryBits k := Nat.mod_lt _ (Nat.two_pow_pos _)
  split
  · exact mod _
  · split
    · exact mod _
    · exact Nat.two_pow_pos _

/-- In a state in canonical form a register reads within its entry's width (R10). -/
theorem State.Ok.reg_lt {s : State} (h : s.Ok) (k : Nat) : s.reg k < 2 ^ entryBits k := State.reg_lt s k h (defaultOf_lt k)

theorem fit_of_lt {k v : Nat} (h : v < 2 ^ entryBits k) : fit k v = v := Nat.mod_eq_of_lt h

theorem State.only_setReg (s : State) (k v : Nat) : Only [k] s (s.setReg k v) :=
  fun j hj => s.reg_setReg_other k j v (by simpa using hj)

theorem State.reg_count (s : State) (k : Nat) : (s.count k).reg k = min (s.reg k + 1) (2 ^ entryBits k - 1) := by
  have pos := Nat.two_pow_pos (entryBits k)
  exact (s.reg_setReg_same k _).trans (fit_of_lt (by omega))

theorem State.testBit_reg_setBit (s : State) {k m : Nat} (n : Nat) (b : Bool) (hm : m < entryBits k) :
    ((s.setBit k n b).reg k).testBit m = if m = n then b else (s.reg k).testBit m := by
  unfold State.setBit
  rw [s.reg_setReg_same, fit, Nat.testBit_mod_two_pow, testBit_withBit]
  simp [hm]

theorem State.setsBit_setBit (s : State) {k n : Nat} (hn : n < entryBits k) : SetsBit k n s (s.setBit k n true) :=
  ⟨by simp [s.testBit_reg_setBit n true hn], fun m hm e => by simp [s.testBit_reg_setBit n true hm, e]⟩

theorem State.reg_maxReg (s : State) {k v : Nat} (hv : v < 2 ^ entryBits k) : (s.maxReg k v).reg k = max (s.reg k) v := by
  unfold State.maxReg
  split
  next h => rw [s.reg_setReg_same, fit_of_lt hv, Nat.max_eq_right h.le]
  next h => rw [Nat.max_eq_left (Nat.le_of_not_lt h)]

theorem State.reg_minReg (s : State) {k v : Nat} (hv : v < 2 ^ entryBits k) : (s.minReg k v).reg k = min (s.reg k) v := by
  unfold State.minReg
  split
  next h => rw [s.reg_setReg_same, fit_of_lt hv, Nat.min_eq_right h.le]
  next h => rw [Nat.min_eq_left (Nat.le_of_not_lt h)]

/-! ## The latch of one statistic, and of statistics that share no register -/

/-- Two statistics share no register. -/
abbrev Statistic.Apart (x y : Statistic) : Prop :=
  x.live ≠ y.live ∧ x.live ≠ y.latch ∧ x.latch ≠ y.live ∧ x.latch ≠ y.latch

theorem State.reg_latchOne_other (s : State) {x : Statistic} {k : Nat} (hl : k ≠ x.live) (hc : k ≠ x.latch) :
    (s.latchOne x).reg k = s.reg k :=
  (State.reg_setReg_other _ _ _ _ hl).trans (State.reg_setReg_other _ _ _ _ hc)

theorem State.reg_latchOne_live (s : State) (x : Statistic) : (s.latchOne x).reg x.live = fit x.live x.start :=
  State.reg_setReg_same _ _ _

theorem State.reg_latchOne_latch (s : State) {x : Statistic} (hx : x.live ≠ x.latch) :
    (s.latchOne x).reg x.latch = fit x.latch (s.reg x.live) :=
  (State.reg_setReg_other _ _ _ _ hx.symm).trans (State.reg_setReg_same _ _ _)

theorem State.reg_each_latchOne_other {xs : List Statistic} {k : Nat} (s : State)
    (hk : ∀ x ∈ xs, k ≠ x.live ∧ k ≠ x.latch) : (s.each xs State.latchOne).reg k = s.reg k := by
  induction xs generalizing s with
  | nil => rfl
  | cons x xs ih =>
    obtain ⟨hl, hc⟩ := hk x (by simp)
    exact (ih (s.latchOne x) fun y hy => hk y (by simp [hy])).trans (s.reg_latchOne_other hl hc)

theorem State.reg_each_latchOne {xs : List Statistic} {x : Statistic} (s : State) (apart : xs.Pairwise Statistic.Apart)
    (hx : x ∈ xs) (hne : x.live ≠ x.latch) :
    (s.each xs State.latchOne).reg x.latch = fit x.latch (s.reg x.live) ∧
    (s.each xs State.latchOne).reg x.live = fit x.live x.start := by
  induction xs generalizing s with
  | nil => simp at hx
  | cons y ys ih =>
    obtain ⟨hy, hys⟩ := List.pairwise_cons.mp apart
    rcases List.mem_cons.mp hx with rfl | hx
    · have latch := State.reg_each_latchOne_other (s.latchOne x) fun z hz =>
        have ⟨_, _, cl, cc⟩ := hy z hz; ⟨cl, cc⟩
      have live := State.reg_each_latchOne_other (s.latchOne x) fun z hz =>
        have ⟨ll, lc, _, _⟩ := hy z hz; ⟨ll, lc⟩
      exact ⟨latch.trans (s.reg_latchOne_latch hne), live.trans (s.reg_latchOne_live x)⟩
    · obtain ⟨ll, _, cl, _⟩ := hy x hx
      rw [← s.reg_latchOne_other ll.symm cl.symm]
      exact ih (s.latchOne y) hys hx

/-! ## Entries of one layout -/

theorem keyOf_div {ix sub : Nat} (h : sub < 256) : keyOf ix sub / 256 = ix := by unfold keyOf; omega

theorem keyOf_mod {ix sub : Nat} (h : sub < 256) : keyOf ix sub % 256 = sub := by unfold keyOf; omega

/-- No row of the dictionary begins or ends between the indexes from `a` up to `a + n`, which lie in one range. -/
abbrev OneLayout (a n : Nat) : Prop :=
  a + n ≤ 0x2F00 ∧ a % 256 + n ≤ 256 ∧
  ∀ e ∈ rowsOf a, (e.ixLo ≤ a ∨ a + n ≤ e.ixLo) ∧ (a + n ≤ e.ixHi + 1 ∨ e.ixHi < a)

theorem rowsOf_congr {a b : Nat} (h : a / 256 = b / 256) (hb : b < 0x2F00) : rowsOf a = rowsOf b := by
  unfold rowsOf
  iterate 14 refine if_congr (by omega) rfl ?_
  rw [if_pos (by omega), if_pos (by omega)]

theorem OneLayout.entryOf_add {a n k : Nat} (h : OneLayout a n) (hk : k < n) (sub : Nat) :
    entryOf (a + k) sub = entryOf a sub := by
  obtain ⟨top, page, rows⟩ := h
  unfold entryOf
  rw [rowsOf_congr (b := a) (by omega) (by omega)]
  revert rows
  induction rowsOf a with
  | nil => exact fun _ => rfl
  | cons e es ih =>
    intro rows
    obtain ⟨lo, hi⟩ := rows e (by simp)
    have within : (e.ixLo ≤ a + k ↔ e.ixLo ≤ a) ∧ (a + k ≤ e.ixHi ↔ a ≤ e.ixHi) := by omega
    simp only [entryIn, within, ih fun x hx => rows x (by simp [hx])]

theorem OneLayout.entryBits_add {a n k sub : Nat} (h : OneLayout a n) (hk : k < n) (hs : sub < 256) :
    entryBits (keyOf (a + k) sub) = entryBits (keyOf a sub) := by
  unfold entryBits
  rw [keyOf_div hs, keyOf_div hs, keyOf_mod hs, keyOf_mod hs, h.entryOf_add hk]

/-! ## Blocks of statistics -/

/-- What the latch of one statistic needs: two registers of 32 bits at one index, and the live one's restart value (R43). -/
abbrev Statistic.Sound (x : Statistic) : Prop :=
  x.live ≠ x.latch ∧ x.latch / 256 = x.live / 256 ∧ entryBits x.live = 32 ∧ entryBits x.latch = 32 ∧
  x.start = if x.live = 0x202009 then 0xFFFFFFFF else 0

/-- Sound statistics that share no register, at the indexes from `lo` up to `hi`. -/
structure Block (lo hi : Nat) (xs : List Statistic) : Prop where
  le : lo ≤ hi
  sound : ∀ x ∈ xs, x.Sound
  placed : ∀ x ∈ xs, lo ≤ x.live / 256 ∧ x.live / 256 < hi
  apart : xs.Pairwise Statistic.Apart

theorem Statistic.Sound.apart {x y : Statistic} (hx : x.Sound) (hy : y.Sound) (h : x.live / 256 < y.live / 256) :
    x.Apart y := by
  obtain ⟨_, ex, _⟩ := hx
  obtain ⟨_, ey, _⟩ := hy
  refine ⟨?_, ?_, ?_, ?_⟩ <;> intro e <;> omega

theorem Block.append {lo hi lo' hi' : Nat} {xs ys : List Statistic} (hx : Block lo hi xs) (hy : Block lo' hi' ys)
    (h : hi ≤ lo') : Block lo hi' (xs ++ ys) where
  le := hx.le.trans (h.trans hy.le)
  sound x hm := (List.mem_append.mp hm).elim (hx.sound x) (hy.sound x)
  placed x hm := (List.mem_append.mp hm).elim
    (fun m => ⟨(hx.placed x m).1, (hx.placed x m).2.trans_le (h.trans hy.le)⟩)
    (fun m => ⟨(hx.le.trans h).trans (hy.placed x m).1, (hy.placed x m).2⟩)
  apart := List.pairwise_append.mpr ⟨hx.apart, hy.apart, fun x mx y my =>
    (hx.sound x mx).apart (hy.sound y my) ((hx.placed x mx).2.trans_le (h.trans (hy.placed y my).1))⟩

theorem Block.flatMap_range {a n : Nat} {f : Nat → List Statistic} (h : ∀ k < n, Block (a + k) (a + k + 1) (f k)) :
    Block a (a + n) ((List.range n).flatMap f) := by
  induction n with
  | zero => exact ⟨Nat.le_refl a, by simp, by simp, by simp⟩
  | succ n ih =>
    rw [List.range_succ, List.flatMap_append, List.flatMap_singleton]
    exact (ih fun k hk => h k (by omega)).append (h n (by omega)) (Nat.le_refl _)

/-- The statistics of one entry that restart from 0: each pair is a live and a latched subindex. -/
def statsAt (ix : Nat) (ps : List (Nat × Nat)) : List Statistic := ps.map fun p => ⟨keyOf ix p.1, keyOf ix p.2, 0⟩

/-- Distinct subindices of 32 bits, the same at every index from `a` up to `a + n`. -/
abbrev LatchPairs (a n : Nat) (ps : List (Nat × Nat)) : Prop :=
  0x2020 < a ∧ OneLayout a n ∧
  (∀ p ∈ ps, p.1 < 256 ∧ p.2 < 256 ∧ p.1 ≠ p.2 ∧ entryBits (keyOf a p.1) = 32 ∧ entryBits (keyOf a p.2) = 32) ∧
  ps.Pairwise fun p q => p.1 ≠ q.1 ∧ p.1 ≠ q.2 ∧ p.2 ≠ q.1 ∧ p.2 ≠ q.2

theorem LatchPairs.block {a n k : Nat} {ps : List (Nat × Nat)} (h : LatchPairs a n ps) (hk : k < n) :
    Block (a + k) (a + k + 1) (statsAt (a + k) ps) := by
  obtain ⟨above, layout, subs, apart⟩ := h
  refine ⟨by omega, ?_, ?_, ?_⟩
  · intro x hx
    obtain ⟨p, hp, rfl⟩ := List.mem_map.mp hx
    obtain ⟨live, latch, ne, bits, bits'⟩ := subs p hp
    refine ⟨by simpa [keyOf] using ne, ?_, ?_, ?_, ?_⟩
    · exact (keyOf_div latch).trans (keyOf_div live).symm
    · exact (layout.entryBits_add hk live).trans bits
    · exact (layout.entryBits_add hk latch).trans bits'
    · have high : keyOf (a + k) p.1 ≠ 0x202009 := by unfold keyOf; omega
      exact (if_neg high).symm
  · intro x hx
    obtain ⟨p, hp, rfl⟩ := List.mem_map.mp hx
    have index : keyOf (a + k) p.1 / 256 = a + k := keyOf_div (subs p hp).1
    exact ⟨index.ge, index.trans_lt (Nat.lt_succ_self _)⟩
  · exact List.pairwise_map.mpr (apart.imp fun h => by simpa [Statistic.Apart, keyOf] using h)

/-- The pairs of `statPairs`: each live subindex latches in the following one. -/
def followed (subs : List Nat) : List (Nat × Nat) := subs.map fun n => (n, n + 1)

theorem statPairs_eq (ix : Nat) (subs : List Nat) : statPairs ix subs = statsAt ix (followed subs) := by
  simp [statPairs, statsAt, followed]

theorem Block.append_statPairs {lo hi a : Nat} {xs : List Statistic} {subs : List Nat} (hx : Block lo hi xs) (h : hi ≤ a)
    (pairs : LatchPairs a 1 (followed subs)) : Block lo (a + 1) (xs ++ statPairs a subs) :=
  hx.append (statPairs_eq a subs ▸ pairs.block Nat.zero_lt_one) h

theorem Block.append_statRange {lo hi a n : Nat} {xs : List Statistic} {subs : List Nat} (hx : Block lo hi xs) (h : hi ≤ a)
    (pairs : LatchPairs a n (followed subs)) : Block lo (a + n) (xs ++ statRange a n subs) :=
  hx.append (Block.flatMap_range fun k hk => statPairs_eq (a + k) subs ▸ pairs.block hk) h

theorem block_tick :
    Block 0x2020 0x2021 (statPairs 0x2020 [1, 3, 5, 7] ++ [⟨0x202009, 0x20200A, 0xFFFFFFFF⟩, ⟨0x20200B, 0x20200C, 0⟩]) := by
  refine ⟨by decide, ?_, by decide, by decide⟩
  decide +kernel

theorem block_tasks :
    Block 0x2101 0x2102 ((List.range 16).map fun k => ⟨keyOf 0x2101 (1 + k), keyOf 0x2101 (0x11 + k), 0⟩) :=
  LatchPairs.block (k := 0) (n := 1) (ps := (List.range 16).map fun k => (1 + k, 0x11 + k)) (by decide +kernel) (by decide)

theorem block_loops :
    Block 0x2400 0x2480 ((List.range 128).flatMap fun n => (List.range 7).map fun k =>
      ⟨keyOf (0x2400 + n) (0x2D + k), keyOf (0x2400 + n) (0x34 + k), 0⟩) :=
  have pairs : LatchPairs 0x2400 128 ((List.range 7).map fun k => (0x2D + k, 0x34 + k)) := by decide +kernel
  Block.flatMap_range fun _ hk => pairs.block hk

/-- Subindex 2 has other rows at two of the ports, so each port is checked by itself. -/
theorem block_ports : Block 0x2A10 0x2A14 (statRange 0x2A10 4 [0xF]) := by
  refine ⟨by decide, ?_, by decide, by decide⟩
  decide +kernel

theorem block_statistics : Block 0x2020 0x2E03 statistics :=
  block_tick
    |>.append block_tasks (by decide)
    |>.append_statRange (by decide) (by decide +kernel)
    |>.append_statPairs (by decide) (by decide +kernel)
    |>.append block_loops (by decide)
    |>.append_statPairs (by decide) (by decide +kernel)
    |>.append_statPairs (by decide) (by decide +kernel)
    |>.append_statRange (by decide) (by decide +kernel)
    |>.append_statRange (by decide) (by decide +kernel)
    |>.append_statRange (by decide) (by decide +kernel)
    |>.append_statRange (by decide) (by decide +kernel)
    |>.append block_ports (by decide)
    |>.append_statPairs (by decide) (by decide +kernel)
    |>.append_statRange (by decide) (by decide +kernel)
    |>.append_statRange (by decide) (by decide +kernel)
    |>.append_statPairs (by decide) (by decide +kernel)
    |>.append_statPairs (by decide) (by decide +kernel)

theorem mem_statistics_sound {x : Statistic} (hx : x ∈ statistics) : x.Sound := block_statistics.sound x hx

/-- The frame latch: each statistic's live value goes to its latched subindex, and the live one restarts (R42, R43). -/
theorem State.Ok.reg_latchAll {s : State} (h : s.Ok) {x : Statistic} (hx : x ∈ statistics) :
    s.latchAll.reg x.latch = s.reg x.live ∧ s.latchAll.reg x.live = x.start := by
  obtain ⟨ne, _, live, latch, start⟩ := mem_statistics_sound hx
  obtain ⟨toLatch, toLive⟩ := s.reg_each_latchOne block_statistics.apart hx ne
  have fits : s.reg x.live < 2 ^ entryBits x.latch := latch ▸ live ▸ h.reg_lt x.live
  have fitsStart : x.start < 2 ^ entryBits x.live := by
    rw [start, live]
    split <;> decide
  exact ⟨toLatch.trans (fit_of_lt fits), toLive.trans (fit_of_lt fitsStart)⟩

theorem State.only_latchAll (s : State) :
    Only (statistics.map (fun x => x.live) ++ statistics.map (fun x => x.latch)) s s.latchAll := fun _ hk =>
  s.reg_each_latchOne_other fun _ hx =>
    ⟨fun e => hk (List.mem_append_left _ (e ▸ List.mem_map_of_mem hx)),
      fun e => hk (List.mem_append_right _ (e ▸ List.mem_map_of_mem hx))⟩

/-- Settles O23: one lemma for each register operation; the latch acts on each statistic alone, because no two share a
register. -/
theorem registerOperations : Obligations.RegisterOperations := by
  refine ⟨fun s k v n h => ?_, fun s h => ⟨fun x hx => ?_, s.only_latchAll⟩⟩
  · have lt (hv : v ≤ 2 ^ entryBits k - 1) : v < 2 ^ entryBits k := by
      have pos := Nat.two_pow_pos (entryBits k)
      omega
    refine ⟨⟨s.reg_setReg_same k v, s.only_setReg k v⟩, ⟨s.reg_count k, s.only_setReg k _⟩, fun hn => ?_,
      fun hv => ⟨s.reg_maxReg (lt hv), s.reg_minReg (lt hv)⟩⟩
    exact ⟨s.setsBit_setBit hn, by simp [s.testBit_reg_setBit n false hn],
      fun m hm e => by simp [s.testBit_reg_setBit n false hm, e]⟩
  · obtain ⟨latch, live⟩ := h.reg_latchAll hx
    obtain ⟨_, _, _, _, start⟩ := mem_statistics_sound hx
    exact ⟨latch, live, start⟩

end Sys2Proof.Machine
end

section

/-! SUPPORT. No command touches the queue of the commands that wait: for each operation of the model, in the order of the
model's files, the rule that the queue after it is the queue before it, by the rules of the operations it is made of; then
one case for each form of command. -/

namespace Sys2Proof.Machine

open Sys2Proof

variable {s : State}

/-! ## Rules of composition -/

/-- The commands that wait in `t` are those that wait in `s`. -/
structure SameQueue (s t : State) : Prop where
  pending : t.pending = s.pending

@[simp] theorem sameQueue_iff {t : State} : SameQueue s t ↔ t.pending = s.pending := ⟨(·.pending), .mk⟩

@[simp] theorem State.ite_pending {c : Prop} {d : Decidable c} {s t : State} :
    (if c then s else t).pending = if c then s.pending else t.pending := apply_ite ..

/-- What every step of a fold keeps, the fold keeps. -/
theorem State.foldl_field {α β : Type} (field : State → β) {xs : List α} {f : State → α → State}
    (h : ∀ t x, field (f t x) = field t) : field (xs.foldl f s) = field s :=
  List.foldlRecOn (motive := fun t => field t = field s) xs f rfl fun t ht x _ => (h t x).trans ht

theorem State.each_field {α β : Type} (field : State → β) {xs : List α} {f : State → α → State}
    (h : ∀ t x, field (f t x) = field t) : field (s.each xs f) = field s := State.foldl_field field h

@[simp] theorem State.foldl_pending {α : Type} {xs : List α} {f : State → α → State}
    (h : ∀ t x, SameQueue t (f t x)) : (xs.foldl f s).pending = s.pending :=
  State.foldl_field State.pending fun t x => (h t x).pending

@[simp] theorem State.each_pending {α : Type} {xs : List α} {f : State → α → State}
    (h : ∀ t x, SameQueue t (f t x)) : (s.each xs f).pending = s.pending := State.foldl_pending h

@[simp] theorem State.eachAt_pending {α : Type} {n : Nat} {xs : List α} {f : State → Nat → α → State}
    (h : ∀ t k x, SameQueue t (f t k x)) : (s.eachAt n xs f).pending = s.pending := by
  induction xs generalizing s n with
  | nil => rfl
  | cons x xs ih => exact ih.trans (h s n x).pending

/-- The state that an operation answers, if it answers one, has the queue of `s`. -/
def State.Keeps (s : State) (o : Option State) : Prop := ∀ t ∈ o, SameQueue s t

@[simp] theorem State.keeps_none : s.Keeps none := by simp [State.Keeps]

@[simp] theorem State.keeps_some {t : State} : s.Keeps (some t) ↔ t.pending = s.pending := by simp [State.Keeps]

@[simp] theorem State.keeps_ite {c : Prop} {d : Decidable c} {o p : Option State} :
    s.Keeps (if c then o else p) ↔ if c then s.Keeps o else s.Keeps p := by split <;> rfl

theorem State.keeps_orElse {o p : Option State} (ho : s.Keeps o) (hp : s.Keeps p) : s.Keeps (o <|> p) := by
  cases o with
  | none => exact hp
  | some t => exact ho

theorem State.getD_pending {o : Option State} {t : State} (ho : s.Keeps o) (ht : t.pending = s.pending) :
    (o.getD t).pending = s.pending := by
  cases o with
  | none => exact ht
  | some u => exact (ho u rfl).pending

/-! ## The operations of Machine/Ops -/

@[simp] theorem State.setRegI_pending {k v} : (s.setRegI k v).pending = s.pending := by simp [State.setRegI]
@[simp] theorem State.setBit_pending {k n v} : (s.setBit k n v).pending = s.pending := by simp [State.setBit]
@[simp] theorem State.countBy_pending {k n} : (s.countBy k n).pending = s.pending := by simp [State.countBy]
@[simp] theorem State.count_pending {k} : (s.count k).pending = s.pending := by simp [State.count]
@[simp] theorem State.maxReg_pending {k v} : (s.maxReg k v).pending = s.pending := by simp [State.maxReg]
@[simp] theorem State.minReg_pending {k v} : (s.minReg k v).pending = s.pending := by simp [State.minReg]
@[simp] theorem State.setKeeper_pending {k v} : (s.setKeeper k v).pending = s.pending := by simp [State.setKeeper]
@[simp] theorem State.setCause_pending {g n} : (s.setCause g n).pending = s.pending := by simp [State.setCause]
@[simp] theorem State.causeIf_pending {c g n} : (s.causeIf c g n).pending = s.pending := by simp [State.causeIf]

@[simp] theorem State.recordError_pending {c p k} : (s.recordError c p k).pending = s.pending := by
  unfold State.recordError
  split
  · exact State.ite_pending.trans (ite_self _)
  · rfl

@[simp] theorem State.setMode_pending {m} : (s.setMode m).pending = s.pending := by simp [State.setMode]

@[simp] theorem State.sendReply_pending {r} : (s.sendReply r).pending = s.pending := by
  unfold State.sendReply
  split <;> simp

@[simp] theorem State.answer_pending {r} : (s.answer r).pending = s.pending := by
  unfold State.answer
  split <;> simp

@[simp] theorem State.draw_pending : s.draw.2.pending = s.pending := by simp [State.draw]
@[simp] theorem State.latchOne_pending {x} : (s.latchOne x).pending = s.pending := by simp [State.latchOne]
@[simp] theorem State.latchAll_pending : s.latchAll.pending = s.pending := by simp [State.latchAll]

/-! ## The operations of Machine/Digital -/

@[simp] theorem State.setDrt_pending {n r} : (s.setDrt n r).pending = s.pending := by simp [State.setDrt]
@[simp] theorem State.noteDiag_pending {n k} : (s.noteDiag n k).pending = s.pending := by simp [State.noteDiag]
@[simp] theorem State.raiseDiag_pending {n k} : (s.raiseDiag n k).pending = s.pending := by simp [State.raiseDiag]
@[simp] theorem State.dropDiag_pending {n k} : (s.dropDiag n k).pending = s.pending := by simp [State.dropDiag]
@[simp] theorem State.stageOff_pending {n} : (s.stageOff n).pending = s.pending := by simp [State.stageOff]
@[simp] theorem State.stageOn_pending {n} : (s.stageOn n).pending = s.pending := by simp [State.stageOn]
@[simp] theorem State.unlatchOt_pending {n} : (s.unlatchOt n).pending = s.pending := by simp [State.unlatchOt]
@[simp] theorem State.edgeStage_pending {r c n} : (s.edgeStage r c n).pending = s.pending := by simp [State.edgeStage]
@[simp] theorem State.clearSlice_pending {k} : (s.clearSlice k).pending = s.pending := by simp [State.clearSlice]
@[simp] theorem State.markHeld_pending : s.markHeld.pending = s.pending := by simp [State.markHeld]
@[simp] theorem State.releaseStages_pending {c} : (s.releaseStages c).pending = s.pending := by
  simp [State.releaseStages]
@[simp] theorem State.dropDie_pending {d} : (s.dropDie d).pending = s.pending := by simp [State.dropDie]
@[simp] theorem State.holdExpiry_pending {d} : (s.holdExpiry d).pending = s.pending := by simp [State.holdExpiry]
@[simp] theorem State.holdStages_pending {c} : (s.holdStages c).pending = s.pending := by simp [State.holdStages]
@[simp] theorem State.readbackTrip_pending {n} : (s.readbackTrip n).pending = s.pending := by simp [State.readbackTrip]
@[simp] theorem State.compareReadback_pending {n} : (s.compareReadback n).pending = s.pending := by
  simp [State.compareReadback]
@[simp] theorem State.setQueue_pending {q} : (s.setQueue q).pending = s.pending := by simp [State.setQueue]
@[simp] theorem State.queueEdge_pending {e} : (s.queueEdge e).pending = s.pending := by simp [State.queueEdge]
@[simp] theorem State.deliverEdges_pending {p} : (s.deliverEdges p).pending = s.pending := by simp [State.deliverEdges]
@[simp] theorem State.latchDigital_pending {p} : (s.latchDigital p).pending = s.pending := by simp [State.latchDigital]
@[simp] theorem State.endSliceHold_pending {k} : (s.endSliceHold k).pending = s.pending := by simp [State.endSliceHold]
@[simp] theorem State.stampEdge_pending {n r a} : (s.stampEdge n r a).pending = s.pending := by simp [State.stampEdge]
@[simp] theorem State.keeps_digitalApply {k v} : s.Keeps (s.digitalApply k v) := by simp [State.digitalApply]
@[simp] theorem State.soeRead_pending : s.soeRead.2.pending = s.pending := by simp [State.soeRead]
@[simp] theorem State.dropRecords_pending {r} : (s.dropRecords r).pending = s.pending := by simp [State.dropRecords]

/-! ## The operations of Machine/Analog -/

@[simp] theorem State.setArt_pending {n r} : (s.setArt n r).pending = s.pending := by simp [State.setArt]
@[simp] theorem State.useMode_pending {n m} : (s.useMode n m).pending = s.pending := by simp [State.useMode]
@[simp] theorem State.anaRaise_pending {n k} : (s.anaRaise n k).pending = s.pending := by simp [State.anaRaise]
@[simp] theorem State.anaDrop_pending {n k} : (s.anaDrop n k).pending = s.pending := by simp [State.anaDrop]
@[simp] theorem State.anaFlag_pending {n k o} : (s.anaFlag n k o).pending = s.pending := by simp [State.anaFlag]
@[simp] theorem State.checkNe43_pending {n} : (s.checkNe43 n).pending = s.pending := by simp [State.checkNe43]
@[simp] theorem State.checkCompliance_pending {n} : (s.checkCompliance n).pending = s.pending := by
  simp [State.checkCompliance]
@[simp] theorem State.countAnalog_pending {n} : (s.countAnalog n).pending = s.pending := by simp [State.countAnalog]
@[simp] theorem State.anaFresh_pending {n} : (s.anaFresh n).pending = s.pending := by simp [State.anaFresh]

@[simp] theorem State.applyMode_pending {n} : (s.applyMode n).pending = s.pending := by
  unfold State.applyMode
  split <;> simp

@[simp] theorem State.anaEdge_pending {c n} : (s.anaEdge c n).pending = s.pending := by simp [State.anaEdge]
@[simp] theorem State.latchVolts_pending {v} : (s.latchVolts v).pending = s.pending := by simp [State.latchVolts]
@[simp] theorem State.latchAnalog_pending {f} : (s.latchAnalog f).pending = s.pending := by simp [State.latchAnalog]
@[simp] theorem State.releaseAnalog_pending {e} : (s.releaseAnalog e).pending = s.pending := by
  simp [State.releaseAnalog]
@[simp] theorem State.hartPlace_pending {r} : (s.hartPlace r).pending = s.pending := by simp [State.hartPlace]

@[simp] theorem State.hartStart_pending {n} : (s.hartStart n).pending = s.pending := by
  unfold State.hartStart
  dsimp only
  split <;> simp

@[simp] theorem State.hartEdge_pending {n} : (s.hartEdge n).pending = s.pending := by simp [State.hartEdge]
@[simp] theorem State.hartFlush_pending {n} : (s.hartFlush n).pending = s.pending := by simp [State.hartFlush]

@[simp] theorem State.hartFinish_pending {n r d e} : (s.hartFinish n r d e).pending = s.pending := by
  unfold State.hartFinish
  dsimp only
  split <;> simp

@[simp] theorem State.hartAborted_pending {n d} : (s.hartAborted n d).pending = s.pending := by simp [State.hartAborted]

@[simp] theorem State.hartRetry_pending {n r d} : (s.hartRetry n r d).pending = s.pending := by
  unfold State.hartRetry
  dsimp only
  split <;> simp

@[simp] theorem State.hartStop_pending {n h} : (s.hartStop n h).pending = s.pending := by simp [State.hartStop]
@[simp] theorem State.hartLeave_pending : s.hartLeave.pending = s.pending := by simp [State.hartLeave]
@[simp] theorem State.hartBurst_pending {n f} : (s.hartBurst n f).pending = s.pending := by simp [State.hartBurst]
@[simp] theorem State.anaModeWrite_pending {n v} : (s.anaModeWrite n v).pending = s.pending := by
  simp [State.anaModeWrite]
@[simp] theorem State.keeps_analogApply {k d} : s.Keeps (s.analogApply k d) := by simp [State.analogApply]
@[simp] theorem State.hartRead_pending : s.hartRead.2.pending = s.pending := by simp [State.hartRead]
@[simp] theorem State.dropResponse_pending {k} : (s.dropResponse k).pending = s.pending := by simp [State.dropResponse]

/-! ## The operations of Machine/Operands -/

@[simp] theorem State.afterRead_pending {x} : (s.afterRead x).pending = s.pending := by simp [State.afterRead]
@[simp] theorem State.pairMismatch_pending {p} : (s.pairMismatch p).pending = s.pending := by simp [State.pairMismatch]
@[simp] theorem State.putStore_pending {p a o w v} : (s.putStore p a o w v).pending = s.pending := by
  simp [State.putStore]
@[simp] theorem State.store_pending {p a o w v g} : (s.store p a o w v g).pending = s.pending := by simp [State.store]
@[simp] theorem State.storeBit_pending {p a d k g} : (s.storeBit p a d k g).pending = s.pending := by
  simp [State.storeBit]
@[simp] theorem State.recount_pending {p n} : (s.recount p n).pending = s.pending := by simp [State.recount]
@[simp] theorem State.indexFault_pending {p} : (s.indexFault p).pending = s.pending := by simp [State.indexFault]
@[simp] theorem State.advance_pending {p n} : (s.advance p n).pending = s.pending := by simp [State.advance]
@[simp] theorem State.advanceUnless_pending {p n} : (s.advanceUnless p n).pending = s.pending := by
  simp [State.advanceUnless]
@[simp] theorem State.onEngine_pending {p f} : (s.onEngine p f).pending = s.pending := by simp [State.onEngine]
@[simp] theorem State.suppressStore_pending {p a o w v} : (s.suppressStore p a o w v).pending = s.pending := by
  simp [State.suppressStore]

/-! ## The operations of Machine/Words -/

@[simp] theorem State.storeWord_pending {p x w a} : (s.storeWord p x w a).pending = s.pending := by
  simp [State.storeWord]

/-! ## The operations of Machine/Control -/

@[simp] theorem State.jumpTo_pending {p a c} : (s.jumpTo p a c).pending = s.pending := by simp [State.jumpTo]
@[simp] theorem State.callTo_pending {p a} : (s.callTo p a).pending = s.pending := by simp [State.callTo]
@[simp] theorem State.beginTask_pending {p k} : (s.beginTask p k).pending = s.pending := by simp [State.beginTask]

@[simp] theorem State.beginNext_pending {p} : (s.beginNext p).pending = s.pending := by
  unfold State.beginNext
  dsimp only
  split <;> simp

@[simp] theorem State.reportFaults_pending {p k} : (s.reportFaults p k).pending = s.pending := by
  simp [State.reportFaults]
@[simp] theorem State.countEnd_pending {k c} : (s.countEnd k c).pending = s.pending := by simp [State.countEnd]
@[simp] theorem State.endTask_pending {p k} : (s.endTask p k).pending = s.pending := by simp [State.endTask]

/-! ## The operations of Machine/Chain -/

@[simp] theorem State.setOutRec_pending {k r} : (s.setOutRec k r).pending = s.pending := by simp [State.setOutRec]
@[simp] theorem State.relink_pending : s.relink.pending = s.pending := by simp [State.relink]
@[simp] theorem State.chainInit_pending : s.chainInit.pending = s.pending := by simp [State.chainInit]
@[simp] theorem State.sendChain_pending {k l o} : (s.sendChain k l o).pending = s.pending := by simp [State.sendChain]
@[simp] theorem State.chainAtD_pending : s.chainAtD.pending = s.pending := by simp [State.chainAtD]
@[simp] theorem State.chainBoundary_pending : s.chainBoundary.pending = s.pending := by simp [State.chainBoundary]

@[simp] theorem State.noteSlot_pending {k r} : (s.noteSlot k r).pending = s.pending := by
  unfold State.noteSlot
  extract_lets s1 s2 s3
  have h2 : s2.pending = s.pending := by
    unfold s2
    split <;> simp [s1]
  have h3 : s3.pending = s.pending := by
    unfold s3
    split <;> simp [h2]
  clear_value s3
  split <;> simp [h3]

@[simp] theorem State.dropStation_pending {k w} : (s.dropStation k w).pending = s.pending := by simp [State.dropStation]
@[simp] theorem State.placeBytes_pending {a d k} : (s.placeBytes a d k).pending = s.pending := by
  simp [State.placeBytes]

@[simp] theorem State.imageStation_pending {k} : (s.imageStation k).pending = s.pending := by
  unfold State.imageStation
  dsimp only
  split <;> simp

@[simp] theorem State.closeStation_pending {k} : (s.closeStation k).pending = s.pending := by simp [State.closeStation]
@[simp] theorem State.closeRing_pending : s.closeRing.pending = s.pending := by simp [State.closeRing]
@[simp] theorem State.noteForwarded_pending : s.noteForwarded.pending = s.pending := by simp [State.noteForwarded]
@[simp] theorem State.chainAtC_pending : s.chainAtC.pending = s.pending := by simp [State.chainAtC]
@[simp] theorem State.chainAtS_pending : s.chainAtS.pending = s.pending := by simp [State.chainAtS]
@[simp] theorem State.chainAtK_pending : s.chainAtK.pending = s.pending := by simp [State.chainAtK]
@[simp] theorem State.chainRelease_pending {o} : (s.chainRelease o).pending = s.pending := by simp [State.chainRelease]

@[simp] theorem State.showOutputs_pending : s.showOutputs.pending = s.pending := by
  unfold State.showOutputs
  split
  · refine State.each_pending fun t k => .mk ?_
    dsimp only [State.setReg_pending]
    split <;> rfl
  · rfl

@[simp] theorem State.takeSlots_pending {d l} : (s.takeSlots d l).pending = s.pending := by simp [State.takeSlots]

/-! ## The operations of Machine/Outstation -/

@[simp] theorem State.setOwnLink_pending {v} : (s.setOwnLink v).pending = s.pending := by simp [State.setOwnLink]
@[simp] theorem State.releaseSet_pending {o} : (s.releaseSet o).pending = s.pending := by simp [State.releaseSet]
@[simp] theorem State.outputsOff_pending {c} : (s.outputsOff c).pending = s.pending := by simp [State.outputsOff]
@[simp] theorem State.holdLimitExpiry_pending : s.holdLimitExpiry.pending = s.pending := by simp [State.holdLimitExpiry]
@[simp] theorem State.retireStakes_pending : s.retireStakes.pending = s.pending := by simp [State.retireStakes]
@[simp] theorem State.formStatus_pending {y r} : (s.formStatus y r).pending = s.pending := by simp [State.formStatus]

@[simp] theorem State.outstationEdge_pending {c} : (s.outstationEdge c).pending = s.pending := by
  unfold State.outstationEdge
  extract_lets y o s0 p s1 v q s2 r t s3
  have h2 : s2.pending = s.pending := by simp [s2, s1, s0]
  have h3 : s3.pending = s2.pending := by
    unfold s3
    split
    · simp
    · split <;> simp [t]
  simp [h3, h2]

@[simp] theorem State.countReflection_pending {p} : (s.countReflection p).pending = s.pending := by
  simp [State.countReflection]
@[simp] theorem State.takeFlags_pending {h} : (s.takeFlags h).pending = s.pending := by simp [State.takeFlags]
@[simp] theorem State.takeHeader_pending {h} : (s.takeHeader h).pending = s.pending := by simp [State.takeHeader]
@[simp] theorem State.readSlots_pending {h l} : (s.readSlots h l).pending = s.pending := by simp [State.readSlots]
@[simp] theorem State.readToken_pending {h o} : (s.readToken h o).pending = s.pending := by simp [State.readToken]

@[simp] theorem State.keepStake_pending {h o} : (s.keepStake h o).pending = s.pending := by
  unfold State.keepStake
  dsimp only
  split <;> simp

@[simp] theorem State.keepToken_pending {h o a} : (s.keepToken h o a).pending = s.pending := by simp [State.keepToken]

/-! ## The operations of Machine/Matrix -/

@[simp] theorem State.showMatrix_pending : s.showMatrix.pending = s.pending := by simp [State.showMatrix]
@[simp] theorem State.activateMatrix_pending {m} : (s.activateMatrix m).pending = s.pending := by
  simp [State.activateMatrix]

@[simp] theorem State.matrixWritten_pending {k} : (s.matrixWritten k).pending = s.pending := by
  unfold State.matrixWritten
  split <;> simp

@[simp] theorem State.matrixBoundary_pending : s.matrixBoundary.pending = s.pending := by
  unfold State.matrixBoundary
  split <;> simp

@[simp] theorem State.setCauseRt_pending {c r} : (s.setCauseRt c r).pending = s.pending := by simp [State.setCauseRt]
@[simp] theorem State.setEffectRt_pending {e r} : (s.setEffectRt e r).pending = s.pending := by simp [State.setEffectRt]
@[simp] theorem State.evalCause_pending {n c} : (s.evalCause n c).pending = s.pending := by simp [State.evalCause]

@[simp] theorem State.countBypass_pending {n} : (s.countBypass n).pending = s.pending := by
  unfold State.countBypass
  dsimp only
  split <;> simp

@[simp] theorem State.endBypass_pending {n} : (s.endBypass n).pending = s.pending := by simp [State.endBypass]
@[simp] theorem State.evalEffect_pending {n e} : (s.evalEffect n e).pending = s.pending := by simp [State.evalEffect]
@[simp] theorem State.restoreLatches_pending {m} : (s.restoreLatches m).pending = s.pending := by
  simp [State.restoreLatches]

@[simp] theorem State.evaluateMatrix_pending : s.evaluateMatrix.pending = s.pending := by
  unfold State.evaluateMatrix
  split
  · rfl
  · split
    · rfl
    · simp

@[simp] theorem State.keeps_matrixApply {k d} : s.Keeps (s.matrixApply k d) := by simp [State.matrixApply]
@[simp] theorem State.endBypasses_pending : s.endBypasses.pending = s.pending := by simp [State.endBypasses]

/-! ## The operations of Machine/Loops -/

@[simp] theorem State.loopsAtC_pending : s.loopsAtC.pending = s.pending := by simp [State.loopsAtC]
@[simp] theorem State.stick_pending {n i} : (s.stick n i).pending = s.pending := by simp [State.stick]
@[simp] theorem State.countFlags_pending {n f} : (s.countFlags n f).pending = s.pending := by simp [State.countFlags]
@[simp] theorem State.loopRefuse_pending {n} : (s.loopRefuse n).pending = s.pending := by simp [State.loopRefuse]
@[simp] theorem State.showPending_pending {n} : (s.showPending n).pending = s.pending := by simp [State.showPending]
@[simp] theorem State.noteBump_pending {n k v} : (s.noteBump n k v).pending = s.pending := by simp [State.noteBump]
@[simp] theorem State.windowApply_pending {n u v} : (s.windowApply n u v).pending = s.pending := by
  simp [State.windowApply]
@[simp] theorem State.applyPStore_pending {x} : (s.applyPStore x).pending = s.pending := by simp [State.applyPStore]
@[simp] theorem State.finishSample_pending {n x} : (s.finishSample n x).pending = s.pending := by
  simp [State.finishSample]

@[simp] theorem State.backCalc_pending {n k o} : (s.backCalc n k o).2.pending = s.pending := by
  unfold State.backCalc
  split
  · dsimp only
    split <;> simp
  · rfl

@[simp] theorem State.trackValue_pending {a n} : (s.trackValue a n).2.pending = s.pending := by
  unfold State.trackValue
  split
  · rfl
  · dsimp only
    split <;> simp
  · split <;> simp

@[simp] theorem State.sampleFollow_pending {n m y a h f} : (s.sampleFollow n m y a h f).pending = s.pending := by
  simp [State.sampleFollow]
@[simp] theorem State.sampleStop_pending {n m y f} : (s.sampleStop n m y f).pending = s.pending := by
  simp [State.sampleStop]
@[simp] theorem State.sampleAuto_pending {a n m y f} : (s.sampleAuto a n m y f).pending = s.pending := by
  simp [State.sampleAuto]
@[simp] theorem State.sampleHeld_pending {a n m y f} : (s.sampleHeld a n m y f).pending = s.pending := by
  simp [State.sampleHeld]

@[simp] theorem State.sample_pending {base n} : (State.sample base s n).pending = s.pending := by
  have refused {c : Bool} {v : Nat} :
      (if c then (s.loopRefuse n).setReg (lb n 0x1B) v else s).pending = s.pending := by simp
  unfold State.sample
  dsimp only
  split <;> simp [refused]

@[simp] theorem State.loopMismatch_pending {p} : (s.loopMismatch p).pending = s.pending := by simp [State.loopMismatch]
@[simp] theorem State.sampleLoops_pending {a} : (s.sampleLoops a).pending = s.pending := by simp [State.sampleLoops]
@[simp] theorem State.loopsStart_pending : s.loopsStart.pending = s.pending := by simp [State.loopsStart]

/-- The rules are named, since the kernel would count up to the numbers in the registers' values to see them by `rfl`. -/
@[simp] theorem State.loopsForceOff_pending : s.loopsForceOff.pending = s.pending :=
  State.each_pending fun t n =>
    ⟨((State.setReg_pending ..).trans (State.setReg_pending ..)).trans (t.setLrt_pending n _)⟩

@[simp] theorem State.noteOverrides_pending {r} : (s.noteOverrides r).pending = s.pending := by
  simp [State.noteOverrides]
@[simp] theorem State.keeps_loopApply {k v} : s.Keeps (s.loopApply k v) := by simp [State.loopApply]

/-! ## The operations of Machine/Budget -/

@[simp] theorem State.refreshBudget_pending : s.refreshBudget.pending = s.pending := by simp [State.refreshBudget]
@[simp] theorem State.refreshCapacity_pending : s.refreshCapacity.pending = s.pending := by simp [State.refreshCapacity]
@[simp] theorem State.refresh_pending : s.refresh.pending = s.pending := by simp [State.refresh]

/-! ## The operations of Machine/Images -/

@[simp] theorem State.setBank_pending {n k} : (s.setBank n k).pending = s.pending := by simp [State.setBank]
@[simp] theorem State.showBank_pending {n k} : (s.showBank n k).pending = s.pending := by simp [State.showBank]

@[simp] theorem State.emptyBank_pending {n} : (s.emptyBank n).pending = s.pending := by
  unfold State.emptyBank
  dsimp only
  split
  · split <;> simp
  · simp

@[simp] theorem State.showImage_pending : s.showImage.pending = s.pending := by
  unfold State.showImage
  extract_lets m x e s1 s2 s3
  have h2 : s2.pending = s1.pending := by
    refine State.each_pending fun t k => .mk ?_
    split
    · simp
    · exact State.foldl_pending fun _ _ => ⟨rfl⟩
  simp [s3, h2, s1]

@[simp] theorem State.makeActive_pending {n} : (s.makeActive n).pending = s.pending := by simp [State.makeActive]

@[simp] theorem State.coldBoundary_pending : s.coldBoundary.pending = s.pending := by
  unfold State.coldBoundary
  split <;> simp

@[simp] theorem State.initData_pending : s.initData.pending = s.pending := by simp [State.initData]
@[simp] theorem State.showTransfer_pending {d} : (s.showTransfer d).pending = s.pending := by simp [State.showTransfer]
@[simp] theorem State.startExchange_pending : s.startExchange.pending = s.pending := by simp [State.startExchange]
@[simp] theorem State.abortExchange_pending {r} : (s.abortExchange r).pending = s.pending := by
  simp [State.abortExchange]
@[simp] theorem State.copyPieces_pending {x} : (s.copyPieces x).pending = s.pending := by simp [State.copyPieces]
@[simp] theorem State.setDirty_pending {p} : (s.setDirty p).pending = s.pending := by simp [State.setDirty]
@[simp] theorem State.recopy_pending {n} : (s.recopy n).pending = s.pending := by simp [State.recopy]
@[simp] theorem State.copyOn_pending {n} : (s.copyOn n).pending = s.pending := by simp [State.copyOn]
@[simp] theorem State.backgroundCopy_pending : s.backgroundCopy.pending = s.pending := by simp [State.backgroundCopy]
@[simp] theorem State.noteDirty_pending {k} : (s.noteDirty k).pending = s.pending := by simp [State.noteDirty]
@[simp] theorem State.armExchange_pending : s.armExchange.pending = s.pending := by simp [State.armExchange]
@[simp] theorem State.followVerdict_pending {a} : (s.followVerdict a).pending = s.pending := by
  simp [State.followVerdict]
@[simp] theorem State.exchangeBoundary_pending : s.exchangeBoundary.pending = s.pending := by
  simp [State.exchangeBoundary]

@[simp] theorem State.finishVerification_pending : s.finishVerification.pending = s.pending := by
  unfold State.finishVerification
  split
  · rfl
  · dsimp only
    split <;> simp

@[simp] theorem State.startDownload_pending {k} : (s.startDownload k).pending = s.pending := by
  simp [State.startDownload]

@[simp] theorem State.exchangeCommand_pending {v} : (s.exchangeCommand v).pending = s.pending := by
  unfold State.exchangeCommand
  split <;> simp

@[simp] theorem State.keeps_imageApply {k v} : s.Keeps (s.imageApply k v) := by simp [State.imageApply]
@[simp] theorem State.exportWrite_pending {x d} : (s.exportWrite x d).pending = s.pending := by simp [State.exportWrite]

/-! ## The operations of Machine/Buses -/

@[simp] theorem State.errorPassive_pending {c} : (s.errorPassive c).pending = s.pending := by simp [State.errorPassive]
@[simp] theorem State.startRecovery_pending {c} : (s.startRecovery c).pending = s.pending := by
  simp [State.startRecovery]
@[simp] theorem State.busOff_pending {c} : (s.busOff c).pending = s.pending := by simp [State.busOff]
@[simp] theorem State.setErrors_pending {c k r} : (s.setErrors c k r).pending = s.pending := by simp [State.setErrors]

@[simp] theorem State.protocolEvent_pending {c k} : (s.protocolEvent c k).pending = s.pending := by
  unfold State.protocolEvent
  cases k <;> simp

@[simp] theorem State.queueFrame_pending {c q x} : (s.queueFrame c q x).pending = s.pending := by
  simp [State.queueFrame]

@[simp] theorem State.windowRead_pending {c q} : (s.windowRead c q).2.pending = s.pending := by
  unfold State.windowRead
  split <;> simp

@[simp] theorem State.windowRelease_pending {c q} : (s.windowRelease c q).pending = s.pending := by
  simp [State.windowRelease]
@[simp] theorem State.closeCan_pending {c} : (s.closeCan c).pending = s.pending := by simp [State.closeCan]
@[simp] theorem State.setRpdo_pending {n r} : (s.setRpdo n r).pending = s.pending := by simp [State.setRpdo]
@[simp] theorem State.setTpdo_pending {n r} : (s.setTpdo n r).pending = s.pending := by simp [State.setTpdo]

@[simp] theorem State.syncRpdos_pending : s.syncRpdos.pending = s.pending := by
  unfold State.syncRpdos
  refine (State.each_pending fun t n => .mk ?_).trans State.count_pending
  split <;> simp

@[simp] theorem State.closeRpdos_pending : s.closeRpdos.pending = s.pending := by
  refine State.each_pending fun t x => .mk ?_
  dsimp only
  split <;> simp

@[simp] theorem State.setSrt_pending {p r} : (s.setSrt p r).pending = s.pending := by simp [State.setSrt]
@[simp] theorem State.stakeBuses_pending : s.stakeBuses.pending = s.pending := by simp [State.stakeBuses]
@[simp] theorem State.pushFrame_pending {c x} : (s.pushFrame c x).pending = s.pending := by simp [State.pushFrame]
@[simp] theorem State.edgeSyncTpdo_pending {c e v n} : (s.edgeSyncTpdo c e v n).pending = s.pending := by
  simp [State.edgeSyncTpdo]
@[simp] theorem State.edgeEventTpdo_pending {c e n} : (s.edgeEventTpdo c e n).pending = s.pending := by
  simp [State.edgeEventTpdo]
@[simp] theorem State.edgeArea_pending {c} : (s.edgeArea c).pending = s.pending := by simp [State.edgeArea]
@[simp] theorem State.sendDatagrams_pending {e} : (s.sendDatagrams e).pending = s.pending := by
  simp [State.sendDatagrams]
@[simp] theorem State.edgeSentences_pending {p} : (s.edgeSentences p).pending = s.pending := by
  simp [State.edgeSentences]
@[simp] theorem State.busesAtD_pending {o} : (s.busesAtD o).pending = s.pending := by simp [State.busesAtD]
@[simp] theorem State.busesLeave_pending : s.busesLeave.pending = s.pending := by simp [State.busesLeave]
@[simp] theorem State.busesStop_pending : s.busesStop.pending = s.pending := by simp [State.busesStop]
@[simp] theorem State.claim_pending {c a} : (s.claim c a).pending = s.pending := by simp [State.claim]
@[simp] theorem State.closeClaim_pending {c} : (s.closeClaim c).pending = s.pending := by simp [State.closeClaim]
@[simp] theorem State.deliverSentence_pending {p x} : (s.deliverSentence p x).pending = s.pending := by
  simp [State.deliverSentence]
@[simp] theorem State.takeLine_pending {p c f a} : (s.takeLine p c f a).pending = s.pending := by simp [State.takeLine]
@[simp] theorem State.closePath_pending {p} : (s.closePath p).pending = s.pending := by simp [State.closePath]
@[simp] theorem State.sentenceRead_pending {p} : (s.sentenceRead p).2.pending = s.pending := by
  simp [State.sentenceRead]

@[simp] theorem State.busesAtC_pending : s.busesAtC.pending = s.pending := by
  unfold State.busesAtC
  extract_lets s1 s2 s3
  have h1 : s1.pending = s.pending := by
    refine State.each_pending fun t c => .mk ?_
    split <;> simp
  simp [s2, s3, h1]

@[simp] theorem State.setNmt_pending {n k} : (s.setNmt n k).pending = s.pending := by simp [State.setNmt]
@[simp] theorem State.showDevice_pending : s.showDevice.pending = s.pending := by simp [State.showDevice]
@[simp] theorem State.keeps_busApply {k v} : s.Keeps (s.busApply k v) := by simp [State.busApply]

/-! ## The operations of Machine/Book -/

@[simp] theorem State.setBookRt_pending {c r} : (s.setBookRt c r).pending = s.pending := by simp [State.setBookRt]
@[simp] theorem State.setLive_pending {c r} : (s.setLive c r).pending = s.pending := by simp [State.setLive]
@[simp] theorem State.requestCommit_pending {c} : (s.requestCommit c).pending = s.pending := by
  simp [State.requestCommit]
@[simp] theorem State.takeSample_pending {c x} : (s.takeSample c x).pending = s.pending := by simp [State.takeSample]
@[simp] theorem State.sampleBook_pending {c x} : (s.sampleBook c x).pending = s.pending := by simp [State.sampleBook]
@[simp] theorem State.sampleNat_pending {c x} : (s.sampleNat c x).pending = s.pending := by simp [State.sampleNat]
@[simp] theorem State.markDue_pending {c} : (s.markDue c).pending = s.pending := by simp [State.markDue]
@[simp] theorem State.commitRecord_pending {c} : (s.commitRecord c).pending = s.pending := by simp [State.commitRecord]
@[simp] theorem State.restartRecord_pending {c} : (s.restartRecord c).pending = s.pending := by
  simp [State.restartRecord]
@[simp] theorem State.restartRecords_pending {c} : (s.restartRecords c).pending = s.pending := by
  simp [State.restartRecords]
@[simp] theorem State.setDescriptors_pending {k} : (s.setDescriptors k).pending = s.pending := by
  simp [State.setDescriptors]
@[simp] theorem State.sampleSources_pending : s.sampleSources.pending = s.pending := by simp [State.sampleSources]
@[simp] theorem State.sampleEdge_pending : s.sampleEdge.pending = s.pending := by simp [State.sampleEdge]
@[simp] theorem State.sampleFrame_pending : s.sampleFrame.pending = s.pending := by simp [State.sampleFrame]
@[simp] theorem State.writeBookHeader_pending : s.writeBookHeader.pending = s.pending := by simp [State.writeBookHeader]
@[simp] theorem State.keeps_bookApply {k d} : s.Keeps (s.bookApply k d) := by simp [State.bookApply]

/-! ## The operations of Machine/Time -/

@[simp] theorem State.setPrt_pending {n r} : (s.setPrt n r).pending = s.pending := by simp [State.setPrt]
@[simp] theorem State.setTu_pending {v} : (s.setTu v).pending = s.pending := by simp [State.setTu]
@[simp] theorem State.applyRate_pending : s.applyRate.pending = s.pending := by simp [State.applyRate]
@[simp] theorem State.setServo_pending {v} : (s.setServo v).pending = s.pending := by simp [State.setServo]
@[simp] theorem State.enterHoldover_pending : s.enterHoldover.pending = s.pending := by simp [State.enterHoldover]
@[simp] theorem State.applyStep_pending {a} : (s.applyStep a).pending = s.pending := by simp [State.applyStep]

@[simp] theorem State.stepAtOnce_pending : s.stepAtOnce.pending = s.pending := by
  unfold State.stepAtOnce
  split <;> simp

@[simp] theorem State.holdStep_pending {a} : (s.holdStep a).pending = s.pending := by simp [State.holdStep]
@[simp] theorem State.slew_pending : s.slew.pending = s.pending := by simp [State.slew]
@[simp] theorem State.acquire_pending {o} : (s.acquire o).pending = s.pending := by simp [State.acquire]
@[simp] theorem State.keepLock_pending {o} : (s.keepLock o).pending = s.pending := by simp [State.keepLock]
@[simp] theorem State.showOffset_pending {o} : (s.showOffset o).pending = s.pending := by simp [State.showOffset]
@[simp] theorem State.firstMeasure_pending {o} : (s.firstMeasure o).pending = s.pending := by simp [State.firstMeasure]
@[simp] theorem State.measure_pending {o} : (s.measure o).pending = s.pending := by simp [State.measure]
@[simp] theorem State.clearServo_pending : s.clearServo.pending = s.pending := by simp [State.clearServo]
@[simp] theorem State.resetTimeUnit_pending : s.resetTimeUnit.pending = s.pending := by simp [State.resetTimeUnit]
@[simp] theorem State.showMaster_pending {a l} : (s.showMaster a l).pending = s.pending := by simp [State.showMaster]
@[simp] theorem State.noMaster_pending : s.noMaster.pending = s.pending := by simp [State.noMaster]

@[simp] theorem State.showPorts_pending : s.showPorts.pending = s.pending := by
  unfold State.showPorts
  split
  · rfl
  · split
    · split <;> simp
    · simp

@[simp] theorem State.portMeasure_pending {p o f} : (s.portMeasure p o f).pending = s.pending := by
  unfold State.portMeasure
  split <;> simp

@[simp] theorem State.passSync_pending {p m} : (s.passSync p m).pending = s.pending := by
  unfold State.passSync
  split <;> simp

@[simp] theorem State.passFollowUp_pending {p m} : (s.passFollowUp p m).pending = s.pending := by
  unfold State.passFollowUp
  split <;> simp

@[simp] theorem State.passAnnounce_pending {p m} : (s.passAnnounce p m).pending = s.pending := by
  unfold State.passAnnounce
  split <;> simp

@[simp] theorem State.keeps_timeApply {k v} : s.Keeps (s.timeApply k v) := by simp [State.timeApply]

/-! ## The operations of Machine/Modes -/

@[simp] theorem State.noteSource_pending {n} : (s.noteSource n).pending = s.pending := by simp [State.noteSource]
@[simp] theorem State.clearRunCounters_pending : s.clearRunCounters.pending = s.pending := by
  simp [State.clearRunCounters]
@[simp] theorem State.enterRun_pending : s.enterRun.pending = s.pending := by simp [State.enterRun]
@[simp] theorem State.endRun_pending : s.endRun.pending = s.pending := by simp [State.endRun]
@[simp] theorem State.stopModule_pending : s.stopModule.pending = s.pending := by simp [State.stopModule]
@[simp] theorem State.recordHalt_pending {c a p} : (s.recordHalt c a p).pending = s.pending := by
  simp [State.recordHalt]
@[simp] theorem State.halt_pending {c a p} : (s.halt c a p).pending = s.pending := by simp [State.halt]
@[simp] theorem State.deliverErrors_pending : s.deliverErrors.pending = s.pending := by simp [State.deliverErrors]
@[simp] theorem State.startPair_pending {p w} : (s.startPair p w).pending = s.pending := by simp [State.startPair]
@[simp] theorem State.startTasks_pending : s.startTasks.pending = s.pending := by simp [State.startTasks]
@[simp] theorem State.queueErrors_pending : s.queueErrors.pending = s.pending := by simp [State.queueErrors]
@[simp] theorem State.abandon_pending : s.abandon.pending = s.pending := by simp [State.abandon]
@[simp] theorem State.commitPair_pending {p} : (s.commitPair p).pending = s.pending := by simp [State.commitPair]
@[simp] theorem State.clearOverlays_pending : s.clearOverlays.pending = s.pending := by simp [State.clearOverlays]
@[simp] theorem State.commitStores_pending : s.commitStores.pending = s.pending := by simp [State.commitStores]
@[simp] theorem State.placeSoe_pending : s.placeSoe.pending = s.pending := by simp [State.placeSoe]
@[simp] theorem State.showViews_pending {f} : (s.showViews f).pending = s.pending := by simp [State.showViews]
@[simp] theorem State.closeImage_pending : s.closeImage.pending = s.pending := by simp [State.closeImage]

@[simp] theorem State.stakeLoopWords_pending : s.stakeLoopWords.pending = s.pending := by
  unfold State.stakeLoopWords
  split
  · rfl
  · refine State.each_pending fun t b => .mk ?_
    dsimp only
    split <;> simp

@[simp] theorem State.showClamp_pending {r} : (s.showClamp r).pending = s.pending := by simp [State.showClamp]
@[simp] theorem State.stakeOutputs_pending : s.stakeOutputs.pending = s.pending := by simp [State.stakeOutputs]
@[simp] theorem State.releaseOutputs_pending {c} : (s.releaseOutputs c).pending = s.pending := by
  simp [State.releaseOutputs]

/-! ## The operations of Machine/Pair -/

@[simp] theorem State.stopResync_pending : s.stopResync.pending = s.pending := by simp [State.stopResync]
@[simp] theorem State.leaveActive_pending : s.leaveActive.pending = s.pending := by simp [State.leaveActive]
@[simp] theorem State.enterActive_pending : s.enterActive.pending = s.pending := by simp [State.enterActive]
@[simp] theorem State.setRole_pending {c r} : (s.setRole c r).pending = s.pending := by simp [State.setRole]
@[simp] theorem State.setPartnerRole_pending {c} : (s.setPartnerRole c).pending = s.pending := by
  simp [State.setPartnerRole]
@[simp] theorem State.recordSwitch_pending {k} : (s.recordSwitch k).pending = s.pending := by simp [State.recordSwitch]
@[simp] theorem State.autoStart_pending : s.autoStart.pending = s.pending := by simp [State.autoStart]
@[simp] theorem State.becomeActive_pending {k} : (s.becomeActive k).pending = s.pending := by simp [State.becomeActive]
@[simp] theorem State.changeRole_pending {c} : (s.changeRole c).pending = s.pending := by simp [State.changeRole]
@[simp] theorem State.takeOver_pending {k} : (s.takeOver k).pending = s.pending := by simp [State.takeOver]
@[simp] theorem State.endRelayed_pending {c} : (s.endRelayed c).pending = s.pending := by simp [State.endRelayed]
@[simp] theorem State.setUnreachable_pending {k} : (s.setUnreachable k).pending = s.pending := by
  simp [State.setUnreachable]
@[simp] theorem State.afterCopy_pending {p} : (s.afterCopy p).pending = s.pending := by simp [State.afterCopy]

@[simp] theorem State.beginResync_pending : s.beginResync.pending = s.pending := by
  unfold State.beginResync
  split <;> simp

@[simp] theorem State.failAttempt_pending : s.failAttempt.pending = s.pending := by simp [State.failAttempt]

@[simp] theorem State.keeps_takeStore {n l c} : s.Keeps (s.takeStore n l c) := by
  unfold State.takeStore
  split
  · split
    · simp
    · split <;> simp
  · split
    · simp
    · split <;> simp

@[simp] theorem State.takeLoopPage_pending {n k} : (s.takeLoopPage n k).pending = s.pending := by
  simp [State.takeLoopPage]
@[simp] theorem State.takePage_pending {p k} : (s.takePage p k).pending = s.pending := by simp [State.takePage]

@[simp] theorem State.adoptCounts_pending : s.adoptCounts.pending = s.pending := by
  unfold State.adoptCounts
  split <;> simp

@[simp] theorem State.retainStream_pending : s.retainStream.pending = s.pending := by simp [State.retainStream]
@[simp] theorem State.declareInStep_pending : s.declareInStep.pending = s.pending := by simp [State.declareInStep]

@[simp] theorem State.resolveRole_pending : s.resolveRole.pending = s.pending := by
  unfold State.resolveRole
  split <;> simp

@[simp] theorem State.applyChange_pending : s.applyChange.pending = s.pending := by
  unfold State.applyChange
  split <;> simp

@[simp] theorem State.agePartner_pending : s.agePartner.pending = s.pending := by simp [State.agePartner]
@[simp] theorem State.pairAtD_pending : s.pairAtD.pending = s.pending := by simp [State.pairAtD]
@[simp] theorem State.sendStatus_pending : s.sendStatus.pending = s.pending := by simp [State.sendStatus]

@[simp] theorem State.pairBoundary_pending : s.pairBoundary.pending = s.pending := by
  unfold State.pairBoundary
  split
  · simp
  · split <;> simp

@[simp] theorem State.nameFrame_pending : s.nameFrame.pending = s.pending := by simp [State.nameFrame]
@[simp] theorem State.pairAtC_pending : s.pairAtC.pending = s.pending := by simp [State.pairAtC]
@[simp] theorem State.takeImage_pending {f} : (s.takeImage f).pending = s.pending := by simp [State.takeImage]

@[simp] theorem State.showImageOf_pending {f} : (s.showImageOf f).pending = s.pending := by
  refine State.showViews_pending.trans (State.each_pending fun t k => .mk ?_)
  dsimp only
  split
  · simp
  · split <;> simp

@[simp] theorem State.closeWatch_pending : s.closeWatch.pending = s.pending := by simp [State.closeWatch]
@[simp] theorem State.openWatch_pending : s.openWatch.pending = s.pending := by simp [State.openWatch]
@[simp] theorem State.showLineFault_pending : s.showLineFault.pending = s.pending := by simp [State.showLineFault]

@[simp] theorem State.pairAtX_pending : s.pairAtX.pending = s.pending := by
  unfold State.pairAtX
  extract_lets set img
  have kept (t : State) (c : Bool) : (set t c).pending = t.pending := rfl
  split
  · exact kept s true
  · split
    · dsimp only
      split <;> simp [set]
    all_goals simp [kept]

@[simp] theorem State.faultActive_pending : s.faultActive.pending = s.pending := by simp [State.faultActive]
@[simp] theorem State.abdicate_pending : s.abdicate.pending = s.pending := by simp [State.abdicate]
@[simp] theorem State.sendVerdict_pending : s.sendVerdict.pending = s.pending := by simp [State.sendVerdict]

@[simp] theorem State.pairAtS_pending {f} : (s.pairAtS f).pending = s.pending := by
  unfold State.pairAtS
  split
  · simp
  · split <;> simp

@[simp] theorem State.issueToken_pending : s.issueToken.pending = s.pending := by simp [State.issueToken]
@[simp] theorem State.setTarget_pending : s.setTarget.pending = s.pending := by simp [State.setTarget]
@[simp] theorem State.closureMismatch_pending : s.closureMismatch.pending = s.pending := by simp [State.closureMismatch]

@[simp] theorem State.closureCheck_pending : s.closureCheck.pending = s.pending := by
  unfold State.closureCheck
  extract_lets pass
  split
  · simp
  · split
    · simp
    · split <;> simp [pass]

@[simp] theorem State.pairAtK_pending : s.pairAtK.pending = s.pending := by simp [State.pairAtK]
@[simp] theorem State.actOnVerdict_pending {v} : (s.actOnVerdict v).pending = s.pending := by simp [State.actOnVerdict]
@[simp] theorem State.decideVerdict_pending : s.decideVerdict.pending = s.pending := by simp [State.decideVerdict]
@[simp] theorem State.showDiffs_pending : s.showDiffs.pending = s.pending := by simp [State.showDiffs]

@[simp] theorem State.countFailed_pending {f i} : (s.countFailed f i).pending = s.pending := by simp [State.countFailed]

@[simp] theorem State.hear_pending {f : State → State} (h : ∀ t, SameQueue t (f t)) :
    (s.hear f).pending = s.pending := by simp [State.hear, (h _).pending]

@[simp] theorem State.tieFrame_pending {failed inTime} {f : State → State} (h : ∀ t, SameQueue t (f t)) :
    (s.tieFrame failed inTime f).pending = s.pending := by simp [State.tieFrame, (h _).pending]

@[simp] theorem State.takeStatus_pending {f} : (s.takeStatus f).pending = s.pending := by
  unfold State.takeStatus
  dsimp only
  split <;> simp

@[simp] theorem State.takeDigest_pending {i d} : (s.takeDigest i d).pending = s.pending := by simp [State.takeDigest]
@[simp] theorem State.takeNotice_pending {i} : (s.takeNotice i).pending = s.pending := by simp [State.takeNotice]
@[simp] theorem State.takeFullImage_pending {i d} : (s.takeFullImage i d).pending = s.pending := by
  simp [State.takeFullImage]

@[simp] theorem State.takeCommand_pending {c} : (s.takeCommand c).pending = s.pending := by
  unfold State.takeCommand
  split <;> simp

@[simp] theorem State.takeStream_pending {p d} : (s.takeStream p d).pending = s.pending := by simp [State.takeStream]

@[simp] theorem State.takeCopy_pending {n l c} : (s.takeCopy n l c).pending = s.pending := by
  unfold State.takeCopy
  split
  · split
    next u p hu _ =>
      have kept : u.pending = s.pending := (s.keeps_takeStore u hu).pending
      simp [kept]
    next => simp
  · rfl

@[simp] theorem State.planSwitch_pending : s.planSwitch.pending = s.pending := by simp [State.planSwitch]

@[simp] theorem State.pairCommand_pending {v} : (s.pairCommand v).pending = s.pending := by
  unfold State.pairCommand
  split <;> simp

@[simp] theorem State.keeps_pairApply {k v} : s.Keeps (s.pairApply k v) := by simp [State.pairApply]

/-! ## The operations of Machine/Panel -/

@[simp] theorem State.writeTable_pending {k} : (s.writeTable k).pending = s.pending := by simp [State.writeTable]
@[simp] theorem State.refreshBand_pending : s.refreshBand.pending = s.pending := by simp [State.refreshBand]
@[simp] theorem State.raiseRails_pending : s.raiseRails.pending = s.pending := by simp [State.raiseRails]
@[simp] theorem State.lowerRails_pending : s.lowerRails.pending = s.pending := by simp [State.lowerRails]
@[simp] theorem State.railFault_pending : s.railFault.pending = s.pending := by simp [State.railFault]
@[simp] theorem State.setSlot_pending {k x} : (s.setSlot k x).pending = s.pending := by simp [State.setSlot]
@[simp] theorem State.panelStart_pending : s.panelStart.pending = s.pending := by simp [State.panelStart]
@[simp] theorem State.panelStop_pending : s.panelStop.pending = s.pending := by simp [State.panelStop]
@[simp] theorem State.stressScan_pending : s.stressScan.pending = s.pending := by simp [State.stressScan]
@[simp] theorem State.joinQueue_pending {k} : (s.joinQueue k).pending = s.pending := by simp [State.joinQueue]
@[simp] theorem State.startRect_pending {k r} : (s.startRect k r).pending = s.pending := by simp [State.startRect]
@[simp] theorem State.completeRect_pending {r} : (s.completeRect r).pending = s.pending := by simp [State.completeRect]
@[simp] theorem State.endScan_pending : s.endScan.pending = s.pending := by simp [State.endScan]
@[simp] theorem State.overlapWait_pending {r} : (s.overlapWait r).1.pending = s.pending := by
  simp [State.overlapWait, apply_ite]

@[simp] theorem State.startQueued_pending {w r} : (s.startQueued w r).pending = s.pending := by
  induction r generalizing s w with
  | nil => rfl
  | cons r rs ih =>
    unfold State.startQueued
    dsimp only
    split
    · simp [ih]
    · split
      · split <;> simp [ih]
      · exact ih

@[simp] theorem State.startRecovery'_pending : s.startRecovery'.pending = s.pending := by simp [State.startRecovery']
@[simp] theorem State.startScan_pending : s.startScan.pending = s.pending := by simp [State.startScan]
@[simp] theorem State.settleVcom_pending : s.settleVcom.pending = s.pending := by simp [State.settleVcom]
@[simp] theorem State.scanBoundary_pending : s.scanBoundary.pending = s.pending := by simp [State.scanBoundary]
@[simp] theorem State.enablePanel_pending {v} : (s.enablePanel v).pending = s.pending := by simp [State.enablePanel]
@[simp] theorem State.keeps_panelApply {k d o} : s.Keeps (s.panelApply k d o) := by simp [State.panelApply]

/-! ## The operations of Machine/Keeper -/

@[simp] theorem State.endCalendar_pending : s.endCalendar.pending = s.pending := by simp [State.endCalendar]
@[simp] theorem State.advanceClock_pending {e} : (s.advanceClock e).pending = s.pending := by simp [State.advanceClock]

@[simp] theorem State.calendarRead_pending : s.calendarRead.2.pending = s.pending := by
  unfold State.calendarRead
  split <;> simp

@[simp] theorem State.setCalendar_pending {k} : (s.setCalendar k).pending = s.pending := by simp [State.setCalendar]
@[simp] theorem State.badCalendar_pending : s.badCalendar.pending = s.pending := by simp [State.badCalendar]

@[simp] theorem State.tempTerm_pending : s.tempTerm.2.pending = s.pending := by
  unfold State.tempTerm
  split <;> simp

@[simp] theorem State.recomputeTrim_pending : s.recomputeTrim.pending = s.pending := by simp [State.recomputeTrim]
@[simp] theorem State.putKeeper_pending {u} : (s.putKeeper u).pending = s.pending := by simp [State.putKeeper]

@[simp] theorem State.lockKeeper_pending : s.lockKeeper.pending = s.pending := by
  unfold State.lockKeeper
  dsimp only
  split <;> simp

@[simp] theorem State.keeperInvalid_pending {r} : (s.keeperInvalid r).pending = s.pending := by
  simp [State.keeperInvalid]
@[simp] theorem State.writeHostArea_pending {d} : (s.writeHostArea d).pending = s.pending := by
  simp [State.writeHostArea]
@[simp] theorem State.keeps_keeperApply {k d} : s.Keeps (s.keeperApply k d) := by simp [State.keeperApply]

/-! ## The operations of Machine/Reset -/

@[simp] theorem State.dropTransfers_pending {f} : (s.dropTransfers f).pending = s.pending := by
  simp [State.dropTransfers]
@[simp] theorem State.endTransactions_pending {f} : (s.endTransactions f).pending = s.pending := by
  simp [State.endTransactions]
@[simp] theorem State.setStage_pending {k x} : (s.setStage k x).pending = s.pending := by simp [State.setStage]
@[simp] theorem State.resetCan_pending {c} : (s.resetCan c).pending = s.pending := by simp [State.resetCan]
@[simp] theorem State.resetPlant_pending {p} : (s.resetPlant p).pending = s.pending := by simp [State.resetPlant]
@[simp] theorem State.resetHost_pending : s.resetHost.pending = s.pending := by simp [State.resetHost]
@[simp] theorem State.resetTie_pending : s.resetTie.pending = s.pending := by simp [State.resetTie]
@[simp] theorem State.resetBlock_pending {k} : (s.resetBlock k).pending = s.pending := by simp [State.resetBlock]
@[simp] theorem State.askIdle_pending {k} : (s.askIdle k).pending = s.pending := by simp [State.askIdle]
@[simp] theorem State.holdBlock_pending {k r u} : (s.holdBlock k r u).pending = s.pending := by simp [State.holdBlock]
@[simp] theorem State.releaseBlock_pending {k} : (s.releaseBlock k).pending = s.pending := by simp [State.releaseBlock]
@[simp] theorem State.newChallenge_pending : s.newChallenge.pending = s.pending := by simp [State.newChallenge]
@[simp] theorem State.blockReset_pending {k} : (s.blockReset k).pending = s.pending := by simp [State.blockReset]
@[simp] theorem State.communicationReset_pending : s.communicationReset.pending = s.pending := by
  simp [State.communicationReset]
@[simp] theorem State.recordReset_pending {n l} : (s.recordReset n l).pending = s.pending := by simp [State.recordReset]
@[simp] theorem State.assertReset_pending {l} : (s.assertReset l).pending = s.pending := by simp [State.assertReset]

@[simp] theorem State.startReset_pending {n l} : (s.startReset n l).pending = s.pending := by
  unfold State.startReset
  split <;> simp

@[simp] theorem State.raise_pending {n} : (s.raise n).pending = s.pending := by simp [State.raise]
@[simp] theorem State.restartCore_pending {l} : (s.restartCore l).pending = s.pending := by simp [State.restartCore]
@[simp] theorem State.applicationReset_pending : s.applicationReset.pending = s.pending := by
  simp [State.applicationReset]
@[simp] theorem State.systemReset_pending {l} : (s.systemReset l).pending = s.pending := by simp [State.systemReset]
@[simp] theorem State.ageLifecycle_pending : s.ageLifecycle.pending = s.pending := by
  simp only [State.ageLifecycle, State.ite_pending, State.setReg_pending, ite_self]
@[simp] theorem State.countStart_pending : s.countStart.pending = s.pending := by simp [State.countStart]
@[simp] theorem State.decideStart_pending : s.decideStart.pending = s.pending := by simp [State.decideStart]
@[simp] theorem State.release_pending {l} : (s.release l).pending = s.pending := by simp [State.release]
@[simp] theorem State.useOptions_pending {o c} : (s.useOptions o c).pending = s.pending := by simp [State.useOptions]
@[simp] theorem State.writeOptions_pending {o} : (s.writeOptions o).pending = s.pending := by simp [State.writeOptions]
@[simp] theorem State.writeKeeper_pending : s.writeKeeper.pending = s.pending := by simp [State.writeKeeper]
@[simp] theorem State.resumeCounts_pending : s.resumeCounts.pending = s.pending := by simp [State.resumeCounts]
@[simp] theorem State.takeMark_pending : s.takeMark.pending = s.pending := by simp [State.takeMark]
@[simp] theorem State.loadTime_pending : s.loadTime.pending = s.pending := by simp [State.loadTime]

@[simp] theorem State.loadGeneration_pending : s.loadGeneration.pending = s.pending := by
  unfold State.loadGeneration
  dsimp only
  split <;> simp

@[simp] theorem State.settle_pending : s.settle.pending = s.pending := by simp [State.settle]

@[simp] theorem State.loadFrom_pending {n c} : (s.loadFrom n c).pending = s.pending := by
  unfold State.loadFrom
  dsimp only
  split
  · simp
  · split <;> simp

@[simp] theorem State.loadMatrix_pending {c} : (s.loadMatrix c).pending = s.pending := by
  unfold State.loadMatrix
  split
  · simp
  · split <;> simp

@[simp] theorem State.endSelfTest_pending : s.endSelfTest.pending = s.pending := by
  unfold State.endSelfTest
  extract_lets s1 s2 s3 u v s4
  have h3 : s3.pending = s.pending := by
    unfold s3
    split <;> simp [s2, s1]
  have h4 : s4.pending = s3.pending := by
    unfold s4
    split
    · split <;> simp [u]
    · split <;> simp [v]
  simp [h4, h3]

@[simp] theorem State.judgeResponse_pending {k} : (s.judgeResponse k).pending = s.pending := by
  simp [State.judgeResponse]
@[simp] theorem State.download_pending {c} : (s.download c).pending = s.pending := by simp [State.download]

@[simp] theorem State.keeps_resetApply {p k d} : s.Keeps (s.resetApply p k d) := by
  have options (o : Option OptionBlock) : ((o.map s.writeOptions).getD s).pending = s.pending := by cases o <;> simp
  simp [State.resetApply, options]

@[simp] theorem State.commandedReset_pending : s.commandedReset.pending = s.pending := by
  unfold State.commandedReset
  split <;> simp

/-! ## The operations of Machine/Access -/

@[simp] theorem State.keeps_queueRead {k} : s.Keeps ((s.queueRead k).map (·.2)) := by
  unfold State.queueRead
  dsimp only
  split_ifs <;> simp

@[simp] theorem State.readEntry_pending {k} : (s.readEntry k).2.pending = s.pending := by
  have queue := s.keeps_queueRead (k := k)
  unfold State.readEntry
  dsimp only
  split_ifs
  · rfl
  · split <;> rfl
  · split
    next hp => simpa [hp] using queue
    next => split <;> rfl

@[simp] theorem State.noteRefusal_pending {k c} : (s.noteRefusal k c).pending = s.pending := by simp [State.noteRefusal]
@[simp] theorem State.beginStore_pending {n} : (s.beginStore n).pending = s.pending := by simp [State.beginStore]
@[simp] theorem State.markDefaults_pending {p n} : (s.markDefaults p n).pending = s.pending := by
  simp [State.markDefaults]
@[simp] theorem State.stateCommand_pending {p v} : (s.stateCommand p v).pending = s.pending := by
  simp [State.stateCommand]
@[simp] theorem State.keeps_dictApply {w} : s.Keeps (s.dictApply w) := by simp [State.dictApply]
@[simp] theorem State.putEntry_pending {k d} : (s.putEntry k d).pending = s.pending := by simp [State.putEntry]

@[simp] theorem State.applyEntry_pending {w} : (s.applyEntry w).pending = s.pending := by
  unfold State.applyEntry
  dsimp only
  split
  · split
    · rfl
    · split <;> simp
  · rw [apply_ite State.pending, State.refresh_pending, ite_self]
    refine State.getD_pending ?_ State.putEntry_pending
    repeat refine State.keeps_orElse (by simp) ?_
    exact State.keeps_pairApply

@[simp] theorem State.noteSupersede_pending {k} : (s.noteSupersede k).pending = s.pending := by
  simp [State.noteSupersede]
@[simp] theorem State.applyWrite_pending {w a} : (s.applyWrite w a).pending = s.pending := by simp [State.applyWrite]

@[simp] theorem State.drainClose_pending {n} : (s.drainClose n).pending = s.pending := by
  induction n generalizing s with
  | zero => rfl
  | succ n ih =>
    unfold State.drainClose
    split
    · rfl
    · simp [ih]

@[simp] theorem State.drainStores_pending {x} : (s.drainStores x).pending = s.pending := by
  induction x generalizing s with
  | nil => rfl
  | cons x xs ih => simp [State.drainStores, ih]

@[simp] theorem State.closeDictionary_pending : s.closeDictionary.pending = s.pending := by simp [State.closeDictionary]

@[simp] theorem State.drainBoundary_pending {w} : (s.drainBoundary w).pending = s.pending := by
  induction w generalizing s with
  | nil => rfl
  | cons w ws ih => simp [State.drainBoundary, ih]

@[simp] theorem State.boundaryDictionary_pending : s.boundaryDictionary.pending = s.pending := by
  simp [State.boundaryDictionary]
@[simp] theorem State.forward_pending {w} : (s.forward w).pending = s.pending := by simp [State.forward]
@[simp] theorem State.executing_pending {p} : (s.executing p).pending = s.pending := by simp [State.executing]
@[simp] theorem State.accept_pending {w} : (s.accept w).pending = s.pending := by simp [State.accept]
@[simp] theorem State.submit_pending {w} : (s.submit w).pending = s.pending := by simp [State.submit]
@[simp] theorem State.write_pending {p k d} : (s.write p k d).pending = s.pending := by simp [State.write]
@[simp] theorem State.command_pending {p k v} : (s.command p k v).pending = s.pending := by simp [State.command]

/-! ## The operations of Machine/Paths -/

@[simp] theorem State.takeRead_pending {k l} : (s.takeRead k l).pending = s.pending := by
  have queue : (((s.queueRead k).map (·.2)).getD s).pending = s.pending := State.getD_pending s.keeps_queueRead rfl
  simp [State.takeRead, queue]

@[simp] theorem State.segmentRead_pending {p n k m l} : (s.segmentRead p n k m l).2.pending = s.pending := by
  have entry := s.readEntry_pending (k := k)
  unfold State.segmentRead
  split
  · simp
  · split
    next => rfl
    next e =>
      rw [e] at entry
      dsimp only
      split
      · exact entry
      · simp

@[simp] theorem State.answerRead_pending {p k a r} : (s.answerRead p k a r).pending = s.pending := by
  unfold State.answerRead
  split <;> simp

@[simp] theorem State.openWrite_pending {w e} : (s.openWrite w e).pending = s.pending := by simp [State.openWrite]

@[simp] theorem State.continueWrite_pending {w e l} : (s.continueWrite w e l).pending = s.pending := by
  unfold State.continueWrite
  split <;> simp

@[simp] theorem State.segmentWrite_pending {w e l} : (s.segmentWrite w e l).pending = s.pending := by
  simp [State.segmentWrite]
@[simp] theorem State.readOn_pending {p k} : (s.readOn p k).pending = s.pending := by simp [State.readOn]
@[simp] theorem State.relay_pending {p k a w} : (s.relay p k a w).pending = s.pending := by simp [State.relay]

@[simp] theorem State.udpRequest_pending {x write} {serve : State → State} (h : ∀ t, SameQueue t (serve t)) :
    (s.udpRequest x write serve).pending = s.pending := by
  have served := (h s).pending
  unfold State.udpRequest
  dsimp only
  split
  · rfl
  · split <;> simp [served]

@[simp] theorem State.hostCrcFail_pending : s.hostCrcFail.pending = s.pending := by simp [State.hostCrcFail]

@[simp] theorem State.hostRequest_pending {x good write} {serve : State → State} (h : ∀ t, SameQueue t (serve t)) :
    (s.hostRequest x good write serve).pending = s.pending := by simp [State.hostRequest, (h _).pending]

@[simp] theorem State.driveHost_pending {e k a d} : (s.driveHost e k a d).pending = s.pending := by
  simp [State.driveHost]

/-! ## The operations of Machine/Tick -/

@[simp] theorem State.countTick_pending : s.countTick.pending = s.pending := by simp [State.countTick]
@[simp] theorem State.endFrame_pending {l} : (s.endFrame l).pending = s.pending := by simp [State.endFrame]
@[simp] theorem State.latchFrame_pending {f} : (s.latchFrame f).pending = s.pending := by simp [State.latchFrame]
@[simp] theorem State.boundaryChanges_pending : s.boundaryChanges.pending = s.pending := by simp [State.boundaryChanges]
@[simp] theorem State.beginTick_pending : s.beginTick.pending = s.pending := by simp [State.beginTick]

@[simp] theorem State.absorb_pending : s.absorb.pending = s.pending := by
  unfold State.absorb
  split <;> simp

@[simp] theorem State.countStretch_pending : s.countStretch.pending = s.pending := by simp [State.countStretch]
@[simp] theorem State.judgeSync_pending : s.judgeSync.pending = s.pending := by simp [State.judgeSync]
@[simp] theorem State.placeEdge_pending {a} : (s.placeEdge a).pending = s.pending := by simp [State.placeEdge]
@[simp] theorem State.latchInputs_pending {f p} : (s.latchInputs f p).pending = s.pending := by simp [State.latchInputs]
@[simp] theorem State.releaseEdge_pending {c} : (s.releaseEdge c).pending = s.pending := by simp [State.releaseEdge]
@[simp] theorem State.countSteady_pending : s.countSteady.pending = s.pending := by simp [State.countSteady]
@[simp] theorem State.edgeEnd_pending : s.edgeEnd.pending = s.pending := by simp [State.edgeEnd]
@[simp] theorem State.datumEdge_pending {f} : (s.datumEdge f).pending = s.pending := by simp [State.datumEdge]
@[simp] theorem State.atPoint_pending {p n} : (s.atPoint p n).pending = s.pending := by simp [State.atPoint]
@[simp] theorem State.noteMismatch_pending {p} : (s.noteMismatch p).pending = s.pending := by simp [State.noteMismatch]
@[simp] theorem State.compute_pending {f} : (s.compute f).pending = s.pending := by simp [State.compute]

@[simp] theorem State.sampleTick_pending : s.sampleTick.pending = s.pending := by
  unfold State.sampleTick
  extract_lets s1 n s2
  have h2 : s2.pending = s.pending := by simp [s1, s2]
  clear_value s2
  split
  · simp [s1]
  · split <;> simp [h2]

@[simp] theorem State.sampleWords_pending : s.sampleWords.pending = s.pending := by simp [State.sampleWords]
@[simp] theorem State.noteFaults_pending {f} : (s.noteFaults f).pending = s.pending := by simp [State.noteFaults]

@[simp] theorem State.haltFor_pending {f} : (s.haltFor f).pending = s.pending := by
  unfold State.haltFor
  split
  · simp
  · split
    · simp
    · split <;> simp

@[simp] theorem State.settleEngines_pending : s.settleEngines.pending = s.pending := by simp [State.settleEngines]
@[simp] theorem State.endCompute_pending : s.endCompute.pending = s.pending := by simp [State.endCompute]
@[simp] theorem State.stakingPoint_pending : s.stakingPoint.pending = s.pending := by simp [State.stakingPoint]

/-! ## The operations of Machine/Timers -/

@[simp] theorem State.putTimer_pending {p n k} : (s.putTimer p n k).pending = s.pending := by simp [State.putTimer]
@[simp] theorem State.putCounter_pending {p n w c} : (s.putCounter p n w c).pending = s.pending := by
  simp [State.putCounter]

/-! ## The commands -/

/-- The state that a command answers, if it answers one, has the queue of `s`. -/
inductive Result.Keeps (s : State) : Result → Prop
  | next {t : State} (h : t.pending = s.pending) : Result.Keeps s (.next t)
  | fault {r : Fault} : Result.Keeps s (.fault r)
  | refused {r : Refusal} : Result.Keeps s (.refused r)

theorem Result.Keeps.scanGuard {p : Nat} {ok inside : Bool} {t : State} (h : t.pending = s.pending) :
    Result.Keeps s (scanGuard s p ok inside t) := by
  unfold Machine.scanGuard
  split_ifs
  · exact .next rfl
  · exact .next rfl
  · exact .next h
  · exact .fault
  · exact .refused

theorem Result.Keeps.execEnd {p : Nat} {agree : Bool} : Result.Keeps s (execEnd p agree s) := by
  refine .scanGuard ?_
  split
  · rfl
  · simp

theorem Result.Keeps.execCauseTrip {cause : Nat} : Result.Keeps s (execCauseTrip cause s) := by
  refine .next ?_
  split
  · split <;> simp
  · rfl

theorem Result.Keeps.execTieLinkLaneFail {lane : Nat} : Result.Keeps s (execTieLinkLaneFail lane s) := by
  refine .next ?_
  dsimp only
  split
  · split
    · split <;> simp
    · simp
  · rfl

theorem Result.Keeps.execSilenceWatchClose : Result.Keeps s (execSilenceWatchClose s) := by
  refine .next ?_
  split <;> simp

theorem Result.Keeps.execPtpFollowUp {port : Nat} {m : PtpEvent} : Result.Keeps s (execPtpFollowUp port m s) := by
  refine .next ?_
  dsimp only
  split
  · split
    · rfl
    · rw [State.passFollowUp_pending]
      split <;> simp
  · rfl

theorem Result.Keeps.execHoldoverEntry : Result.Keeps s (execHoldoverEntry s) := by
  refine .next ?_
  split
  · split <;> simp
  · rfl

theorem Result.Keeps.execPpsInEdge {ns : Nat} : Result.Keeps s (execPpsInEdge ns s) := by
  refine .next ?_
  split
  · rw [State.setCause_pending, State.count_pending, State.setRegI_pending, State.setReg_pending]
  · rfl

theorem Result.Keeps.execCanFrameSent {c : Nat} : Result.Keeps s (execCanFrameSent c s) := by
  refine .next ?_
  split
  · split
    · rfl
    · split
      · rfl
      · dsimp only
        split <;> simp
  · rfl

theorem Result.Keeps.execHeartbeatProducerExpiry : Result.Keeps s (execHeartbeatProducerExpiry s) := by
  refine .next ?_
  split <;> simp

theorem Result.Keeps.execStoreComplete {success : Bool} : Result.Keeps s (execStoreComplete success s) := by
  refine .next ?_
  split <;> simp

theorem Result.Keeps.execHostFetchResponse {n crc : Nat} : Result.Keeps s (execHostFetchResponse n crc s) := by
  refine .next ?_
  split
  · split
    · rfl
    · split
      · simp
      · split <;> simp
  · rfl

theorem Result.Keeps.execPartnerRequest {ix sub : Nat} {write : Option (List Byte)} :
    Result.Keeps s (execPartnerRequest ix sub write s) := by
  refine .next ?_
  split
  · split <;> simp
  · rfl

theorem Result.Keeps.execResetRelease : Result.Keeps s (execResetRelease s) := by
  refine .next ?_
  split <;> simp

theorem Result.Keeps.execSentenceTransmitted {port : Nat} : Result.Keeps s (execSentenceTransmitted port s) := by
  refine .next ?_
  split
  · split <;> simp
  · rfl

theorem exec_keeps (c : Instr) : Result.Keeps s (exec c s) := by
  cases c with
  | opNop | opLd | opLdn | opAnd | opAndn | opOr | opOrn | opXor | opXorn | opSt | opStn | opSet | opRst | opNot |
  opSeta | opClra | opEdp | opEdn | opLdx | opStx | opPsa | opPso | opPsx | opPsk | opPop | opPeek | opTon | opTof
  | opTp | opTacc | opTrs | opCtu | opCtd | opCrs | opCld | opJmp | opJc | opJcn | opCall | opCallc | opRet |
  opLdf | opClf | opLdw | opLdh | opLdhu | opLdb | opLdbu | opLdhi | opStw | opSth | opStb | opStwc | opLdwx |
  opStwx | opAdd | opSub | opMul | opDiv | opMod | opNeg | opAbs | opMin | opMax | opAddu | opSubu | opAw | opOw |
  opXw | opInvw | opShl | opShr | opSar | opRol | opEq | opNe | opGt | opGe | opLt | opLe | opGtu | opLtu | opFadd
  | opFsub | opFmul | opFdiv | opFneg | opFabs | opFsqrt | opFeq | opFne | opFgt | opFge | opFlt | opFle | opItf |
  opFti | opFtit | opSat16 | opSatu16 | opSext16 | opSwp | opDup | opTstw | opLda =>
    exact .scanGuard (by simp)
  | opEnd => exact .execEnd
  | causeTrip => exact .execCauseTrip
  | tieLinkLaneFail => exact .execTieLinkLaneFail
  | silenceWatchClose => exact .execSilenceWatchClose
  | ptpFollowUp => exact .execPtpFollowUp
  | holdoverEntry => exact .execHoldoverEntry
  | ppsInEdge => exact .execPpsInEdge
  | canFrameSent => exact .execCanFrameSent
  | heartbeatProducerExpiry => exact .execHeartbeatProducerExpiry
  | storeComplete => exact .execStoreComplete
  | hostFetchResponse => exact .execHostFetchResponse
  | partnerRequest => exact .execPartnerRequest
  | resetRelease => exact .execResetRelease
  | sentenceTransmitted => exact .execSentenceTransmitted
  | _ => exact .next (by simp)

/-- Settles O20: a command that answers a state answers one with the same queue. -/
theorem execKeepsQueue : Obligations.ExecKeepsQueue := by
  intro c s t e
  have kept := exec_keeps (s := s) c
  rw [e] at kept
  cases kept with
  | next h => exact h

end Sys2Proof.Machine
end

section
/-! SUPPORT. One step, and the state after reset. -/

namespace Sys2Proof.Machine

open Sys2Proof

/-- Settles O19, by the two cases of the queue. -/
theorem stepRunsFront : Obligations.StepRunsFront := by
  refine ⟨fun c rest s h => ?_, fun s h => ?_⟩
  · simp only [step, h]
  · simp only [step, h]

theorem State.reset_ok : State.reset.Ok where
  regs := by decide +kernel
  fits := by decide +kernel
  mem := rfl
  engines := rfl
  tasks := rfl

/-- Settles O21: the reset state is written out, and lists no register but the module state. -/
theorem resetState : Obligations.ResetState := by
  refine ⟨State.reset_ok, ?_, ?_, rfl, ?_, ?_, ?_, ?_, ?_, ?_, ?_, fun _ => rfl⟩
  all_goals decide +kernel

end Sys2Proof.Machine
end

section
/-! SUPPORT. The points of a tick (R16). The operations that a release edge runs on the stages keep the whole of the tick's
own state, so that the token alone decides what is released. -/

namespace Sys2Proof.Machine

open Sys2Proof

variable {s : State}

/-! ## Operations that keep the tick's own state -/

@[simp] theorem State.setBit_tick {k n v} : (s.setBit k n v).tick = s.tick := rfl
@[simp] theorem State.count_tick {k} : (s.count k).tick = s.tick := rfl
@[simp] theorem State.setDrt_tick {n r} : (s.setDrt n r).tick = s.tick := rfl

@[simp] theorem State.setCause_tick {g n} : (s.setCause g n).tick = s.tick := by
  unfold State.setCause
  dsimp only
  split <;> rfl

@[simp] theorem State.ite_tick {c : Prop} {d : Decidable c} {s t : State} :
    (if c then s else t).tick = if c then s.tick else t.tick := apply_ite ..

@[simp] theorem State.dropDiag_tick {n k} : (s.dropDiag n k).tick = s.tick := by simp [State.dropDiag]
@[simp] theorem State.stageOff_tick {n} : (s.stageOff n).tick = s.tick := by simp [State.stageOff]
@[simp] theorem State.stageOn_tick {n} : (s.stageOn n).tick = s.tick := by simp [State.stageOn]
@[simp] theorem State.unlatchOt_tick {n} : (s.unlatchOt n).tick = s.tick := by simp [State.unlatchOt]
@[simp] theorem State.edgeStage_tick {r c n} : (s.edgeStage r c n).tick = s.tick := by simp [State.edgeStage]

@[simp] theorem State.markHeld_tick : s.markHeld.tick = s.tick := State.each_field State.tick fun _ _ => by simp

@[simp] theorem State.clearSlice_tick {k} : (s.clearSlice k).tick = s.tick := by
  have slice (t : State) :
      (t.each (sliceChannels k) fun u n => if u.isOutput n then u.setCause 7 1 else u).tick = t.tick :=
    State.each_field State.tick fun _ _ => by simp
  simp [State.clearSlice, slice]

@[simp] theorem State.releaseStages_tick {c} : (s.releaseStages c).tick = s.tick := by
  unfold State.releaseStages
  extract_lets o s1 s2
  have h2 : s2.tick = s1.tick := State.each_field State.tick fun _ _ => by simp
  have stages : (s2.each (List.range 64) fun t n => t.edgeStage true c n).tick = s2.tick :=
    State.each_field State.tick fun _ _ => by simp
  rw [State.markHeld_tick, stages, h2]

@[simp] theorem State.dropDie_tick {d} : (s.dropDie d).tick = s.tick := by
  unfold State.dropDie
  exact State.each_field State.tick fun _ _ => by simp

@[simp] theorem State.holdExpiry_tick {d} : (s.holdExpiry d).tick = s.tick := by simp [State.holdExpiry]

@[simp] theorem State.holdStages_tick {c} : (s.holdStages c).tick = s.tick := by
  have stages (t : State) :
      (t.each (List.range 64) fun u n => if u.dieDriven n then u.edgeStage false c n else u).tick = t.tick :=
    State.each_field State.tick fun _ _ => by simp
  simp [State.holdStages, stages]

@[simp] theorem State.releaseAnalog_tick {v} : (s.releaseAnalog v).tick = s.tick := by
  refine State.each_field State.tick fun t n => ?_
  split <;> rfl

/-! ## The release of outputs (R16, R18) -/

theorem State.releaseOutputs_token {c} (h : s.tick.token = true) :
    (s.releaseOutputs c).tick.released = s.tick.staked := by
  simp [State.releaseOutputs, State.releaseSet, h]

theorem State.releaseOutputs_no_token {c} (h : s.tick.token = false) :
    (s.releaseOutputs c).tick.released = s.tick.released := by
  simp [State.releaseOutputs, h]

/-! ## The closure point in simplex (R16) -/

theorem State.chainAtK_tick : s.chainAtK.tick = s.tick := by
  unfold State.chainAtK
  split <;> rfl

theorem State.chainAtK_regs : s.chainAtK.regs = s.regs := by
  unfold State.chainAtK
  split <;> rfl

theorem State.issueToken_tick : s.issueToken.tick = { s.tick with token := true } := State.chainAtK_tick
theorem State.issueToken_regs : s.issueToken.regs = s.regs := State.chainAtK_regs

theorem State.pairAtK_of_simplex (h : s.inPair = false) : s.pairAtK = s.issueToken := by
  simp [State.pairAtK, h]

theorem execClosurePoint_simplex (run : s.running = true) (node : s.outstation = false) (pair : s.inPair = false) :
    execClosurePoint s = .next (s.atPoint .k ((s.reg 0x200004 + s.reg 0x200005) * 1000)).issueToken := by
  have node' {p ns} : (s.atPoint p ns).outstation = false := node
  have pair' {p ns} : (s.atPoint p ns).inPair = false := pair
  simp [execClosurePoint, run, node', State.pairAtK_of_simplex pair']

/-! ## The datum edge and the frame boundary (R16, R41) -/

theorem State.datumEdge_of_running {f} (run : s.running = true) :
    s.datumEdge f =
      let q := s.absorb
      let t := if q.tick.started = true ∧ q.tick.boundaryDone = false then q.beginTick else q
      let u := (t.placeEdge f.stageError).latchInputs f s.tick.datumNs
      (u.pairAtD.releaseEdge f.cooled).edgeEnd := by
  simp only [State.datumEdge, run, Bool.not_true, Bool.false_eq_true, if_false, Bool.and_eq_true, Bool.not_eq_true']

/-- A frame boundary leaves the mark by which the datum edge that follows does not count again. -/
theorem State.beginTick_boundaryDone (h : s.queueErrors.adoptCounts.boundaryNext = true) :
    s.beginTick.tick.boundaryDone = true := by
  unfold State.beginTick
  dsimp only
  rw [if_pos h]

theorem execFrameBoundary_due (run : s.running = true) (started : s.tick.started = true)
    (fresh : s.tick.boundaryDone = false) (due : s.queueErrors.adoptCounts.boundaryNext = true) :
    execFrameBoundary s = .next s.beginTick := by
  simp [execFrameBoundary, run, started, fresh, due]

/-! ## The compute start -/

/-- An outstation computes nothing (R223). -/
theorem execComputeStart_idle {faults} (h : s.running = false ∨ s.outstation = true) :
    execComputeStart faults s = .next s := by
  have idle : (s.running && !s.outstation) = false := by
    rcases h with h | h <;> simp [h]
  simp [execComputeStart, whenValid, idle]

theorem execComputeStart_due {faults : List Nat} (valid : ∀ p, p ∈ faults → p < 144) (run : s.running = true)
    (node : s.outstation = false) :
    execComputeStart faults s = .next (
      let t := (s.atPoint .x (s.reg 0x200107)).pairAtX
      let u := { t with pair := { t.pair with mismatches := [] } }
      (if u.pair.computed = true then u.compute faults else u).backgroundCopy) := by
  have all : faults.all (fun p => decide (p < 144)) = true := by simpa using valid
  simp only [execComputeStart, whenValid, all, run, node, Bool.not_false, Bool.and_self, if_true]

/-- Settles O25: each point is its work behind the test that the sequencer runs; the closure point in simplex and the
release edge by what their operations leave of the tick. -/
theorem tickPoints : Obligations.TickPoints := by
  refine ⟨fun s f faults => ⟨fun run => ?_, fun stop => ?_⟩, fun s run node pair => ?_, fun s c => ?_⟩
  · refine ⟨?_, ?_, fun valid node => execComputeStart_due valid run node, fun node => ?_, fun node => ?_,
      fun node => ?_, fun started fresh due => ?_, ?_⟩
    · simp only [exec, execDatumEdge, run, Bool.true_or, if_true, State.datumEdge_of_running run]
    · simp only [exec, execClosingPoint, run, if_true]
    · simp [exec, execStakingPoint, run, node]
    · have node' {p ns} : (s.atPoint p ns).outstation = false := node
      simp [exec, execClosurePoint, run, node']
    · have node' {p ns} : (s.atPoint p ns).outstation = true := node
      refine ⟨execComputeStart_idle (.inr node), ?_, ?_⟩
      · simp [exec, execStakingPoint, run, node]
      · simp [exec, execClosurePoint, run, node']
    · exact ⟨execFrameBoundary_due run started fresh due, State.beginTick_boundaryDone due⟩
    · simp [exec, execStepAbsorbed, run]
  · refine ⟨?_, ?_, ?_, ?_, ?_, execComputeStart_idle (.inl stop), fun ready => ?_⟩
    · simp [exec, execClosingPoint, stop]
    · simp [exec, execStakingPoint, stop]
    · simp [exec, execClosurePoint, stop]
    · simp [exec, execFrameBoundary, stop]
    · simp [exec, execStepAbsorbed, stop]
    · simp [exec, execDatumEdge, stop, ready]
  · refine ⟨_, execClosurePoint_simplex run node pair, ?_⟩
    rw [State.issueToken_tick, State.issueToken_regs]
    exact ⟨rfl, rfl, rfl, rfl, rfl⟩
  · exact ⟨State.releaseOutputs_token, State.releaseOutputs_no_token⟩

end Sys2Proof.Machine
end

section
/-! SUPPORT. Tick and frame counts, the place of datum edges, and the step of the time-scale (R15, R32, R35, R36, R40). -/

namespace Sys2Proof.Machine

open Sys2Proof Sys2Proof.Stated

variable {s : State}

/-! ## Registers through writes and causes -/

theorem State.reg_setReg {k v j} : (s.setReg k v).reg j = if j = k then fit k v else s.reg j := by
  split
  next e => rw [e, s.reg_setReg_same]
  next e => rw [s.reg_setReg_other _ _ _ e]

/-- A cause writes its own register and no other. -/
theorem State.reg_setCause {g n k} : (s.setCause g n).reg k = (s.setBit (causeOf g) n true).reg k := by
  unfold State.setCause
  dsimp only
  split <;> rfl

theorem State.reg_setCause_other {g n k} (h : k ≠ causeOf g) : (s.setCause g n).reg k = s.reg k :=
  State.reg_setCause.trans (s.reg_setReg_other _ _ _ h)

/-! ## The counts (R15, R40) -/

theorem only_trans {ks : List Nat} {s t u : State} (h : Only ks s t) (h' : Only ks t u) : Only ks s u :=
  fun k hk => (h' k hk).trans (h k hk)

theorem State.only_setReg_of_mem {ks : List Nat} {k v : Nat} (hk : k ∈ ks) : Only ks s (s.setReg k v) :=
  fun j hj => s.reg_setReg_other k j v fun e => hj (e ▸ hk)

theorem State.only_countTick : Only [0x200101, 0x200102, 0x200103] s s.countTick := by
  have tick := s.only_setReg_of_mem (ks := [0x200101, 0x200102, 0x200103]) (k := 0x200101) (v := s.tickNo + 1) (by simp)
  unfold State.countTick
  dsimp only
  split
  · exact only_trans (only_trans tick (State.only_setReg_of_mem (by simp))) (State.only_setReg_of_mem (by simp))
  · exact only_trans tick (State.only_setReg_of_mem (by simp))

theorem State.tickNo_countTick : s.countTick.tickNo = (s.tickNo + 1) % 2 ^ 64 := by
  have bits : entryBits 0x200101 = 64 := by decide +kernel
  unfold State.countTick
  dsimp only
  split <;> simp [State.tickNo, State.reg_setReg, fit, bits]

theorem State.countTick_boundary (h : s.boundaryNext = true) :
    s.countTick.reg 0x200103 = 0 ∧ s.countTick.reg 0x200102 = (s.reg 0x200102 + 1) % 2 ^ 64 := by
  have bits : entryBits 0x200102 = 64 := by decide +kernel
  simp [State.countTick, h, State.reg_setReg, fit, bits]

theorem State.countTick_inFrame (h : s.boundaryNext = false) :
    s.countTick.reg 0x200103 = (s.reg 0x200103 + 1) % 2 ^ 32 ∧ s.countTick.reg 0x200102 = s.reg 0x200102 := by
  have bits : entryBits 0x200103 = 32 := by decide +kernel
  simp [State.countTick, h, State.reg_setReg, fit, bits]

/-! ## Multiples of the tick period (R32) -/

theorem State.multipleFrom_mod {ns} : s.multipleFrom ns % periodNs s = 0 := Nat.mul_mod_left ..

/-- The multiple lies at the time or after it, by less than one period. -/
theorem State.multipleFrom_place {ns} (h : 0 < s.tD) :
    ns ≤ s.multipleFrom ns ∧ s.multipleFrom ns < ns + periodNs s := by
  have pos : 0 < periodNs s := Nat.mul_pos h (by decide)
  have split := Nat.div_add_mod (ns + periodNs s - 1) (periodNs s)
  have rest := Nat.mod_lt (ns + periodNs s - 1) pos
  have value : s.multipleFrom ns = periodNs s * ((ns + periodNs s - 1) / periodNs s) := Nat.mul_comm ..
  omega

/-! ## The place of a datum edge (R32, R35) -/

/-- An error record leaves the tick but for the records of errors. -/
theorem State.recordError_tick {c p q} : ∃ es, (s.recordError c p q).tick = { s.tick with errNew := es } := by
  unfold State.recordError
  split
  · dsimp only
    split
    · exact ⟨_, rfl⟩
    · exact ⟨_, rfl⟩
  · exact ⟨_, rfl⟩

theorem State.countStretch_tick : s.countStretch.tick = s.tick := by simp [State.countStretch]

theorem State.judgeSync_tick : ∃ on es, s.judgeSync.tick = { s.tick with syncNow := on, errNew := es } := by
  unfold State.judgeSync
  extract_lets on tick s1 s2
  split
  · exact ⟨_, _, rfl⟩
  · split
    · obtain ⟨es, h⟩ := s2.recordError_tick (c := 6) (p := 0) (q := 0)
      exact ⟨on, es, State.setCause_tick.trans h⟩
    · exact ⟨_, _, rfl⟩

/-- The instant that a datum edge takes. -/
def State.edgeNs (s : State) : Nat := if s.tick.started then s.tick.nextNs else s.multipleFrom s.tick.nowNs

theorem State.placeEdge_tick {e} : ∃ on es, (s.placeEdge e).tick = { s.tick with
    point := .d, started := true, datumNs := s.edgeNs, nowNs := s.edgeNs
    nextNs := s.multipleFrom (s.edgeNs + periodNs s), stepped := s.tick.stepNow, stretched := s.tick.stepNow
    stepNow := false, prevReleased := s.tick.released, stageError := e, syncNow := on, errNew := es } := by
  unfold State.placeEdge
  extract_lets at_ step tick
  obtain ⟨on, es, h⟩ := State.judgeSync_tick (s := State.countStretch _)
  exact ⟨on, es, h.trans (by rw [State.countStretch_tick]; rfl)⟩

/-! ## The step (R35, R36) -/

theorem State.setTu_tick {v} : (s.setTu v).tick = s.tick := by simp [State.setTu]

theorem State.applyStep_tick {a : Int} : (s.applyStep a).tick =
    { s.tick with nowNs := ((s.tick.nowNs : Int) + a).toNat, stepPending := none, stepHeld := false } := by
  unfold State.applyStep
  rw [State.setTu_tick, State.setCause_tick]
  rfl

theorem State.reg_setTu {v k} (h : k ≠ 0x2A0101) (h' : k ≠ causeOf 9) : (s.setTu v).reg k = s.reg k := by
  unfold State.setTu
  split
  · rfl
  · rw [State.reg_setCause_other h', State.reg_setReg, if_neg h]

/-- A change of the time unit's state sets its own cause bit 0 and leaves the others. -/
theorem State.cause_setTu {v n} (hn : n < entryBits (causeOf 9)) (h : n ≠ 0) :
    ((s.setTu v).reg (causeOf 9)).testBit n = (s.reg (causeOf 9)).testBit n := by
  unfold State.setTu
  split
  · rfl
  · rw [State.reg_setCause, State.testBit_reg_setBit _ _ _ hn, if_neg h, State.reg_setReg, if_neg (by decide)]

theorem State.tickNo_applyStep {a : Int} : (s.applyStep a).tickNo = s.tickNo := by
  unfold State.applyStep State.tickNo
  dsimp only
  rw [State.reg_setTu (by decide) (by decide), State.reg_setCause_other (by decide)]
  simp only [State.setBit, State.setRegI, State.reg_setReg]
  rfl

theorem State.applyStep_cause {a : Int} : ((s.applyStep a).reg (causeOf 9)).testBit 1 = true := by
  have bits : entryBits (causeOf 9) = 32 := by decide +kernel
  have bit : 1 < entryBits (causeOf 9) := by omega
  unfold State.applyStep
  rw [State.cause_setTu bit (by decide), State.reg_setCause, State.testBit_reg_setBit _ _ _ bit, if_pos rfl]

/-- A step that waits is held, or waits for the first datum edge. -/
theorem State.absorb_waits (h : s.tick.stepHeld = true ∨ s.tick.started = false) : s.absorb = s := by
  have waits : (s.tick.stepHeld || !s.tick.started) = true := by
    rcases h with h | h <;> simp [h]
  unfold State.absorb
  split
  · rw [if_pos waits]
  · rfl

/-- The state in which a step that is pending and not held leaves the module. -/
theorem State.absorb_moves {a : Int} (pending : s.tick.stepPending = some a) (free : s.tick.stepHeld = false)
    (started : s.tick.started = true) :
    ∃ time, s.absorb = { (s.applyStep a).setReg 0x2A010D s.edgeTick with
      tick := { (s.applyStep a).tick with nextNs := ((s.tick.nextNs : Int) + a).toNat, stepNow := true }
      time := time } := by
  unfold State.absorb
  simp only [pending, free, started]
  exact ⟨_, rfl⟩

/-- Settles O26: the counts by the registers that an edge writes, its place by the multiples of the tick period, and the
step by what it leaves of the tick. -/
theorem edgeCounts : Obligations.EdgeCounts := by
  refine ⟨fun s e _ => ⟨?_, fun period => ?_⟩,
    fun s a _ run pending => ⟨fun free started => ?_, fun waits => ?_⟩⟩
  · exact ⟨State.tickNo_countTick, State.only_countTick, State.countTick_boundary, State.countTick_inFrame⟩
  · obtain ⟨on, es, tick⟩ := s.placeEdge_tick (e := e)
    have first := s.multipleFrom_place (ns := s.tick.nowNs) period
    have next := s.multipleFrom_place (ns := s.edgeNs + periodNs s) period
    dsimp only
    rw [tick]
    refine ⟨rfl, rfl, rfl, fun h => if_pos h, fun h => ?_, State.multipleFrom_mod, next.1, ?_, rfl, rfl, rfl⟩
    · have place : s.edgeNs = s.multipleFrom s.tick.nowNs := if_neg (by simp [h])
      exact place ▸ ⟨State.multipleFrom_mod, first⟩
    · have below := next.2
      dsimp only
      omega
  · obtain ⟨time, moved⟩ := State.absorb_moves pending free started
    have bits : entryBits 0x2A010D = 64 := by decide +kernel
    refine ⟨s.absorb, by simp [exec, execStepAbsorbed, run], ?_⟩
    rw [moved, State.applyStep_tick]
    refine ⟨rfl, rfl, rfl, rfl, ?_, ?_, ?_⟩
    · exact (State.reg_setReg_same ..).trans (by rw [fit, bits])
    · have cause := State.reg_setReg_other (s.applyStep a) 0x2A010D (causeOf 9) s.edgeTick (by decide)
      exact (congrArg (·.testBit 1) cause).trans State.applyStep_cause
    · exact (State.reg_setReg_other _ _ _ _ (by decide)).trans State.tickNo_applyStep
  · simp [exec, execStepAbsorbed, run, State.absorb_waits waits]

end Sys2Proof.Machine
end

section
/-! SUPPORT. Decoding and encoding of scan instructions (R50, R51): the fields of a word, and the words of the three
formats, without operand, with an area and an address, with a target. -/

namespace Sys2Proof.Machine

open Sys2Proof

variable {x : Operand} {op f w : Nat}

/-! ## Fields of a word -/

/-- The area and the address of an operand fit their fields. -/
def Operand.Fits (x : Operand) : Prop := x.area < 16 ∧ x.addr < 2 ^ 20

theorem Operand.Fits.field_lt (h : Operand.Fits x) : operandField x < 2 ^ 24 := by
  obtain ⟨area, addr⟩ := h
  unfold operandField
  omega

theorem opcode_of_word (h : f < 2 ^ 24) : (op * 2 ^ 24 + f) / 2 ^ 24 = op := by omega

theorem target_of_word (h : f < 2 ^ 24) : (op * 2 ^ 24 + f) % 2 ^ 24 = f := by omega

theorem area_of_word (h : Operand.Fits x) : (op * 2 ^ 24 + operandField x) / 2 ^ 20 % 16 = x.area := by
  obtain ⟨area, addr⟩ := h
  unfold operandField
  omega

theorem addr_of_word (h : Operand.Fits x) : (op * 2 ^ 24 + operandField x) % 2 ^ 20 = x.addr := by
  obtain ⟨area, addr⟩ := h
  unfold operandField
  omega

/-- A word is its opcode and its operand fields. -/
theorem word_of_fields (w : Nat) : w / 2 ^ 24 * 2 ^ 24 + operandField ⟨w / 2 ^ 20 % 16, w % 2 ^ 20⟩ = w := by
  unfold operandField
  dsimp only
  omega

/-! ## Operands that the static rules accept fit their fields -/

/-- The static rules of R50 to R54 on the operand of an instruction. -/
inductive OperandRule : (Operand → Bool) → Prop
  | bitRead : OperandRule bitReadOk
  | bitWrite : OperandRule bitWriteOk
  | edge : OperandRule edgeOk
  | bitIndexRead : OperandRule bitIndexReadOk
  | timer : OperandRule timerOk
  | counter : OperandRule counterOk
  | wordRead : OperandRule wordReadOk
  | partRead {n : Nat} : OperandRule (partReadOk n)
  | wordWrite : OperandRule wordWriteOk
  | partWrite {n : Nat} : OperandRule (partWriteOk n)
  | condWrite : OperandRule condWriteOk
  | wordIndexRead : OperandRule wordIndexReadOk
  | immediate {n : Nat} (small : n ≤ 2 ^ 20) : OperandRule (immediateOk n)

theorem fits_of_plainOk {n : Nat} (area : x.area < 16) (h : plainOk n x.addr = true) : Operand.Fits x := by
  simp only [plainOk, Bool.and_eq_true, decide_eq_true_eq] at h
  exact ⟨area, h.1⟩

theorem fits_of_objectOk {l : List Nat} (area : x.area < 16) (h : objectOk l x.addr = true) : Operand.Fits x := by
  simp only [objectOk, Bool.and_eq_true, decide_eq_true_eq] at h
  exact ⟨area, by omega⟩

theorem fits_of_partWriteOk {n : Nat} (h : partWriteOk n x = true) : Operand.Fits x := by
  simp [partWriteOk] at h
  exact fits_of_plainOk (by omega) h.2

theorem OperandRule.fits {r : Operand → Bool} (rule : OperandRule r) (h : r x = true) : Operand.Fits x := by
  cases rule with
  | bitRead =>
    unfold bitReadOk at h
    split at h <;> simp [plainOk, objectOk] at h <;> constructor <;> omega
  | wordRead =>
    unfold wordReadOk at h
    split at h <;> simp [plainOk, objectOk] at h <;> constructor <;> omega
  | partRead =>
    unfold partReadOk at h
    split at h <;> simp [plainOk] at h <;> constructor <;> omega
  | wordWrite =>
    unfold wordWriteOk at h
    split at h <;> simp [plainOk, objectOk] at h <;> constructor <;> omega
  | bitWrite => simp [bitWriteOk] at h; exact fits_of_plainOk (by omega) h.2
  | edge => simp [edgeOk] at h; exact fits_of_plainOk (by omega) h.2
  | bitIndexRead => simp [bitIndexReadOk] at h; exact fits_of_plainOk (by omega) h.2
  | wordIndexRead => simp [wordIndexReadOk] at h; exact fits_of_plainOk (by omega) h.2
  | timer => simp [timerOk] at h; exact fits_of_objectOk (by omega) h.2
  | counter => simp [counterOk] at h; exact fits_of_objectOk (by omega) h.2
  | partWrite => exact fits_of_partWriteOk h
  | condWrite =>
    simp only [condWriteOk, Bool.or_eq_true, Bool.and_eq_true, beq_iff_eq, decide_eq_true_eq] at h
    obtain h | ⟨⟨area, addr⟩, -⟩ := h
    · exact fits_of_partWriteOk h
    · exact ⟨by omega, by omega⟩
  | immediate small =>
    simp only [immediateOk, Bool.and_eq_true, beq_iff_eq, decide_eq_true_eq] at h
    exact ⟨by omega, by omega⟩

/-! ## The round trip -/

/-- A word with an operand that a static rule accepts spells what its row of `scanDecode` answers to its fields. -/
theorem spelled_operand {i : Instr} {r : Operand → Bool} (code : op < 2 ^ 8) (rule : OperandRule r) (form : r x = true)
    (row : ∀ w, w / 2 ^ 24 = op → (⟨w / 2 ^ 20 % 16, w % 2 ^ 20⟩ : Operand) = x → ∃ p, scanDecode p w = some i) :
    op * 2 ^ 24 + operandField x < 2 ^ 32 ∧ ∃ p, scanDecode p (op * 2 ^ 24 + operandField x) = some i := by
  have fits := rule.fits form
  have field := fits.field_lt
  refine ⟨by omega, row _ (opcode_of_word field) ?_⟩
  rw [area_of_word fits, addr_of_word fits]

theorem spelled_target {i : Instr} (code : op < 2 ^ 8) (form : targetOk f = true)
    (row : ∀ w, w / 2 ^ 24 = op → w % 2 ^ 24 = f → ∃ p, scanDecode p w = some i) :
    op * 2 ^ 24 + f < 2 ^ 32 ∧ ∃ p, scanDecode p (op * 2 ^ 24 + f) = some i := by
  have field : f < 2 ^ 24 := by
    simp only [targetOk, decide_eq_true_eq] at form
    omega
  exact ⟨by omega, row _ (opcode_of_word field) (target_of_word field)⟩

theorem decode_of_encode {i : Instr} (wf : Instr.wf i = true) (h : scanEncode i = some w) :
    w < 2 ^ 32 ∧ ∃ p, scanDecode p w = some (agreed i) := by
  cases i
  case opNop | opNot | opSeta | opClra | opPsa | opPso | opPsx | opPsk | opPop | opPeek | opRet | opEnd | opAdd |
      opSub | opMul | opDiv | opMod | opNeg | opAbs | opMin | opMax | opAddu | opSubu | opAw | opOw | opXw | opInvw |
      opEq | opNe | opGt | opGe | opLt | opLe | opGtu | opLtu | opFadd | opFsub | opFmul | opFdiv | opFneg | opFabs |
      opFsqrt | opFeq | opFne | opFgt | opFge | opFlt | opFle | opItf | opFti | opFtit | opSat16 | opSatu16 |
      opSext16 | opSwp | opDup | opTstw | opLda =>
    obtain rfl := Option.some.inj h
    exact ⟨by decide, _, rfl⟩
  case opJmp | opJc | opJcn | opCall | opCallc =>
    obtain rfl := Option.some.inj h
    have form := (Bool.and_eq_true_iff.mp wf).2
    refine spelled_target (by decide) form fun w code target => ?_
    unfold scanDecode
    rw [code, target]
    exact ⟨_, if_pos form⟩
  case opLd | opLdn | opAnd | opAndn | opOr | opOrn | opXor | opXorn | opSt | opStn | opSet | opRst | opEdp | opEdn |
      opLdx | opStx | opTon | opTof | opTp | opTacc | opTrs | opCtu | opCtd | opCrs | opCld | opLdf | opClf | opLdw |
      opLdh | opLdhu | opLdb | opLdbu | opLdhi | opStw | opSth | opStb | opStwc | opLdwx | opStwx | opShl | opShr |
      opSar | opRol =>
    obtain rfl := Option.some.inj h
    have form := (Bool.and_eq_true_iff.mp wf).2
    refine spelled_operand (by decide) (by constructor <;> decide) form fun w code operand => ?_
    unfold scanDecode
    rw [code, operand]
    exact ⟨_, if_pos form⟩
  all_goals nomatch h

theorem encode_of_decode {p : Nat} {i : Instr} (h : scanDecode p w = some i) : scanEncode i = some w := by
  have fields : w / 2 ^ 24 * 2 ^ 24 + operandField ⟨w / 2 ^ 20 % 16, w % 2 ^ 20⟩ = w := word_of_fields w
  have target : w / 2 ^ 24 * 2 ^ 24 + w % 2 ^ 24 = w := Nat.div_add_mod' w (2 ^ 24)
  unfold scanDecode at h
  split at h
  all_goals rename_i code
  all_goals simp only [Option.ite_none_right_eq_some, Option.some.injEq, reduceCtorEq] at h
  all_goals obtain ⟨form, rfl⟩ := h
  all_goals refine congrArg some (?_ : _ = w)
  all_goals simp only [code, form, Nat.add_zero] at fields target
  all_goals assumption

/-- Settles O17, in each direction by the format of the row. -/
theorem scanRoundTrip : Obligations.ScanRoundTrip :=
  ⟨fun _ _ wf h => decode_of_encode wf h, fun _ _ _ _ h => encode_of_decode h⟩

/-- Settles O18: the decoder evaluated on the nine words. -/
theorem scanWords : Obligations.ScanWords := by
  unfold Obligations.ScanWords
  decide +kernel

end Sys2Proof.Machine
end

section
/-! SUPPORT. The scan instructions on a pair that runs: what the shared forms leave, and the instructions whose whole
effect is one write of the pair's engine (R60, R61, R64, R65, R70). -/

namespace Sys2Proof.Machine

open Sys2Proof Sys2Proof.Stated

variable {s t : State} {p : Nat} {x : Operand}

/-! ## The shared forms -/

theorem rising_of_ready (r : Ready s p) : Sparse.rising s.engines = true := r.1.engines

theorem pair_of_ready (r : Ready s p) : p ≤ 14 := r.2.1

theorem stopped_of_ready (r : Ready s p) : (s.engine p).stopped = false := r.2.2

theorem scanGuard_ready {ok inside : Bool} (r : Ready s p) (form : ok = true) (within : inside = true) :
    scanGuard s p ok inside t = .next t :=
  scanGuard_next s p ok inside t (pair_of_ready r) (stopped_of_ready r) form within

/-- A change of the engine and the step past the instruction. -/
theorem State.onEngine_advance_ready {n : Nat} {f : Engine → Engine} (r : Ready s p) :
    (s.onEngine p f).advance p n = s.setEngine p (past n (f (s.engine p))) :=
  State.onEngine_advance s p n f (rising_of_ready r)

theorem bitLogic_ready {f : Bool → Bool → Bool} (r : Ready s p) (form : bitReadOk x = true) (within : s.bitIn p x = true) :
    bitLogic p x f s = .next ((s.afterRead x).setEngine p
      (past (accessCycles 1 x) { s.engine p with a := f (s.engine p).a (s.bitAt p x) })) := by
  rw [bitLogic, scanGuard_ready r form within, State.onEngine_afterRead_advance _ _ _ _ _ (rising_of_ready r)]
  rfl

theorem implied_ready {n : Nat} {f : Engine → Engine} (r : Ready s p) :
    implied p n f s = .next (s.setEngine p (past n (f (s.engine p)))) :=
  implied_next s p n f (pair_of_ready r) (stopped_of_ready r) (rising_of_ready r)

/-- An instruction that sets W0 and raises flags. -/
theorem wordOp_ready {n : Nat} {f : Word → Word → Flagged} (r : Ready s p) :
    wordOp p n f s = .next (s.setEngine p (past n { s.engine p with
      w0 := (f (s.engine p).w1 (s.engine p).w0).1
      ov := (s.engine p).ov || (f (s.engine p).w1 (s.engine p).w0).2.ov
      uf := (s.engine p).uf || (f (s.engine p).w1 (s.engine p).w0).2.uf
      dz := (s.engine p).dz || (f (s.engine p).w1 (s.engine p).w0).2.dz })) := implied_ready r

/-- An instruction that sets W0 alone. -/
theorem plainOp_ready {f : Word → Word → Word} (r : Ready s p) :
    plainOp p f s = .next (s.setEngine p (past 1 { s.engine p with w0 := f (s.engine p).w1 (s.engine p).w0 })) := by
  rw [plainOp, wordOp_ready r]
  simp only [Bool.or_false]

/-- The word with `n` above its low 20 bits (R65, LDHI). -/
theorem ofNat_highImmediate {w : Word} {n : Nat} :
    BitVec.ofNat 32 (w.toNat % 2 ^ 20 + n * 2 ^ 20) = BitVec.ofNat 12 n ++ w.setWidth 20 := by
  apply BitVec.eq_of_toNat_eq
  rw [BitVec.toNat_append, BitVec.toNat_setWidth, BitVec.toNat_ofNat, BitVec.toNat_ofNat,
    ← Nat.shiftLeft_add_eq_or_of_lt (Nat.mod_lt _ (by decide)), Nat.shiftLeft_eq]
  omega

theorem jumpIf_taken {n : Nat} {c : Bool → Bool} (r : Ready s p) (form : targetOk n = true) (taken : c (s.engine p).a = true) :
    jumpIf p n c s = .next (s.jumpTo p n 3) := by
  rw [jumpIf, scanGuard_ready r form rfl, if_pos taken]

theorem jumpIf_not_taken {n : Nat} {c : Bool → Bool} (r : Ready s p) (form : targetOk n = true)
    (stays : c (s.engine p).a = false) : jumpIf p n c s = .next (s.setEngine p (past 1 (s.engine p))) := by
  rw [jumpIf, scanGuard_ready r form rfl, if_neg (by simp [stays])]
  rfl

/-- A change of the engine and a jump are one write of that engine. -/
theorem State.onEngine_jumpTo {n c : Nat} {f : Engine → Engine} (r : Ready s p) :
    (s.onEngine p f).jumpTo p n c = s.setEngine p { f (s.engine p) with
      pc := n, actCycles := (f (s.engine p)).actCycles + c, cycles := (f (s.engine p)).cycles + c } := by
  unfold State.jumpTo
  rw [State.onEngine, State.engine_onEngine]
  exact State.setEngine_setEngine s p _ _ (rising_of_ready r)

theorem pushBranch_ready {op : BranchOp} (r : Ready s p) (room : (s.engine p).branch.length < 16) :
    pushBranch p op s = .next (s.setEngine p
      (past 1 { s.engine p with branch := ((s.engine p).a, op) :: (s.engine p).branch })) := by
  rw [pushBranch, scanGuard_ready r (by simpa using room) rfl, State.onEngine_advance_ready r]

/-! ## The obligations -/

/-- Settles O1: the eight bit reads are `bitLogic` with eight functions of A and the bit. -/
theorem bitReads : Obligations.BitReads := by
  intro s p x r form within
  have reads (f : Bool → Bool → Bool) := bitLogic_ready (f := f) r form within
  exact ⟨reads fun _ b => b, reads fun _ b => !b, reads fun a b => a && b, reads fun a b => a && !b,
    reads fun a b => a || b, reads fun a b => a || !b, reads fun a b => a != b, reads fun a b => a != !b⟩

/-- Settles O3: all but the three instructions with an immediate are `implied`. -/
theorem accumulatorInstructions : Obligations.AccumulatorInstructions := by
  intro s p r
  have flag (n : Nat) (hn : n < 3) :
      Leaves (.opLdf p ⟨15, n⟩) s p 1 { s.engine p with a := (s.engine p).flag n } := by
    show execLdf p ⟨15, n⟩ s = _
    rw [execLdf, scanGuard_ready r (by simpa [immediateOk] using hn) rfl, State.onEngine_advance_ready r]
  refine ⟨implied_ready r, implied_ready r, implied_ready r, implied_ready r, implied_ready r, implied_ready r,
    ?_, implied_ready r, ?_, fun n hn => ?_, flag 0 (by decide), flag 1 (by decide), flag 2 (by decide), fun n hn => ?_⟩
  · have test : ((s.engine p).w0 != 0) = decide ((s.engine p).w0 ≠ 0) := by rw [bne, Bool.beq_eq_decide_eq, decide_not]
    exact test ▸ implied_ready r
  · exact plainOp_ready (f := fun _ b => (b.setWidth 16).signExtend 32) r
  · show execLdhi p ⟨15, n⟩ s = _
    rw [execLdhi, scanGuard_ready r (by simpa [immediateOk] using hn) rfl, State.onEngine_advance_ready r,
      ofNat_highImmediate]
  · show execClf p ⟨15, n⟩ s = _
    rw [execClf, scanGuard_ready r (by simpa [immediateOk] using hn) rfl, State.onEngine_advance_ready r]
    rfl

/-- Settles O4: pushes, PEEK and POP on the two shapes of the branch stack. -/
theorem branchStack : Obligations.BranchStack := by
  intro s p r
  refine ⟨fun room => ⟨pushBranch_ready r room, pushBranch_ready r room, pushBranch_ready r room, pushBranch_ready r room⟩,
    fun v op rest top => ⟨?_, ?_⟩⟩
  · show execPeek p s = _
    rw [execPeek, scanGuard_ready r (by simp [top]) rfl, State.onEngine_advance_ready r]
    simp [peekEngine, top]
  · show execPop p s = _
    rw [execPop, scanGuard_ready r (by simp [top]) rfl, State.onEngine_advance_ready r]
    simp only [popEngine, top]
    cases op <;> rfl

/-- Settles O8, by whether the transfer is taken. -/
theorem controlTransfer : Obligations.ControlTransfer := by
  intro s p t r form
  refine ⟨jumpIf_taken (c := fun _ => true) r form rfl, ?_, ?_, fun room => ?_, fun taken room => ?_, fun stays => ?_,
    fun back rest top => ?_⟩
  · split
    · rename_i a; exact jumpIf_taken (c := id) r form a
    · rename_i a; exact jumpIf_not_taken (c := id) r form (by simpa using a)
  · split
    · rename_i a; exact jumpIf_not_taken (c := (! ·)) r form (by simpa using a)
    · rename_i a; exact jumpIf_taken (c := (! ·)) r form (by simpa using a)
  · show execCall p t s = _
    rw [execCall, scanGuard_ready r (by simp [form, room]) rfl, State.callTo, State.onEngine_jumpTo r]
  · show execCallc p t s = _
    rw [execCallc, scanGuard_ready r (by simp [form, room]) rfl, if_pos taken, State.callTo, State.onEngine_jumpTo r]
  · show execCallc p t s = _
    rw [execCallc, scanGuard_ready r (by simp [form, stays]) rfl, if_neg (by simp [stays])]
    rfl
  · show execRet p s = _
    rw [execRet, scanGuard_ready r (by simp [top]) rfl, State.onEngine_jumpTo r]
    simp [top]

end Sys2Proof.Machine
end

section
/-! SUPPORT. Loads and stores (R52 to R56, R60, R65, R78): a store that no comparison holds back leaves its bytes in the
overlay of its pair, and an index outside the area leaves a count. -/

namespace Sys2Proof.Machine

open Sys2Proof Sys2Proof.Stated

variable {s : State} {p : Nat} {x : Operand} {area off width v c : Nat} {agree : Bool}

/-! ## Stores -/

theorem area_of_bitWriteOk (form : bitWriteOk x = true) : x.area < 8 := by
  simp [bitWriteOk] at form
  omega

theorem area_of_partWriteOk {n : Nat} (form : partWriteOk n x = true) : 1 ≤ x.area ∧ x.area ≤ 4 := by
  simp [partWriteOk] at form
  omega

/-- What an instruction must answer to store: an engine with the store in its overlay. -/
theorem stores_of_overlay {i : Instr} {a ov : Bool} {e : Engine} (plain : area < 8)
    (runs : exec i s = .next (s.setEngine p e))
    (rest : e = past c { s.engine p with a := a, ov := ov, overlay := e.overlay, signature := e.signature })
    (bytes : e.overlay = overlayPut (s.engine p).overlay (memKey area (s.taskOn p) off) (leBytes width v)) :
    Stores i s p area off width v c a ov := by
  have running : e.running = (s.engine p).running := by rw [rest]; rfl
  exact ⟨e, runs, fun k inside => State.byteAt_store_inside s p area off width v k e running plain inside bytes,
    fun b o data outside => State.byteAt_store_outside s p area off width v b o e running data outside bytes, rest⟩

/-- The same of the engine that a store leaves, with A and OV changed after it. -/
theorem stores_of_stored {i : Instr} {a ov : Bool} (plain : area < 8)
    (runs : exec i s = .next (s.setEngine p
      (past c { (s.engine p).stored (s.taskOn p) area off width v with a := a, ov := ov }))) :
    Stores i s p area off width v c a ov := by
  refine stores_of_overlay plain runs ?_ ?_
  · simp only [Engine.stored, Engine.signed, past]
  · simp only [Engine.stored, past]

/-- A plain store that no comparison holds back, with the step past the instruction. -/
theorem State.store_advanceUnless (r : Ready s p) (plain : area < 8) (issued : s.compared area off = false ∨ agree = true) :
    (s.store p area off width v agree).advanceUnless p c =
      s.setEngine p (past c ((s.engine p).stored (s.taskOn p) area off width v)) := by
  rw [State.store_agreed _ _ _ _ _ _ _ issued,
    State.putStore_advanceUnless _ _ _ _ _ _ _ plain (rising_of_ready r) (stopped_of_ready r)]
  rfl

theorem stores_of_store {i : Instr} (r : Ready s p) (plain : area < 8) (issued : s.compared area off = false ∨ agree = true)
    (runs : exec i s = .next ((s.store p area off width v agree).advanceUnless p c)) :
    Stores i s p area off width v c (s.engine p).a (s.engine p).ov :=
  stores_of_stored plain (by
    rw [runs, State.store_advanceUnless r plain issued]
    simp only [Engine.stored, Engine.signed])

theorem State.advanceUnless_ready (r : Ready s p) : s.advanceUnless p c = s.setEngine p (past c (s.engine p)) := by
  rw [State.advanceUnless, if_neg (by simp [stopped_of_ready r])]
  rfl

theorem bitStore_stores {i : Instr} {stored : Bool → Bool} {w : Bool → Bool} (r : Ready s p) (form : bitWriteOk x = true)
    (within : s.bitIn p x = true) (issued : s.compared x.area (x.addr / 8) = false ∨ agree = true)
    (runs : exec i s = bitStore p x stored w agree s) (stores : stored (s.engine p).a = true) :
    Stores i s p x.area (x.addr / 8) 1 (byteWith s p x.area x.addr (w (s.engine p).a)) (accessCycles 1 x)
      (s.engine p).a (s.engine p).ov :=
  stores_of_store r (area_of_bitWriteOk form) issued (by
    rw [runs, bitStore, scanGuard_ready r form within, if_pos stores]; rfl)

theorem bitStore_leaves {i : Instr} {stored : Bool → Bool} {w : Bool → Bool} (r : Ready s p) (form : bitWriteOk x = true)
    (within : s.bitIn p x = true) (runs : exec i s = bitStore p x stored w agree s) (idle : stored (s.engine p).a = false) :
    Leaves i s p (accessCycles 1 x) (s.engine p) := by
  rw [Leaves, runs, bitStore, scanGuard_ready r form within, if_neg (by simp [idle]), State.advanceUnless_ready r]
  rfl

theorem edgeOp_stores {i : Instr} {f : Bool → Bool → Bool} (r : Ready s p) (form : edgeOk x = true)
    (within : s.bitIn p x = true) (runs : exec i s = edgeOp p x f s) :
    Stores i s p 7 (x.addr / 8) 1 (byteWith s p 7 x.addr (s.engine p).a) 2 (f (s.engine p).a (s.bitAt p x))
      (s.engine p).ov := by
  have edge : x.area = 7 := by
    simp only [edgeOk, Bool.and_eq_true, beq_iff_eq] at form
    exact form.1
  refine stores_of_stored (by decide) ?_
  rw [runs, edgeOp, scanGuard_ready r form within, State.storeBit, State.store_agreed _ _ _ _ _ _ _ (.inr rfl), edge,
    State.putStore_onEngine_advance _ _ _ _ _ _ _ _ (by decide) (rising_of_ready r)]
  simp only [Engine.stored, Engine.signed, Engine.stepped, past, byteWith]

/-- Settles O2: ST, STN, SET, RST and STX end in one store of the byte with the bit changed, EDP and EDN in one that A
follows. -/
theorem bitStores : Obligations.BitStores := by
  refine ⟨fun s p x agree r form within => ⟨fun issued => ⟨?_, ?_, fun on => ⟨?_, ?_⟩⟩, fun off => ⟨?_, ?_⟩,
    fun inside issued => ?_⟩, fun s p x r form within => ⟨?_, ?_⟩⟩
  · exact bitStore_stores (stored := fun _ => true) (w := id) r form within issued rfl rfl
  · exact bitStore_stores (stored := fun _ => true) (w := (! ·)) r form within issued rfl rfl
  · simpa only [on] using bitStore_stores (i := .opSet p x agree) (stored := id) (w := fun _ => true) r form within
      issued rfl on
  · simpa only [on] using bitStore_stores (i := .opRst p x agree) (stored := id) (w := fun _ => false) r form within
      issued rfl on
  · exact bitStore_leaves (stored := id) (w := fun _ => true) r form within rfl off
  · exact bitStore_leaves (stored := id) (w := fun _ => false) r form within rfl off
  · refine stores_of_store r (area_of_bitWriteOk form) issued ?_
    show execStx p x agree s = _
    rw [execStx, scanGuard_ready r form within, State.bitIndex, if_pos inside]
    rfl
  · exact edgeOp_stores (f := fun a b => a && !b) r form within rfl
  · exact edgeOp_stores (f := fun a b => b && !a) r form within rfl

end Sys2Proof.Machine
end

section
/-! SUPPORT. Indexed accesses and word accesses (R53 to R55, R65). -/

namespace Sys2Proof.Machine

open Sys2Proof Sys2Proof.Stated

variable {s : State} {p : Nat} {x : Operand} {area off width v c : Nat} {agree : Bool}

/-! ## Index faults -/

/-- The state after an index fault of a pair's task has been counted (R55). -/
def State.faultCounted (s : State) (p : Nat) : State :=
  s.setTask (s.taskOn p) { s.task (s.taskOn p) with indexFaults := min ((s.task (s.taskOn p)).indexFaults + 1) 0xFFFFFFFF }

theorem State.indexFault_eq : s.indexFault p =
    (s.faultCounted p).setEngine p { s.engine p with tickFaults := (s.engine p).tickFaults + 1 } := rfl

theorem State.indexFault_onEngine_advance {f : Engine → Engine} (r : Ready s p) :
    ((s.indexFault p).onEngine p f).advance p c =
      (s.faultCounted p).setEngine p (past c (f { s.engine p with tickFaults := (s.engine p).tickFaults + 1 })) := by
  have rising : Sparse.rising (s.faultCounted p).engines = true := r.1.engines
  rw [State.indexFault_eq, State.onEngine_advance _ _ _ _ (State.rising_setEngine _ _ _ rising),
    State.engine_setEngine_same, State.setEngine_setEngine _ _ _ _ rising]
  rfl

theorem State.suppressStore_advanceUnless (r : Ready s p) : ∃ g, (s.suppressStore p area off width v).advanceUnless p c =
    (s.faultCounted p).setEngine p
      (past c { s.engine p with tickFaults := (s.engine p).tickFaults + 1, signature := g }) := by
  have runs : ((s.suppressStore p area off width v).engine p).stopped = false := by
    rw [State.suppressStore, State.engine_onEngine, State.indexFault_eq, State.engine_setEngine_same]
    exact stopped_of_ready r
  refine ⟨signStore (s.engine p).signature area off width v, ?_⟩
  rw [State.advanceUnless, if_neg (by simp [runs]), State.suppressStore, State.indexFault_onEngine_advance r, Engine.signed]

theorem State.indexOk_iff {n : Nat} : s.indexOk p area n = true ↔ n % 4 = 0 ∧ n + 4 ≤ s.areaSize p area := by
  simp [State.indexOk]

/-- Settles O5, by whether the effective address lies in the area. -/
theorem indexedAccess : Obligations.IndexedAccess := by
  refine ⟨fun s p x r => ⟨fun form within => ⟨fun inside => ?_, fun beyond => ?_⟩,
      fun form within => ⟨fun aligned inside => ?_, fun faulty => ?_⟩⟩,
    fun s p x agree r => ⟨fun form within beyond => ?_, fun form within faulty => ?_⟩⟩
  · show execLdx p x s = _
    rw [execLdx, scanGuard_ready r form within, State.bitIndex, if_pos inside, State.onEngine_advance_ready r]
    rfl
  · show execLdx p x s = _
    rw [execLdx, scanGuard_ready r form within, State.bitIndex, if_neg (by omega), State.indexFault_onEngine_advance r]
    rfl
  · show execLdwx p x s = _
    rw [execLdwx, scanGuard_ready r form within, if_pos (State.indexOk_iff.mpr ⟨aligned, inside⟩),
      State.onEngine_advance_ready r]
    rfl
  · show execLdwx p x s = _
    rw [execLdwx, scanGuard_ready r form within, if_neg (by rw [State.indexOk_iff]; omega),
      State.indexFault_onEngine_advance r]
    rfl
  · show ∃ g, execStx p x agree s = _
    rw [execStx, scanGuard_ready r form within, State.bitIndex, if_neg (by omega)]
    obtain ⟨g, suppressed⟩ := State.suppressStore_advanceUnless r
    exact ⟨g, congrArg _ suppressed⟩
  · show ∃ g, execStwx p x agree s = _
    rw [execStwx, scanGuard_ready r form within, if_neg (by rw [State.indexOk_iff]; omega)]
    obtain ⟨g, suppressed⟩ := State.suppressStore_advanceUnless r
    exact ⟨g, congrArg _ suppressed⟩

end Sys2Proof.Machine
end

section
/-! SUPPORT. Numbers that a pair reads after its own stores, and the engine that stores leave (R53, R56). -/

namespace Sys2Proof.Machine

open Sys2Proof Sys2Proof.Stated

variable {s t u : State} {p area off width v c : Nat}

/-- `t` is `s` with stores by pair `p` of areas I to E: of its engine only the overlay and the signature move. -/
def OnlyStores (p : Nat) (s t : State) : Prop :=
  ∃ e, t = s.setEngine p e ∧ e = { s.engine p with overlay := e.overlay, signature := e.signature }

theorem OnlyStores.trans (rising : Sparse.rising s.engines = true) (h : OnlyStores p s t) (h' : OnlyStores p t u) :
    OnlyStores p s u := by
  obtain ⟨e, rfl, he⟩ := h
  obtain ⟨f, rfl, hf⟩ := h'
  rw [State.engine_setEngine_same] at hf
  refine ⟨f, State.setEngine_setEngine s p e f rising, ?_⟩
  rw [hf, he]

theorem State.onlyStores_putStore (plain : area < 8) : OnlyStores p s (s.putStore p area off width v) :=
  ⟨_, State.putStore_plain s p area off width v plain, by simp only [Engine.stored, Engine.signed]⟩

theorem OnlyStores.running (h : OnlyStores p s t) : (t.engine p).running = (s.engine p).running := by
  obtain ⟨e, rfl, he⟩ := h
  rw [State.engine_setEngine_same, he]

theorem OnlyStores.taskOn (h : OnlyStores p s t) : t.taskOn p = s.taskOn p := congrArg (·.getD 0) h.running

/-- The engine after stores, a change of it that keeps what they left, and the step past the instruction. -/
theorem OnlyStores.onEngine_advance {f : Engine → Engine} (rising : Sparse.rising s.engines = true) (h : OnlyStores p s t) :
    (t.onEngine p f).advance p c = s.setEngine p (past c (f (t.engine p))) := by
  obtain ⟨e, rfl, -⟩ := h
  rw [State.onEngine_advance _ _ _ _ (State.rising_setEngine s p e rising), State.setEngine_setEngine s p _ _ rising]
  rfl

/-- Bytes of the plain areas depend on the pair's engine only through the overlay. -/
theorem OnlyStores.byteAt {a o : Nat} {e : Engine} (h : OnlyStores p s t) (overlay : e.overlay = (t.engine p).overlay)
    (running : e.running = (s.engine p).running) (plain : a < 8) : (s.setEngine p e).byteAt p a o = t.byteAt p a o := by
  obtain ⟨f, rfl, hf⟩ := h
  rw [State.engine_setEngine_same] at overlay
  rw [State.byteAt_setEngine s p a o e running plain, State.byteAt_setEngine s p a o f (by rw [hf]) plain, overlay]

theorem OnlyStores.natAt {a o n : Nat} {e : Engine} (h : OnlyStores p s t) (overlay : e.overlay = (t.engine p).overlay)
    (running : e.running = (s.engine p).running) (plain : a < 8) : (s.setEngine p e).natAt p a o n = t.natAt p a o n :=
  State.natAt_congr _ _ p a o n fun _ _ => h.byteAt overlay running plain

/-! ## Bytes and numbers after one store -/

theorem State.byteAt_putStore_inside {i : Nat} (plain : area < 8) (inside : i < width) :
    (s.putStore p area off width v).byteAt p area (off + i) = BitVec.ofNat 8 (v / 256 ^ i) := by
  rw [State.putStore_plain s p area off width v plain]
  exact State.byteAt_store_inside s p area off width v i _ rfl plain inside rfl

theorem State.byteAt_putStore_outside {a o : Nat} (data : a < 8) (plain : area < 8)
    (outside : ¬ storeReaches area (s.taskOn p) off width (memKey a (s.taskOn p) o)) :
    (s.putStore p area off width v).byteAt p a o = s.byteAt p a o := by
  rw [State.putStore_plain s p area off width v plain]
  exact State.byteAt_store_outside s p area off width v a o _ rfl data outside rfl

/-- `n` bytes from byte `i` of a store. -/
theorem State.natAt_putStore_inside {o i n : Nat} (plain : area < 8) (start : o = off + i) (inside : i + n ≤ width) :
    (s.putStore p area off width v).natAt p area o n = v / 256 ^ i % 256 ^ n := by
  subst start
  refine State.natAt_of_bytes _ p area _ n _ fun k hk => ?_
  rw [Nat.add_assoc, State.byteAt_putStore_inside plain (by omega), Nat.div_div_eq_div_mul, Nat.pow_add]

/-- The number that a store left. -/
theorem State.natAt_putStore (plain : area < 8) :
    (s.putStore p area off width v).natAt p area off width = v % 256 ^ width := by
  rw [State.natAt_putStore_inside (i := 0) plain (Nat.add_zero off).symm (by omega), Nat.pow_zero, Nat.div_one]

theorem State.natAt_putStore_outside {o n : Nat} (plain : area < 8) (outside : o + n ≤ off ∨ off + width ≤ o) :
    (s.putStore p area off width v).natAt p area o n = s.natAt p area o n := by
  refine State.natAt_congr _ _ p area o n fun k hk => State.byteAt_putStore_outside plain plain ?_
  unfold storeReaches memKey
  omega

end Sys2Proof.Machine
end

section
/-! SUPPORT. Timers and counters (R62, R63, R72 to R75). -/

namespace Sys2Proof.Machine

open Sys2Proof Sys2Proof.Stated

variable {s t : State} {p n : Nat} {x : Operand}

/-! ## Timers -/

theorem Timer.status_fields (t : Timer) : t.status.testBit 0 = t.inp ∧ t.status.testBit 1 = t.q ∧
    t.status.testBit 2 = t.fresh ∧ t.status / 16 % 8 = t.kind % 8 ∧ t.status < 2 ^ 7 := by
  have fields : ∀ (i q f : Bool) (k : Nat), k < 8 →
      let v := (if i then 1 else 0) + (if q then 2 else 0) + (if f then 4 else 0) + k * 16
      v.testBit 0 = i ∧ v.testBit 1 = q ∧ v.testBit 2 = f ∧ v / 16 % 8 = k ∧ v < 2 ^ 7 := by decide
  exact fields t.inp t.q t.fresh (t.kind % 8) (Nat.mod_lt _ (by decide))

/-- A timer that fits its object reads back as it was stored. -/
theorem State.timerAt_putStore {k : Timer} (pt : k.pt = s.natAt p 5 (n * 16) 4) (et : k.et < 2 ^ 32) (lt : k.lt < 2 ^ 48)
    (kind : k.kind < 8) : (s.putStore p 5 (n * 16 + 4) 12 k.tail).timerAt p n = k := by
  obtain ⟨inp, q, fresh, code, status⟩ := k.status_fields
  have etAt : k.tail / 256 ^ 0 % 256 ^ 4 = k.et := by unfold Timer.tail; omega
  have ltAt : k.tail / 256 ^ 4 % 256 ^ 6 = k.lt := by unfold Timer.tail; omega
  have statusAt : k.tail / 256 ^ 10 % 256 ^ 2 = k.status := by unfold Timer.tail; omega
  unfold State.timerAt
  rw [State.natAt_putStore_inside (i := 10) (by decide) rfl (by decide),
    State.natAt_putStore_inside (i := 0) (by decide) rfl (by decide),
    State.natAt_putStore_inside (i := 4) (by decide) rfl (by decide),
    State.natAt_putStore_outside (by decide) (by omega), etAt, ltAt, statusAt, ← pt]
  dsimp only
  rw [inp, q, fresh, code, Nat.mod_eq_of_lt kind]

/-- A timer after stores, a change of the engine that keeps what they left, and the step past the instruction. -/
theorem OnlyStores.timerAt {e : Engine} (h : OnlyStores p s t) (overlay : e.overlay = (t.engine p).overlay)
    (running : e.running = (t.engine p).running) : (s.setEngine p e).timerAt p n = t.timerAt p n := by
  have same (o m : Nat) : (s.setEngine p e).natAt p 5 o m = t.natAt p 5 o m :=
    h.natAt overlay (running.trans h.running) (by decide)
  simp only [State.timerAt, same]

theorem evalTimer_fits {k : TimerKind} {m : Nat} {i : Bool} (pt : t.natAt p 5 (n * 16) 4 < 2 ^ 32) :
    (evalTimer k (t.timerAt p n) m i).et < 2 ^ 32 ∧ (evalTimer k (t.timerAt p n) m i).lt < 2 ^ 48 ∧
    (evalTimer k (t.timerAt p n) m i).kind < 8 := by
  refine ⟨lt_of_le_of_lt (min_le_right _ _) pt, Nat.mod_lt _ (by decide), ?_⟩
  show k.code < 8
  cases k <;> decide

theorem timerOp_ready {k : TimerKind} {i : Instr} (r : Ready s p) (form : timerOk x = true) (within : s.bitIn p x = true)
    (runs : exec i s = timerOp k p x s) :
    let u := evalTimer k (s.timerAt p (x.addr / 4)) s.tickNo (s.engine p).a
    Stores i s p 5 (16 * (x.addr / 4) + 4) 12 u.tail 6 u.q (s.engine p).ov ∧
      ∃ t, exec i s = .next t ∧ t.timerAt p (x.addr / 4) = u := by
  intro u
  have only : OnlyStores p s (s.putStore p 5 (x.addr / 4 * 16 + 4) 12 u.tail) := State.onlyStores_putStore (by decide)
  obtain ⟨e, he⟩ : ∃ e, e = past 6 { (s.putStore p 5 (x.addr / 4 * 16 + 4) 12 u.tail).engine p with a := u.q } := ⟨_, rfl⟩
  have done : exec i s = .next (s.setEngine p e) := by
    rw [runs, timerOp, scanGuard_ready r form within, State.putTimer, State.store_agreed _ _ _ _ _ _ _ (.inr rfl),
      only.onEngine_advance (rising_of_ready r), he]
  obtain ⟨et, lt, kind⟩ := evalTimer_fits (t := s) (p := p) (n := x.addr / 4) (k := k) (m := s.tickNo) (i := (s.engine p).a)
    (State.natAt_lt s p 5 _ 4)
  refine ⟨?_, _, done, (only.timerAt (by rw [he]; rfl) (by rw [he]; rfl)).trans (State.timerAt_putStore rfl et lt kind)⟩
  rw [Nat.mul_comm 16]
  rw [State.putStore_plain _ _ _ _ _ _ (by decide), State.engine_setEngine_same] at he
  refine stores_of_overlay (by decide) done ?_ ?_ <;> simp only [he, Engine.stored, Engine.signed, past]

/-- R74: ET and Q of each kind, ET never past PT. -/
theorem evalKind_limited (t : Timer) (d : Nat) (i : Bool) :
    let run := min (t.et + d) t.pt
    (evalKind .ton t d i).2 = (if !i then false else if !t.inp then decide (t.pt = 0) else decide (t.pt ≤ run)) ∧
    min (evalKind .ton t d i).1 t.pt = (if i && t.inp then run else 0) ∧
    (evalKind .tof t d i).2 = (if i then true else if t.inp then decide (0 < t.pt) else decide (run < t.pt)) ∧
    min (evalKind .tof t d i).1 t.pt = (if i || t.inp then 0 else run) ∧
    (evalKind .tp t d i).2 =
      (if t.q then decide (run < t.pt) else i && !t.inp && decide (t.et = 0) && decide (0 < t.pt)) ∧
    min (evalKind .tp t d i).1 t.pt = (if t.q then run else if !i then 0 else min t.et t.pt) ∧
    min (evalKind .tacc t d i).1 t.pt = (if t.inp && i then run else min t.et t.pt) ∧
    (evalKind .tacc t d i).2 = decide (t.pt ≤ if t.inp && i then run else t.et) := by
  intro run
  have limited : min run t.pt = run := min_eq_left (min_le_right _ _)
  have zero : (t.pt == 0) = decide (t.pt = 0) := Bool.beq_eq_decide_eq ..
  refine ⟨?_, ?_, ?_, ?_, ?_, ?_, ?_, ?_⟩
  · cases i <;> cases h : t.inp <;> simp [evalKind, h, run, zero]
  · cases i <;> cases h : t.inp <;> simp [evalKind, h, run]
  · cases i <;> cases h : t.inp <;> simp [evalKind, h, run]
  · cases i <;> cases h : t.inp <;> simp [evalKind, h, run]
  · cases i <;> cases h : t.inp <;> cases h' : t.q <;> by_cases e : t.et = 0 <;> simp [evalKind, h, h', e, run]
  · cases i <;> cases h : t.inp <;> cases h' : t.q <;> by_cases e : t.et = 0 <;> simp [evalKind, h, h', e, run]
  · cases i <;> cases h : t.inp <;> simp [evalKind, h, run]
  · cases i <;> cases h : t.inp <;> simp [evalKind, h, run]

/-- Settles O6. -/
theorem timers : Obligations.Timers := by
  refine ⟨fun s p x r form within => ⟨timerOp_ready (i := .opTon p x) (k := .ton) r form within rfl,
    ?_, ?_, ?_, fun on => ?_, fun off => ?_⟩, fun t n i => ?_⟩
  · exact timerOp_ready (k := .tof) r form within rfl
  · exact timerOp_ready (k := .tp) r form within rfl
  · exact timerOp_ready (k := .tacc) r form within rfl
  · rw [Nat.mul_comm 16]
    refine stores_of_stored (by decide) ?_
    show execTrs p x s = _
    rw [execTrs, scanGuard_ready r form within, if_pos on, State.putTimer, State.store_agreed _ _ _ _ _ _ _ (.inr rfl),
      State.putStore_plain _ _ _ _ _ _ (by decide), State.advance, State.engine_setEngine_same,
      State.setEngine_setEngine _ _ _ _ (rising_of_ready r), ← on]
    simp only [Engine.stored, Engine.signed, Engine.stepped, past]
  · show execTrs p x s = _
    rw [execTrs, scanGuard_ready r form within, if_neg (by simp [off])]
    rfl
  · obtain ⟨tonQ, tonEt, tofQ, tofEt, tpQ, tpEt, taccEt, taccQ⟩ := evalKind_limited t (elapsed t n) i
    exact ⟨fun k => ⟨min_le_right _ _, rfl, rfl, rfl, rfl, rfl⟩, tonQ, tonEt, tofQ, tofEt, tpQ, tpEt, taccEt, taccQ, rfl⟩

end Sys2Proof.Machine
end

section
/-! SUPPORT. Counters (R63, R75). -/

namespace Sys2Proof.Machine

open Sys2Proof Sys2Proof.Stated

variable {s t : State} {p n : Nat} {x : Operand}

theorem signed_mod_word (v : Nat) : signed 32 (v % 256 ^ 4) = signed 32 v := by
  simp only [signed, show (256 : Nat) ^ 4 = 2 ^ 32 from rfl, Nat.mod_mod]

theorem signed_range (v : Nat) : -0x80000000 ≤ signed 32 v ∧ signed 32 v ≤ 0x7FFFFFFF := by
  unfold signed
  split <;> omega

theorem signed_unsigned {v : Int} (low : -0x80000000 ≤ v) (high : v ≤ 0x7FFFFFFF) : signed 32 (unsigned 32 v) = v := by
  unfold signed unsigned
  split <;> omega

theorem signed_eq_toInt {bits : Nat} (v : Nat) (wide : 0 < bits) : signed bits v = (BitVec.ofNat bits v).toInt := by
  obtain ⟨n, rfl⟩ := Nat.exists_eq_add_of_lt wide
  rw [signed, BitVec.toInt_eq_toNat_cond, BitVec.toNat_ofNat]
  have double : 2 ^ (0 + n + 1) = 2 * 2 ^ (0 + n + 1 - 1) := by rw [Nat.add_sub_cancel, Nat.pow_succ, Nat.mul_comm]
  split <;> split <;> omega

theorem signed_toNat (w : Word) : signed 32 w.toNat = w.toInt := by
  rw [signed_eq_toInt _ (by decide), BitVec.ofNat_toNat, BitVec.setWidth_eq]

theorem counterStatus_fields (cu cd : Bool) (cv pv : Int) : (counterStatus cu cd cv pv).testBit 0 = cu ∧
    (counterStatus cu cd cv pv).testBit 1 = cd ∧ counterStatus cu cd cv pv < 16 := by
  unfold counterStatus
  by_cases above : pv ≤ cv <;> by_cases low : cv ≤ 0 <;> simp only [above, low, if_true, if_false]
  all_goals revert cu cd; decide

/-! ## A counter after one store -/

theorem State.counterAt_putCv {v : Nat} :
    (s.putStore p 6 (n * 16) 4 v).counterAt p n = { s.counterAt p n with cv := signed 32 v } := by
  unfold State.counterAt
  rw [State.natAt_putStore (by decide), State.natAt_putStore_outside (by decide) (by omega),
    State.natAt_putStore_outside (by decide) (by omega), signed_mod_word]

theorem State.counterAt_putPv {v : Nat} :
    (s.putStore p 6 (n * 16 + 4) 4 v).counterAt p n = { s.counterAt p n with pv := signed 32 v } := by
  unfold State.counterAt
  rw [State.natAt_putStore (by decide), State.natAt_putStore_outside (by decide) (by omega),
    State.natAt_putStore_outside (by decide) (by omega), signed_mod_word]

theorem State.status_putStatus {cu cd : Bool} {cv pv : Int} :
    (s.putStore p 6 (n * 16 + 12) 4 (counterStatus cu cd cv pv)).natAt p 6 (n * 16 + 12) 4 = counterStatus cu cd cv pv := by
  rw [State.natAt_putStore (by decide)]
  exact Nat.mod_eq_of_lt (Nat.lt_trans (counterStatus_fields cu cd cv pv).2.2 (by decide))

theorem State.counterAt_putStatus {cu cd : Bool} {cv pv : Int} :
    (s.putStore p 6 (n * 16 + 12) 4 (counterStatus cu cd cv pv)).counterAt p n =
      { s.counterAt p n with cu := cu, cd := cd } := by
  obtain ⟨up, down, -⟩ := counterStatus_fields cu cd cv pv
  unfold State.counterAt
  rw [State.status_putStatus, State.natAt_putStore_outside (by decide) (by omega),
    State.natAt_putStore_outside (by decide) (by omega)]
  dsimp only
  rw [up, down]

theorem OnlyStores.counterAt {e : Engine} (h : OnlyStores p s t) (overlay : e.overlay = (t.engine p).overlay)
    (running : e.running = (t.engine p).running) : (s.setEngine p e).counterAt p n = t.counterAt p n := by
  have same (o m : Nat) : (s.setEngine p e).natAt p 6 o m = t.natAt p 6 o m :=
    h.natAt overlay (running.trans h.running) (by decide)
  simp only [State.counterAt, same]

/-! ## The counter instructions -/

theorem State.onlyStores_putCounter {wr : Bool} {c : Counter} (rising : Sparse.rising s.engines = true) :
    OnlyStores p s (s.putCounter p n wr c) := by
  unfold State.putCounter
  rw [State.store_agreed _ _ _ _ _ _ _ (.inr rfl), State.store_agreed _ _ _ _ _ _ _ (.inr rfl)]
  cases wr with
  | false => exact State.onlyStores_putStore (by decide)
  | true => 
    exact .trans rising (State.onlyStores_putStore (area := 6) (by decide)) (State.onlyStores_putStore (by decide))

/-- `putCounter` leaves the counter it was given, of which it stores CV only where told to. -/
theorem State.counterAt_putCounter {wr : Bool} {c : Counter} (low : -0x80000000 ≤ c.cv) (high : c.cv ≤ 0x7FFFFFFF)
    (pv : c.pv = (s.counterAt p n).pv) (kept : wr = false → c.cv = (s.counterAt p n).cv) :
    (s.putCounter p n wr c).counterAt p n = c := by
  unfold State.putCounter
  rw [State.store_agreed _ _ _ _ _ _ _ (.inr rfl), State.store_agreed _ _ _ _ _ _ _ (.inr rfl), State.counterAt_putStatus]
  cases wr with
  | false => simp only [Bool.false_eq_true, if_false, ← pv, ← kept]
  | true => simp only [if_true, State.counterAt_putCv, signed_unsigned low high, ← pv]

/-- The counter object's bytes are the only ones that `putCounter` moves. -/
theorem State.byteAt_putCounter {wr : Bool} {c : Counter} {b o : Nat} (data : b < 8)
    (outside : ¬ storeReaches 6 (s.taskOn p) (n * 16) 16 (memKey b (s.taskOn p) o)) :
    (s.putCounter p n wr c).byteAt p b o = s.byteAt p b o := by
  have apart (t : State) (same : t.taskOn p = s.taskOn p) (k : Nat) (within : k ≤ 12) :
      ¬ storeReaches 6 (t.taskOn p) (n * 16 + k) 4 (memKey b (t.taskOn p) o) := by
    rw [same]
    unfold storeReaches at *
    rw [memKey] at *
    omega
  unfold State.putCounter
  rw [State.store_agreed _ _ _ _ _ _ _ (.inr rfl), State.store_agreed _ _ _ _ _ _ _ (.inr rfl)]
  cases wr with
  | false => exact State.byteAt_putStore_outside data (by decide) (apart s rfl 12 (by decide))
  | true =>
    have only : OnlyStores p s (s.putStore p 6 (n * 16) 4 (unsigned 32 c.cv)) := State.onlyStores_putStore (by decide)
    exact (State.byteAt_putStore_outside data (by decide) (apart _ only.taskOn 12 (by decide))).trans
      (State.byteAt_putStore_outside data (by decide) (apart s rfl 0 (by decide)))

theorem State.status_putCounter {wr : Bool} {c : Counter} :
    (s.putCounter p n wr c).natAt p 6 (n * 16 + 12) 4 = counterStatus c.cu c.cd c.cv c.pv := by
  unfold State.putCounter
  rw [State.store_agreed _ _ _ _ _ _ _ (.inr rfl), State.status_putStatus]

/-- A command on pair `p` completes, leaves counter `n` as `c` with its status recomputed, and no other byte of the data
areas moved; A and OV are set. -/
def Recounts (o : Result) (s : State) (p n cycles : Nat) (c : Counter) (a ov : Bool) : Prop :=
  ∃ g : Engine, o = .next (s.setEngine p g) ∧ (s.setEngine p g).counterAt p n = c ∧
    (s.setEngine p g).natAt p 6 (16 * n + 12) 4 = counterStatus c.cu c.cd c.cv c.pv ∧
    (∀ b k, b < 8 → ¬ storeReaches 6 (s.taskOn p) (16 * n) 16 (memKey b (s.taskOn p) k) →
      (s.setEngine p g).byteAt p b k = s.byteAt p b k) ∧
    g = past cycles { s.engine p with a := a, ov := ov, overlay := g.overlay, signature := g.signature }

theorem counterOp_recounts {cycles : Nat} {wr : Counter → Bool → Bool} {f : Counter → Bool → Counter}
    {q o : Counter → Bool → Bool} {c : Counter} {a ov : Bool} (r : Ready s p) (form : counterOk x = true)
    (within : s.bitIn p x = true) (makes : f (s.counterAt p (x.addr / 4)) (s.engine p).a = c) (aIs : q c (s.engine p).a = a)
    (ovIs : ((s.engine p).ov || o (s.counterAt p (x.addr / 4)) (s.engine p).a) = ov)
    (low : -0x80000000 ≤ c.cv) (high : c.cv ≤ 0x7FFFFFFF) (pv : c.pv = (s.counterAt p (x.addr / 4)).pv)
    (kept : wr (s.counterAt p (x.addr / 4)) (s.engine p).a = false → c.cv = (s.counterAt p (x.addr / 4)).cv) :
    Recounts (counterOp p cycles x wr f q o s) s p (x.addr / 4) cycles c a ov := by
  obtain ⟨t, ht⟩ : ∃ t, t = s.putCounter p (x.addr / 4) (wr (s.counterAt p (x.addr / 4)) (s.engine p).a) c := ⟨_, rfl⟩
  have only : OnlyStores p s t := ht ▸ State.onlyStores_putCounter (rising_of_ready r)
  obtain ⟨g, hg⟩ : ∃ g, g = past cycles { (t.engine p).raise { ov := o (s.counterAt p (x.addr / 4)) (s.engine p).a } with
      a := a } := ⟨_, rfl⟩
  have overlay : g.overlay = (t.engine p).overlay := by rw [hg]; rfl
  have running : g.running = (t.engine p).running := by rw [hg]; rfl
  refine ⟨g, ?_, ?_, ?_, fun b k data outside => ?_, ?_⟩
  · rw [counterOp, scanGuard_ready r form within, makes, ← ht, only.onEngine_advance (rising_of_ready r), aIs, hg]
  · rw [only.counterAt overlay running, ht, State.counterAt_putCounter low high pv kept]
  · rw [Nat.mul_comm 16, only.natAt overlay (running.trans only.running) (by decide), ht, State.status_putCounter]
  · rw [only.byteAt overlay (running.trans only.running) data, ht]
    exact State.byteAt_putCounter data (Nat.mul_comm 16 _ ▸ outside)
  · obtain ⟨e, rfl, he⟩ := only
    rw [State.engine_setEngine_same] at hg
    rw [hg, he]
    simp only [past, Engine.raise, Bool.or_false, ovIs]

theorem State.counterAt_range : (-0x80000000 ≤ (s.counterAt p n).cv ∧ (s.counterAt p n).cv ≤ 0x7FFFFFFF) ∧
    -0x80000000 ≤ (s.counterAt p n).pv ∧ (s.counterAt p n).pv ≤ 0x7FFFFFFF := by
  simp only [State.counterAt]
  exact ⟨signed_range _, signed_range _⟩

/-! Each instruction with the counter `c` that it meets, on an engine `e`. -/

section

variable {e : Engine} {c : Counter} (r : Ready s p) (form : counterOk x = true) (within : s.bitIn p x = true)
  (he : s.engine p = e) (hc : s.counterAt p (x.addr / 4) = c)

include r form within he hc

theorem execCtu_recounts {v : Int} (hv : v = if e.a && !c.cu then min (c.cv + 1) 0x7FFFFFFF else c.cv) :
    Recounts (execCtu p x s) s p (x.addr / 4) 5 { c with cv := v, cu := e.a } (decide (c.pv ≤ v))
      (e.ov || (e.a && !c.cu && decide (c.cv = 0x7FFFFFFF))) := by
  obtain ⟨⟨low, high⟩, -, -⟩ := s.counterAt_range (p := p) (n := x.addr / 4)
  unfold execCtu
  refine counterOp_recounts r form within ?_ rfl ?_ ?_ ?_ ?_ fun still => ?_
  · simp only [he, hc, hv]
  · simp only [he, hc, Bool.beq_eq_decide_eq]
  · simp only [hv, ← hc]; split <;> omega
  · simp only [hv, ← hc]; split <;> omega
  · simp only [hc]
  · simp only [he, hc] at still
    simp only [hc, hv, still, Bool.false_eq_true, if_false]

theorem execCtd_recounts {v : Int} (hv : v = if e.a && !c.cd then max (c.cv - 1) (-0x80000000) else c.cv) :
    Recounts (execCtd p x s) s p (x.addr / 4) 5 { c with cv := v, cd := e.a } (decide (v ≤ 0))
      (e.ov || (e.a && !c.cd && decide (c.cv = -0x80000000))) := by
  obtain ⟨⟨low, high⟩, -, -⟩ := s.counterAt_range (p := p) (n := x.addr / 4)
  unfold execCtd
  refine counterOp_recounts r form within ?_ rfl ?_ ?_ ?_ ?_ fun still => ?_
  · simp only [he, hc, hv]
  · simp only [he, hc, Bool.beq_eq_decide_eq]
  · simp only [hv, ← hc]; split <;> omega
  · simp only [hv, ← hc]; split <;> omega
  · simp only [hc]
  · simp only [he, hc] at still
    simp only [hc, hv, still, Bool.false_eq_true, if_false]

theorem execCrs_recounts :
    Recounts (execCrs p x s) s p (x.addr / 4) 3 { c with cv := if e.a then 0 else c.cv } e.a e.ov := by
  obtain ⟨⟨low, high⟩, -, -⟩ := s.counterAt_range (p := p) (n := x.addr / 4)
  unfold execCrs
  refine counterOp_recounts r form within ?_ ?_ ?_ ?_ ?_ ?_ fun still => ?_
  · simp only [he, hc]; split <;> rfl
  · simp only [he]
  · simp only [he, Bool.or_false]
  · simp only [← hc]; split <;> omega
  · simp only [← hc]; split <;> omega
  · simp only [hc]
  · simp only [he] at still
    simp only [hc, still, Bool.false_eq_true, if_false]

theorem execCld_recounts :
    Recounts (execCld p x s) s p (x.addr / 4) 3 { c with cv := if e.a then c.pv else c.cv } e.a e.ov := by
  obtain ⟨⟨low, high⟩, pvLow, pvHigh⟩ := s.counterAt_range (p := p) (n := x.addr / 4)
  unfold execCld
  refine counterOp_recounts r form within ?_ ?_ ?_ ?_ ?_ ?_ fun still => ?_
  · simp only [he, hc]; split <;> rfl
  · simp only [he]
  · simp only [he, Bool.or_false]
  · simp only [← hc]; split <;> omega
  · simp only [← hc]; split <;> omega
  · simp only [hc]
  · simp only [he] at still
    simp only [hc, still, Bool.false_eq_true, if_false]

end

/-- Settles O7, by what each of the four instructions makes of the counter. -/
theorem counters : Obligations.Counters := by
  intro s p x r form within
  refine ⟨?_, ?_, ?_, ?_⟩
  · exact execCtu_recounts (c := s.counterAt p (x.addr / 4)) r form within rfl rfl rfl
  · exact execCtd_recounts (c := s.counterAt p (x.addr / 4)) r form within rfl rfl rfl
  · exact execCrs_recounts (c := s.counterAt p (x.addr / 4)) r form within rfl rfl
  · exact execCld_recounts (c := s.counterAt p (x.addr / 4)) r form within rfl rfl

end Sys2Proof.Machine
end

section
/-! SUPPORT. Word loads and word stores (R54, R65, R76, R78). -/

namespace Sys2Proof.Machine

open Sys2Proof Sys2Proof.Stated

variable {s : State} {p n v c : Nat} {x : Operand} {agree : Bool} {w : Word}

/-! ## Loads -/

theorem ofInt_signed {bits : Nat} (v : Nat) (wide : 0 < bits) :
    BitVec.ofInt 32 (signed bits v) = (BitVec.ofNat bits v).signExtend 32 := by
  rw [signed_eq_toInt v wide, BitVec.signExtend]

theorem State.natAt_one {area off : Nat} : s.natAt p area off 1 = (s.byteAt p area off).toNat := rfl

theorem execLdw_ready (r : Ready s p) (form : wordReadOk x = true) (within : s.bytesIn p 4 x = true)
    (word : s.wordAt p x = w) :
    execLdw p x s = .next ((s.afterRead x).setEngine p
      (past (accessCycles 1 x) { s.engine p with w1 := (s.engine p).w0, w0 := w })) := by
  rw [execLdw, scanGuard_ready r form within, State.onEngine_afterRead_advance _ _ _ _ _ (rising_of_ready r), word]
  rfl

theorem loadPart_ready {sign : Bool} (r : Ready s p) (form : partReadOk n x = true) (within : s.bytesIn p n x = true)
    (word : (if sign then BitVec.ofInt 32 (signed (8 * n) (s.natAt p x.area x.addr n))
      else BitVec.ofNat 32 (s.natAt p x.area x.addr n)) = w) :
    loadPart n sign p x s = .next ((s.afterRead x).setEngine p
      (past (accessCycles 1 x) { s.engine p with w1 := (s.engine p).w0, w0 := w })) := by
  rw [loadPart, scanGuard_ready r form within, State.onEngine_afterRead_advance _ _ _ _ _ (rising_of_ready r), word]
  rfl

/-- Settles O9, load by load: each pushes, and the words differ. -/
theorem wordLoads : Obligations.WordLoads := by
  intro s p x r
  refine ⟨fun form within memory => ?_, fun immediate small => ?_, fun form within => ⟨?_, ?_⟩,
    fun form within => ⟨?_, ?_⟩⟩
  · exact execLdw_ready r form within (if_neg memory)
  · obtain ⟨area, addr⟩ := x
    obtain rfl : area = 15 := immediate
    exact execLdw_ready r (decide_eq_true small) rfl (if_pos rfl)
  · exact loadPart_ready r form within (ofInt_signed _ (by decide))
  · exact loadPart_ready r form within rfl
  · refine loadPart_ready r form within ((ofInt_signed _ (by decide)).trans ?_)
    rw [State.natAt_one, Nat.mul_one, BitVec.ofNat_toNat, BitVec.setWidth_eq]
  · refine loadPart_ready r form within ?_
    rw [State.natAt_one, BitVec.ofNat_toNat]
    rfl

/-! ## Stores -/

theorem State.setEngine_advanceUnless {e : Engine} (r : Ready s p) (runs : e.stopped = false) :
    (s.setEngine p e).advanceUnless p c = s.setEngine p (past c e) := by
  rw [State.advanceUnless, State.engine_setEngine_same, if_neg (by simp [runs]), State.advance, State.engine_setEngine_same,
    State.setEngine_setEngine _ _ _ _ (rising_of_ready r)]
  rfl

/-- A store to the parameter window waits for the closing point (R147). -/
theorem State.storeParameter_advanceUnless {off : Nat} (r : Ready s p) (issued : s.compared 8 off = false ∨ agree = true) :
    ∃ g, (s.store p 8 off 4 w.toNat agree).advanceUnless p c = s.setEngine p
      (past c { s.engine p with signature := g, pStores := (s.engine p).pStores ++ [(off, w)] }) := by
  refine ⟨signStore (s.engine p).signature 8 off 4 w.toNat, ?_⟩
  rw [State.store_agreed _ _ _ _ _ _ _ issued, State.putStore, if_pos rfl, BitVec.ofNat_toNat, BitVec.setWidth_eq,
    State.setEngine_advanceUnless r]
  · simp only [Engine.signed]
  · exact stopped_of_ready r

/-- A store to the request word raises the request (R76). -/
theorem State.storeRequest_advanceUnless {off : Nat} (r : Ready s p) :
    ∃ g, (s.store p 9 off 4 w.toNat agree).advanceUnless p c = s.setEngine p
      (past c { s.engine p with signature := g, request := (s.engine p).request || w.toNat.testBit 0 }) := by
  refine ⟨signStore (s.engine p).signature 9 off 4 w.toNat, ?_⟩
  rw [State.store_agreed _ _ _ _ _ _ _ (.inl rfl), State.putStore, if_neg (by decide), if_pos rfl,
    State.setEngine_advanceUnless r]
  · simp only [Engine.signed]
  · exact stopped_of_ready r

theorem State.storeWord_of_other (other : x.area ≠ 6) :
    s.storeWord p x w agree = s.store p x.area (wordOffset x) 4 w.toNat agree := if_neg other

theorem wordOffset_of_partWriteOk (form : partWriteOk n x = true) : wordOffset x = x.addr := by
  obtain ⟨low, high⟩ := area_of_partWriteOk form
  unfold wordOffset
  split <;> omega

theorem wordOffset_of_parameter (parameter : x.area = 8) : wordOffset x = x.addr := by simp only [wordOffset, parameter]

theorem condWriteOk_of_partWriteOk (form : partWriteOk 4 x = true) : condWriteOk x = true := by
  rw [condWriteOk, form, Bool.true_or]

/-- The counter that a store to CV or PV leaves, its status recomputed (R54). -/
theorem State.recount_counterAt {c : Counter} (cell : s.counterAt p n = c) :
    (s.recount p n).counterAt p n = c ∧
      (s.recount p n).natAt p 6 (n * 16 + 12) 4 = counterStatus c.cu c.cd c.cv c.pv := by
  subst cell
  have stored : s.recount p n = s.putStore p 6 (n * 16 + 12) 4 (counterStatus (s.counterAt p n).cu (s.counterAt p n).cd
      (s.counterAt p n).cv (s.counterAt p n).pv) := State.store_agreed _ _ _ _ _ _ _ (.inr rfl)
  rw [stored]
  exact ⟨State.counterAt_putStatus, State.status_putStatus⟩

theorem State.onlyStores_recount : OnlyStores p s (s.recount p n) := by
  rw [State.recount, State.store_agreed _ _ _ _ _ _ _ (.inr rfl)]
  exact State.onlyStores_putStore (by decide)

theorem execStw_counter (r : Ready s p) (form : wordWriteOk x = true) (within : s.bytesIn p 4 x = true)
    (counter : x.area = 6) {k : Counter} (old : s.counterAt p (x.addr / 4) = k) :
    let u : Counter := { k with
      cv := if x.addr % 4 = 0 then (s.engine p).w0.toInt else k.cv
      pv := if x.addr % 4 = 0 then k.pv else (s.engine p).w0.toInt }
    ∃ f, execStw p x agree s = .next (s.setEngine p f) ∧ (s.setEngine p f).counterAt p (x.addr / 4) = u ∧
      (s.setEngine p f).natAt p 6 (16 * (x.addr / 4) + 12) 4 = counterStatus u.cu u.cd u.cv u.pv ∧
      f = past 1 { s.engine p with overlay := f.overlay, signature := f.signature } := by
  intro u
  obtain ⟨t, ht⟩ : ∃ t, t = s.putStore p 6 (wordOffset x) 4 (s.engine p).w0.toNat := ⟨_, rfl⟩
  have only : OnlyStores p s (t.recount p (x.addr / 4)) :=
    .trans (rising_of_ready r) (ht ▸ State.onlyStores_putStore (by decide)) State.onlyStores_recount
  have cell : t.counterAt p (x.addr / 4) = u := by
    simp only [ht, wordOffset, counter, u]
    split
    · rw [Nat.add_zero, State.counterAt_putCv, signed_toNat, old]
    · rw [State.counterAt_putPv, signed_toNat, old]
  obtain ⟨f, hf⟩ : ∃ f, f = past 1 ((t.recount p (x.addr / 4)).engine p) := ⟨_, rfl⟩
  obtain ⟨after, status⟩ := State.recount_counterAt cell
  have overlay : f.overlay = ((t.recount p (x.addr / 4)).engine p).overlay := by rw [hf]; rfl
  have running : f.running = ((t.recount p (x.addr / 4)).engine p).running := by rw [hf]; rfl
  refine ⟨f, ?_, ?_, ?_, ?_⟩
  · rw [execStw, scanGuard_ready r form within, State.storeWord, if_pos counter, counter,
      State.store_agreed _ _ _ _ _ _ _ (.inl rfl), ← ht, hf]
    obtain ⟨e, he, same⟩ := only
    rw [he, State.engine_setEngine_same, cyclesOf, if_neg (by decide), State.setEngine_advanceUnless r]
    rw [same]
    exact stopped_of_ready r
  · rw [only.counterAt overlay running, after]
  · rw [Nat.mul_comm 16, only.natAt overlay (running.trans only.running) (by decide), status]
  · obtain ⟨e, he, same⟩ := only
    rw [he, State.engine_setEngine_same] at hf
    rw [hf, same]
    simp only [past]

/-- Settles O10, by the area that the store addresses. -/
theorem wordStores : Obligations.WordStores := by
  intro s p x agree r
  refine ⟨fun form within => ⟨fun memory issued => ?_, fun parameter issued => ?_, fun status => ?_, fun counter => ?_⟩,
    fun form within parameter issued => ⟨fun on => ?_, fun off => ?_⟩, fun form within issued => ?_,
    fun form within issued => ?_, fun form within => ⟨fun on issued => ?_, fun off => ?_, fun aligned inside issued => ?_⟩⟩
  · refine stores_of_store r (by omega) issued ?_
    show execStw p x agree s = _
    rw [execStw, scanGuard_ready r form within, State.storeWord_of_other (by omega)]
    rfl
  · show ∃ g, execStw p x agree s = _
    rw [execStw, scanGuard_ready r form within, State.storeWord_of_other (by omega), parameter,
      wordOffset_of_parameter parameter]
    exact (State.storeParameter_advanceUnless r issued).imp fun _ => congrArg _
  · show ∃ g, execStw p x agree s = _
    rw [execStw, scanGuard_ready r form within, State.storeWord_of_other (by omega), status]
    exact (State.storeRequest_advanceUnless r).imp fun _ => congrArg _
  · exact execStw_counter r form within counter rfl
  · show ∃ g, execStwc p x agree s = _
    rw [execStwc, scanGuard_ready r form within, if_pos on, State.storeWord_of_other (by omega), parameter,
      wordOffset_of_parameter parameter]
    exact (State.storeParameter_advanceUnless r issued).imp fun _ => congrArg _
  · show execStwc p x agree s = _
    rw [execStwc, scanGuard_ready r form within, if_neg (by simp [off]), State.advanceUnless_ready r, parameter]
    rfl
  · refine stores_of_store r (by have := area_of_partWriteOk form; omega) issued ?_
    show execSth p x agree s = _
    rw [execSth, storePart, scanGuard_ready r form within]
    rfl
  · refine stores_of_store r (by have := area_of_partWriteOk form; omega) issued ?_
    show execStb p x agree s = _
    rw [execStb, storePart, scanGuard_ready r form within]
    rfl
  · have area := area_of_partWriteOk form
    refine stores_of_store r (by omega) issued ?_
    show execStwc p x agree s = _
    rw [execStwc, scanGuard_ready r (condWriteOk_of_partWriteOk form) within, if_pos on, State.storeWord_of_other (by omega),
      wordOffset_of_partWriteOk form]
    rfl
  · show execStwc p x agree s = _
    rw [execStwc, scanGuard_ready r (condWriteOk_of_partWriteOk form) within, if_neg (by simp [off]),
      State.advanceUnless_ready r]
    rfl
  · refine stores_of_store r (by have := area_of_partWriteOk form; omega) issued ?_
    show execStwx p x agree s = _
    rw [execStwx, scanGuard_ready r form within, if_pos (State.indexOk_iff.mpr ⟨aligned, inside⟩)]
    rfl

end Sys2Proof.Machine
end

section
/-! SUPPORT. The end of an activation and the start of the next (R49, R64, R76, R79, R80, R87). -/

namespace Sys2Proof.Machine

open Sys2Proof Sys2Proof.Stated

variable {s : State} {p k j : Nat}

theorem State.task_setTask_other {t : TaskRt} (h : j ≠ k) : (s.setTask k t).task j = s.task j :=
  Sparse.get_set_other _ _ s.tasks k j t h

/-- The counters of an ending activation are registers. -/
theorem State.countEnd_parts (cycles : Nat) : (s.countEnd k cycles).engines = s.engines ∧
    (s.countEnd k cycles).tasks = s.tasks ∧ (s.countEnd k cycles).mem = s.mem := by
  unfold State.countEnd State.maxReg
  dsimp only
  split_ifs <;> exact ⟨rfl, rfl, rfl⟩

/-- The engine as an activation of task `k`, whose kept flags are those of `t`, finds it (R49, R87). -/
def Engine.begun (e : Engine) (t : TaskRt) (k entry : Nat) : Engine :=
  { e with
    a := false, w0 := 0, w1 := 0, branch := [], calls := [], ov := t.ov, uf := t.uf, dz := t.dz, pc := entry
    running := some k, actCycles := 12, cycles := e.cycles + 12, signature := 0xFFFFFFFF, tickFaults := 0 }

theorem State.beginTask_parts :
    (s.beginTask p k).engine p = (s.engine p).begun (s.task k) k ((s.image.taskOf k).getD {}).entry ∧
    (∀ q, q ≠ p → (s.beginTask p k).engine q = s.engine q) ∧
    (s.beginTask p k).task k = { s.task k with activations := min ((s.task k).activations + 1) 0xFFFFFFFF } ∧
    (∀ j, j ≠ k → (s.beginTask p k).task j = s.task j) ∧ (s.beginTask p k).mem = s.mem := by
  obtain ⟨b, hb⟩ : ∃ b, b = (s.setTask k { s.task k with
      activations := min ((s.task k).activations + 1) 0xFFFFFFFF }).onEngine p
        (·.begun (s.task k) k ((s.image.taskOf k).getD {}).entry) := ⟨_, rfl⟩
  have counted : s.beginTask p k = if k < 16 then b.count (keyOf (0x2110 + k) 7) else b := hb ▸ rfl
  have parts : (s.beginTask p k).engines = b.engines ∧ (s.beginTask p k).tasks = b.tasks ∧ (s.beginTask p k).mem = b.mem := by
    rw [counted]
    split_ifs <;> exact ⟨rfl, rfl, rfl⟩
  obtain ⟨engines, tasks, mem⟩ := parts
  simp only [State.engine, State.task, engines, tasks, mem, hb]
  exact ⟨State.engine_onEngine _ p _, fun q other => State.engine_setEngine_other _ p q _ other,
    State.task_setTask_same s k _, fun j other => State.task_setTask_other (s := s) other, rfl⟩

/-- A task as it stands after its activation (R49, R76). -/
def TaskRt.ended (t : TaskRt) (e : Engine) : TaskRt :=
  { t with ov := e.ov, uf := e.uf, dz := e.dz, firstRun := false, firstExch := false, firstActive := false }

/-- An activation without index faults ends in its task, the counters, and the next activation. -/
theorem State.endTask_parts (clean : (s.engine p).tickFaults = 0) : ∃ u : State, s.endTask p k = u.beginNext p ∧
    u.engines = s.engines ∧ u.tasks = (s.setTask k ((s.task k).ended (s.engine p))).tasks ∧ u.mem = s.mem := by
  rw [State.endTask, State.reportFaults, if_pos (show ((s.setTask k _).engine p).tickFaults = 0 from clean)]
  exact ⟨_, rfl, State.countEnd_parts _⟩

theorem State.beginNext_idle (idle : (s.engine p).waiting = []) :
    s.beginNext p = s.setEngine p { s.engine p with running := none } := by
  simp only [State.beginNext, idle]

theorem State.beginNext_waiting {rest : List Nat} (next : (s.engine p).waiting = j :: rest) :
    s.beginNext p = (s.setEngine p { s.engine p with waiting := rest }).beginTask p j := by
  simp only [State.beginNext, next]

theorem entryBits_mismatches (h : p ≤ 14) : entryBits (keyOf 0x2101 (p + 1)) = 32 := by
  have all : ∀ n < 15, entryBits (keyOf 0x2101 (n + 1)) = 32 := by decide +kernel
  exact all p (by omega)

/-- The engine at END: its cycles and the final bytes of its signature (R59, R79). -/
def Engine.atEnd (e : Engine) : Engine :=
  { e with actCycles := e.actCycles + 6, cycles := e.cycles + 6, signature := crcRun 0x82F63B78 e.signature e.finalBytes }

/-- END with agreeing signatures saves the task; what is left is the next activation. -/
theorem execEnd_agreed (r : Ready s p) (running : (s.engine p).running = some k) (clean : (s.engine p).tickFaults = 0) :
    ∃ u : State, execEnd p true s = .next (u.beginNext p) ∧ u.engine p = (s.engine p).atEnd ∧
      (∀ q, q ≠ p → u.engine q = s.engine q) ∧ u.task k = (s.task k).ended (s.engine p) ∧
      (∀ j, j ≠ k → u.task j = s.task j) ∧ u.mem = s.mem := by
  have engine : (s.onEngine p Engine.atEnd).engine p = (s.engine p).atEnd := State.engine_onEngine s p _
  obtain ⟨u, ends, engines, tasks, mem⟩ :=
    State.endTask_parts (s := s.onEngine p Engine.atEnd) (p := p) (k := k) (by rw [engine]; exact clean)
  refine ⟨u, ?_, ?_, fun q other => ?_, ?_, fun j other => ?_, mem⟩
  · rw [← ends, execEnd, scanGuard_ready r rfl rfl, running]
    rfl
  · rw [← engine, State.engine, engines, State.engine]
  · rw [State.engine, engines]
    exact State.engine_setEngine_other s p q _ other
  · rw [State.task, tasks, engine]
    exact State.task_setTask_same _ k _
  · rw [State.task, tasks]
    exact State.task_setTask_other other

theorem execEnd_differing (r : Ready s p) (running : (s.engine p).running = some k) (clean : (s.engine p).tickFaults = 0) :
    execEnd p false s = .next ((s.onEngine p Engine.atEnd).pairMismatch p) := by
  have engine : (s.onEngine p Engine.atEnd).engine p = (s.engine p).atEnd := State.engine_onEngine s p _
  have unreported : (s.onEngine p Engine.atEnd).reportFaults p k = s.onEngine p Engine.atEnd :=
    if_pos (by rw [engine]; exact clean)
  rw [execEnd, scanGuard_ready r rfl rfl, running]
  exact congrArg (fun t => Host.Outcome.next (State.pairMismatch t p)) unreported

/-- Settles O16: END ends the activation or stops the pair, by whether the signatures agree. -/
theorem activationEnd : Obligations.ActivationEnd := by
  intro s p k r running clean
  constructor
  · obtain ⟨u, ends, engine, others, task, tasks, mem⟩ := execEnd_agreed r running clean
    cases next : (s.engine p).waiting with
    | nil =>
      have idle : (u.engine p).waiting = [] := by rw [engine]; exact next
      have after := State.engine_setEngine_same u p { u.engine p with running := none }
      refine ⟨_, ends, ?_⟩
      rw [State.beginNext_idle idle, after, engine]
      have kept : (u.setEngine p { (s.engine p).atEnd with running := none }).task k = (s.task k).ended (s.engine p) := task
      rw [kept]
      exact ⟨stopped_of_ready r, rfl, rfl, rfl, rfl, mem, fun q other => (State.engine_setEngine_other u p q _ other).trans (others q other),
        fun _ => ⟨rfl, rfl, rfl, rfl, rfl, tasks⟩, nofun⟩
    | cons j rest =>
      have waits : (u.engine p).waiting = j :: rest := by rw [engine]; exact next
      rw [State.beginNext_waiting waits, engine] at ends
      obtain ⟨v, hv⟩ : ∃ v, v = u.setEngine p { (s.engine p).atEnd with waiting := rest } := ⟨_, rfl⟩
      have met : v.engine p = { (s.engine p).atEnd with waiting := rest } := hv ▸ State.engine_setEngine_same u p _
      have taskV (i : Nat) : v.task i = u.task i := hv ▸ rfl
      obtain ⟨engineT, othersT, taskT, tasksT, memT⟩ := v.beginTask_parts (p := p) (k := j)
      have ended : ((v.beginTask p j).task k).ov = (s.engine p).ov ∧ ((v.beginTask p j).task k).uf = (s.engine p).uf ∧
          ((v.beginTask p j).task k).dz = (s.engine p).dz := by
        by_cases same : j = k
        · rw [same] at taskT ⊢
          rw [taskT, taskV, task]
          exact ⟨rfl, rfl, rfl⟩
        · rw [tasksT k (Ne.symm same), taskV, task]
          exact ⟨rfl, rfl, rfl⟩
      obtain ⟨ov, uf, dz⟩ := ended
      refine ⟨v.beginTask p j, hv ▸ ends, ?_⟩
      rw [engineT, met]
      refine ⟨stopped_of_ready r, ov, uf, dz, rfl, memT.trans (hv ▸ mem), fun q other => ?_, nofun, fun i later same apart => ?_⟩
      · rw [othersT q other, ← others q other, hv]
        exact State.engine_setEngine_other u p q _ other
      · obtain ⟨rfl, rfl⟩ := List.cons.inj same
        rw [taskV, tasks j apart]
        exact ⟨rfl, rfl, rfl, rfl, rfl, rfl, rfl, rfl, rfl, rfl, rfl, rfl⟩
  · obtain ⟨t, ht⟩ : ∃ t, t = (s.onEngine p Engine.atEnd).pairMismatch p := ⟨_, rfl⟩
    have bits := entryBits_mismatches (pair_of_ready r)
    have stops : t.engine p = { (s.engine p).atEnd with stopped := true } := by
      rw [ht, State.pairMismatch, State.engine_onEngine]
      exact State.engine_setEngine_same _ p _
    refine ⟨t, ht ▸ execEnd_differing r running clean, ?_, ?_, ht ▸ rfl, ?_, fun j other => ?_, ht ▸ rfl⟩
    · rw [stops]
    · rw [stops]; exact running
    · rw [ht, State.pairMismatch, State.reg_count, bits]
      rfl
    · rw [ht]
      exact State.reg_setReg_other _ _ _ _ other

end Sys2Proof.Machine
end

section
/-! SUPPORT. Integer arithmetic, word logic, shifts and comparisons (R66 to R68, R70). -/

namespace Sys2Proof.Machine

open Sys2Proof Sys2Proof.Stated

variable {s : State} {p n : Nat}

/-! ## Saturation -/

/-- An exact value limited to `lo` and `hi`, with OV where it lay outside (R66). -/
def limited (lo hi v : Int) : Flagged := (BitVec.ofInt 32 (max lo (min hi v)), { ov := decide (v < lo ∨ hi < v) })

theorem limited_of_inside {lo hi v : Int} (low : lo ≤ v) (high : v ≤ hi) : limited lo hi v = (BitVec.ofInt 32 v, {}) := by
  rw [limited, min_eq_right high, max_eq_right low, decide_eq_false (by omega)]

theorem limited_of_above {lo hi v : Int} (range : lo ≤ hi) (above : hi < v) :
    limited lo hi v = (BitVec.ofInt 32 hi, { ov := true }) := by
  rw [limited, min_eq_left (by omega), max_eq_right range, decide_eq_true (.inr above)]

theorem limited_of_below {lo hi v : Int} (range : lo ≤ hi) (below : v < lo) :
    limited lo hi v = (BitVec.ofInt 32 lo, { ov := true }) := by
  rw [limited, min_eq_right (by omega), max_eq_left (by omega), decide_eq_true (.inl below)]

theorem satSigned_eq_limited (v : Int) : satSigned v = limited (-2147483648) 2147483647 v := by
  unfold satSigned
  split_ifs with above below
  · rw [limited_of_above (by decide) above]; rfl
  · rw [limited_of_below (by decide) below]; rfl
  · rw [limited_of_inside (by omega) (by omega)]

theorem satUnsigned_eq_limited (v : Int) : satUnsigned v = limited 0 4294967295 v := by
  unfold satUnsigned
  split_ifs with above below
  · rw [limited_of_above (by decide) above]; rfl
  · rw [limited_of_below (by decide) below]; rfl
  · rw [limited_of_inside (by omega) (by omega)]

theorem clampWord_eq_limited {lo hi : Int} (range : lo ≤ hi) (w : Word) : clampWord lo hi w = limited lo hi w.toInt := by
  rw [clampWord, clampInt, limited, Bool.decide_or]
  congr 2
  split_ifs <;> omega

theorem toInt_limited (w : Word) : limited (-2147483648) 2147483647 w.toInt = (w, {}) := by
  rw [limited_of_inside (by simpa using w.le_toInt) (by have := w.toInt_lt; omega), BitVec.ofInt_toInt]

theorem computes_of_wordOp {i : Instr} {f : Word → Word → Flagged} {w : Flagged} (r : Ready s p)
    (runs : exec i s = wordOp p n f s) (makes : f (s.engine p).w1 (s.engine p).w0 = w) : Computes i s p n w.1 w.2 :=
  makes ▸ runs.trans (wordOp_ready r)

section

variable {i : Instr} {w : Word}

theorem leaves_of_computes (h : Computes i s p n w {}) : Leaves i s p n { s.engine p with w0 := w } := by
  simpa only [Computes, Bool.or_false] using h

theorem leaves_of_computes_ov (h : Computes i s p n w { ov := true }) :
    Leaves i s p n { s.engine p with w0 := w, ov := true } := by
  simpa only [Computes, Bool.or_false, Bool.or_true] using h

theorem leaves_of_computes_dz (h : Computes i s p n w { dz := true }) :
    Leaves i s p n { s.engine p with w0 := w, dz := true } := by
  simpa only [Computes, Bool.or_false, Bool.or_true] using h

end

theorem wordOp_limited {f : Word → Word → Flagged} {lo hi v : Int} (r : Ready s p)
    (makes : f (s.engine p).w1 (s.engine p).w0 = limited lo hi v) :
    wordOp p n f s = .next (s.setEngine p (past n { s.engine p with
      w0 := BitVec.ofInt 32 (max lo (min hi v)), ov := (s.engine p).ov || decide (v < lo ∨ hi < v) })) := by
  rw [wordOp_ready r, makes]
  simp only [limited, Bool.or_false]

/-! ## Division -/

theorem toInt_ne_zero {w : Word} (h : w ≠ 0) : w.toInt ≠ 0 := fun zero => h (BitVec.eq_of_toInt_eq zero)

/-- The sign of a remainder follows the dividend (R67). -/
theorem tmod_pos_iff (a b : Int) : a.tmod b = 0 ∨ (0 < a.tmod b ↔ 0 < a) := by
  have sign := Int.sign_tmod a b
  split_ifs at sign
  · exact .inl (Int.sign_eq_zero_iff_zero.mp sign)
  · exact .inr (by rw [← Int.sign_eq_one_iff_pos, sign, Int.sign_eq_one_iff_pos])

theorem abs_tmod_lt {a b : Int} (h : b ≠ 0) : |a.tmod b| < |b| := by
  have lt := Nat.mod_lt a.natAbs (Int.natAbs_pos.mpr h)
  rw [← Int.natAbs_tmod] at lt
  rw [Int.abs_eq_natAbs, Int.abs_eq_natAbs]
  exact_mod_cast lt

/-- A quotient of two words fits a word, but for the one that R67 lists. -/
theorem tdiv_fits {a b : Int} (low : -2147483648 ≤ a) (high : a ≤ 2147483647) (h : ¬ (a = -2147483648 ∧ b = -1)) :
    -2147483648 ≤ a.tdiv b ∧ a.tdiv b ≤ 2147483647 := by
  have size := Int.natAbs_tdiv a b
  by_cases one : b = 1
  · rw [one, Int.tdiv_one]; exact ⟨low, high⟩
  by_cases minus : b = -1
  · rw [minus, Int.tdiv_neg, Int.tdiv_one]; omega
  have half : a.natAbs / b.natAbs ≤ a.natAbs / 2 ∨ b.natAbs = 0 := by
    by_cases zero : b.natAbs = 0
    · exact .inr zero
    · exact .inl (Nat.div_le_div_left (by omega) (by decide))
  obtain half | zero := half
  · change _ = a.natAbs / b.natAbs at size
    omega
  · rw [Int.natAbs_eq_zero.mp zero, Int.tdiv_zero]; decide

theorem word_range (w : Word) : -2147483648 ≤ w.toInt ∧ w.toInt ≤ 2147483647 := by
  have low := w.le_toInt
  have high := w.toInt_lt
  omega

theorem divWord_of_zero (a : Word) : divWord a 0 = (if 0 ≤ a.toInt then 0x7FFFFFFF else 0x80000000, { dz := true }) := rfl

theorem divWord_of_fits {a b : Word} (h : b ≠ 0) (fits : ¬ (a = 0x80000000 ∧ b = 0xFFFFFFFF)) :
    divWord a b = (BitVec.ofInt 32 (a.toInt.tdiv b.toInt), {}) := by
  obtain ⟨low, high⟩ := word_range a
  obtain ⟨low, high⟩ := tdiv_fits (b := b.toInt) low high fun ⟨least, minus⟩ =>
    fits ⟨BitVec.eq_of_toInt_eq least, BitVec.eq_of_toInt_eq minus⟩
  rw [divWord, if_neg h, satSigned_eq_limited, limited_of_inside low high]

theorem modWord_of_ne_zero {a b : Word} (h : b ≠ 0) : modWord a b = (BitVec.ofInt 32 (a.toInt.tmod b.toInt), {}) := if_neg h

/-! ## Shifts -/

theorem shiftLeft_eq_ofNat (w : Word) : w <<< n = BitVec.ofNat 32 (w.toNat * 2 ^ n) := by
  apply BitVec.eq_of_toNat_eq
  rw [BitVec.toNat_shiftLeft, BitVec.toNat_ofNat, Nat.shiftLeft_eq]

theorem ushiftRight_eq_ofNat (w : Word) : w >>> n = BitVec.ofNat 32 (w.toNat / 2 ^ n) := by
  apply BitVec.eq_of_toNat_eq
  rw [BitVec.toNat_ushiftRight, BitVec.toNat_ofNat, Nat.shiftRight_eq_div_pow,
    Nat.mod_eq_of_lt (Nat.lt_of_le_of_lt (Nat.div_le_self _ _) w.isLt)]

theorem sshiftRight_eq_ofInt (w : Word) : w.sshiftRight n = BitVec.ofInt 32 (w.toInt / 2 ^ n) := by
  rw [BitVec.sshiftRight, Int.shiftRight_eq_div_pow]
  norm_cast

theorem rotateLeft_eq_or (w : Word) (hn : n < 32) : w.rotateLeft n = (w <<< n) ||| (w >>> (32 - n)) := by
  rw [BitVec.rotateLeft_def, Nat.mod_eq_of_lt hn]

theorem shiftOp_ready {f : Word → Nat → Word} {w : Word} (r : Ready s p) (hn : n < 32) (makes : f (s.engine p).w0 n = w) :
    shiftOp p ⟨15, n⟩ f s = .next (s.setEngine p (past 1 { s.engine p with w0 := w })) := by
  rw [shiftOp, scanGuard_ready r (by simpa [immediateOk] using hn) rfl, State.onEngine_advance_ready r, ← makes]

theorem compareOp_ready {f : Word → Word → Bool} {c : Bool} (r : Ready s p) (decides : f (s.engine p).w1 (s.engine p).w0 = c) :
    compareOp p f s = .next (s.setEngine p (past 1 { s.engine p with a := c })) := decides ▸ implied_ready r

/-- Settles O11: arithmetic is `wordOp` with a limited exact value, the rest `wordOp` with no flag. -/
theorem wordArithmetic : Obligations.WordArithmetic := by
  refine ⟨fun s p r => ?_, fun s p r => ?_, fun s p r => ?_⟩
  · intro e
    refine ⟨?_, ?_, ?_, ?_, ?_, ?_, ?_, ?_, ?_, ?_, ?_⟩
    · exact wordOp_limited (f := fun a b => satSigned (a.toInt + b.toInt)) r (satSigned_eq_limited _)
    · exact wordOp_limited (f := fun a b => satSigned (a.toInt - b.toInt)) r (satSigned_eq_limited _)
    · exact wordOp_limited (f := fun a b => satSigned (a.toInt * b.toInt)) r (satSigned_eq_limited _)
    · exact wordOp_limited (f := fun _ b => satSigned (-b.toInt)) r (satSigned_eq_limited _)
    · refine wordOp_limited (f := fun _ b => satSigned b.toInt.natAbs) r ?_
      rw [satSigned_eq_limited, Int.abs_eq_natAbs]
    · refine wordOp_limited (f := fun a b => (if a.toInt < b.toInt then a else b, {})) r ?_
      have least : (if e.w1.toInt < e.w0.toInt then e.w1 else e.w0).toInt = min e.w1.toInt e.w0.toInt := by
        split_ifs <;> omega
      rw [← least, toInt_limited]
    · refine wordOp_limited (f := fun a b => (if b.toInt < a.toInt then a else b, {})) r ?_
      have greatest : (if e.w0.toInt < e.w1.toInt then e.w1 else e.w0).toInt = max e.w1.toInt e.w0.toInt := by
        split_ifs <;> omega
      rw [← greatest, toInt_limited]
    · exact wordOp_limited (f := fun a b => satUnsigned (a.toNat + b.toNat)) r (satUnsigned_eq_limited _)
    · exact wordOp_limited (f := fun a b => satUnsigned ((a.toNat : Int) - b.toNat)) r (satUnsigned_eq_limited _)
    · exact wordOp_limited (f := fun _ b => clampWord (-32768) 32767 b) r (clampWord_eq_limited (by decide) _)
    · exact wordOp_limited (f := fun _ b => clampWord 0 65535 b) r (clampWord_eq_limited (by decide) _)
  · intro e a b
    have div {w : Flagged} (makes : divWord e.w1 e.w0 = w) : Computes (.opDiv p) s p 18 w.1 w.2 :=
      computes_of_wordOp (f := divWord) r rfl makes
    have mod {w : Flagged} (makes : modWord e.w1 e.w0 = w) : Computes (.opMod p) s p 18 w.1 w.2 :=
      computes_of_wordOp (f := modWord) r rfl makes
    refine ⟨fun zero sign => ?_, fun zero sign => ?_, fun zero => ?_, fun least minus => ⟨?_, ?_⟩, fun nonzero fits => ?_⟩
    · exact leaves_of_computes_dz (div (by rw [zero, divWord_of_zero, if_pos sign]))
    · exact leaves_of_computes_dz (div (by rw [zero, divWord_of_zero, if_neg (by omega)]))
    · exact leaves_of_computes_dz (mod (if_pos zero))
    · exact leaves_of_computes_ov (div (w := (0x7FFFFFFF, { ov := true })) (by rw [least, minus]; decide))
    · exact leaves_of_computes (mod (w := (0, {})) (by rw [least, minus]; decide))
    · exact ⟨a.tdiv b, a.tmod b, (Int.tdiv_mul_add_tmod a b).symm, abs_tmod_lt (toInt_ne_zero nonzero), tmod_pos_iff a b,
        leaves_of_computes (div (divWord_of_fits nonzero fits)), leaves_of_computes (mod (modWord_of_ne_zero nonzero))⟩
  · intro e a b
    refine ⟨?_, ?_, ?_, ?_, fun n hn => ⟨?_, ?_, ?_, ?_⟩, ?_, ?_, ?_, ?_, ?_, ?_, ?_, ?_⟩
    · exact plainOp_ready (f := (· &&& ·)) r
    · exact plainOp_ready (f := (· ||| ·)) r
    · exact plainOp_ready (f := (· ^^^ ·)) r
    · exact plainOp_ready (f := fun _ b => ~~~b) r
    · exact shiftOp_ready (f := fun w n => w <<< n) r hn (shiftLeft_eq_ofNat _)
    · exact shiftOp_ready (f := fun w n => w >>> n) r hn (ushiftRight_eq_ofNat _)
    · exact shiftOp_ready (f := fun w n => w.sshiftRight n) r hn (sshiftRight_eq_ofInt _)
    · exact shiftOp_ready (f := fun w n => w.rotateLeft n) r hn (rotateLeft_eq_or _ hn)
    · exact compareOp_ready (f := fun a b => a == b) r (Bool.beq_eq_decide_eq a b)
    · exact compareOp_ready (f := fun a b => a != b) r ((congrArg _ (Bool.beq_eq_decide_eq a b)).trans (decide_not ..).symm)
    · exact compareOp_ready (f := fun a b => decide (b.toInt < a.toInt)) r rfl
    · exact compareOp_ready (f := fun a b => decide (b.toInt ≤ a.toInt)) r rfl
    · exact compareOp_ready (f := fun a b => decide (a.toInt < b.toInt)) r rfl
    · exact compareOp_ready (f := fun a b => decide (a.toInt ≤ b.toInt)) r rfl
    · exact compareOp_ready (f := fun a b => decide (b.toNat < a.toNat)) r rfl
    · exact compareOp_ready (f := fun a b => decide (a.toNat < b.toNat)) r rfl

end Sys2Proof.Machine
end

section
/-! SUPPORT. Floating point (R69, R70): the values of words, and what the instructions compute of them. -/

namespace Sys2Proof.Machine

open Sys2Proof Sys2Proof.Stated

variable {s : State} {p n : Nat} {w x y : Word}

/-! ## Values of words -/

/-- The numerator over 2^149 of a finite word (R69: a subnormal is zero). -/
def magnitude (w : Word) : Nat := if expo w = 0 then 0 else (2 ^ 23 + frac w) * 2 ^ (expo w - 1)

theorem fValue_of_isNaN (h : IsNaN w) : fValue w = .nan := by
  unfold fValue
  exact (if_pos h.1).trans (if_neg h.2)

theorem fValue_of_isInf (h : IsInf w) : fValue w = .inf (minus w) := by
  unfold fValue
  exact (if_pos h.1).trans (if_pos h.2)

theorem fValue_of_finite (h : expo w ≠ 255) : fValue w = .fin (minus w) (magnitude w) := by
  unfold fValue magnitude
  refine (if_neg h).trans ?_
  by_cases zero : expo w = 0
  · rw [if_pos zero]; exact if_pos zero
  · rw [if_neg zero]; exact if_neg zero

theorem magnitude_of_isZero (h : IsZero w) : magnitude w = 0 := if_pos h

theorem magnitude_eq_zero_iff : magnitude w = 0 ↔ IsZero w := by
  refine ⟨fun h => ?_, magnitude_of_isZero⟩
  by_contra nonzero
  rw [magnitude, if_neg (show ¬ expo w = 0 from nonzero)] at h
  have := Nat.mul_pos (show 0 < 2 ^ 23 + frac w by omega) (Nat.two_pow_pos (expo w - 1))
  omega

theorem fValue_of_isZero (h : IsZero w) : fValue w = .fin (minus w) 0 := by
  have finite : expo w ≠ 255 := by rw [show expo w = 0 from h]; decide
  rw [fValue_of_finite finite, magnitude_of_isZero h]

/-- A word is finite, an infinity or a NaN. -/
theorem word_kind (w : Word) : expo w ≠ 255 ∨ IsInf w ∨ IsNaN w := by
  by_cases top : expo w = 255
  · by_cases zero : frac w = 0
    · exact .inr (.inl ⟨top, zero⟩)
    · exact .inr (.inr ⟨top, zero⟩)
  · exact .inl top

theorem fValue_eq_nan_iff : fValue w = .nan ↔ IsNaN w := by
  refine ⟨fun h => ?_, fValue_of_isNaN⟩
  obtain finite | inf | nan := word_kind w
  · rw [fValue_of_finite finite] at h; cases h
  · rw [fValue_of_isInf inf] at h; cases h
  · exact nan

/-- A word is its sign, its exponent and its fraction. -/
theorem toNat_eq_fields (w : Word) : w.toNat = (if minus w then 2 ^ 31 else 0) + expo w * 2 ^ 23 + frac w := by
  have sign : minus w = decide (2 ^ 31 ≤ w.toNat) := (BitVec.msb_eq_getLsbD_last w).symm.trans (BitVec.msb_eq_decide w)
  have lt := w.isLt
  unfold expo frac
  rw [sign]
  by_cases big : 2 ^ 31 ≤ w.toNat
  · simp only [big, decide_true, if_true]; omega
  · simp only [big, decide_false, Bool.false_eq_true, if_false]; omega

/-! ## NaN, invalid operations, division by zero -/

theorem fAdd_of_nan (h : IsNaN x ∨ IsNaN y) : fAdd x y = fNaN := by
  unfold fAdd
  obtain h | h := h <;> rw [fValue_of_isNaN h]
  · rfl
  · cases fValue x <;> rfl

theorem fSub_of_nan (h : IsNaN x ∨ IsNaN y) : fSub x y = fNaN := by
  unfold fSub
  obtain h | h := h <;> rw [fValue_of_isNaN h]
  · rfl
  · cases fValue x <;> rfl

theorem fMul_of_nan (h : IsNaN x ∨ IsNaN y) : fMul x y = fNaN := by
  unfold fMul
  obtain h | h := h <;> rw [fValue_of_isNaN h]
  cases fValue x <;> rfl

theorem fDiv_of_nan (h : IsNaN x ∨ IsNaN y) : fDiv x y = fNaN := by
  unfold fDiv
  obtain h | h := h <;> rw [fValue_of_isNaN h]
  cases fValue x <;> rfl

theorem fSqrt_of_nan (h : IsNaN y) : fSqrt y = fNaN := by
  rw [fSqrt, fValue_of_isNaN h]

theorem fAdd_of_opposite_infs (hx : IsInf x) (hy : IsInf y) (signs : minus x ≠ minus y) : fAdd x y = fNaN := by
  rw [fAdd, fValue_of_isInf hx, fValue_of_isInf hy]
  exact if_neg signs

theorem fSub_of_equal_infs (hx : IsInf x) (hy : IsInf y) (signs : minus x = minus y) : fSub x y = fNaN := by
  rw [fSub, fValue_of_isInf hx, fValue_of_isInf hy, signs]
  exact if_neg (by simp)

theorem fDiv_of_infs (hx : IsInf x) (hy : IsInf y) : fDiv x y = fNaN := by
  rw [fDiv, fValue_of_isInf hx, fValue_of_isInf hy]

theorem fMul_of_zero_inf (h : IsZero x ∧ IsInf y ∨ IsInf x ∧ IsZero y) : fMul x y = fNaN := by
  obtain ⟨hx, hy⟩ | ⟨hx, hy⟩ := h
  · rw [fMul, fValue_of_isZero hx, fValue_of_isInf hy]; rfl
  · rw [fMul, fValue_of_isInf hx, fValue_of_isZero hy]; rfl

theorem fDiv_of_zeros (hx : IsZero x) (hy : IsZero y) : fDiv x y = fNaN := by
  rw [fDiv, fValue_of_isZero hx, fValue_of_isZero hy]; rfl

theorem fDiv_by_zero (finite : expo x ≠ 255) (hx : ¬ IsZero x) (hy : IsZero y) :
    fDiv x y = (fInf (minus x != minus y), { dz := true }) := by
  rw [fDiv, fValue_of_finite finite, fValue_of_isZero hy]
  exact (if_pos rfl).trans (if_neg (mt magnitude_eq_zero_iff.mp hx))

theorem fSqrt_of_negative (sign : minus y = true) (hy : ¬ IsZero y) : fSqrt y = fNaN := by
  obtain finite | inf | nan := word_kind y
  · rw [fSqrt, fValue_of_finite finite]
    exact (if_neg (mt magnitude_eq_zero_iff.mp hy)).trans (if_pos sign)
  · rw [fSqrt, fValue_of_isInf inf]
    exact if_pos sign
  · exact fSqrt_of_nan nan

theorem fSqrt_of_zero (hy : IsZero y) : fSqrt y = (fZero (minus y), {}) := by
  rw [fSqrt, fValue_of_isZero hy]; rfl

/-- Settles O12, by the values of the operands. -/
theorem floatArithmetic : Obligations.FloatArithmetic := by
  intro s p r e x y bad signed
  have add {w : Flagged} (makes : fAdd x y = w) : Computes (.opFadd p) s p 3 w.1 w.2 :=
    computes_of_wordOp (f := fAdd) r rfl makes
  have sub {w : Flagged} (makes : fSub x y = w) : Computes (.opFsub p) s p 3 w.1 w.2 :=
    computes_of_wordOp (f := fSub) r rfl makes
  have mul {w : Flagged} (makes : fMul x y = w) : Computes (.opFmul p) s p 3 w.1 w.2 :=
    computes_of_wordOp (f := fMul) r rfl makes
  have div {w : Flagged} (makes : fDiv x y = w) : Computes (.opFdiv p) s p 14 w.1 w.2 :=
    computes_of_wordOp (f := fDiv) r rfl makes
  have sqrt {w : Flagged} (makes : fSqrt y = w) : Computes (.opFsqrt p) s p 16 w.1 w.2 :=
    computes_of_wordOp (f := fun _ b => fSqrt b) r rfl makes
  refine ⟨add rfl, sub rfl, mul rfl, div rfl, sqrt rfl, fun nan => ⟨?_, ?_, ?_, ?_⟩, fun nan => ?_,
    fun hx hy => ⟨fun signs => ?_, fun signs => ?_, ?_⟩, fun h => ?_, fun hx hy => ?_, fun sign hy => ?_, fun hy => ?_,
    fun finite hx hy => ?_, ?_, ?_⟩
  · exact add (fAdd_of_nan nan)
  · exact sub (fSub_of_nan nan)
  · exact mul (fMul_of_nan nan)
  · exact div (fDiv_of_nan nan)
  · exact sqrt (fSqrt_of_nan nan)
  · exact add (fAdd_of_opposite_infs hx hy signs)
  · exact sub (fSub_of_equal_infs hx hy signs)
  · exact div (fDiv_of_infs hx hy)
  · exact mul (fMul_of_zero_inf h)
  · exact div (fDiv_of_zeros hx hy)
  · exact sqrt (fSqrt_of_negative sign hy)
  · exact sqrt (fSqrt_of_zero hy)
  · exact div (fDiv_by_zero finite hx hy)
  · exact plainOp_ready (f := fun _ b => b ^^^ 0x80000000) r
  · exact plainOp_ready (f := fun _ b => b &&& 0x7FFFFFFF) r

/-! ## Comparisons -/

theorem compares_of_floatCompare {i : Instr} {f : Word → Word → Bool × FlagSet} {a uf : Bool} (r : Ready s p)
    (runs : exec i s = floatCompare p f s) (makes : f (s.engine p).w1 (s.engine p).w0 = (a, { uf := uf })) :
    Compares i s p a uf := by
  rw [Compares, Leaves, runs, floatCompare, implied_ready r, makes]
  simp only [Engine.raise, Bool.or_false]

theorem fUnordered_iff : fUnordered x y = true ↔ IsNaN x ∨ IsNaN y := by
  rw [fUnordered, Bool.or_eq_true, beq_iff_eq, beq_iff_eq, fValue_eq_nan_iff, fValue_eq_nan_iff]

theorem fEq_of_nan (h : IsNaN x ∨ IsNaN y) : fEq x y = false := by
  rw [fEq, fUnordered_iff.mpr h]; rfl

theorem fEq_of_ordered (hx : ¬ IsNaN x) (hy : ¬ IsNaN y) : fEq x y = decide (fOrder (fValue x) = fOrder (fValue y)) := by
  have ordered : fUnordered x y = false := by rw [← Bool.not_eq_true, fUnordered_iff]; exact not_or_intro hx hy
  rw [fEq, ordered]; rfl

theorem fCompare_of_nan {c : Int → Int → Bool} (h : IsNaN x ∨ IsNaN y) : fCompare c x y = (false, { uf := true }) :=
  if_pos (fUnordered_iff.mpr h)

theorem fCompare_of_ordered {c : Int → Int → Bool} (hx : ¬ IsNaN x) (hy : ¬ IsNaN y) :
    fCompare c x y = (c (fOrder (fValue x)) (fOrder (fValue y)), {}) :=
  if_neg (by rw [fUnordered_iff]; exact not_or_intro hx hy)

theorem fOrder_of_finite (h : expo w ≠ 255) : fOrder (fValue w) = fSigned (minus w) (magnitude w) := by
  rw [fValue_of_finite h]; rfl

theorem word_eq_of_isInf (hx : IsInf x) (hy : IsInf y) (signs : minus x = minus y) : x = y := by
  apply BitVec.eq_of_toNat_eq
  rw [toNat_eq_fields x, toNat_eq_fields y, hx.1, hx.2, hy.1, hy.2, signs]

theorem sign_eq_of_fSigned_eq {a b : Bool} (h : fSigned a (2 ^ n) = fSigned b (2 ^ n)) : a = b := by
  have pos := Nat.two_pow_pos n
  generalize 2 ^ n = m at h pos
  cases a <;> cases b <;> simp [fSigned] at h ⊢ <;> omega

theorem fOrder_eq_iff_of_infs (hx : IsInf x) (hy : IsInf y) : fOrder (fValue x) = fOrder (fValue y) ↔ x = y := by
  refine ⟨fun same => word_eq_of_isInf hx hy ?_, congrArg fun w => fOrder (fValue w)⟩
  rw [fValue_of_isInf hx, fValue_of_isInf hy, fOrder, fOrder] at same
  exact sign_eq_of_fSigned_eq (n := 300) same

/-- The six comparisons of two operands that are not NaN. -/
theorem compares_of_ordered (r : Ready s p) (hx : ¬ IsNaN (s.engine p).w1) (hy : ¬ IsNaN (s.engine p).w0) {a b : Int}
    (ha : fOrder (fValue (s.engine p).w1) = a) (hb : fOrder (fValue (s.engine p).w0) = b) :
    Compares (.opFeq p) s p (decide (a = b)) false ∧ Compares (.opFne p) s p (decide (a ≠ b)) false ∧
    Compares (.opFgt p) s p (decide (b < a)) false ∧ Compares (.opFge p) s p (decide (b ≤ a)) false ∧
    Compares (.opFlt p) s p (decide (a < b)) false ∧ Compares (.opFle p) s p (decide (a ≤ b)) false := by
  have order (c : Int → Int → Bool) : fCompare c (s.engine p).w1 (s.engine p).w0 = (c a b, {}) := by
    rw [fCompare_of_ordered hx hy, ha, hb]
  refine ⟨?_, ?_, ?_, ?_, ?_, ?_⟩
  · exact compares_of_floatCompare (f := fun a b => (fEq a b, {})) r rfl (by rw [fEq_of_ordered hx hy, ha, hb])
  · exact compares_of_floatCompare (f := fun a b => (!fEq a b, {})) r rfl (by rw [fEq_of_ordered hx hy, ha, hb, decide_not])
  · exact compares_of_floatCompare (f := fCompare fun x y => decide (y < x)) r rfl (order _)
  · exact compares_of_floatCompare (f := fCompare fun x y => decide (y ≤ x)) r rfl (order _)
  · exact compares_of_floatCompare (f := fCompare fun x y => decide (x < y)) r rfl (order _)
  · exact compares_of_floatCompare (f := fCompare fun x y => decide (x ≤ y)) r rfl (order _)

theorem compares_of_nan (r : Ready s p) (h : IsNaN (s.engine p).w1 ∨ IsNaN (s.engine p).w0) :
    Compares (.opFeq p) s p false false ∧ Compares (.opFne p) s p true false ∧ Compares (.opFgt p) s p false true ∧
    Compares (.opFge p) s p false true ∧ Compares (.opFlt p) s p false true ∧ Compares (.opFle p) s p false true := by
  refine ⟨?_, ?_, ?_, ?_, ?_, ?_⟩
  · exact compares_of_floatCompare (f := fun a b => (fEq a b, {})) r rfl (by rw [fEq_of_nan h])
  · exact compares_of_floatCompare (f := fun a b => (!fEq a b, {})) r rfl (by rw [fEq_of_nan h]; rfl)
  · exact compares_of_floatCompare (f := fCompare fun x y => decide (y < x)) r rfl (fCompare_of_nan h)
  · exact compares_of_floatCompare (f := fCompare fun x y => decide (y ≤ x)) r rfl (fCompare_of_nan h)
  · exact compares_of_floatCompare (f := fCompare fun x y => decide (x < y)) r rfl (fCompare_of_nan h)
  · exact compares_of_floatCompare (f := fCompare fun x y => decide (x ≤ y)) r rfl (fCompare_of_nan h)

theorem not_isNaN_of_finite (h : expo w ≤ 254) : ¬ IsNaN w := by
  rintro ⟨top, -⟩
  omega

/-- Settles O13: of operands that are not NaN every comparison is one of their orders. -/
theorem floatComparison : Obligations.FloatComparison := by
  intro s p r x y ord
  have orders (w : Word) (h : expo w ≤ 254) : fOrder (fValue w) = ord w := by
    rw [fOrder_of_finite (by omega)]
    simp only [fSigned, magnitude, ord]
    split_ifs <;> rfl
  refine ⟨compares_of_nan r, fun hx hy => ?_, fun hx hy => ?_⟩
  · exact compares_of_ordered r (not_isNaN_of_finite hx) (not_isNaN_of_finite hy) (orders _ hx) (orders _ hy)
  · obtain ⟨a, ha⟩ : ∃ a, fOrder (fValue x) = a := ⟨_, rfl⟩
    obtain ⟨b, hb⟩ : ∃ b, fOrder (fValue y) = b := ⟨_, rfl⟩
    obtain ⟨eq, ne, gt, ge, lt, le⟩ := compares_of_ordered r hx hy ha hb
    refine ⟨decide (a = b), decide (a < b), decide (b < a), eq, ?_, gt, ?_, lt, ?_, fun infX infY => ?_⟩
    · rwa [← decide_not]
    · rwa [← Bool.decide_or, decide_eq_decide.mpr (show b < a ∨ a = b ↔ b ≤ a by omega)]
    · rwa [← Bool.decide_or, decide_eq_decide.mpr (show a < b ∨ a = b ↔ a ≤ b by omega)]
    · rw [← ha, ← hb]
      exact decide_eq_decide.mpr (fOrder_eq_iff_of_infs infX infY)

/-! ## Rounding of values that single precision holds -/

theorem divEven_mul (m : Nat) {d : Nat} (h : 0 < d) : divEven (m * d) d = m := by
  simp only [divEven, Nat.mul_div_cancel _ h, Nat.mul_mod_left]
  rw [if_neg (by omega), if_neg (by omega)]

theorem log2_of_significand {num q i c : Nat} (low : 2 ^ 23 ≤ q) (high : q < 2 ^ 24) (same : num * 2 ^ c = q * 2 ^ i) :
    Nat.log2 num + c = 23 + i := by
  have product : 0 < num * 2 ^ c := same ▸ Nat.mul_pos (by omega) (Nat.two_pow_pos i)
  have pos : 0 < num := Nat.pos_of_mul_pos_right product
  have above : 2 ^ (23 + i) ≤ num * 2 ^ c := by
    rw [same, Nat.pow_add]
    exact Nat.mul_le_mul_right _ low
  have below : num * 2 ^ c < 2 ^ (24 + i) := by
    rw [same, Nat.pow_add]
    exact Nat.mul_lt_mul_of_pos_right high (Nat.two_pow_pos i)
  have short : c < 24 + i := (Nat.pow_lt_pow_iff_right (by decide)).mp
    (Nat.lt_of_le_of_lt (Nat.le_mul_of_pos_left _ pos) below)
  have log : Nat.log2 num = 23 + i - c := by
    refine (Nat.log2_eq_iff (by omega)).mpr ⟨?_, ?_⟩
    · refine Nat.le_of_mul_le_mul_right ?_ (Nat.two_pow_pos c)
      rwa [← Nat.pow_add, show 23 + i - c + c = 23 + i by omega]
    · refine Nat.lt_of_mul_lt_mul_right (a := 2 ^ c) ?_
      rwa [← Nat.pow_add, show 23 + i - c + 1 + c = 24 + i by omega]
  omega

/-- A number of the form q * 2^(i - c) over 2^j, with a significand q of 24 bits, has that significand. -/
theorem significand_exact {num q i j c : Nat} (low : 2 ^ 23 ≤ q) (high : q < 2 ^ 24) (same : num * 2 ^ c = q * 2 ^ i) :
    significand num (2 ^ j) = (q, (i : Int) - j - c) := by
  obtain ⟨e, he⟩ : ∃ e : Int, e = (i : Int) - j - c := ⟨_, rfl⟩
  have log := log2_of_significand low high same
  have e0 : (Nat.log2 num : Int) - (Nat.log2 (2 ^ j) : Int) - 23 = e := by
    rw [Nat.log2_two_pow]
    omega
  have cross : num * 2 ^ (-e).toNat = q * (2 ^ j * 2 ^ e.toNat) := by
    refine Nat.eq_of_mul_eq_mul_right (Nat.two_pow_pos c) ?_
    calc num * 2 ^ (-e).toNat * 2 ^ c = num * 2 ^ c * 2 ^ (-e).toNat := Nat.mul_right_comm ..
      _ = q * 2 ^ (i + (-e).toNat) := by rw [same, Nat.mul_assoc, ← Nat.pow_add]
      _ = q * 2 ^ (j + e.toNat + c) := by rw [show i + (-e).toNat = j + e.toNat + c by omega]
      _ = q * (2 ^ j * 2 ^ e.toNat) * 2 ^ c := by rw [Nat.pow_add, Nat.pow_add, ← Nat.mul_assoc]
  have full : ¬ num * 2 ^ (-e).toNat < 2 ^ 23 * (2 ^ j * 2 ^ e.toNat) := by
    rw [cross]
    exact Nat.not_lt.mpr (Nat.mul_le_mul_right _ low)
  unfold significand
  dsimp only
  rw [e0, if_neg full, cross, divEven_mul q (Nat.mul_pos (Nat.two_pow_pos _) (Nat.two_pow_pos _)), if_neg (by omega), he]

/-- The word with a sign, an exponent field and a significand. -/
def floatWord (neg : Bool) (e q : Nat) : Word := BitVec.ofNat 32 ((if neg then 2 ^ 31 else 0) + e * 2 ^ 23 + (q - 2 ^ 23))

theorem fRound_of_significand {neg : Bool} {num den q e : Nat} (sig : significand num den = (q, (e : Int) - 150))
    (least : 1 ≤ e) (most : e ≤ 254) : fRound neg num den = (floatWord neg e q, {}) := by
  have biased : (e : Int) - 150 + 23 + 127 = e := by omega
  simp only [fRound, sig, biased]
  rw [if_neg (by omega), if_neg (by omega), Int.toNat_natCast]
  rfl

theorem floatWord_fields (w : Word) : floatWord (minus w) (expo w) (2 ^ 23 + frac w) = w := by
  apply BitVec.eq_of_toNat_eq
  rw [floatWord, BitVec.toNat_ofNat, Nat.add_sub_cancel_left, ← toNat_eq_fields w]
  exact Nat.mod_eq_of_lt w.isLt

theorem magnitude_of_normal (h : 1 ≤ expo w) : magnitude w = (2 ^ 23 + frac w) * 2 ^ (expo w - 1) := if_neg (by omega)

theorem frac_lt (w : Word) : frac w < 2 ^ 23 := Nat.mod_lt _ (by decide)

theorem magnitude_pos (h : 1 ≤ expo w) : 0 < magnitude w := by
  rw [magnitude_of_normal h]
  exact Nat.mul_pos (by omega) (Nat.two_pow_pos _)

/-- Rounding delivers a normal value as it is. -/
theorem fRound_magnitude {k j : Nat} (least : 1 ≤ expo w) (most : expo w ≤ 254) (scale : j = k + 149) :
    fRound (minus w) (magnitude w * 2 ^ k) (2 ^ j) = (w, {}) := by
  have bits := frac_lt w
  have sig := significand_exact (num := magnitude w * 2 ^ k) (q := 2 ^ 23 + frac w) (i := expo w - 1 + k) (j := j) (c := 0)
    (by omega) (by omega) (by rw [magnitude_of_normal least, Nat.pow_zero, Nat.mul_one, Nat.mul_assoc, ← Nat.pow_add])
  have place : ((expo w - 1 + k : Nat) : Int) - j - (0 : Nat) = (expo w : Int) - 150 := by omega
  rw [fRound_of_significand (place ▸ sig) least most, floatWord_fields w]

theorem fRound_sum (least : 1 ≤ expo w) (most : expo w ≤ 254) :
    fRound (decide (fSigned (minus w) (magnitude w) < 0)) (fSigned (minus w) (magnitude w)).natAbs (2 ^ 149) = (w, {}) := by
  have pos := magnitude_pos least
  have value := fRound_magnitude (k := 0) least most rfl
  rw [Nat.pow_zero, Nat.mul_one] at value
  have sign : decide (fSigned (minus w) (magnitude w) < 0) = minus w := by
    unfold fSigned
    cases minus w <;> simp
    omega
  have size : (fSigned (minus w) (magnitude w)).natAbs = magnitude w := by
    unfold fSigned
    cases minus w <;> simp
  rw [sign, size, value]

theorem fValue_zero : fValue 0 = .fin false 0 := by decide +kernel
theorem fValue_one : fValue 0x3F800000 = .fin false (2 ^ 149) := by decide +kernel

theorem fAdd_zero (least : 1 ≤ expo w) (most : expo w ≤ 254) : fAdd w 0 = (w, {}) := by
  have pos := magnitude_pos least
  have nonzero : fSigned (minus w) (magnitude w) ≠ 0 := by
    unfold fSigned
    split_ifs <;> omega
  have zero : fSigned false 0 = 0 := rfl
  rw [fAdd, fValue_of_finite (by omega), fValue_zero]
  simp only [fAddValues, zero, Int.add_zero]
  rw [if_neg nonzero, fRound_sum least most]

theorem fSub_zero (least : 1 ≤ expo w) (most : expo w ≤ 254) : fSub w 0 = (w, {}) := by
  have pos := magnitude_pos least
  have nonzero : fSigned (minus w) (magnitude w) ≠ 0 := by
    unfold fSigned
    split_ifs <;> omega
  have zero : fSigned (!false) 0 = 0 := rfl
  rw [fSub, fValue_of_finite (by omega), fValue_zero]
  simp only [fAddValues, FVal.neg, zero, Int.add_zero]
  rw [if_neg nonzero, fRound_sum least most]

theorem fMul_one (least : 1 ≤ expo w) (most : expo w ≤ 254) : fMul w 0x3F800000 = (w, {}) := by
  have pos := Nat.mul_pos (magnitude_pos least) (Nat.two_pow_pos 149)
  rw [fMul, fValue_of_finite (by omega), fValue_one]
  simp only [Bool.bne_false]
  rw [if_neg (by omega), fRound_magnitude least most rfl]

theorem fDiv_one (least : 1 ≤ expo w) (most : expo w ≤ 254) : fDiv w 0x3F800000 = (w, {}) := by
  have pos := magnitude_pos least
  have one := Nat.two_pow_pos 149
  have value := fRound_magnitude (k := 0) least most rfl
  rw [Nat.pow_zero, Nat.mul_one] at value
  rw [fDiv, fValue_of_finite (by omega), fValue_one]
  simp only [Bool.bne_false]
  rw [if_neg (by omega), if_neg (by omega), value]

/-! ## Conversions -/

theorem floatWord_value {neg : Bool} {e q : Nat} (least : 1 ≤ e) (most : e ≤ 254) (low : 2 ^ 23 ≤ q) (high : q < 2 ^ 24) :
    fValue (floatWord neg e q) = .fin neg (q * 2 ^ (e - 1)) := by
  obtain ⟨w, hw⟩ : ∃ w, w = floatWord neg e q := ⟨_, rfl⟩
  have bits : w.toNat = (if neg then 2 ^ 31 else 0) + e * 2 ^ 23 + (q - 2 ^ 23) := by
    rw [hw, floatWord, BitVec.toNat_ofNat]
    apply Nat.mod_eq_of_lt
    split_ifs <;> omega
  have exponent : expo w = e := by
    rw [expo, bits]
    split_ifs <;> omega
  have fraction : frac w = q - 2 ^ 23 := by
    rw [frac, bits]
    split_ifs <;> omega
  have sign : minus w = neg := by
    have fields := toNat_eq_fields w
    rw [bits, exponent, fraction] at fields
    cases neg <;> cases sign : minus w <;> simp [sign] at fields ⊢
  rw [← hw, fValue_of_finite (by omega), sign, magnitude_of_normal (by omega), exponent, fraction,
    Nat.add_sub_cancel' low]

/-- A number of at most 24 bits, as significand and exponent. -/
theorem exists_significand {m : Nat} (pos : 0 < m) (small : m ≤ 2 ^ 24) :
    ∃ q i, i ≤ 24 ∧ 2 ^ 23 ≤ q ∧ q < 2 ^ 24 ∧ m * 2 ^ 23 = q * 2 ^ i := by
  by_cases top : m = 2 ^ 24
  · exact ⟨2 ^ 23, 24, by decide, by decide, by decide, by rw [top, Nat.mul_comm]⟩
  · obtain ⟨low, high⟩ := (Nat.log2_eq_iff (Nat.pos_iff_ne_zero.mp pos)).mp rfl
    have bits : Nat.log2 m < 24 := (Nat.log2_lt (Nat.pos_iff_ne_zero.mp pos)).mpr (by omega)
    have split (k : Nat) (hk : k ≤ 24) : 2 ^ k * 2 ^ (24 - k) = 2 ^ 24 := by rw [← Nat.pow_add, Nat.add_sub_cancel' hk]
    refine ⟨m * 2 ^ (23 - Nat.log2 m), Nat.log2 m, by omega, ?_, ?_, ?_⟩
    · calc 2 ^ 23 = 2 ^ Nat.log2 m * 2 ^ (23 - Nat.log2 m) := by rw [← Nat.pow_add, Nat.add_sub_cancel' (by omega)]
        _ ≤ m * 2 ^ (23 - Nat.log2 m) := Nat.mul_le_mul_right _ low
    · calc m * 2 ^ (23 - Nat.log2 m) < 2 ^ (Nat.log2 m + 1) * 2 ^ (23 - Nat.log2 m) :=
            Nat.mul_lt_mul_of_pos_right high (Nat.two_pow_pos _)
        _ = 2 ^ 24 := by rw [← Nat.pow_add, show Nat.log2 m + 1 + (23 - Nat.log2 m) = 24 by omega]
    · rw [Nat.mul_assoc, ← Nat.pow_add, show 23 - Nat.log2 m + Nat.log2 m = 23 by omega]

/-- A signed word of at most 24 bits has an exact float (R70). -/
theorem fValue_fOfInt (nonzero : y ≠ 0) (small : y.toInt.natAbs ≤ 2 ^ 24) :
    fValue (fOfInt y) = .fin (decide (y.toInt < 0)) (y.toInt.natAbs * 2 ^ 149) := by
  have pos : 0 < y.toInt.natAbs := Int.natAbs_pos.mpr (toInt_ne_zero nonzero)
  obtain ⟨q, i, hi, low, high, same⟩ := exists_significand pos small
  have sig := significand_exact (j := 0) low high same
  have place : (i : Int) - (0 : Nat) - (23 : Nat) = ((i + 127 : Nat) : Int) - 150 := by omega
  rw [fOfInt, if_neg nonzero, ← Nat.pow_zero 2, fRound_of_significand (place ▸ sig) (by omega) (by omega),
    floatWord_value (by omega) (by omega) low high]
  have value : q * 2 ^ (i + 127 - 1) = y.toInt.natAbs * 2 ^ 149 := by
    rw [show i + 127 - 1 = i + 126 by omega, Nat.pow_add, ← Nat.mul_assoc, ← same, Nat.mul_assoc, ← Nat.pow_add]
  rw [value]

theorem fSigned_toInt (y : Word) : fSigned (decide (y.toInt < 0)) y.toInt.natAbs = y.toInt := by
  unfold fSigned
  by_cases neg : y.toInt < 0
  · simp only [neg, decide_true, if_true]; omega
  · simp only [neg, decide_false, Bool.false_eq_true, if_false]; omega

/-- A value of an exponent beyond the words is a whole number of at least 2^31, and only -2^31 is not beyond them. -/
theorem magnitude_outside (large : 158 ≤ expo w) :
    ∃ k, magnitude w = k * 2 ^ 149 ∧ 2 ^ 31 ≤ k ∧ (¬ (expo w = 158 ∧ frac w = 0) → 2 ^ 31 < k) := by
  obtain ⟨n, hn⟩ : ∃ n, expo w = 158 + n := ⟨expo w - 158, by omega⟩
  have one := Nat.one_le_two_pow (n := n)
  refine ⟨(2 ^ 23 + frac w) * 2 ^ 8 * 2 ^ n, ?_, ?_, fun other => ?_⟩
  · rw [magnitude_of_normal (by omega), hn, show 158 + n - 1 = 8 + n + 149 by omega, Nat.pow_add, Nat.pow_add,
      Nat.mul_assoc (_ * _) , Nat.mul_assoc, Nat.mul_assoc]
  · calc 2 ^ 31 ≤ (2 ^ 23 + frac w) * 2 ^ 8 := by omega
      _ ≤ (2 ^ 23 + frac w) * 2 ^ 8 * 2 ^ n := Nat.le_mul_of_pos_right _ one
  · by_cases fraction : frac w = 0
    · have two : 2 ≤ 2 ^ n := Nat.le_self_pow (show n ≠ 0 by omega) 2
      rw [fraction]
      omega
    · calc 2 ^ 31 < (2 ^ 23 + frac w) * 2 ^ 8 := by omega
        _ ≤ (2 ^ 23 + frac w) * 2 ^ 8 * 2 ^ n := Nat.le_mul_of_pos_right _ one

section

variable {round : Nat → Nat} (exactly : ∀ m, round (m * 2 ^ 149) = m)

include exactly

/-- A conversion to float and back leaves a word of at most 24 bits. -/
theorem fToInt_fOfInt (small : y.toInt.natAbs ≤ 2 ^ 24) : fToInt round (fOfInt y) = (y, {}) := by
  by_cases zero : y = 0
  · have value := exactly 0
    rw [Nat.zero_mul] at value
    rw [zero, fOfInt, if_pos rfl, fToInt, fValue_zero]
    dsimp only
    rw [value]
    rfl
  · rw [fToInt, fValue_fOfInt zero small]
    dsimp only
    rw [exactly, fSigned_toInt, fRange, satSigned_eq_limited, toInt_limited]

/-- A value beyond the signed words saturates (R70). -/
theorem fToInt_outside (large : 158 ≤ expo y) (number : ¬ IsNaN y) (least : y ≠ 0xCF000000) :
    fToInt round y = (if minus y then 0x80000000 else 0x7FFFFFFF, { ov := true }) := by
  obtain finite | inf | nan := word_kind y
  · obtain ⟨k, whole, big, beyond⟩ := magnitude_outside large
    rw [fToInt, fValue_of_finite finite]
    dsimp only
    rw [whole, exactly, fRange, satSigned_eq_limited, fSigned]
    cases sign : minus y with
    | false => exact limited_of_above (by decide) (by simp only [Bool.false_eq_true, if_false]; omega)
    | true =>
      have more := beyond fun ⟨exponent, fraction⟩ => least (BitVec.eq_of_toNat_eq (by
        rw [toNat_eq_fields y, sign, exponent, fraction]; rfl))
      exact limited_of_below (by decide) (by simp only [if_true]; omega)
  · rw [fToInt, fValue_of_isInf inf]
  · exact absurd nan number

end

theorem fToInt_of_nan {round : Nat → Nat} (h : IsNaN y) : fToInt round y = (0, { uf := true }) := by
  rw [fToInt, fValue_of_isNaN h]

theorem roundEven_mul (m : Nat) : roundEven (m * 2 ^ 149) = m := divEven_mul m (Nat.two_pow_pos 149)

theorem roundZero_mul (m : Nat) : roundZero (m * 2 ^ 149) = m := Nat.mul_div_cancel m (Nat.two_pow_pos 149)

/-- Settles O14: the conversions round whole numbers to themselves, and rounding keeps a normal value. -/
theorem floatConversion : Obligations.FloatConversion := by
  refine ⟨fun s p r => ?_, fun w least most => ⟨fAdd_zero least most, fSub_zero least most, fMul_one least most,
    fDiv_one least most⟩⟩
  intro y
  have fti {w : Flagged} (makes : fToInt roundEven y = w) : Computes (.opFti p) s p 2 w.1 w.2 :=
    computes_of_wordOp (f := fun _ b => fToInt roundEven b) r rfl makes
  have ftit {w : Flagged} (makes : fToInt roundZero y = w) : Computes (.opFtit p) s p 2 w.1 w.2 :=
    computes_of_wordOp (f := fun _ b => fToInt roundZero b) r rfl makes
  refine ⟨?_, fti rfl, ftit rfl, fun small => ?_, fun nan => ⟨?_, ?_⟩, fun large number least => ⟨?_, ?_⟩⟩
  · exact computes_of_wordOp (f := fun _ b => (fOfInt b, {})) r rfl rfl
  · have bits : y.toInt.natAbs ≤ 2 ^ 24 := by
      rw [Int.abs_eq_natAbs] at small
      exact_mod_cast small
    exact ⟨fToInt_fOfInt roundEven_mul bits, fToInt_fOfInt roundZero_mul bits⟩
  · exact fti (fToInt_of_nan nan)
  · exact ftit (fToInt_of_nan nan)
  · exact fti (fToInt_outside roundEven_mul large number least)
  · exact ftit (fToInt_outside roundZero_mul large number least)

end Sys2Proof.Machine
end

section
/-! SUPPORT. The safety matrix: one cause in an evaluation, and its place in the tick (R104, R105, R108, R110). -/

namespace Sys2Proof.Machine

open Sys2Proof Sys2Proof.Stated

variable {s : State} {n : Nat} {c : Cause}

theorem filter_zipWith_length {α β : Type} (f : α → β → Bool) (xs : List α) (ys : List β) :
    ((List.zipWith f xs ys).filter (fun b => b)).length = ((List.zip xs ys).filter (fun x => f x.1 x.2)).length := by
  rw [← List.map_uncurry_zip_eq_zipWith, List.filter_map, List.length_map]
  rfl

/-- The states that the inputs of a cause keep for the next evaluation (R104, R105). -/
def State.keptInputs (s : State) (n : Nat) (c : Cause) : List Bool :=
  let r := s.causeRt n
  List.zipWith (s.inputKept c) c.inputs [r.input0, r.input1, r.input2]

/-- An evaluation writes the new count and trip of its cause beside the input states that it keeps, and counts a new trip
(R105, R108 step 1). -/
theorem State.evalCause_writes : s.evalCause n c =
    let kept := s.keptInputs n c
    let u := s.setCauseRt n { s.causeRt n with
      input0 := kept.getD 0 false, input1 := kept.getD 1 false, input2 := kept.getD 2 false
      count := voteCount s n c, tripped := decide (c.delay < voteCount s n c) }
    if c.delay < voteCount s n c ∧ (s.causeRt n).tripped = false then u.count 0x213011 else u := by
  have votes := filter_zipWith_length (s.inputState c) c.inputs
    [(s.causeRt n).input0, (s.causeRt n).input1, (s.causeRt n).input2]
  simp only [State.evalCause, votes, decide_eq_true_eq, Nat.succ_le_iff, Bool.and_eq_true, Bool.not_eq_true']
  rfl

theorem State.evalCause_early : (s.evalCause n c).mtx.early = s.mtx.early := by
  rw [State.evalCause_writes]
  dsimp only
  split <;> rfl

theorem State.evalCause_tickNo : (s.evalCause n c).tickNo = s.tickNo := by
  rw [State.evalCause_writes]
  dsimp only
  split
  · exact State.reg_setReg_other _ _ _ _ (by decide)
  · rfl

/-- Cause `n` is evaluated in tick `now`, ahead of the others; marks of other ticks are past. -/
def State.markEarly (s : State) (now n : Nat) : State :=
  { s with mtx := { s.mtx with early := s.mtx.early.filter (fun x => x.1 == now) ++ [(now, n)] } }

theorem State.causeDone_markEarly : (s.markEarly s.tickNo n).causeDone n = true := by
  have marked : (s.tickNo, n) ∈ (s.markEarly s.tickNo n).mtx.early := by simp [State.markEarly]
  rw [State.causeDone, Bool.or_eq_true]
  exact .inr (List.contains_iff_mem.mpr marked)

/-- A cause that is still to be judged in its tick is evaluated, and is marked as judged. -/
theorem execCauseTrip_due {m : Matrix} (active : s.mtx.active = some m) (cause : m.causes[n]? = some c)
    (runs : s.mtx.stopped = false) (run : s.running = true) (due : s.causeDone n = false) :
    execCauseTrip n s = .next ((s.evalCause n c).markEarly s.tickNo n) := by
  simp [execCauseTrip, active, cause, runs, run, due, State.markEarly]

/-- Nothing is evaluated where no matrix is active, where the pair is stopped or no tick runs, or a second time. -/
theorem execCauseTrip_idle (h : s.mtx.active = none ∨ s.mtx.stopped = true ∨ s.running = false ∨ s.causeDone n = true) :
    execCauseTrip n s = .next s := by
  unfold execCauseTrip
  split
  next m active =>
    split
    next c cause =>
      have skip : (s.mtx.stopped || !s.running || s.causeDone n) = true := by
        rcases h with h | h | h | h
        · simp [active] at h
        all_goals simp [h]
      rw [if_pos skip]
    next => rfl
  next => rfl

theorem execCauseTrip_absent {m : Matrix} (active : s.mtx.active = some m) (absent : m.causes[n]? = none) :
    execCauseTrip n s = .next s := by
  simp [execCauseTrip, active, absent]

/-- Settles O27: a cause by what one evaluation writes of it, and a bypass by its count. -/
theorem matrixEvents : Obligations.MatrixEvents := by
  refine fun s n m c => ⟨fun active cause runs run due => ?_, execCauseTrip_idle, execCauseTrip_absent, fun ended => ?_,
    fun lasts => ?_⟩
  · let kept := s.keptInputs n c
    refine ⟨kept.getD 0 false, kept.getD 1 false, kept.getD 2 false, ?_⟩
    have marks : (s.evalCause n c).markEarly s.tickNo n = { s.evalCause n c with mtx := { (s.evalCause n c).mtx with
        early := s.mtx.early.filter (fun x => x.1 == s.tickNo) ++ [(s.tickNo, n)] } } := by
      rw [State.markEarly, State.evalCause_early]
    have done := State.causeDone_markEarly (s := s.evalCause n c) (n := n)
    have trip := execCauseTrip_due active cause runs run due
    rw [State.evalCause_tickNo, marks, State.evalCause_writes] at done
    rw [marks, State.evalCause_writes] at trip
    exact ⟨trip, done⟩
  · simp [exec, execBypassExpiry, State.endBypass, ended]
  · simp [exec, execBypassExpiry, State.endBypass, lasts]

end Sys2Proof.Machine
end

section
/-! SUPPORT. What the operations beside the pair leave of it. -/

namespace Sys2Proof.Machine

open Sys2Proof Sys2Proof.Stated

variable {s : State}

/-- The entries of the pair and the tie link. -/
def pairEntries (regs : Sparse Nat) (i : Fin 0x2100) : Nat :=
  Sparse.get (defaultOf (0x250000 + i)) regs (0x250000 + i)

/-- What the operations that are not about the pair leave: what the unit keeps of the pair, the data memory, the engines,
and the entries of the pair. -/
structure PairCore where
  pair    : PairState
  mem     : Sparse Byte
  engines : Sparse Engine
  entries : Fin 0x2100 → Nat

def State.pairCore (s : State) : PairCore := ⟨s.pair, s.mem, s.engines, pairEntries s.regs⟩

@[simp] theorem State.frame_pairCore {blobs tasks tick img mtx loops chain ost dig ana time keep can open_ sent dict
    book panel rst fuse out free pending} :
    State.pairCore { s with
      blobs := blobs, tasks := tasks, tick := tick, img := img, mtx := mtx, loops := loops, chain := chain, ost := ost
      dig := dig, ana := ana, time := time, keep := keep, can := can, open_ := open_, sent := sent, dict := dict
      book := book, panel := panel, rst := rst, fuse := fuse, out := out, free := free, pending := pending } =
    s.pairCore :=
  (rfl)

theorem pairEntries_set {d k v : Nat} {m : Sparse Nat} (h : k / 256 < 0x2500 ∨ 0x2520 < k / 256) :
    pairEntries (Sparse.set d m k v) = pairEntries m := by
  funext i
  exact Sparse.get_set_other _ _ _ _ _ _ fun e => by omega

@[simp] theorem State.setReg_pairCore {k v : Nat} (h : k / 256 < 0x2500 ∨ 0x2520 < k / 256) :
    (s.setReg k v).pairCore = s.pairCore := by
  unfold State.pairCore
  rw [State.setReg_regs, pairEntries_set h]
  rfl

@[simp] theorem State.ite_pairCore {c : Prop} {d : Decidable c} {s t : State} :
    (if c then s else t).pairCore = if c then s.pairCore else t.pairCore := apply_ite ..

/-- What every step of a list keeps, the list keeps. -/
theorem State.each_keeps {α β : Type} (field : State → β) {xs : List α} {f : State → α → State}
    (h : ∀ t, ∀ x ∈ xs, field (f t x) = field t) : field (s.each xs f) = field s :=
  List.foldlRecOn (motive := fun t => field t = field s) xs f rfl fun t ht x hx => (h t x hx).trans ht

theorem State.each_pairCore {α : Type} {xs : List α} {f : State → α → State}
    (h : ∀ t, ∀ x ∈ xs, (f t x).pairCore = t.pairCore) : (s.each xs f).pairCore = s.pairCore :=
  State.each_keeps State.pairCore h

@[simp] theorem State.setRegI_pairCore {k v} (h : k / 256 < 0x2500 ∨ 0x2520 < k / 256) :
    (s.setRegI k v).pairCore = s.pairCore :=
  State.setReg_pairCore h

@[simp] theorem State.setBit_pairCore {k n v} (h : k / 256 < 0x2500 ∨ 0x2520 < k / 256) :
    (s.setBit k n v).pairCore = s.pairCore :=
  State.setReg_pairCore h

@[simp] theorem State.countBy_pairCore {k n} (h : k / 256 < 0x2500 ∨ 0x2520 < k / 256) :
    (s.countBy k n).pairCore = s.pairCore :=
  State.setReg_pairCore h

@[simp] theorem State.count_pairCore {k} (h : k / 256 < 0x2500 ∨ 0x2520 < k / 256) :
    (s.count k).pairCore = s.pairCore :=
  State.setReg_pairCore h

@[simp] theorem State.maxReg_pairCore {k v} (h : k / 256 < 0x2500 ∨ 0x2520 < k / 256) :
    (s.maxReg k v).pairCore = s.pairCore := by
  simp [State.maxReg, h]

@[simp] theorem State.emit_pairCore {e} : (s.emit e).pairCore = s.pairCore := (rfl)

@[simp] theorem State.setCause_pairCore {g n} : (s.setCause g n).pairCore = s.pairCore := by
  have key : 0x2520 < keyOf (0x2F40 + g) 1 / 256 := by unfold keyOf; omega
  unfold State.setCause
  dsimp only
  rw [State.ite_pairCore, State.emit_pairCore, ite_self, State.frame_pairCore, State.setReg_pairCore (.inr key)]

@[simp] theorem State.causeIf_pairCore {c g n} : (s.causeIf c g n).pairCore = s.pairCore := by
  unfold State.causeIf
  simp

@[simp] theorem State.recordError_pairCore {c p q} : (s.recordError c p q).pairCore = s.pairCore := by
  unfold State.recordError
  split
  · dsimp only
    split <;> simp [↓State.frame_pairCore]
  · rfl

@[simp] theorem State.setMode_pairCore {m} : (s.setMode m).pairCore = s.pairCore := by
  unfold State.setMode
  simp

@[simp] theorem State.sendReply_pairCore {r} : (s.sendReply r).pairCore = s.pairCore := by
  unfold State.sendReply
  split <;> simp

@[simp] theorem State.answer_pairCore {r} : (s.answer r).pairCore = s.pairCore := by
  unfold State.answer
  split <;> simp

@[simp] theorem State.hartPlace_pairCore {r} : (s.hartPlace r).pairCore = s.pairCore := by
  unfold State.hartPlace
  simp

@[simp] theorem State.setArt_pairCore {n r} : (s.setArt n r).pairCore = s.pairCore := (rfl)

@[simp] theorem State.hartFlush_pairCore {n} : (s.hartFlush n).pairCore = s.pairCore :=
  (State.each_pairCore (by simp)).trans rfl

@[simp] theorem State.hartStop_pairCore {n h} : (s.hartStop n h).pairCore = s.pairCore := by
  unfold State.hartStop
  simp

@[simp] theorem State.hartLeave_pairCore : s.hartLeave.pairCore = s.pairCore := State.each_pairCore (by simp)

@[simp] theorem State.abortExchange_pairCore {r} : (s.abortExchange r).pairCore = s.pairCore := by
  unfold State.abortExchange
  simp

@[simp] theorem State.setCrt_pairCore {c r} : (s.setCrt c r).pairCore = s.pairCore := (rfl)

@[simp] theorem State.setSrt_pairCore {c r} : (s.setSrt c r).pairCore = s.pairCore := (rfl)

@[simp] theorem State.setLrt_pairCore {c r} : (s.setLrt c r).pairCore = s.pairCore := (rfl)

@[simp] theorem State.busesLeave_pairCore : s.busesLeave.pairCore = s.pairCore :=
  (State.each_pairCore (by simp)).trans (State.each_pairCore (by simp))

@[simp] theorem State.busesStop_pairCore : s.busesStop.pairCore = s.pairCore :=
  (State.each_pairCore (by simp)).trans (State.each_pairCore (by simp))

@[simp] theorem State.loopsForceOff_pairCore : s.loopsForceOff.pairCore = s.pairCore :=
  State.each_pairCore fun t n h => by
    have : n < 128 := List.mem_range.mp h
    have key (i : Nat) (hi : i < 256) : lb n i / 256 < 0x2500 := by unfold lb keyOf; omega
    simp [key]

@[simp] theorem State.endRun_pairCore : s.endRun.pairCore = s.pairCore := by
  unfold State.endRun
  simp

@[simp] theorem State.stopModule_pairCore : s.stopModule.pairCore = s.pairCore := by
  unfold State.stopModule
  simp

@[simp] theorem State.recordHalt_pairCore {c t p} : (s.recordHalt c t p).pairCore = s.pairCore := by
  unfold State.recordHalt
  simp

@[simp] theorem State.halt_pairCore {c t p} : (s.halt c t p).pairCore = s.pairCore := by
  unfold State.halt
  simp

@[simp] theorem State.refreshBudget_pairCore : s.refreshBudget.pairCore = s.pairCore := by
  unfold State.refreshBudget
  extract_lets b cur v s1 s2
  have h1 : s1.pairCore = s.pairCore := by simp [s1]
  have h2 : s2.pairCore = s.pairCore := by simp [s2, h1]
  split
  · exact h2
  · simp [h2]

@[simp] theorem State.refreshCapacity_pairCore : s.refreshCapacity.pairCore = s.pairCore := by
  unfold State.refreshCapacity
  have loads (t : State) :
      (t.each (List.range 15) fun u p => u.setReg (keyOf 0x2102 (2 + p)) (s.image.pairLoad p)).pairCore = t.pairCore :=
    State.each_pairCore fun u p h => State.setReg_pairCore (by have := List.mem_range.mp h; unfold keyOf; omega)
  simp [loads]

@[simp] theorem State.showMatrix_pairCore : s.showMatrix.pairCore = s.pairCore := by
  unfold State.showMatrix
  simp

@[simp] theorem State.refresh_pairCore : s.refresh.pairCore = s.pairCore := by
  unfold State.refresh
  simp

@[simp] theorem State.activateMatrix_pairCore {m} : (s.activateMatrix m).pairCore = s.pairCore := by
  unfold State.activateMatrix
  simp

@[simp] theorem State.setBank_pairCore {n b} : (s.setBank n b).pairCore = s.pairCore := by
  unfold State.setBank
  simp

@[simp] theorem State.showBank_pairCore {n b} : (s.showBank n b).pairCore = s.pairCore := by
  unfold State.showBank
  simp

@[simp] theorem State.emptyBank_pairCore {n} : (s.emptyBank n).pairCore = s.pairCore := by
  unfold State.emptyBank
  dsimp only
  split
  · split <;> simp
  · simp

@[simp] theorem State.showImage_pairCore : s.showImage.pairCore = s.pairCore := by
  unfold State.showImage
  extract_lets m x e s1 s2 s3
  have tasks : s2.pairCore = s1.pairCore := State.each_pairCore fun t k h => by
    have : k < 16 := List.mem_range.mp h
    have key (i : Nat) (hi : i < 256) : keyOf (0x2110 + k) i / 256 < 0x2500 := by unfold keyOf; omega
    split
    · simp [key]
    · simp [key]
  simp [s3, tasks, s1]

@[simp] theorem State.makeActive_pairCore {n} : (s.makeActive n).pairCore = s.pairCore := by
  unfold State.makeActive
  simp

@[simp] theorem State.setTu_pairCore {v} : (s.setTu v).pairCore = s.pairCore := by
  unfold State.setTu
  simp

@[simp] theorem State.applyRate_pairCore : s.applyRate.pairCore = s.pairCore := by
  unfold State.applyRate
  simp

@[simp] theorem State.setServo_pairCore {v} : (s.setServo v).pairCore = s.pairCore := by
  unfold State.setServo
  simp

@[simp] theorem State.applyStep_pairCore {v} : (s.applyStep v).pairCore = s.pairCore := by
  unfold State.applyStep
  simp

@[simp] theorem State.holdStep_pairCore {v} : (s.holdStep v).pairCore = s.pairCore := (rfl)

@[simp] theorem State.slew_pairCore : s.slew.pairCore = s.pairCore := by
  unfold State.slew
  simp [State.draw]

@[simp] theorem State.acquire_pairCore {v} : (s.acquire v).pairCore = s.pairCore := by
  unfold State.acquire
  simp

@[simp] theorem State.keepLock_pairCore {v} : (s.keepLock v).pairCore = s.pairCore := by
  unfold State.keepLock
  simp

@[simp] theorem State.showOffset_pairCore {v} : (s.showOffset v).pairCore = s.pairCore := by
  unfold State.showOffset
  simp

@[simp] theorem State.firstMeasure_pairCore {v} : (s.firstMeasure v).pairCore = s.pairCore := by
  unfold State.firstMeasure
  simp

@[simp] theorem State.setBookRt_pairCore {c r} : (s.setBookRt c r).pairCore = s.pairCore := (rfl)

@[simp] theorem State.setLive_pairCore {c r} : (s.setLive c r).pairCore = s.pairCore := (rfl)

@[simp] theorem State.requestCommit_pairCore {c} : (s.requestCommit c).pairCore = s.pairCore := by
  unfold State.requestCommit
  simp

@[simp] theorem State.takeSample_pairCore {c v} : (s.takeSample c v).pairCore = s.pairCore := by
  unfold State.takeSample
  simp

@[simp] theorem State.sampleBook_pairCore {c v} : (s.sampleBook c v).pairCore = s.pairCore := by
  unfold State.sampleBook
  simp

@[simp] theorem State.measure_pairCore {v} : (s.measure v).pairCore = s.pairCore := by
  unfold State.measure
  simp

end Sys2Proof.Machine
end


section
/-! SUPPORT. Writes of chapters 2 to 6 as a closing point applies them: which operation a key reaches, and what the module
state, the banks and the status words are after it. -/

namespace Sys2Proof.Machine

open Sys2Proof Sys2Proof.Stated

variable {s t : State} {p : Path}

/-! ## Registers and module states -/

theorem State.mem_of_pairCore (h : t.pairCore = s.pairCore) : t.mem = s.mem := congrArg PairCore.mem h
theorem State.engines_of_pairCore (h : t.pairCore = s.pairCore) : t.engines = s.engines := congrArg PairCore.engines h

theorem State.only_setCause_of_mem {ks : List Nat} {g n : Nat} (h : causeOf g ∈ ks) : Only ks s (s.setCause g n) :=
  fun _ hk => State.reg_setCause_other fun e => hk (e ▸ h)

theorem State.cause_setCause {g n : Nat} (h : n < entryBits (causeOf g)) :
    ((s.setCause g n).reg (causeOf g)).testBit n = true := by
  rw [State.reg_setCause, State.testBit_reg_setBit _ _ _ h, if_pos rfl]

theorem State.reg_causeIf_other {c : Bool} {g n k : Nat} (h : k ≠ causeOf g) : (s.causeIf c g n).reg k = s.reg k := by
  unfold State.causeIf
  split
  · exact State.reg_setCause_other h
  · rfl

theorem State.mode_setMode {m : Nat} (h : m < 256) : (s.setMode m).mode = m := by
  have bits : entryBits 0x210001 = 8 := by decide +kernel
  unfold State.setMode
  split
  next e => exact e
  next =>
    rw [State.mode, State.reg_causeIf_other (by decide), State.reg_causeIf_other (by decide),
      State.reg_setCause_other (by decide), State.reg_setReg_same, fit_of_lt (by rw [bits]; exact h)]

theorem State.mode_setReg {k v : Nat} (h : 0x210001 ≠ k) : (s.setReg k v).mode = s.mode := s.reg_setReg_other k _ v h
theorem State.mode_setCause {g n : Nat} (h : 0x210001 ≠ causeOf g) : (s.setCause g n).mode = s.mode :=
  State.reg_setCause_other h

theorem State.mode_stopModule : s.stopModule.mode = stStopped := State.mode_setMode (by decide)
theorem State.mode_enterRun : s.enterRun.mode = stRun := State.mode_setMode (by decide)

theorem ite_le_of_le {c : Prop} {d : Decidable c} {a b n : Nat} (ha : a ≤ n) (hb : b ≤ n) :
    (if c then a else b) ≤ n := by
  split <;> assumption

theorem State.runRefusal_le : s.runRefusal ≤ 6 :=
  ite_le_of_le (by decide) (ite_le_of_le (by decide) (ite_le_of_le (by decide) (ite_le_of_le (by decide)
    (ite_le_of_le (by decide) (ite_le_of_le (by decide) (by decide))))))

theorem State.exchangeRefusal_le : s.exchangeRefusal ≤ 16 :=
  ite_le_of_le (by decide) (ite_le_of_le (by decide) (ite_le_of_le (by decide) (ite_le_of_le (by decide)
    (ite_le_of_le (by decide) (ite_le_of_le (by decide) (ite_le_of_le (by decide) (ite_le_of_le (by decide)
      (by decide))))))))

/-! ## Numbers -/

theorem and_parity (x m : Nat) : (x &&& m) % 2 = (x % 2) * (m % 2) := by
  rw [Nat.and_mod_two_pow (n := 1)]
  rcases Nat.mod_two_eq_zero_or_one x with h | h <;> rcases Nat.mod_two_eq_zero_or_one m with h' | h' <;> simp [h, h']

theorem sub_and_mod (x m : Nat) : (x - (x &&& m)) % 2 = (x % 2) * (1 - m % 2) ∧
    (x - (x &&& m)) / 2 = x / 2 - (x / 2 &&& m / 2) := by
  have parity := and_parity x m
  have half := Nat.and_div_two (a := x) (b := m)
  have le := Nat.and_le_left (n := x) (m := m)
  rcases Nat.mod_two_eq_zero_or_one m with h | h <;> rw [h] at parity ⊢ <;> omega

/-- A write of 1 clears the bits that it names. -/
theorem testBit_sub_and (x m b : Nat) : (x - (x &&& m)).testBit b = (x.testBit b && !m.testBit b) := by
  induction b generalizing x m with
  | zero =>
    have parity := (sub_and_mod x m).1
    simp only [Nat.testBit_zero, parity]
    rcases Nat.mod_two_eq_zero_or_one x with h | h <;> rcases Nat.mod_two_eq_zero_or_one m with h' | h' <;> simp [h, h']
  | succ b ih =>
    rw [Nat.testBit_add_one, (sub_and_mod x m).2, ih, Nat.testBit_add_one, Nat.testBit_add_one]

theorem leNat_leBytes (n v : Nat) : leNat (leBytes n v) = v % 256 ^ n := by
  induction n generalizing v with
  | zero => simp [leBytes, leNat, Nat.mod_one]
  | succ n ih =>
    rw [leBytes, leNat, ih, BitVec.toNat_ofNat, Nat.pow_succ' (n := n), Nat.mod_mul (x := v) (a := 256)]

/-! ## Which operation a write reaches -/

theorem applied_of_writes {c : Instr} {k : Nat} {d : List Byte} (h : writes c = some (p, k, d)) :
    Applied c s t ↔ t = s.applyEntry { path := p, key := k, data := d } := by
  simp [Applied, h]

theorem State.dictApply_none {k d} (lo : 0x210003 ≤ k) (hi : k < 0x280000) (load : k ≠ 0x220001) :
    s.dictApply { path := p, key := k, data := d } = none := by
  have tree : (between 0x2F41 (k / 256) 0x2F4F || k == rk 1) = false := by
    simp [between, rk, keyOf]
    omega
  unfold State.dictApply
  dsimp only
  rw [if_neg (by omega), if_neg (by omega), if_neg (by omega), tree, if_neg Bool.false_ne_true]
  repeat rw [if_neg (by omega)]

theorem State.resetApply_none {k d} (hi : k < 0x280000) : s.resetApply p k d = none := by
  unfold State.resetApply
  dsimp only
  repeat rw [if_neg (by omega)]

theorem State.digitalApply_none {k v} (hi : k < 0x280000) : s.digitalApply k v = none := by
  unfold State.digitalApply
  dsimp only
  repeat rw [if_neg (by omega)]

theorem State.analogApply_none {k d} (hi : k < 0x280000) : s.analogApply k d = none := by
  unfold State.analogApply
  dsimp only
  repeat rw [if_neg (by omega)]

theorem State.busApply_none {k v} (hi : k < 0x280000) : s.busApply k v = none := by
  unfold State.busApply
  dsimp only
  repeat rw [if_neg (by omega)]

theorem State.bookApply_none {k d} (hi : k < 0x280000) : s.bookApply k d = none := by
  unfold State.bookApply
  repeat rw [if_neg (by omega)]

theorem State.timeApply_none {k v} (hi : k < 0x280000) : s.timeApply k v = none := by
  unfold State.timeApply
  dsimp only
  repeat rw [if_neg (by omega)]

theorem State.keeperApply_none {k d} (hi : k < 0x280000) : s.keeperApply k d = none := by
  have chapter : between 0x2B00 (k / 256) 0x2BFF = false := by simp [between]; omega
  have wake : k ≠ ks 1 := by unfold ks keyOf; omega
  unfold State.keeperApply
  dsimp only
  rw [chapter, Bool.false_and, if_neg Bool.false_ne_true]
  repeat rw [if_neg (by omega)]

theorem State.panelApply_none {k d o} (hi : k < 0x280000) : s.panelApply k d o = none := by
  unfold State.panelApply
  dsimp only
  repeat rw [if_neg (by omega)]

theorem State.applyEntry_of_dictApply {k d} (own : k < 0x300000)
    (h : s.dictApply { path := p, key := k, data := d } = some t) :
    s.applyEntry { path := p, key := k, data := d } = if shapesBudget k then t.refresh else t := by
  have range : between 0x3000 (k / 256) 0x5FFF = false := by simp [between]; omega
  unfold State.applyEntry
  dsimp only
  rw [range, if_neg Bool.false_ne_true, h]
  simp

/-- An entry of chapters 2 to 6 reaches the matrix, the loops, the exchange or the pair, or takes its value. -/
theorem State.applyEntry_chapters {k d} (lo : 0x210003 ≤ k) (hi : k < 0x280000) (load : k ≠ 0x220001) :
    s.applyEntry { path := p, key := k, data := d } =
      let t := (s.matrixApply k d <|> s.loopApply k (leNat d) <|> s.imageApply k (leNat d) <|>
        s.pairApply k (leNat d)).getD (s.putEntry k d)
      if shapesBudget k then t.refresh else t := by
  have range : between 0x3000 (k / 256) 0x5FFF = false := by simp [between]; omega
  unfold State.applyEntry
  dsimp only
  rw [range, if_neg Bool.false_ne_true, State.dictApply_none lo hi load, State.resetApply_none hi,
    State.digitalApply_none hi, State.analogApply_none hi, State.busApply_none hi, State.bookApply_none hi,
    State.timeApply_none hi, State.keeperApply_none hi, State.panelApply_none hi]
  simp

theorem State.matrixApply_none {k d} (h : 0x213001 ≠ k) (h' : 0x21300A ≠ k) (h'' : 0x21300B ≠ k) :
    s.matrixApply k d = none := by
  unfold State.matrixApply
  rw [if_neg h.symm, if_neg h'.symm, if_neg h''.symm]

theorem State.loopApply_none {k v} (h : k / 256 < 0x2400 ∨ 0x247F < k / 256) : s.loopApply k v = none := by
  unfold State.loopApply
  exact if_neg (by omega)

theorem State.applyEntry_stateCommand {d} :
    s.applyEntry { path := p, key := 0x210002, data := d } = s.stateCommand p (leNat d) := by
  have shape : shapesBudget 0x210002 = false := by decide +kernel
  rw [State.applyEntry_of_dictApply (t := s.stateCommand p (leNat d)) (by decide)]
  · exact if_neg (by rw [shape]; decide)
  · unfold State.dictApply
    dsimp only
    rw [if_neg (by decide), if_neg (by decide), if_pos rfl]

theorem State.applyEntry_download {d} : s.applyEntry { path := p, key := 0x220001, data := d } = s.startDownload d := by
  have shape : shapesBudget 0x220001 = false := by decide +kernel
  rw [State.applyEntry_of_dictApply (t := s.startDownload d) (by decide)]
  · exact if_neg (by rw [shape]; decide)
  · unfold State.dictApply
    dsimp only
    rw [if_neg (by decide), if_neg (by decide), if_neg (by decide), if_neg (by decide), if_neg (by decide),
      if_neg (by decide), if_pos rfl]

theorem State.applyEntry_matrix {k d} (h : s.matrixApply k d = some t) (lo : 0x213000 ≤ k) (hi : k < 0x220000) :
    s.applyEntry { path := p, key := k, data := d } = if shapesBudget k then t.refresh else t := by
  rw [State.applyEntry_chapters (by omega) (by omega) (by omega)]
  dsimp only
  rw [h]
  simp

theorem State.applyEntry_matrixWritten {d} :
    s.applyEntry { path := p, key := 0x213001, data := d } = (s.matrixWritten d).refresh := by
  have shape : shapesBudget 0x213001 = true := by decide +kernel
  rw [State.applyEntry_matrix (if_pos rfl) (by decide) (by decide), if_pos shape]

theorem State.applyEntry_resetEffect {d} : s.applyEntry { path := p, key := 0x21300A, data := d } =
    if s.resetOk (leNat d) then { s with mtx := { s.mtx with resets := s.mtx.resets ++ [leNat d] } }
    else s.count 0x21300C := by
  have shape : shapesBudget 0x21300A = false := by decide +kernel
  rw [State.applyEntry_matrix ((if_neg (by decide)).trans (if_pos rfl)) (by decide) (by decide), shape]
  exact if_neg Bool.false_ne_true

theorem State.applyEntry_bypass {d} : s.applyEntry { path := p, key := 0x21300B, data := d } =
    if s.bypassOk d then s.setCauseRt (field d 0 2) { s.causeRt (field d 0 2) with
      bypass := if field d 4 4 = 0 then none else some (field d 4 4) } else s.count 0x21300C := by
  have shape : shapesBudget 0x21300B = false := by decide +kernel
  rw [State.applyEntry_matrix ((if_neg (by decide)).trans ((if_neg (by decide)).trans (if_pos rfl))) (by decide) (by decide),
    shape]
  exact if_neg Bool.false_ne_true

theorem State.applyEntry_exchange {d} : s.applyEntry { path := p, key := 0x220101, data := d } =
    if s.exchangeCommandRefusal (leNat d) = 0 then s.exchangeCommand (leNat d)
    else s.setReg 0x220103 (s.exchangeCommandRefusal (leNat d)) := by
  have shape : shapesBudget 0x220101 = false := by decide +kernel
  rw [State.applyEntry_chapters (by decide) (by decide) (by decide)]
  dsimp only
  rw [State.matrixApply_none (by decide) (by decide) (by decide), State.loopApply_none (by decide), shape,
    if_neg Bool.false_ne_true, State.imageApply, if_pos rfl]
  rfl

theorem State.applyEntry_pairCommand {d} : s.applyEntry { path := p, key := 0x250112, data := d } =
    s.pairCommand (leNat d) := by
  have shape : shapesBudget 0x250112 = false := by decide +kernel
  rw [State.applyEntry_chapters (by decide) (by decide) (by decide)]
  dsimp only
  rw [State.matrixApply_none (by decide) (by decide) (by decide), State.loopApply_none (by decide), shape,
    if_neg Bool.false_ne_true, State.imageApply, if_neg (by decide), State.pairApply, if_pos (by decide)]
  rfl

/-! ## What the operations leave -/

@[simp] theorem State.setCause_mtx {g n} : (s.setCause g n).mtx = s.mtx := by
  unfold State.setCause
  dsimp only
  split <;> rfl

@[simp] theorem State.setCause_img {g n} : (s.setCause g n).img = s.img := by
  unfold State.setCause
  dsimp only
  split <;> rfl

theorem State.refreshBudget_mtx : s.refreshBudget.mtx = s.mtx := by
  unfold State.refreshBudget
  extract_lets b cur v s1 s2
  split
  · rfl
  · exact State.setCause_mtx

theorem State.refreshCapacity_mtx : s.refreshCapacity.mtx = s.mtx := by
  unfold State.refreshCapacity
  extract_lets v s1
  have loads : s1.mtx = s.mtx := State.each_field State.mtx fun t k => t.setReg_mtx _ _
  rw [State.setReg_mtx, State.setReg_mtx, loads]

theorem State.refresh_mtx : s.refresh.mtx = s.mtx := by
  simp only [State.refresh, State.showMatrix, State.setReg_mtx, State.refreshCapacity_mtx, State.refreshBudget_mtx]

theorem State.reg_refreshBudget {k : Nat} (lo : 0x210000 < k) (hi : k < 0x220000) : s.refreshBudget.reg k = s.reg k := by
  unfold State.refreshBudget
  extract_lets b cur v s1 s2
  have h1 : s1.reg k = s.reg k := by
    simp only [s1, State.reg_setReg]
    repeat rw [if_neg (by omega)]
  have h2 : s2.reg k = s1.reg k := by
    simp only [s2, State.reg_setReg]
    repeat rw [if_neg (by omega)]
  split
  · exact h2.trans h1
  · rw [State.reg_setCause_other (by unfold causeOf keyOf; omega), State.reg_setReg_other _ _ _ _ (by omega), h2, h1]

theorem State.reg_refreshCapacity {k : Nat} (lo : 0x210300 ≤ k) : s.refreshCapacity.reg k = s.reg k := by
  unfold State.refreshCapacity
  extract_lets v s1
  have loads : s1.reg k = ((s.setReg 0x210201 s.windowCycles).setReg 0x210211 s.witnessLoad).reg k :=
    State.each_keeps (fun t => t.reg k) fun u q h => State.reg_setReg_other _ _ _ _ (by
      have := List.mem_range.mp h
      unfold keyOf
      omega)
  simp only [State.reg_setReg] at loads ⊢
  repeat rw [if_neg (by omega)]
  rw [loads]
  repeat rw [if_neg (by omega)]

theorem State.reg_refresh {k : Nat} (lo : 0x213013 < k) (hi : k < 0x220000) : s.refresh.reg k = s.reg k := by
  unfold State.refresh State.showMatrix
  simp only [State.reg_setReg]
  repeat rw [if_neg (by omega)]
  rw [State.reg_refreshCapacity (by omega), State.reg_refreshBudget (by omega) hi]

theorem State.bank_setBank_same {n b} : (s.setBank n b).bank n = b := by
  by_cases h : n = 0 <;> simp [State.setBank, State.bank, h]

theorem State.bank_setBank_other {n b} (h : n ≤ 1) : (s.setBank n b).bank (1 - n) = s.bank (1 - n) := by
  obtain rfl | rfl : n = 0 ∨ n = 1 := by omega
  · simp [State.setBank, State.bank]
  · simp [State.setBank, State.bank]

theorem State.showBank_img {n v} : (s.showBank n v).img = s.img := by
  unfold State.showBank
  dsimp only
  split <;> rfl

theorem State.bankState_showBank {n v} (h : v < 256) : (s.showBank n v).bankState n = v := by
  have bitsA : entryBits 0x220009 = 8 := by decide +kernel
  have bitsB : entryBits 0x22000A = 8 := by decide +kernel
  unfold State.showBank State.bankState
  dsimp only
  split
  · rw [State.reg_setReg_same, fit_of_lt (by rw [bitsA]; exact h)]
  · rw [State.reg_setReg_same, fit_of_lt (by rw [bitsB]; exact h)]

theorem State.bank_showBank {n m v} : (s.showBank n v).bank m = s.bank m := by
  rw [State.bank, State.showBank_img, State.bank]

/-- An emptied bank shows as empty; what else changes of the banks is whether a cold activation finds it (R121, R124). -/
theorem State.emptyBank_eq {n} : ∃ cold, let s1 := (s.setBank n {}).showBank n 0
    s.emptyBank n = { s1 with img := { s1.img with coldPending := cold } } := by
  unfold State.emptyBank
  extract_lets s1
  split
  · split <;> exact ⟨_, rfl⟩
  · exact ⟨_, rfl⟩

theorem State.bank_emptyBank {n m} : (s.emptyBank n).bank m = (s.setBank n {}).bank m := by
  obtain ⟨cold, eq⟩ := State.emptyBank_eq (s := s) (n := n)
  rw [eq]
  exact State.bank_showBank

theorem State.bankState_emptyBank {n} : (s.emptyBank n).bankState n = 0 := by
  obtain ⟨cold, eq⟩ := State.emptyBank_eq (s := s) (n := n)
  rw [eq]
  exact State.bankState_showBank (by decide)

theorem State.loadBank_le : s.loadBank ≤ 1 := by
  unfold State.loadBank
  split_ifs <;> omega

/-! ## The module state commands (R81, R82) -/

theorem State.stateCommand_run (own : p ≠ .forwarded) : s.stateCommand p 1 =
    if s.refresh.runRefusal = 0 then s.refresh.enterRun.setReg 0x210007 0
    else (s.refresh.setReg 0x210007 s.refresh.runRefusal).setCause 1 3 := by
  have refusal : s.refresh.commandRefusal p 1 = s.refresh.runRefusal := by
    rw [State.commandRefusal, if_pos rfl, if_neg own]
  unfold State.stateCommand
  dsimp only
  rw [if_pos rfl, refusal, ite_not, if_pos rfl]

theorem State.stateCommand_stop {r : Nat} (h : s.commandRefusal p 2 = r) : s.stateCommand p 2 =
    if r = 0 then s.stopModule.setReg 0x210007 0 else (s.setReg 0x210007 r).setCause 1 3 := by
  unfold State.stateCommand
  simp [h]

theorem State.commandRefusal_stop (own : p ≠ .forwarded) : s.commandRefusal p 2 =
    if s.mode ≠ stRun ∧ s.mode ≠ stHalted ∨ s.role = 2 then 6
    else if s.mode = stHalted ∧ s.mtx.stopped = true then 5 else 0 := by
  have other : (p != Path.forwarded) = true := bne_iff_ne.mpr own
  simp [State.commandRefusal, other]

/-- A state command that is turned away leaves its reason and its cause bit. -/
theorem State.stateRefused {r : Nat} (h : r < 256) :
    let t := (s.setReg 0x210007 r).setCause 1 3
    t.reg 0x210007 = r ∧ (t.reg (causeOf 1)).testBit 3 = true ∧ Only [0x210007, causeOf 1] s t ∧
      t.pairCore = s.pairCore ∧
      t.mode = s.mode := by
  have bits : entryBits 0x210007 = 8 := by decide +kernel
  have bits' : entryBits (causeOf 1) = 32 := by decide +kernel
  refine ⟨?_, State.cause_setCause (by omega), ?_, by simp, ?_⟩
  · rw [State.reg_setCause_other (by decide), State.reg_setReg_same, fit_of_lt (by rw [bits]; exact h)]
  · exact only_trans (State.only_setReg_of_mem (by simp)) (State.only_setCause_of_mem (by simp))
  · rw [State.mode_setCause (by decide), State.mode_setReg (by decide)]

theorem stateCommandRun_applied (own : p ≠ .forwarded) (a : Applied (.stateCommandRun p) s t) :
    (s.refresh.runRefusal = 0 → t = s.refresh.enterRun.setReg 0x210007 0 ∧ t.mode = stRun) ∧
    (s.refresh.runRefusal ≠ 0 → t.reg 0x210007 = s.refresh.runRefusal ∧ (t.reg (causeOf 1)).testBit 3 = true ∧
      Only [0x210007, causeOf 1] s.refresh t ∧ t.mem = s.mem ∧ t.engines = s.engines) := by
  rw [applied_of_writes rfl, State.applyEntry_stateCommand, show leNat [1] = 1 from rfl, State.stateCommand_run own] at a
  subst a
  refine ⟨fun free => ?_, fun refused => ?_⟩
  · rw [if_pos free]
    exact ⟨rfl, (State.mode_setReg (by decide)).trans State.mode_enterRun⟩
  · rw [if_neg refused]
    obtain ⟨reason, cause, only, core, -⟩ :=
      State.stateRefused (s := s.refresh) (Nat.lt_of_le_of_lt State.runRefusal_le (by decide))
    have core := core.trans State.refresh_pairCore
    exact ⟨reason, cause, only, State.mem_of_pairCore core, State.engines_of_pairCore core⟩

theorem stateCommandStop_applied (own : p ≠ .forwarded) (a : Applied (.stateCommandStop p) s t) :
    (s.mode = stRun ∨ (s.mode = stHalted ∧ s.mtx.stopped = false) → s.role ≠ 2 →
      t.mode = stStopped ∧ t.tick.stepHeld = false ∧ t.mem = s.mem ∧ t.reg 0x210007 = 0) ∧
    (s.mode ≠ stRun → s.mode ≠ stHalted → t.reg 0x210007 = 6 ∧ t.mode = s.mode ∧ t.mem = s.mem) ∧
    (s.mode = stHalted → s.mtx.stopped = true → s.role ≠ 2 → t.reg 0x210007 = 5 ∧ t.mode = s.mode) := by
  rw [applied_of_writes rfl, State.applyEntry_stateCommand, show leNat [2] = 2 from rfl] at a
  subst a
  have refusal := s.commandRefusal_stop own
  refine ⟨fun runs role => ?_, fun run halted => ?_, fun halted stopped role => ?_⟩
  · have acts : s.commandRefusal p 2 = 0 := by
      rw [refusal]
      rcases runs with run | ⟨halted, runs⟩
      · simp [run, role]
      · simp [halted, role, runs]
    rw [State.stateCommand_stop acts, if_pos rfl]
    refine ⟨(State.mode_setReg (by decide)).trans State.mode_stopModule, rfl, State.mem_of_pairCore (by simp), ?_⟩
    rw [State.reg_setReg_same, fit, Nat.zero_mod]
  · rw [State.stateCommand_stop (refusal.trans (if_pos (.inl ⟨run, halted⟩)))]
    obtain ⟨reason, -, -, core, mode⟩ := State.stateRefused (s := s) (r := 6) (by decide)
    exact ⟨reason, mode, State.mem_of_pairCore core⟩
  · have wrong : s.commandRefusal p 2 = 5 := by
      rw [refusal]
      simp [halted, stopped, role]
    rw [State.stateCommand_stop wrong]
    obtain ⟨reason, -, -, -, mode⟩ := State.stateRefused (s := s) (r := 5) (by decide)
    exact ⟨reason, mode⟩

/-! ## The commands of the safety matrix (R102, R110, R111) -/

theorem matrixWrite_applied {d} (a : Applied (.matrixWrite p d) s t) :
    (∀ v, s.readMatrix d = .error v → t.reg 0x213014 = v % 256 ∧ t.mtx = s.mtx) ∧
    (∀ m, s.readMatrix d = .ok m →
      (s.refsOk m = true → t.reg 0x213014 = 0 ∧ t.mtx = { s.mtx with waiting := some m, store := d }) ∧
      (s.refsOk m = false → t.reg 0x213014 = 4 ∧ t.mtx = s.mtx)) := by
  have width : 2 ^ entryBits 0x213014 = 256 := by decide +kernel
  have verdict (u : State) (v : Nat) : (u.setReg 0x213014 v).refresh.reg 0x213014 = v % 256 := by
    rw [State.reg_refresh (by decide) (by decide), State.reg_setReg_same, fit, width]
  rw [applied_of_writes rfl, State.applyEntry_matrixWritten, State.matrixWritten] at a
  subst a
  refine ⟨fun v bad => ?_, fun m good => ⟨fun refs => ?_, fun refs => ?_⟩⟩
  · rw [bad]
    exact ⟨verdict _ _, by rw [State.refresh_mtx, State.setReg_mtx]⟩
  · simp only [good, refs, if_true]
    exact ⟨verdict _ _, by rw [State.refresh_mtx, State.setReg_mtx]⟩
  · simp only [good, refs, Bool.false_eq_true, if_false]
    exact ⟨verdict _ _, by rw [State.refresh_mtx, State.setReg_mtx]⟩

theorem resetEffect_applied {e : Nat} (he : e < 65536) (a : Applied (.resetEffect p e) s t) :
    (s.resetOk e = true → t = { s with mtx := { s.mtx with resets := s.mtx.resets ++ [e] } }) ∧
    (s.resetOk e = false → Counts 0x21300C 1 s t ∧ Only [0x21300C] s t ∧ t.mtx = s.mtx) := by
  have operand : writes (.resetEffect p e) = some (p, 0x21300A, leBytes 2 e) := if_pos (by simpa using he)
  have number : leNat (leBytes 2 e) = e := (leNat_leBytes 2 e).trans (Nat.mod_eq_of_lt he)
  rw [applied_of_writes operand, State.applyEntry_resetEffect, number] at a
  subst a
  refine ⟨fun ok => if_pos ok, fun bad => ?_⟩
  rw [if_neg (by simp [bad])]
  exact ⟨s.reg_count _, s.only_setReg _ _, rfl⟩

theorem bypassCommand_applied {d} (a : Applied (.bypassCommand p d) s t) :
    (s.bypassOk d = true →
      (t.causeRt (field d 0 2)).bypass = (if field d 4 4 = 0 then none else some (field d 4 4)) ∧
      (∀ n, n ≠ field d 0 2 → t.causeRt n = s.causeRt n) ∧ t.regs = s.regs) ∧
    (s.bypassOk d = false → Counts 0x21300C 1 s t ∧ t.mtx = s.mtx) := by
  rw [applied_of_writes rfl, State.applyEntry_bypass] at a
  subst a
  refine ⟨fun ok => ?_, fun bad => ?_⟩
  · rw [if_pos ok]
    refine ⟨?_, fun n h => Sparse.get_set_other _ _ _ _ _ _ h, rfl⟩
    exact congrArg CauseRt.bypass (Sparse.get_set_same _ _ _ _)
  · rw [if_neg (by simp [bad])]
    exact ⟨s.reg_count _, rfl⟩

/-! ## The commands of the program banks (R121, R124, R127, R136, R138) -/

theorem State.bankState_setReg {k v n} (hA : 0x220009 ≠ k) (hB : 0x22000A ≠ k) :
    (s.setReg k v).bankState n = s.bankState n := by
  unfold State.bankState
  split
  · exact s.reg_setReg_other _ _ _ hA
  · exact s.reg_setReg_other _ _ _ hB

theorem State.reg_exchangeState {v : Nat} (h : v < 256) : (s.setReg 0x220102 v).reg 0x220102 = v := by
  have width : 2 ^ entryBits 0x220102 = 256 := by decide +kernel
  rw [State.reg_setReg_same, fit_of_lt (by omega)]

theorem reason_setReg {r : Nat} (h : r < 256) : Reason 0x220103 r s (s.setReg 0x220103 r) := by
  have width : 2 ^ entryBits 0x220103 = 256 := by decide +kernel
  exact ⟨by rw [State.reg_setReg_same, fit_of_lt (by omega)], s.only_setReg _ _, rfl⟩

theorem imageDownload_applied {d} (a : Applied (.imageDownload p d) s t) :
    t.img.download = some d ∧ t.img.target = s.loadBank ∧ t.bank s.loadBank = {} ∧ t.bankState s.loadBank = 0 ∧
    t.bank (1 - s.loadBank) = s.bank (1 - s.loadBank) ∧ t.reg 0x220102 = 2 := by
  rw [applied_of_writes rfl, State.applyEntry_download, State.startDownload] at a
  subst a
  dsimp only
  have one := s.loadBank_le
  generalize h : s.loadBank = n at one ⊢
  generalize hu : ({ s with img := { s.img with download := some d, target := n, lastLoaded := some n } } : State) = u
  obtain ⟨cold, eq⟩ := u.emptyBank_eq (n := n)
  have img : ((u.setBank n {}).showBank n 0).img = (u.setBank n {}).img := State.showBank_img
  have kept : (u.setBank n {}).img.download = some d ∧ (u.setBank n {}).img.target = n := by
    subst hu
    unfold State.setBank
    split <;> exact ⟨rfl, rfl⟩
  refine ⟨?_, ?_, ?_, ?_, ?_, State.reg_exchangeState (by decide)⟩
  · rw [State.setReg_img, eq]
    dsimp only
    rw [img, kept.1]
  · rw [State.setReg_img, eq]
    dsimp only
    rw [img, kept.2]
  · exact State.bank_emptyBank.trans State.bank_setBank_same
  · exact (State.bankState_setReg (by decide) (by decide)).trans State.bankState_emptyBank
  · exact (State.bank_emptyBank.trans (State.bank_setBank_other one)).trans (by subst hu; rfl)

theorem coldActivation_applied (a : Applied (.coldActivation p) s t) :
    (s.mode = stStopped → s.bankState s.inactiveBank = 1 → s.img.coldPending = none →
      t = { s with img := { s.img with coldPending := some (s.inactiveBank, true) } }) ∧
    (s.mode ≠ stStopped → Reason 0x220103 3 s t) ∧
    (s.mode = stStopped → s.bankState s.inactiveBank ≠ 1 → Reason 0x220103 4 s t) := by
  rw [applied_of_writes rfl, State.applyEntry_exchange, show leNat [1] = 1 from rfl] at a
  subst a
  refine ⟨fun mode bank idle => ?_, fun mode => ?_, fun mode bank => ?_⟩
  · simp [State.exchangeCommandRefusal, State.exchangeCommand, mode, bank, idle]
  · simpa [State.exchangeCommandRefusal, mode] using reason_setReg (by decide)
  · simpa [State.exchangeCommandRefusal, mode, bank] using reason_setReg (by decide)

theorem State.showTransfer_pairCore {n} : (s.showTransfer n).pairCore = s.pairCore := by
  unfold State.showTransfer
  simp

theorem State.showTransfer_img {n} : (s.showTransfer n).img = s.img := by
  simp only [State.showTransfer, State.setReg_img]

theorem State.reg_showTransfer {n k} (h : k < 0x220201 ∨ 0x22020A < k) : (s.showTransfer n).reg k = s.reg k := by
  unfold State.showTransfer
  simp only [State.reg_setReg]
  repeat rw [if_neg (by omega)]

theorem onlineExchange_applied (a : Applied (.onlineExchange p) s t) :
    (s.exchangeRefusal = 0 → t.reg 0x220102 = 4 ∧ t.img.bgDone = 0 ∧ t.img.dirtyPages = [] ∧ t.mem = s.mem ∧
      t.mode = s.mode) ∧
    (s.exchangeRefusal ≠ 0 → Reason 0x220103 s.exchangeRefusal s t) := by
  rw [applied_of_writes rfl, State.applyEntry_exchange, show leNat [2] = 2 from rfl,
    show s.exchangeCommandRefusal 2 = s.exchangeRefusal from rfl,
    show s.exchangeCommand 2 = s.startExchange from rfl] at a
  subst a
  refine ⟨fun free => ?_, fun refused => ?_⟩
  · rw [if_pos free, State.startExchange, State.showTransfer_img]
    exact ⟨(State.reg_showTransfer (by decide)).trans (State.reg_exchangeState (by decide)), rfl, rfl,
      State.mem_of_pairCore (State.showTransfer_pairCore.trans (by simp)),
      (State.reg_showTransfer (by decide)).trans (State.mode_setReg (by decide))⟩
  · rw [if_neg refused]
    exact reason_setReg (Nat.lt_of_le_of_lt State.exchangeRefusal_le (by decide))

theorem State.abortExchange_leaves {r : Nat} (hr : r < 256) (h : s.reg 0x220102 = 4 ∨ s.reg 0x220102 = 5) :
    let t := s.abortExchange r
    t.reg 0x220102 = 3 ∧ t.reg 0x220103 = r ∧ (t.reg (causeOf 3)).testBit 2 = true ∧
      t.img.bankA = s.img.bankA ∧ t.img.bankB = s.img.bankB := by
  have width : 2 ^ entryBits 0x220103 = 256 := by decide +kernel
  have bits : entryBits (causeOf 3) = 32 := by decide +kernel
  rw [State.abortExchange, if_pos h]
  dsimp only
  refine ⟨?_, ?_, State.cause_setCause (by omega), ?_⟩
  · rw [State.reg_setCause_other (by decide), State.reg_setReg_other _ _ _ _ (by decide),
      State.reg_setReg_other _ _ _ _ (by decide), State.reg_exchangeState (by decide)]
  · rw [State.reg_setCause_other (by decide), State.reg_setReg_other _ _ _ _ (by decide), State.reg_setReg_same,
      fit_of_lt (by omega)]
  · simp only [State.setCause_img, State.setReg_img, and_self]

theorem exchangeAbort_applied (a : Applied (.exchangeAbort p) s t) :
    (s.reg 0x220102 = 4 ∨ s.reg 0x220102 = 5 → t.reg 0x220102 = 3 ∧ t.reg 0x220103 = 2 ∧
      (t.reg (causeOf 3)).testBit 2 = true ∧
      t.img.bankA = s.img.bankA ∧ t.img.bankB = s.img.bankB ∧ t.mem = s.mem) ∧
    (s.reg 0x220102 ≠ 4 → s.reg 0x220102 ≠ 5 → Reason 0x220103 3 s t) := by
  rw [applied_of_writes rfl, State.applyEntry_exchange, show leNat [3] = 3 from rfl,
    show s.exchangeCommandRefusal 3 = if s.reg 0x220102 = 4 ∨ s.reg 0x220102 = 5 then 0 else 3 from rfl,
    show s.exchangeCommand 3 = s.abortExchange 2 from rfl] at a
  subst a
  refine ⟨fun prepares => ?_, fun four five => ?_⟩
  · rw [if_pos prepares, if_pos rfl]
    obtain ⟨state, result, cause, bankA, bankB⟩ := State.abortExchange_leaves (r := 2) (by decide) prepares
    exact ⟨state, result, cause, bankA, bankB, State.mem_of_pairCore State.abortExchange_pairCore⟩
  · have rests : ¬(s.reg 0x220102 = 4 ∨ s.reg 0x220102 = 5) := by simp [four, five]
    rw [if_neg rests]
    exact reason_setReg (by decide)

theorem eraseInactiveBank_applied (a : Applied (.eraseInactiveBank p) s t) :
    (s.reg 0x220102 = 0 ∨ s.reg 0x220102 = 3 → s.inactiveBank ≤ 1 → t.bank s.inactiveBank = {} ∧
      t.bankState s.inactiveBank = 0 ∧ t.reg 0x220102 = 0 ∧
      t.bank (1 - s.inactiveBank) = s.bank (1 - s.inactiveBank)) ∧
    (s.reg 0x220102 ≠ 0 → s.reg 0x220102 ≠ 3 → Reason 0x220103 3 s t) := by
  rw [applied_of_writes rfl, State.applyEntry_exchange, show leNat [4] = 4 from rfl,
    show s.exchangeCommandRefusal 4 = if s.reg 0x220102 = 0 ∨ s.reg 0x220102 = 3 then 0 else 3 from rfl,
    show s.exchangeCommand 4 = (s.emptyBank s.inactiveBank).setReg 0x220102 0 from rfl] at a
  subst a
  refine ⟨fun rests one => ?_, fun idle loaded => ?_⟩
  · rw [if_pos rests, if_pos rfl]
    exact ⟨State.bank_emptyBank.trans State.bank_setBank_same,
      (State.bankState_setReg (by decide) (by decide)).trans State.bankState_emptyBank,
      State.reg_exchangeState (by decide), State.bank_emptyBank.trans (State.bank_setBank_other one)⟩
  · have busy : ¬(s.reg 0x220102 = 0 ∨ s.reg 0x220102 = 3) := by simp [idle, loaded]
    rw [if_neg busy]
    exact reason_setReg (by decide)

/-! ## The loop status and the commands of the pair (R148, R171, R191, R195) -/

/-- What a loop reports is not stored, so no budget rests on it. -/
theorem shapesBudget_loopStatus {n : Nat} (hn : n < 128) : shapesBudget (0x240029 + 256 * n) = false := by
  have layout : OneLayout 0x2400 128 := by decide +kernel
  have access : (entryOf 0x2400 0x29).map (·.access) = some .rw := by decide +kernel
  have index : (0x240029 + 256 * n) / 256 = 0x2400 + n := by omega
  have sub : (0x240029 + 256 * n) % 256 = 0x29 := by omega
  have live : isVolatileRw (0x240029 + 256 * n) = true := by
    have range : 0x2400 + n ≤ 0x247F := by omega
    simp [isVolatileRw, index, sub, range]
  obtain ⟨entry, found, rw_⟩ := Option.map_eq_some_iff.mp access
  rw [shapesBudget, isPersisted, index, sub, layout.entryOf_add hn, found]
  simp [rw_, live]

theorem State.applyEntry_loopStatus {n : Nat} {d : List Byte} (hn : n < 128) :
    s.applyEntry { path := p, key := 0x240029 + 256 * n, data := d } =
      s.setReg (0x240029 + 256 * n) (s.reg (0x240029 + 256 * n) - (s.reg (0x240029 + 256 * n) &&& leNat d &&& 0xFF00)) := by
  have shape := shapesBudget_loopStatus hn
  have index : (0x240029 + 256 * n) / 256 = 0x2400 + n := by omega
  have sub : (0x240029 + 256 * n) % 256 = 0x29 := by omega
  have key : lb n 0x29 = 0x240029 + 256 * n := by unfold lb keyOf; omega
  rw [State.applyEntry_chapters (by omega) (by omega) (by omega)]
  dsimp only
  rw [State.matrixApply_none (by omega) (by omega) (by omega), shape, if_neg Bool.false_ne_true, State.loopApply]
  dsimp only
  rw [index, sub, if_pos (by omega), if_pos (by decide), Nat.add_sub_cancel_left, State.windowApply, if_pos rfl, key]
  rfl

theorem loopStatusClear_applied {n v : Nat} (ok : s.Ok) (hn : n < 128) (hv : v < 2 ^ 32)
    (a : Applied (.loopStatusClear p n v) s t) :
    let k := 0x240029 + 256 * n
    Only [k] s t ∧ (∀ b,
      (t.reg k).testBit b = ((s.reg k).testBit b && !(v.testBit b && decide (8 ≤ b) && decide (b < 16)))) := by
  have operand : writes (.loopStatusClear p n v) = some (p, 0x240029 + 256 * n, leBytes 4 v) :=
    if_pos (by simp only [hn, hv, decide_true, Bool.and_self])
  have number : leNat (leBytes 4 v) = v := (leNat_leBytes 4 v).trans (Nat.mod_eq_of_lt hv)
  rw [applied_of_writes operand, State.applyEntry_loopStatus hn, number] at a
  subst a
  refine ⟨s.only_setReg _ _, fun b => ?_⟩
  have clears : (0xFF00 : Nat).testBit b = (decide (8 ≤ b) && decide (b < 16)) := by
    rw [show (0xFF00 : Nat) = (2 ^ 8 - 1) <<< 8 from rfl, Nat.testBit_shiftLeft, Nat.testBit_two_pow_sub_one]
    by_cases h : 8 ≤ b <;> simp [h]
    omega
  rw [State.reg_setReg_same, fit_of_lt (Nat.lt_of_le_of_lt (Nat.sub_le _ _) (ok.reg_lt _)), Nat.and_assoc, testBit_sub_and,
    Nat.testBit_and, clears, Bool.and_assoc]

theorem applied_pairCommand {c : Instr} {d : List Byte} (v : Nat) (h : writes c = some (p, 0x250112, d)) (hd : leNat d = v)
    (a : Applied c s t) : t = s.pairCommand v := by
  rw [applied_of_writes h, State.applyEntry_pairCommand, hd] at a
  exact a

theorem plannedSwitchOver_applied (a : Applied (.plannedSwitchOver p) s t) (may : s.mayPlan = true) :
    SetsBit 0x250107 5 s t ∧ Only [0x250107] s t ∧ t = { s with regs := t.regs } := by
  have bits : entryBits 0x250107 = 16 := by decide +kernel
  obtain rfl : t = s.setBit 0x250107 5 true := (applied_pairCommand 1 rfl rfl a).trans (if_pos may)
  exact ⟨s.setsBit_setBit (by omega), s.only_setReg _ _, rfl⟩

theorem cancelSwitchOver_applied (a : Applied (.cancelSwitchOver p) s t) :
    t.pair = { s.pair with target := none } ∧ (t.reg 0x250107).testBit 5 = false ∧ Only [0x250107] s t := by
  have bits : entryBits 0x250107 = 16 := by decide +kernel
  obtain rfl : t = { s with pair := { s.pair with target := none } }.setBit 0x250107 5 false :=
    applied_pairCommand 2 rfl rfl a
  exact ⟨rfl, (State.testBit_reg_setBit _ _ _ (by omega)).trans (if_pos rfl), State.only_setReg _ _ _⟩

/-- Settles O52: each command by the operation that its key reaches and what that operation leaves. -/
theorem applicationWrites : Obligations.ApplicationWrites :=
  fun _ _ _ ok own => ⟨stateCommandRun_applied own, stateCommandStop_applied own, fun _ => matrixWrite_applied,
    fun _ => resetEffect_applied, fun _ => bypassCommand_applied, fun _ => imageDownload_applied, coldActivation_applied,
    onlineExchange_applied, exchangeAbort_applied, eraseInactiveBank_applied, fun _ _ => loopStatusClear_applied ok,
    plannedSwitchOver_applied, cancelSwitchOver_applied, applied_pairCommand 3 rfl rfl,
    applied_pairCommand 4 rfl rfl, applied_pairCommand 5 rfl rfl⟩

end Sys2Proof.Machine
end

section
/-! SUPPORT. What the operations of the pair leave of the counts of the tie link (R184). -/

namespace Sys2Proof.Machine

open Sys2Proof Sys2Proof.Stated

variable {s t : State}

theorem State.pair_of_pairCore (h : t.pairCore = s.pairCore) : t.pair = s.pair := congrArg PairCore.pair h

theorem State.reg_of_pairCore (h : t.pairCore = s.pairCore) {k : Nat} (lo : 0x250000 ≤ k) (hi : k < 0x252100) :
    t.reg k = s.reg k := by
  have entry := congrFun (congrArg PairCore.entries h) ⟨k - 0x250000, by omega⟩
  simpa [State.pairCore, pairEntries, Nat.add_sub_cancel' lo, State.reg] using entry

/-- The counts of the lanes of the tie link, 2520.05 to 2520.09. -/
def State.lanes (s : State) : List Nat := [0x252005, 0x252007, 0x252009].map s.reg

theorem State.lanes_of_pairCore (h : t.pairCore = s.pairCore) : t.lanes = s.lanes :=
  List.map_congr_left fun _ hk => by
    rcases List.mem_cons.mp hk with rfl | hk
    · exact State.reg_of_pairCore h (by decide) (by decide)
    · rcases List.mem_cons.mp hk with rfl | hk
      · exact State.reg_of_pairCore h (by decide) (by decide)
      · exact State.reg_of_pairCore h (by simp_all) (by simp_all)

@[simp] theorem State.frame_lanes {mem blobs engines tasks tick img mtx loops pair chain ost dig ana time keep can open_
    sent dict book panel rst fuse out free pending} :
    State.lanes { s with
      mem := mem, engines := engines, pair := pair
      blobs := blobs, tasks := tasks, tick := tick, img := img, mtx := mtx, loops := loops, chain := chain, ost := ost
      dig := dig, ana := ana, time := time, keep := keep, can := can, open_ := open_, sent := sent, dict := dict
      book := book, panel := panel, rst := rst, fuse := fuse, out := out, free := free, pending := pending } = s.lanes :=
  (rfl)

@[simp] theorem State.setReg_lanes {k v : Nat} (h : k < 0x252005 ∨ 0x252009 < k) : (s.setReg k v).lanes = s.lanes := by
  have other (j : Nat) (lo : 0x252005 ≤ j) (hi : j ≤ 0x252009) : (s.setReg k v).reg j = s.reg j :=
    s.reg_setReg_other k j v (by omega)
  simp [State.lanes, other]

@[simp] theorem State.setBit_lanes {k n v} (h : k < 0x252005 ∨ 0x252009 < k) : (s.setBit k n v).lanes = s.lanes :=
  State.setReg_lanes h

@[simp] theorem State.countBy_lanes {k n} (h : k < 0x252005 ∨ 0x252009 < k) : (s.countBy k n).lanes = s.lanes :=
  State.setReg_lanes h

@[simp] theorem State.count_lanes {k} (h : k < 0x252005 ∨ 0x252009 < k) : (s.count k).lanes = s.lanes :=
  State.setReg_lanes h

@[simp] theorem State.ite_lanes {c : Prop} {d : Decidable c} {s t : State} :
    (if c then s else t).lanes = if c then s.lanes else t.lanes := apply_ite ..

@[simp] theorem State.setCause_lanes {g n} : (s.setCause g n).lanes = s.lanes :=
  State.lanes_of_pairCore State.setCause_pairCore

@[simp] theorem State.causeIf_lanes {c g n} : (s.causeIf c g n).lanes = s.lanes :=
  State.lanes_of_pairCore State.causeIf_pairCore

@[simp] theorem State.recordError_lanes {c p q} : (s.recordError c p q).lanes = s.lanes :=
  State.lanes_of_pairCore State.recordError_pairCore

@[simp] theorem State.emit_lanes {e} : (s.emit e).lanes = s.lanes := State.lanes_of_pairCore State.emit_pairCore

@[simp] theorem State.answer_lanes {r} : (s.answer r).lanes = s.lanes := State.lanes_of_pairCore State.answer_pairCore

@[simp] theorem State.hartLeave_lanes : s.hartLeave.lanes = s.lanes := State.lanes_of_pairCore State.hartLeave_pairCore

@[simp] theorem State.busesLeave_lanes : s.busesLeave.lanes = s.lanes := State.lanes_of_pairCore State.busesLeave_pairCore

@[simp] theorem State.abortExchange_lanes {r} : (s.abortExchange r).lanes = s.lanes :=
  State.lanes_of_pairCore State.abortExchange_pairCore

@[simp] theorem State.stopModule_lanes : s.stopModule.lanes = s.lanes := State.lanes_of_pairCore State.stopModule_pairCore

@[simp] theorem State.halt_lanes {c t p} : (s.halt c t p).lanes = s.lanes := State.lanes_of_pairCore State.halt_pairCore

@[simp] theorem State.refresh_lanes : s.refresh.lanes = s.lanes := State.lanes_of_pairCore State.refresh_pairCore

@[simp] theorem State.showMatrix_lanes : s.showMatrix.lanes = s.lanes := State.lanes_of_pairCore State.showMatrix_pairCore

@[simp] theorem State.activateMatrix_lanes {m} : (s.activateMatrix m).lanes = s.lanes :=
  State.lanes_of_pairCore State.activateMatrix_pairCore

@[simp] theorem State.setBank_lanes {n b} : (s.setBank n b).lanes = s.lanes :=
  State.lanes_of_pairCore State.setBank_pairCore

@[simp] theorem State.showBank_lanes {n b} : (s.showBank n b).lanes = s.lanes :=
  State.lanes_of_pairCore State.showBank_pairCore

@[simp] theorem State.emptyBank_lanes {n} : (s.emptyBank n).lanes = s.lanes :=
  State.lanes_of_pairCore State.emptyBank_pairCore

@[simp] theorem State.makeActive_lanes {n} : (s.makeActive n).lanes = s.lanes :=
  State.lanes_of_pairCore State.makeActive_pairCore

@[simp] theorem State.setLrt_lanes {n r} : (s.setLrt n r).lanes = s.lanes := State.lanes_of_pairCore State.setLrt_pairCore

@[simp] theorem State.measure_lanes {n} : (s.measure n).lanes = s.lanes := State.lanes_of_pairCore State.measure_pairCore

/-- The entries of the roles lie below the counts of the lanes. -/
@[simp] theorem pr_lt {n : Nat} (h : n < 256) : pr n < 0x252005 := by unfold pr keyOf; omega

@[simp] theorem State.stopResync_lanes : s.stopResync.lanes = s.lanes := by
  unfold State.stopResync
  simp

@[simp] theorem State.leaveActive_lanes : s.leaveActive.lanes = s.lanes := by
  have answers (t : State) (xs : List PendingWrite) (reply : PendingWrite → Reply) :
      (t.each xs fun t w => t.answer (reply w)).lanes = t.lanes :=
    State.each_keeps State.lanes fun _ _ _ => State.answer_lanes
  unfold State.leaveActive
  simp [answers]

@[simp] theorem State.enterActive_lanes : s.enterActive.lanes = s.lanes := by
  unfold State.enterActive
  have tasks (t : State) :
      (t.each (List.range 18) fun t k => t.setTask k { t.task k with firstActive := true }).lanes = t.lanes :=
    State.each_keeps State.lanes fun _ _ _ => rfl
  simp [tasks]

@[simp] theorem State.setRole_lanes {code reason} : (s.setRole code reason).lanes = s.lanes := by
  unfold State.setRole
  simp

@[simp] theorem State.setPartnerRole_lanes {code} : (s.setPartnerRole code).lanes = s.lanes := by
  unfold State.setPartnerRole
  simp

@[simp] theorem State.changeRole_lanes {c} : (s.changeRole c).lanes = s.lanes := State.frame_lanes

@[simp] theorem State.afterCopy_lanes {p} : (s.afterCopy p).lanes = s.lanes := by
  unfold State.afterCopy
  simp

@[simp] theorem State.beginResync_lanes : s.beginResync.lanes = s.lanes := by
  unfold State.beginResync
  split
  · rfl
  · simp

@[simp] theorem State.failAttempt_lanes : s.failAttempt.lanes = s.lanes := by
  unfold State.failAttempt
  simp

/-! ## The frames -/

@[simp] theorem State.takeStatus_lanes {f} : (s.takeStatus f).lanes = s.lanes := by
  unfold State.takeStatus State.setUnreachable
  dsimp only
  split <;> simp

@[simp] theorem State.takeDigest_lanes {tick digest} : (s.takeDigest tick digest).lanes = s.lanes := by
  unfold State.takeDigest State.abdicate
  simp

@[simp] theorem State.takeNotice_lanes {tick} : (s.takeNotice tick).lanes = s.lanes := by
  unfold State.takeNotice State.takeOver
  simp

@[simp] theorem State.takeFullImage_lanes {tick data} : (s.takeFullImage tick data).lanes = s.lanes := by
  unfold State.takeFullImage State.showDiffs
  simp

@[simp] theorem State.followVerdict_lanes {armed} : (s.followVerdict armed).lanes = s.lanes := by
  unfold State.followVerdict
  simp

@[simp] theorem State.takeCommand_lanes {c} : (s.takeCommand c).lanes = s.lanes := by
  unfold State.takeCommand State.takeOver
  dsimp only
  split <;> simp

theorem State.takeLoopPage_lanes {n bs} (h : n < 128) : (s.takeLoopPage n bs).lanes = s.lanes := by
  have subs : ∀ i ∈ windowSubs, i < 256 := by decide
  have key (i : Nat) (hi : i ∈ windowSubs) : lb n i < 0x252005 := by
    have := subs i hi
    unfold lb keyOf
    omega
  unfold State.takeLoopPage
  extract_lets big bits r
  exact (State.each_keeps State.lanes fun _ i hi => State.setReg_lanes (.inl (key i hi))).trans State.setLrt_lanes

theorem State.takeStream_lanes {page data} (h : page < 0x80080) : (s.takeStream page data).lanes = s.lanes := by
  have frame : (s.takePage page data).lanes = s.lanes := by
    unfold State.takePage
    split
    · rfl
    · exact State.takeLoopPage_lanes (by omega)
  unfold State.takeStream
  simp [frame]

theorem State.takeStore_lanes {store bs tagOk} (h : s.takeStore store bs tagOk = some t) : t.lanes = s.lanes := by
  unfold State.takeStore at h
  split at h
  · split at h
    · simp [← Option.some.inj h]
    · split at h
      · simp [← Option.some.inj h]
      · nomatch h
  · split at h
    · simp [← Option.some.inj h]
    · split at h
      · simp [← Option.some.inj h]
      · nomatch h

@[simp] theorem State.takeCopy_lanes {store data tagOk} : (s.takeCopy store data tagOk).lanes = s.lanes := by
  unfold State.takeCopy
  split
  · split
    next u p taken partner =>
      have kept := State.takeStore_lanes taken
      simp [kept]
    next => simp
  · rfl

end Sys2Proof.Machine
end

section
/-! SUPPORT. A frame of the tie link by the lanes on which its copies failed (R184). -/

namespace Sys2Proof.Machine

open Sys2Proof Sys2Proof.Stated

variable {s t : State} {inTime : Bool} {f : State → State}

theorem State.reg_of_lanes (h : t.lanes = s.lanes) {k : Nat} (hk : k ∈ [0x252005, 0x252007, 0x252009]) :
    t.reg k = s.reg k :=
  List.map_inj_left.mp h k hk

theorem Counts.of_lanes {u : State} {k n : Nat} (c : Counts k n s t) (h : u.lanes = t.lanes)
    (hk : k ∈ [0x252005, 0x252007, 0x252009]) : Counts k n s u :=
  (State.reg_of_lanes h hk).trans c

theorem State.Ok.counts_zero (ok : s.Ok) {k : Nat} (h : t.reg k = s.reg k) : Counts k 0 s t := by
  have := ok.reg_lt k
  unfold Counts
  omega

theorem State.hear_lanes (keeps : ∀ t, (f t).lanes = t.lanes) : (s.hear f).lanes = s.lanes := by
  unfold State.hear
  simp [keeps]

theorem State.tieFrame_none (down : s.tieUp = false ∨ s.running = false) : s.tieFrame [] inTime f = s := by
  unfold State.tieFrame State.hear
  rcases down with h | h <;> simp [State.countFailed, State.each, h]

theorem State.tieFrame_heard (up : s.tieUp = true) (runs : s.running = true) : s.tieFrame [] inTime f = f (heard s) := by
  simp [State.tieFrame, State.countFailed, State.each, State.hear, up, runs, heard]

theorem State.tieFrame_late {lane : Nat} (h : lane < 2) :
    s.tieFrame [lane] false f = s.count (keyOf 0x2520 (5 + 2 * lane)) := by
  simp [State.tieFrame, State.countFailed, State.each, Nat.mod_eq_of_lt h]

/-- A frame with one failed copy arrives with its repeat, where that comes in time. -/
theorem State.tieFrame_repeated {lane : Nat} (h : lane < 2) :
    s.tieFrame [lane] true f = ((s.count (keyOf 0x2520 (5 + 2 * lane))).count 0x252009).hear f := by
  simp [State.tieFrame, State.countFailed, State.each, Nat.mod_eq_of_lt h]

theorem State.tieFrame_lost :
    s.tieFrame [0, 1] inTime f =
      let counted := (s.count 0x252005).count 0x252007
      if inTime then counted.count 0x252009 else counted := by
  simp [State.tieFrame, State.countFailed, State.each, keyOf]

theorem whenValid_true : whenValid true s t = .next t := rfl

theorem State.lane_counts (ok : s.Ok) {lane : Nat} (h : lane < 2) (keeps : ∀ t, (f t).lanes = t.lanes) :
    Counts (keyOf 0x2520 (5 + 2 * lane)) 1 s (s.tieFrame [lane] inTime f) ∧
      Counts 0x252009 (if inTime then 1 else 0) s (s.tieFrame [lane] inTime f) := by
  have key : keyOf 0x2520 (5 + 2 * lane) ∈ [0x252005, 0x252007, 0x252009] ∧ keyOf 0x2520 (5 + 2 * lane) ≠ 0x252009 := by
    obtain rfl | rfl : lane = 0 ∨ lane = 1 := by omega
    all_goals decide
  cases inTime with
  | false =>
    rw [State.tieFrame_late h]
    exact ⟨s.reg_count _, ok.counts_zero (s.reg_setReg_other _ _ _ key.2.symm)⟩
  | true =>
    rw [State.tieFrame_repeated h]
    have heard := State.hear_lanes (s := (s.count (keyOf 0x2520 (5 + 2 * lane))).count 0x252009) keeps
    refine ⟨Counts.of_lanes ?_ heard key.1, Counts.of_lanes ?_ heard (by simp)⟩
    · exact (State.reg_setReg_other _ _ _ _ key.2).trans (s.reg_count _)
    · rw [if_pos rfl, Counts, State.reg_count, State.count, State.countBy, State.reg_setReg_other _ _ _ _ key.2.symm]

theorem State.lost_counts (ok : s.Ok) :
    let t := s.tieFrame [0, 1] inTime f
    Only [0x252005, 0x252007, 0x252009] s t ∧ t = { s with regs := t.regs } ∧
      Counts 0x252005 1 s t ∧ Counts 0x252007 1 s t ∧ Counts 0x252009 (if inTime then 1 else 0) s t := by
  have both : Only [0x252005, 0x252007, 0x252009] s ((s.count 0x252005).count 0x252007) :=
    only_trans (State.only_setReg_of_mem (by simp)) (State.only_setReg_of_mem (by simp))
  have other (t : State) {j k : Nat} (h : j ≠ k) : (t.count k).reg j = t.reg j := t.reg_setReg_other k j _ h
  have first : Counts 0x252005 1 s ((s.count 0x252005).count 0x252007) := (other _ (by decide)).trans (s.reg_count _)
  have second : Counts 0x252007 1 s ((s.count 0x252005).count 0x252007) := by
    rw [Counts, State.reg_count, other _ (by decide)]
  have third : ((s.count 0x252005).count 0x252007).reg 0x252009 = s.reg 0x252009 :=
    (other _ (by decide)).trans (other _ (by decide))
  rw [State.tieFrame_lost]
  dsimp only
  cases inTime with
  | false => exact ⟨both, rfl, first, second, ok.counts_zero third⟩
  | true =>
    refine ⟨only_trans both (State.only_setReg_of_mem (by simp)), rfl, (other _ (by decide)).trans first,
      (other _ (by decide)).trans second, ?_⟩
    rw [if_pos rfl, if_pos rfl, Counts, State.reg_count, third]

/-! ## The frames, each by the operation that it reaches -/

/-- A write that the partner forwards waits for its point in a unit that refuses its own writes of the entry (R372). -/
def State.takeForward (s : State) (w : PendingWrite) : State :=
  if !s.standbyRefuses w.key then s
  else if waitsForBoundary w.key then
    { s with dict := { s.dict with atBoundary := insertForwarded w s.dict.atBoundary } }.refresh
  else { s with dict := { s.dict with atClose := insertForwarded w s.dict.atClose } }

theorem State.takeForward_lanes {w} : (s.takeForward w).lanes = s.lanes := by
  unfold State.takeForward
  simp

/-- An image frame stays with the unit until the tick uses it (R182). -/
def State.noteImage (s : State) (fr : ImageFrame) : State := { s with pair := { s.pair with image := some fr } }

theorem exec_imageFrame {fr : ImageFrame} (h : fr.whole = true) : exec (.imageFrame fr) s =
    .next (s.tieFrame fr.failed (s.beforeX fr.tick) fun t => t.noteImage fr) :=
  congrArg Host.Outcome.next (if_pos h)

theorem exec_roleStatusFrame {r : RoleStatus} :
    exec (.roleStatusFrame r) s = .next (s.tieFrame r.failed true fun t => t.takeStatus r) := rfl

theorem exec_outputDigest {n d} {x : List Nat} :
    exec (.outputDigest n ⟨d, x⟩) s = .next (s.tieFrame x s.beforeK fun t => t.takeDigest n d) := rfl

theorem exec_faultNotice {n} {x : List Nat} :
    exec (.faultNotice ⟨n, x⟩) s = .next (s.tieFrame x s.beforeK fun t => t.takeNotice n) := rfl

theorem exec_fullOutputImage {n bs} {x : List Nat} : exec (.fullOutputImage n ⟨bs, x⟩) s =
    .next (s.tieFrame x (n == s.tick.staked.tick) fun t => t.takeFullImage n bs) := rfl

theorem exec_tieCommandFrame {c} {x : List Nat} :
    exec (.tieCommandFrame ⟨c, x⟩) s = .next (s.tieFrame x true fun t => t.takeCommand c) := rfl

theorem exec_writeForwardFrame {ix sub bs n c} {x : List Nat} (hi : ix < 65536) (hs : sub < 256) :
    exec (.writeForwardFrame ix sub ⟨bs, x⟩ ⟨n, c⟩) s = .next (s.tieFrame x true fun t =>
      t.takeForward { path := .forwarded, key := keyOf ix sub, data := bs, tag := n, due := c }) := by
  simp only [exec, execWriteForwardFrame, hi, hs, decide_true, Bool.and_self, whenValid_true]
  rfl

theorem exec_resynchronisationDataFrame {page bs} {x : List Nat} (h : page < 0x80080) :
    exec (.resynchronisationDataFrame page ⟨bs, x⟩) s = .next (s.tieFrame x true fun t => t.takeStream page bs) := by
  simp only [exec, execResynchronisationDataFrame, h, decide_true, whenValid_true]

theorem exec_bankCopyComplete {store bs b} {x : List Nat} (h : store < 3) :
    exec (.bankCopyComplete store ⟨bs, x⟩ b) s = .next (s.tieFrame x true fun t => t.takeCopy store bs b) := by
  simp only [exec, execBankCopyComplete, h, decide_true, whenValid_true]

/-- Each frame does its own operation, which leaves the counts of the lanes, where it arrives. -/
theorem tieKinds_exec {fr : ImageFrame} {r n d bs c b} {x} (h : x ∈ tieKinds s fr r n d bs c b) :
    ∃ f : List Nat → State → State, (∀ failed t, (f failed t).lanes = t.lanes) ∧
      ∀ failed, exec (x.1 failed) s = .next (s.tieFrame failed x.2 (f failed)) := by
  simp only [tieKinds, List.mem_cons, List.not_mem_nil, or_false] at h
  rcases h with rfl | rfl | rfl | rfl | rfl | rfl | rfl | rfl | rfl
  · exact ⟨fun x t => t.noteImage { fr with whole := true, failed := x }, fun _ _ => State.frame_lanes,
      fun _ => exec_imageFrame rfl⟩
  · exact ⟨fun x t => t.takeStatus { r with failed := x }, fun _ _ => State.takeStatus_lanes,
      fun _ => exec_roleStatusFrame⟩
  · exact ⟨fun _ t => t.takeDigest n d, fun _ _ => State.takeDigest_lanes, fun _ => exec_outputDigest⟩
  · exact ⟨fun _ t => t.takeNotice n, fun _ _ => State.takeNotice_lanes, fun _ => exec_faultNotice⟩
  · exact ⟨fun _ t => t.takeFullImage n bs, fun _ _ => State.takeFullImage_lanes, fun _ => exec_fullOutputImage⟩
  · exact ⟨fun _ t => t.takeCommand c, fun _ _ => State.takeCommand_lanes, fun _ => exec_tieCommandFrame⟩
  · exact ⟨fun _ t => t.takeForward _, fun _ _ => State.takeForward_lanes,
      fun _ => exec_writeForwardFrame (by omega) (by omega)⟩
  · exact ⟨fun _ t => t.takeStream _ bs, fun _ _ => State.takeStream_lanes (by omega),
      fun _ => exec_resynchronisationDataFrame (by omega)⟩
  · exact ⟨fun _ t => t.takeCopy _ bs b, fun _ _ => State.takeCopy_lanes, fun _ => exec_bankCopyComplete (by omega)⟩

theorem tieKinds_lanes (ok : s.Ok) {fr : ImageFrame} {r n d bs c b} {x} (h : x ∈ tieKinds s fr r n d bs c b) :
    (∀ lane, lane < 2 →
      (x.2 = false → exec (x.1 [lane]) s = .next (s.count (keyOf 0x2520 (5 + 2 * lane)))) ∧
      (∃ t, exec (x.1 [lane]) s = .next t ∧ Counts (keyOf 0x2520 (5 + 2 * lane)) 1 s t ∧
        Counts 0x252009 (if x.2 then 1 else 0) s t)) ∧
    (∃ t, exec (x.1 [0, 1]) s = .next t ∧ Only [0x252005, 0x252007, 0x252009] s t ∧ t = { s with regs := t.regs } ∧
      Counts 0x252005 1 s t ∧ Counts 0x252007 1 s t ∧ Counts 0x252009 (if x.2 then 1 else 0) s t) ∧
    (s.tieUp = false ∨ s.running = false → exec (x.1 []) s = .next s) := by
  obtain ⟨f, keeps, run⟩ := tieKinds_exec h
  refine ⟨fun lane hl => ⟨fun late => ?_, ⟨_, run _, State.lane_counts ok hl (keeps _)⟩⟩,
    ⟨_, run _, State.lost_counts ok⟩, fun down => ?_⟩
  · rw [run, late, State.tieFrame_late hl]
  · rw [run, State.tieFrame_none down]

end Sys2Proof.Machine
end

section
/-! SUPPORT. A change of the own role and of the partner's: what the unit keeps, and the entries it shows (R171, R175). -/

namespace Sys2Proof.Machine

open Sys2Proof Sys2Proof.Stated

variable {s t : State}

/-- What a change of roles leaves: what the partner said last, what was agreed on a tick, the data memory and the engines. -/
structure TieView where
  partner   : Option RoleStatus
  heard     : Nat
  notice    : Option Nat
  abdicated : Option Nat
  mem       : Sparse Byte
  engines   : Sparse Engine

def State.tieView (s : State) : TieView :=
  ⟨s.pair.partner, s.pair.heard, s.pair.notice, s.pair.abdicated, s.mem, s.engines⟩

theorem State.tieView_of_pairCore (h : t.pairCore = s.pairCore) : t.tieView = s.tieView := by
  unfold State.tieView
  rw [State.pair_of_pairCore h, State.mem_of_pairCore h, State.engines_of_pairCore h]

@[simp] theorem State.setReg_tieView {k v} : (s.setReg k v).tieView = s.tieView := (rfl)

@[simp] theorem State.setBit_tieView {k n v} : (s.setBit k n v).tieView = s.tieView := (rfl)

@[simp] theorem State.frame_tieView {regs blobs tasks tick img mtx loops chain ost dig ana time keep can open_ sent
    dict book panel rst fuse out free pending change image computed digest ownDigest ownSet unheard watch watchHeard
    firstTick inStepOnce mismatches verdictDue passed differed target holdOffDone inStepNs attempts syncNs toCopy passDone
    gapMissed} :
    State.tieView { s with
      regs := regs, blobs := blobs, tasks := tasks, tick := tick, img := img, mtx := mtx, loops := loops, chain := chain
      ost := ost, dig := dig, ana := ana, time := time, keep := keep, can := can, open_ := open_, sent := sent, dict := dict
      book := book, panel := panel, rst := rst, fuse := fuse, out := out, free := free, pending := pending
      pair := { s.pair with
        change := change, image := image, computed := computed, digest := digest, ownDigest := ownDigest, ownSet := ownSet
        unheard := unheard, watch := watch, watchHeard := watchHeard, firstTick := firstTick, inStepOnce := inStepOnce
        mismatches := mismatches, verdictDue := verdictDue, passed := passed, differed := differed, target := target
        holdOffDone := holdOffDone, inStepNs := inStepNs, attempts := attempts, syncNs := syncNs, toCopy := toCopy
        passDone := passDone, gapMissed := gapMissed } } = s.tieView :=
  (rfl)

@[simp] theorem State.ite_tieView {c : Prop} {d : Decidable c} {s t : State} :
    (if c then s else t).tieView = if c then s.tieView else t.tieView := apply_ite ..

@[simp] theorem State.setCause_tieView {g n} : (s.setCause g n).tieView = s.tieView :=
  State.tieView_of_pairCore State.setCause_pairCore

@[simp] theorem State.recordError_tieView {c p q} : (s.recordError c p q).tieView = s.tieView :=
  State.tieView_of_pairCore State.recordError_pairCore

@[simp] theorem State.answer_tieView {r} : (s.answer r).tieView = s.tieView :=
  State.tieView_of_pairCore State.answer_pairCore

@[simp] theorem State.hartLeave_tieView : s.hartLeave.tieView = s.tieView :=
  State.tieView_of_pairCore State.hartLeave_pairCore

@[simp] theorem State.busesLeave_tieView : s.busesLeave.tieView = s.tieView :=
  State.tieView_of_pairCore State.busesLeave_pairCore

@[simp] theorem State.abortExchange_tieView {r} : (s.abortExchange r).tieView = s.tieView :=
  State.tieView_of_pairCore State.abortExchange_pairCore

@[simp] theorem State.stopModule_tieView : s.stopModule.tieView = s.tieView :=
  State.tieView_of_pairCore State.stopModule_pairCore

@[simp] theorem State.measure_tieView {v} : (s.measure v).tieView = s.tieView :=
  State.tieView_of_pairCore State.measure_pairCore

@[simp] theorem State.changeRole_tieView {c} : (s.changeRole c).tieView = s.tieView := (rfl)

@[simp] theorem State.stopResync_tieView : s.stopResync.tieView = s.tieView := (rfl)

@[simp] theorem State.leaveActive_tieView : s.leaveActive.tieView = s.tieView := by
  have answers (t : State) (xs : List PendingWrite) (reply : PendingWrite → Reply) :
      (t.each xs fun t w => t.answer (reply w)).tieView = t.tieView :=
    State.each_keeps State.tieView fun _ _ _ => State.answer_tieView
  unfold State.leaveActive
  simp [answers]

@[simp] theorem State.enterActive_tieView : s.enterActive.tieView = s.tieView := by
  have tasks (t : State) :
      (t.each (List.range 18) fun t k => t.setTask k { t.task k with firstActive := true }).tieView = t.tieView :=
    State.each_keeps State.tieView fun _ _ _ => rfl
  unfold State.enterActive
  simp [tasks]

@[simp] theorem State.setRole_tieView {code reason} : (s.setRole code reason).tieView = s.tieView := by
  unfold State.setRole
  simp

@[simp] theorem State.setPartnerRole_tieView {code} : (s.setPartnerRole code).tieView = s.tieView := by
  unfold State.setPartnerRole
  simp

/-! ## The entries of the roles -/

/-- The entries of the pair and the tie link read alike. -/
def SameEntries (s t : State) : Prop := ∀ k, 0x250000 ≤ k → k < 0x252100 → t.reg k = s.reg k

theorem SameEntries.refl : SameEntries s s := fun _ _ _ => rfl

theorem SameEntries.of_core (h : t.pairCore = s.pairCore) : SameEntries s t := fun _ => State.reg_of_pairCore h

theorem SameEntries.trans {u : State} (h : SameEntries s t) (h' : SameEntries t u) : SameEntries s u :=
  fun k lo hi => (h' k lo hi).trans (h k lo hi)

theorem SameEntries.core {u : State} (h : SameEntries s t) (core : u.pairCore = t.pairCore) : SameEntries s u :=
  h.trans (.of_core core)

theorem SameEntries.setReg (h : SameEntries s t) {k v : Nat} : SameEntries (s.setReg k v) (t.setReg k v) := by
  intro j lo hi
  rw [State.reg_setReg, State.reg_setReg, h j lo hi]

theorem SameEntries.setBit (h : SameEntries s t) {k n : Nat} {b : Bool} (lo : 0x250000 ≤ k) (hi : k < 0x252100) :
    SameEntries (s.setBit k n b) (t.setBit k n b) := by
  unfold State.setBit
  rw [h k lo hi]
  exact h.setReg

theorem State.leaveActive_entries : SameEntries ((s.setReg 0x250104 0).setBit 0x250107 5 false) s.leaveActive := by
  unfold State.leaveActive
  extract_lets due s1 mute _ _ s2
  have h1 : SameEntries s s1 := .of_core (State.each_pairCore fun _ _ _ => State.answer_pairCore)
  have h2 : SameEntries s s2 := h1
  exact ((h2.setReg.setBit (by decide) (by decide)).core State.hartLeave_pairCore |>.core State.busesLeave_pairCore).core
    State.abortExchange_pairCore

/-- A unit that enters NOT-READY shows its role and the reason, and no resynchronisation (R171). -/
theorem State.setRole_notReady_entries (h : s.role ≠ 4) {r : Nat} :
    let s1 := s.setReg 0x250108 r
    let s2 := if s.role = 1 then s1.leaveActive else s1
    let shown := (((s2.setReg 0x250101 4).setReg 0x25010E 0).setBit 0x250107 2 false).setBit 0x250107 6 false
    SameEntries shown (s.setRole 4 r) := by
  intro s1 s2 shown
  unfold State.setRole
  extract_lets _ t2 t3 t4 _ t5 t6
  have h2 : SameEntries s2 t2 := .refl
  have h3 : SameEntries (s2.setReg 0x250101 4) t3 := h2.setReg.core State.setCause_pairCore
  have h4 : SameEntries ((s2.setReg 0x250101 4).setReg 0x25010E 0) t4 := h3.setReg
  have h5 : SameEntries shown t6 :=
    (SameEntries.setBit h4 (by decide) (by decide)).setBit (by decide) (by decide)
  rw [if_neg h]
  exact h5.core (by simp)

theorem State.setRole_notReady (h : s.role ≠ 4) {r : Nat} (hr : r < 256) :
    let t := s.setRole 4 r
    t.role = 4 ∧ t.reg 0x250108 = r ∧ (s.role = 1 → t.reg 0x250104 = 0) ∧ t.reg 0x251009 = s.reg 0x251009 := by
  have bits : entryBits 0x250101 = 8 ∧ entryBits 0x250108 = 8 := by decide +kernel
  have entries := State.setRole_notReady_entries h (r := r)
  dsimp only at entries
  generalize hu : (if s.role = 1 then (s.setReg 0x250108 r).leaveActive else s.setReg 0x250108 r) = u at entries
  have kept (k : Nat) (hk : 0x250000 ≤ k ∧ k < 0x252100 ∧ k ≠ 0x250107 ∧ k ≠ 0x250104) :
      u.reg k = (s.setReg 0x250108 r).reg k := by
    obtain ⟨lo, hi, flags, roleOut⟩ := hk
    subst hu
    split
    · rw [State.leaveActive_entries k lo hi, State.setBit, State.reg_setReg_other _ _ _ _ flags,
        State.reg_setReg_other _ _ _ _ roleOut]
    · rfl
  have reads (k : Nat) (hk : 0x250000 ≤ k ∧ k < 0x252100 ∧ k ≠ 0x250107 ∧ k ≠ 0x25010E) :
      (s.setRole 4 r).reg k = (u.setReg 0x250101 4).reg k := by
    obtain ⟨lo, hi, flags, phase⟩ := hk
    rw [entries k lo hi, State.setBit, State.reg_setReg_other _ _ _ _ flags, State.setBit,
      State.reg_setReg_other _ _ _ _ flags, State.reg_setReg_other _ _ _ _ phase]
  refine ⟨?_, ?_, fun active => ?_, ?_⟩
  · rw [State.role, reads _ (by decide), State.reg_setReg_same, fit_of_lt (by rw [bits.1]; decide)]
  · rw [reads _ (by decide), State.reg_setReg_other _ _ _ _ (by decide), kept _ (by decide), State.reg_setReg_same,
      fit_of_lt (by rw [bits.2]; exact hr)]
  · rw [reads _ (by decide), State.reg_setReg_other _ _ _ _ (by decide), ← hu, if_pos active,
      State.leaveActive_entries _ (by decide) (by decide), State.setBit, State.reg_setReg_other _ _ _ _ (by decide),
      State.reg_setReg_same, fit, Nat.zero_mod]
  · rw [reads _ (by decide), State.reg_setReg_other _ _ _ _ (by decide), kept _ (by decide),
      State.reg_setReg_other _ _ _ _ (by decide)]

theorem State.setPartnerRole_entries {c : Nat} (h : s.partnerRole ≠ c) :
    let s1 := s.setReg 0x250102 c
    SameEntries (if s.partnerRole = 2 then (s1.setBit 0x250107 5 false).setReg 0x250109 0 else s1)
      (s.setPartnerRole c) := by
  intro s1
  unfold State.setPartnerRole
  extract_lets _ t1 t2 _ t3
  have h1 : SameEntries s1 t1 := .of_core State.setCause_pairCore
  have h2 : SameEntries s1 t2 := h1.core (by simp [t2])
  have h3 : SameEntries (if s.partnerRole = 2 then (s1.setBit 0x250107 5 false).setReg 0x250109 0 else s1) t3 := by
    unfold t3
    split
    · exact (SameEntries.setBit h2 (by decide) (by decide)).setReg
    · exact h2
  rw [if_neg h]
  refine h3.trans ?_
  split <;> exact .refl

/-- The partner's new role shows, and the own role and the partner's being unreachable stay. -/
theorem State.setPartnerRole_shows (old : s.partnerRole < 256) {c : Nat} :
    let t := s.setPartnerRole c
    t.reg 0x250102 = c % 256 ∧ t.role = s.role ∧ (t.reg 0x250107).testBit 1 = (s.reg 0x250107).testBit 1 := by
  have width : 2 ^ entryBits 0x250102 = 256 := by decide +kernel
  have bits : entryBits 0x250107 = 16 := by decide +kernel
  by_cases same : s.partnerRole = c
  · rw [State.setPartnerRole, if_pos same, ← same, Nat.mod_eq_of_lt old]
    exact ⟨rfl, rfl, rfl⟩
  have entries := State.setPartnerRole_entries same
  have reads (k : Nat) (hk : 0x250000 ≤ k ∧ k < 0x252100 ∧ k ≠ 0x250107 ∧ k ≠ 0x250109) :
      (s.setPartnerRole c).reg k = (s.setReg 0x250102 c).reg k := by
    obtain ⟨lo, hi, flags, mismatches⟩ := hk
    rw [entries k lo hi]
    split
    · rw [State.reg_setReg_other _ _ _ _ mismatches, State.setBit, State.reg_setReg_other _ _ _ _ flags]
    · rfl
  refine ⟨?_, ?_, ?_⟩
  · rw [reads _ (by decide), State.reg_setReg_same, fit, width]
  · exact (reads _ (by decide)).trans (State.reg_setReg_other _ _ _ _ (by decide))
  · rw [entries _ (by decide) (by decide)]
    split
    · rw [State.reg_setReg_other _ _ _ _ (by decide), State.testBit_reg_setBit _ _ _ (by omega), if_neg (by decide),
        State.reg_setReg_other _ _ _ _ (by decide)]
    · rw [State.reg_setReg_other _ _ _ _ (by decide)]

end Sys2Proof.Machine
end

section
/-! SUPPORT. What each frame of the tie link does where it arrives (R99, R173, R175, R180, R182 to R185, R191, R372). -/

namespace Sys2Proof.Machine

open Sys2Proof Sys2Proof.Stated

variable {s t : State}

theorem State.testBit_setUnreachable : ((s.setUnreachable false).reg 0x250107).testBit 1 = false := by
  have bits : entryBits (pr 7) = 16 := by decide +kernel
  exact (State.testBit_reg_setBit _ _ _ (by omega)).trans (if_pos rfl)

/-- A role status frame: the partner's data and role, and the partner reached (R175). -/
theorem State.takeStatus_shows (old : s.partnerRole < 256) {f : RoleStatus} :
    let t := s.takeStatus f
    t.tieView = { s.tieView with partner := some f, heard := 2 } ∧ t.reg 0x250102 = f.role % 256 ∧
      (t.reg 0x250107).testBit 1 = false := by
  unfold State.takeStatus
  extract_lets _ s1 s2 s3 s4 s5 t
  have view2 : s2.tieView = { s.tieView with partner := some f, heard := 2 } := State.setPartnerRole_tieView
  have view3 : s3.tieView = s2.tieView := by simp [s3]
  have view5 : s5.tieView = s2.tieView := by simp [s5, s4, view3]
  have last (k : Nat) (hk : 0x250000 ≤ k ∧ k < 0x252100 ∧ k ≠ 0x25010F ∧ k ≠ 0x25010E) : s5.reg k = s2.reg k := by
    obtain ⟨lo, hi, dirty, phase⟩ := hk
    have entries3 : s3.reg k = s2.reg k := State.reg_of_pairCore (by simp [s3]) lo hi
    have entries4 : s4.reg k = s3.reg k := by unfold s4; split <;> rfl
    rw [← entries3, ← entries4]
    unfold s5
    split
    · split
      · exact State.reg_setReg_other _ _ _ _ dirty
      · exact State.reg_setReg_other _ _ _ _ phase
    · rfl
  have old1 : s1.partnerRole < 256 := by
    rw [State.partnerRole, show s1.reg (pr 2) = s.reg (pr 2) from State.reg_setReg_other _ _ _ _ (by decide)]
    exact old
  obtain ⟨role, -, reached⟩ := State.setPartnerRole_shows old1 (c := f.role)
  have measured : t.pairCore = s5.pairCore := by
    unfold t
    split
    · simp
    · rfl
  rw [State.tieView_of_pairCore measured, view5, view2, State.reg_of_pairCore measured (by decide) (by decide),
    State.reg_of_pairCore measured (by decide) (by decide), last _ (by decide), last _ (by decide)]
  exact ⟨rfl, role, reached.trans State.testBit_setUnreachable⟩

theorem State.Ok.partnerRole_lt (ok : s.Ok) : s.partnerRole < 256 := by
  have width : 2 ^ entryBits (pr 2) = 256 := by decide +kernel
  exact width ▸ ok.reg_lt (pr 2)

/-! ## The frames of the tick (R175, R180, R182, R183) -/

theorem imageFrame_heard (up : s.tieUp = true) (runs : s.running = true) {f : ImageFrame} (clean : f.failed = []) :
    exec (.imageFrame f) s =
      .next (if f.whole then { heard s with pair := { (heard s).pair with image := some f } } else s) := by
  by_cases whole : f.whole = true
  · rw [exec_imageFrame whole, clean, State.tieFrame_heard up runs, if_pos whole]
    rfl
  · have late : exec (.imageFrame f) s = .next (s.countFailed f.failed (s.beforeX f.tick)) :=
      congrArg Host.Outcome.next (if_neg whole)
    rw [late, clean, if_neg whole]
    rfl

theorem State.abdicate_notReady (active : s.role = 1) :
    let t := s.abdicate
    t.role = 4 ∧ t.reg 0x250108 = 3 ∧ t.reg 0x250104 = 0 ∧ t.pair.abdicated = none := by
  generalize hu : ({ s with pair := { s.pair with abdicated := none } } : State) = u
  have role : u.role = 1 := by rw [← hu]; exact active
  have gone : u.pair.abdicated = none := by rw [← hu]
  obtain ⟨notReady, reason, roleOut, -⟩ := State.setRole_notReady (r := 3) (by rw [role]; decide : u.role ≠ 4) (by decide)
  rw [State.abdicate, hu]
  exact ⟨notReady, reason, roleOut role, (congrArg TieView.abdicated State.setRole_tieView).trans gone⟩

theorem State.takeDigest_keeps {n : Nat} (active : s.role = 1) (keeps : s.pair.abdicated ≠ some n) (d : Nat) :
    s.takeDigest n d = { s with pair := { s.pair with digest := some (n, d) } } :=
  (if_neg (not_not_intro active)).trans (if_neg keeps)

theorem State.takeDigest_abdicates {n : Nat} (active : s.role = 1) (abdicates : s.pair.abdicated = some n) (d : Nat) :
    let t := s.takeDigest n d
    t.role = 4 ∧ t.reg 0x250108 = 3 ∧ t.reg 0x250104 = 0 ∧ t.pair.abdicated = none := by
  have taken : s.takeDigest n d = State.abdicate { s with pair := { s.pair with digest := some (n, d) } } :=
    (if_neg (not_not_intro active)).trans (if_pos abdicates)
  rw [taken]
  exact State.abdicate_notReady active

theorem State.takeDigest_of_other (other : s.role ≠ 1) {n d : Nat} : s.takeDigest n d = s := if_pos other

theorem State.takeNotice_active (active : s.role = 1) (old : s.partnerRole < 256) (n : Nat) :
    let t := s.takeNotice n
    t.pair.notice = some n ∧ t.reg 0x250102 = 4 ∧ t.role = 1 ∧
      t.pair.abdicated = if s.pair.abdicated = some n then none else s.pair.abdicated := by
  generalize hu : ({ s with pair := { s.pair with
    notice := some n, abdicated := if s.pair.abdicated == some n then none else s.pair.abdicated } } : State) = u
  have role : u.role = 1 := by rw [← hu]; exact active
  have old : u.partnerRole < 256 := by rw [← hu]; exact old
  have notice : u.pair.notice = some n := by rw [← hu]
  have abdicated : u.pair.abdicated = if s.pair.abdicated = some n then none else s.pair.abdicated := by
    simp only [← hu, beq_iff_eq]
  have taken : s.takeNotice n = u.setPartnerRole 4 := by
    rw [State.takeNotice, if_pos active]
    exact congrArg (State.setPartnerRole · 4) hu
  have view := State.setPartnerRole_tieView (s := u) (code := 4)
  obtain ⟨notReady, own, -⟩ := State.setPartnerRole_shows old (c := 4)
  rw [taken]
  exact ⟨(congrArg TieView.notice view).trans notice, notReady, own.trans role,
    (congrArg TieView.abdicated view).trans abdicated⟩

theorem State.takeNotice_standby (standby : s.role = 2) (n : Nat) : s.takeNotice n = s.takeOver 1 := by
  rw [State.takeNotice, if_neg (by omega), if_pos standby]

theorem State.takeNotice_of_other (active : s.role ≠ 1) (standby : s.role ≠ 2) (n : Nat) : s.takeNotice n = s := by
  rw [State.takeNotice, if_neg active, if_neg standby]

theorem State.takeFullImage_mine {n : Nat} {data : List Byte} (mine : (s.role = 1 ∨ s.role = 4) ∧ n = s.tick.staked.tick ∧
      s.pair.digest.map (fun d => d.1) = some n ∧ s.pair.passed = false) :
    let t := s.takeFullImage n data
    Counts 0x252003 1 s t ∧ Only [0x251005, 0x251006, 0x252003] s t ∧
      (∀ w, w ∈ t.pair.differed ↔ w ∈ s.pair.differed ∨ w ∈ s.outputDiffs s.pair.ownSet data) ∧
      t = { s with regs := t.regs, pair := { s.pair with differed := t.pair.differed } } := by
  obtain ⟨role, tick, digest, notPassed⟩ := mine
  have cond : ((s.role == 1 || s.role == 4) && n == s.tick.staked.tick && s.pair.digest.map (fun d => d.1) == some n &&
      !s.pair.passed) = true := by simp [role, ← tick, digest, notPassed]
  have shown (u : State) : Only [0x251005, 0x251006, 0x252003] u (u.showDiffs.count 0x252003) :=
    only_trans (only_trans (State.only_setReg_of_mem (by simp)) (State.only_setReg_of_mem (by simp)))
      (State.only_setReg_of_mem (by simp))
  have counts (u : State) : Counts 0x252003 1 u (u.showDiffs.count 0x252003) := by
    rw [Counts, State.reg_count, State.showDiffs, State.reg_setReg_other _ _ _ _ (by decide),
      State.reg_setReg_other _ _ _ _ (by decide)]
  rw [State.takeFullImage, if_pos cond]
  refine ⟨counts _, shown _, fun w => ?_, rfl⟩
  have member : w ∈ s.pair.differed ++ (s.outputDiffs s.pair.ownSet data).filter (fun w => !s.pair.differed.contains w) ↔
      w ∈ s.pair.differed ∨ w ∈ s.outputDiffs s.pair.ownSet data := by
    by_cases old : w ∈ s.pair.differed <;> simp [old]
  exact member

theorem State.takeFullImage_of_other {n : Nat} {data : List Byte} (other : ¬((s.role = 1 ∨ s.role = 4) ∧
      n = s.tick.staked.tick ∧ s.pair.digest.map (fun d => d.1) = some n ∧ s.pair.passed = false)) :
    s.takeFullImage n data = s :=
  if_neg fun cond => other (by simpa [and_assoc] using cond)

/-! ## Forwarded writes, and the frames of a resynchronisation (R191, R372) -/

theorem State.setCause_atBoundary {g n : Nat} : (s.setCause g n).dict.atBoundary = s.dict.atBoundary := by
  unfold State.setCause
  dsimp only
  split <;> rfl

theorem State.refresh_atBoundary : s.refresh.dict.atBoundary = s.dict.atBoundary := by
  have budget (t : State) : t.refreshBudget.dict.atBoundary = t.dict.atBoundary := by
    unfold State.refreshBudget
    dsimp only
    split
    · rfl
    · exact State.setCause_atBoundary
  have capacity (t : State) : t.refreshCapacity.dict.atBoundary = t.dict.atBoundary := by
    have loads (u v : State) : (u.each (List.range 15) fun u p =>
        u.setReg (keyOf 0x2102 (2 + p)) (v.image.pairLoad p)).dict.atBoundary = u.dict.atBoundary :=
      State.each_keeps (fun t => t.dict.atBoundary) fun _ _ _ => rfl
    unfold State.refreshCapacity
    simp only [State.setReg_dict, loads]
  simp only [State.refresh, State.showMatrix, State.setReg_dict, capacity, budget]

theorem State.takeForward_own {w : PendingWrite} (own : s.standbyRefuses w.key = false) : s.takeForward w = s := by
  rw [State.takeForward, own]
  rfl

theorem State.takeForward_atClose {w : PendingWrite} (refused : s.standbyRefuses w.key = true)
    (soon : waitsForBoundary w.key = false) :
    s.takeForward w = { s with dict := { s.dict with atClose := insertForwarded w s.dict.atClose } } := by
  rw [State.takeForward, refused, soon]
  rfl

theorem State.takeForward_atBoundary {w : PendingWrite} (refused : s.standbyRefuses w.key = true)
    (late : waitsForBoundary w.key = true) : (s.takeForward w).dict.atBoundary = insertForwarded w s.dict.atBoundary := by
  rw [State.takeForward, refused, late]
  exact State.refresh_atBoundary

theorem State.reg_countBy (k n : Nat) : (s.countBy k n).reg k = min (s.reg k + n) (2 ^ entryBits k - 1) := by
  have pos := Nat.two_pow_pos (entryBits k)
  exact (s.reg_setReg_same k _).trans (fit_of_lt (by omega))

theorem lb_windowSubs {n i : Nat} (hn : n < 128) (hi : i ∈ windowSubs) : lb n i < 0x248000 := by
  have subs : ∀ i ∈ windowSubs, i < 256 := by decide
  have := subs i hi
  unfold lb keyOf
  omega

/-- A page of the loops goes to its loop alone (R191). -/
theorem State.takeLoopPage_leaves {n : Nat} (hn : n < 128) (bs : List Byte) :
    let t := s.takeLoopPage n bs
    (∀ k, 0x248000 ≤ k → t.reg k = s.reg k) ∧ t.mem = s.mem ∧
      (∀ q, q ≠ n → Sparse.get {} t.loops q = Sparse.get {} s.loops q) := by
  unfold State.takeLoopPage
  extract_lets big bits r t
  refine ⟨fun k hk => ?_, ?_, fun q hq => ?_⟩
  · exact State.each_keeps (fun t => t.reg k) fun u i hi =>
      State.reg_setReg_other _ _ _ _ (Nat.ne_of_gt (Nat.lt_of_lt_of_le (lb_windowSubs hn hi) hk))
  · exact State.each_keeps (fun t => t.mem) fun _ _ _ => rfl
  · have loops : t.loops = (s.setLrt n r).loops := State.each_keeps (fun t => t.loops) fun _ _ _ => rfl
    rw [loops]
    exact Sparse.get_set_other _ _ _ _ _ _ hq

theorem State.reg_takePage {page : Nat} (hp : page < 0x80080) (data : List Byte) {k : Nat} (hk : 0x248000 ≤ k) :
    (s.takePage page data).reg k = s.reg k := by
  unfold State.takePage
  split
  · rfl
  · exact (State.takeLoopPage_leaves (by omega) data).1 k hk

/-- A page counts its bytes, and the first page begins the streaming phase (R191). -/
theorem State.takeStream_syncing {page : Nat} {data : List Byte} (sync : s.role = 3 ∧ 4 ≤ s.reg 0x25010E) :
    let t := (s.takePage page data).countBy 0x250110 256
    s.takeStream page data = if t.reg 0x25010E = 4 then t.setReg 0x25010E 5 else t := if_pos sync

theorem State.takeStream_of_other {page : Nat} {data : List Byte} (other : s.role ≠ 3 ∨ s.reg 0x25010E < 4) :
    s.takeStream page data = s :=
  if_neg (show ¬(s.role = 3 ∧ 4 ≤ s.reg 0x25010E) by omega)

theorem State.takeStream_shows {page : Nat} (hp : page < 0x80080) (data : List Byte)
    (sync : s.role = 3 ∧ 4 ≤ s.reg 0x25010E) :
    let t := s.takeStream page data
    t.reg 0x25010E = (if s.reg 0x25010E = 4 then 5 else s.reg 0x25010E) ∧ Counts 0x250110 256 s t := by
  have bits : entryBits 0x25010E = 8 := by decide +kernel
  have phase : ((s.takePage page data).countBy 0x250110 256).reg 0x25010E = s.reg 0x25010E := by
    unfold State.countBy
    rw [State.reg_setReg_other _ _ _ _ (by decide), State.reg_takePage hp data (by decide)]
  have counts : Counts 0x250110 256 s ((s.takePage page data).countBy 0x250110 256) := by
    rw [Counts, State.reg_countBy, State.reg_takePage hp data (by decide)]
  rw [State.takeStream_syncing sync]
  dsimp only
  generalize (s.takePage page data).countBy 0x250110 256 = u at phase counts ⊢
  rw [phase]
  split
  · rw [State.reg_setReg_same, fit_of_lt (by rw [bits]; decide), Counts, State.reg_setReg_other _ _ _ _ (by decide)]
    exact ⟨rfl, counts⟩
  · exact ⟨phase, counts⟩

theorem State.takeStream_memory {page : Nat} (hp : page < 0x80000) (data : List Byte)
    (sync : s.role = 3 ∧ 4 ≤ s.reg 0x25010E) :
    let t := s.takeStream page data
    Only [0x25010E, 0x250110] s t ∧
      t = { s with regs := t.regs, mem := Memory.writeBytes s.mem (256 * page) (data.take 256) } := by
  have taken : s.takePage page data = { s with mem := Memory.writeBytes s.mem (256 * page) (data.take 256) } := if_pos hp
  rw [State.takeStream_syncing sync, taken]
  have counted : Only [0x25010E, 0x250110] s
      (State.countBy { s with mem := Memory.writeBytes s.mem (256 * page) (data.take 256) } 0x250110 256) :=
    State.only_setReg_of_mem (s := { s with mem := _ }) (by simp)
  dsimp only
  split
  · exact ⟨only_trans counted (State.only_setReg_of_mem (by simp)), rfl⟩
  · exact ⟨counted, rfl⟩

theorem State.takeStream_loop {page : Nat} (lo : 0x80000 ≤ page) (hp : page < 0x80080) (data : List Byte)
    (sync : s.role = 3 ∧ 4 ≤ s.reg 0x25010E) :
    let t := s.takeStream page data
    t.mem = s.mem ∧ ∀ q, q ≠ page - 0x80000 → Sparse.get {} t.loops q = Sparse.get {} s.loops q := by
  have taken : s.takePage page data = s.takeLoopPage (page - 0x80000) data := if_neg (by omega)
  obtain ⟨-, mem, loops⟩ := State.takeLoopPage_leaves (s := s) (n := page - 0x80000) (by omega) data
  rw [State.takeStream_syncing sync, taken]
  generalize s.takeLoopPage (page - 0x80000) data = u at mem loops ⊢
  dsimp only
  split
  · unfold State.countBy
    rw [State.setReg_mem, State.setReg_mem, State.setReg_loops, State.setReg_loops]
    exact ⟨mem, loops⟩
  · unfold State.countBy
    rw [State.setReg_mem, State.setReg_loops]
    exact ⟨mem, loops⟩

theorem State.takeCopy_taken {store : Nat} {data : List Byte} {tagOk : Bool} {u : State} {p : RoleStatus}
    (due : s.role = 3 ∧ s.reg 0x25010E = 2 ∧ s.pair.toCopy.contains store = true)
    (taken : s.takeStore store data tagOk = some u) (partner : s.pair.partner = some p) :
    let rest := u.pair.toCopy.filter (fun k => k != store)
    let u1 := { u with pair := { u.pair with toCopy := rest } }
    s.takeCopy store data tagOk = if rest = [] then u1.afterCopy p else u1 := by
  have cond : s.role = 3 ∧ s.reg (pr 0xE) = 2 ∧ s.pair.toCopy.contains store = true := due
  rw [State.takeCopy, if_pos cond, taken, partner]
  simp only [List.isEmpty_iff]

theorem State.takeCopy_fails {store : Nat} {data : List Byte} {tagOk : Bool}
    (due : s.role = 3 ∧ s.reg 0x25010E = 2 ∧ s.pair.toCopy.contains store = true)
    (fails : s.takeStore store data tagOk = none ∨ s.pair.partner = none) :
    s.takeCopy store data tagOk = (if store < 2 then (s.showBank store 2).setCause 3 3 else s).failAttempt := by
  have cond : s.role = 3 ∧ s.reg (pr 0xE) = 2 ∧ s.pair.toCopy.contains store = true := due
  rw [State.takeCopy, if_pos cond]
  simp only [show store < 2 ↔ store ≤ 1 from Nat.lt_succ_iff]
  split
  next u p taken partner =>
    rcases fails with noStore | noPartner
    · exact nomatch taken.symm.trans noStore
    · exact nomatch partner.symm.trans noPartner
  next => rfl

theorem State.takeCopy_of_other {store : Nat} {data : List Byte} {tagOk : Bool}
    (other : s.role ≠ 3 ∨ s.reg 0x25010E ≠ 2 ∨ s.pair.toCopy.contains store = false) :
    s.takeCopy store data tagOk = s := by
  refine if_neg ?_
  rintro ⟨role, phase, due⟩
  rcases other with h | h | h
  · exact h role
  · exact h phase
  · exact nomatch due.symm.trans h

end Sys2Proof.Machine
end

section
/-! SUPPORT. The commands that a unit sends its partner over the tie link (R135, R173, R177, R182, R185, R196). -/

namespace Sys2Proof.Machine

open Sys2Proof Sys2Proof.Stated

variable {s t : State}

/-- The commands that concern a unit in STANDBY-IN-STEP alone. -/
def StandbyCommand (c : TieCommand) : Prop :=
  c ∈ [TieCommand.run, .stop, .exchangeVerdict true, .exchangeVerdict false, .switchOver true, .switchOver false, .mismatch,
    .leaveStep true, .leaveStep false, .takeOver, .checksum] ∨ ∃ n, c = .targetFrame n ∨ c = .halt n

theorem State.takeCommand_of_other (role : s.role ≠ 2) {c : TieCommand} (hc : StandbyCommand c) : s.takeCommand c = s := by
  rcases hc with listed | ⟨n, rfl | rfl⟩
  · simp only [List.mem_cons, List.not_mem_nil, or_false] at listed
    rcases listed with rfl | rfl | rfl | rfl | rfl | rfl | rfl | rfl | rfl | rfl | rfl <;> simp [State.takeCommand, role]
  · exact if_pos role
  · exact if_neg role

theorem State.takeCommand_claim (role : s.role = 4) (old : s.partnerRole < 256) (ns : Nat) :
    let t := s.takeCommand (.claim ns)
    t.reg 0x250102 = 1 ∧ t.role = 4 := by
  generalize hu : ({ s with pair := { s.pair with
    partner := s.pair.partner.map fun p => ({ p with role := 1, resolving := false } : RoleStatus) } } : State) = u
  have taken : s.takeCommand (.claim ns) = u.setPartnerRole 1 := by
    rw [← hu]
    exact if_pos role
  have old : u.partnerRole < 256 := by rw [← hu]; exact old
  obtain ⟨active, own, -⟩ := State.setPartnerRole_shows old (c := 1)
  rw [taken]
  exact ⟨active, own.trans (by rw [← hu]; exact role)⟩

theorem State.takeCommand_claim_of_other (role : s.role ≠ 4) (ns : Nat) : s.takeCommand (.claim ns) = s := if_neg role

theorem State.takeCommand_targetFrame (role : s.role = 2) (n : Nat) : s.takeCommand (.targetFrame n) =
    if s.reg 0x220102 = 4 then s.setReg 0x220104 n else { s with pair := { s.pair with gapMissed := true } } :=
  if_neg (not_not_intro role)

theorem State.takeCommand_exchangeVerdict (role : s.role = 2) (armed : Bool) :
    s.takeCommand (.exchangeVerdict armed) = s.followVerdict armed := if_pos role

/-- A mismatch counts, and leads to NOT-READY at the diverged limit and to STANDBY-SYNCING before it (R185, R186). -/
theorem State.takeCommand_leaveStep (role : s.role = 2) : s.takeCommand (.leaveStep true) =
    let t := s.setReg 0x251009 (min 255 (s.reg 0x251009 + 1))
    if t.reg 0x25000B ≤ t.reg 0x251009 then t.setRole 4 5 else t.changeRole { sources := [2], role := 3 } :=
  if_neg (not_not_intro role)

theorem State.leaveStep_counts (role : s.role = 2) {n : Nat} (hn : min 255 (s.reg 0x251009 + 1) = n) :
    let t := s.takeCommand (.leaveStep true)
    t.reg 0x251009 = n ∧ (s.reg 0x25000B ≤ n → t.role = 4 ∧ t.reg 0x250108 = 5) ∧
      (n < s.reg 0x25000B → Waits (s.setReg 0x251009 n) t [2] 3 0 0) := by
  have bits : entryBits 0x251009 = 8 := by decide +kernel
  have count : (s.setReg 0x251009 n).reg 0x251009 = n := by
    rw [State.reg_setReg_same, fit_of_lt (by rw [bits]; omega)]
  have limit : (s.setReg 0x251009 n).reg 0x25000B = s.reg 0x25000B := State.reg_setReg_other _ _ _ _ (by decide)
  have standby : (s.setReg 0x251009 n).role = 2 := (State.reg_setReg_other _ _ _ _ (by decide)).trans role
  rw [State.takeCommand_leaveStep role, hn]
  dsimp only
  rw [count, limit]
  split
  next reached =>
    obtain ⟨notReady, reason, -, steps⟩ := State.setRole_notReady (r := 5) (by rw [standby]; decide) (by decide)
    exact ⟨steps.trans count, fun _ => ⟨notReady, reason⟩, fun before => absurd reached (by omega)⟩
  next before => exact ⟨count, fun reached => absurd reached before, fun _ => rfl⟩

theorem State.takeCommand_halt (role : s.role = 2) (n : Nat) :
    let t := s.takeCommand (.halt n)
    t.mode = stHalted ∧ t.reg 0x210004 = n % 2 ^ 64 := by
  have bits : entryBits 0x210004 = 64 := by decide +kernel
  have taken : s.takeCommand (.halt n) = (s.halt 5 0xFF 0xFF).setReg 0x210004 n := if_pos role
  rw [taken]
  dsimp only
  rw [State.mode_setReg (by decide), State.reg_setReg_same, fit, bits]
  exact ⟨State.mode_setMode (by decide), rfl⟩

/-- Settles O29: a failed copy counts on its lane, and a frame that arrives does its own operation in the unit. -/
theorem tieLinkFrames : Obligations.TieLinkFrames := by
  refine ⟨fun _ _ _ _ _ _ _ _ ok _ => tieKinds_lanes ok, fun s ok up runs => ?frames, fun s ok up runs => ?commands⟩
  case frames =>
    intro h
    refine ⟨fun f => imageFrame_heard up runs, fun f clean => ?status, fun n d => ?digest, fun n => ?notice,
      fun n data => ?image, fun ix sub data n c hi hs => ?forward, fun page data hp => ?page,
      fun store data tagOk hs => ?copy⟩
    case status =>
      rw [exec_roleStatusFrame, clean, State.tieFrame_heard up runs]
      obtain ⟨view, role, reached⟩ := State.takeStatus_shows (s := h) ok.partnerRole_lt (f := f)
      exact ⟨_, rfl, congrArg TieView.partner view, congrArg TieView.heard view, role, reached, congrArg TieView.mem view,
        congrArg TieView.engines view⟩
    case digest =>
      rw [exec_outputDigest, State.tieFrame_heard up runs]
      exact ⟨fun active keeps => congrArg Host.Outcome.next (State.takeDigest_keeps (s := h) active keeps d),
        fun active abdicates => ⟨_, rfl, State.takeDigest_abdicates (s := h) active abdicates d⟩,
        fun other => congrArg Host.Outcome.next (State.takeDigest_of_other (s := h) other)⟩
    case notice =>
      rw [exec_faultNotice, State.tieFrame_heard up runs]
      exact ⟨fun active => ⟨_, rfl, State.takeNotice_active (s := h) active ok.partnerRole_lt n⟩,
        fun standby => ⟨_, rfl, State.takeNotice_standby (s := h) standby n⟩,
        fun active standby => congrArg Host.Outcome.next (State.takeNotice_of_other (s := h) active standby n)⟩
    case image =>
      rw [exec_fullOutputImage, State.tieFrame_heard up runs]
      exact ⟨fun mine => ⟨_, rfl, State.takeFullImage_mine (s := h) mine⟩,
        fun other => congrArg Host.Outcome.next (State.takeFullImage_of_other (s := h) other)⟩
    case forward =>
      rw [exec_writeForwardFrame hi hs, State.tieFrame_heard up runs]
      exact ⟨fun own => congrArg Host.Outcome.next (State.takeForward_own own),
        fun refused soon => congrArg Host.Outcome.next (State.takeForward_atClose refused soon),
        fun refused late => ⟨_, rfl, State.takeForward_atBoundary (s := h) refused late⟩⟩
    case page =>
      rw [exec_resynchronisationDataFrame hp, State.tieFrame_heard up runs]
      refine ⟨fun role phase => ?_, fun other => congrArg Host.Outcome.next (State.takeStream_of_other (s := h) other)⟩
      have sync : h.role = 3 ∧ 4 ≤ h.reg 0x25010E := ⟨role, phase⟩
      obtain ⟨step, counts⟩ := State.takeStream_shows hp data sync
      exact ⟨_, rfl, step, counts, fun page => State.takeStream_memory page data sync,
        fun page => State.takeStream_loop page hp data sync⟩
    case copy =>
      rw [exec_bankCopyComplete hs, State.tieFrame_heard up runs]
      refine ⟨fun role phase store => ⟨fun u p taken partner => ?_, fun fails => ?_⟩,
        fun other => congrArg Host.Outcome.next (State.takeCopy_of_other (s := h) other)⟩
      · exact congrArg Host.Outcome.next (State.takeCopy_taken (s := h) ⟨role, phase, store⟩ taken partner)
      · exact congrArg Host.Outcome.next (State.takeCopy_fails (s := h) ⟨role, phase, store⟩ fails)
  case commands =>
    intro h queued
    have run (c : TieCommand) : exec (.tieCommandFrame ⟨c, []⟩) s = .next (h.takeCommand c) := by
      rw [exec_tieCommandFrame, State.tieFrame_heard up runs]
    simp only [run]
    refine ⟨fun ns => ⟨fun role => ?_, fun role => ⟨_, rfl, State.takeCommand_claim (s := h) role ok.partnerRole_lt ns⟩⟩,
      fun _ _ _ _ _ => rfl, fun role c hc => congrArg Host.Outcome.next (State.takeCommand_of_other (s := h) role hc),
      fun role => ?_⟩
    · exact congrArg Host.Outcome.next (State.takeCommand_claim_of_other (s := h) role ns)
    · have standby : h.role = 2 := role
      have acts {c t} (taken : h.takeCommand c = t) : (.next (h.takeCommand c) : Result) = .next t := congrArg _ taken
      exact ⟨acts (if_pos standby), acts (if_pos standby), fun n => acts (State.takeCommand_targetFrame standby n),
        acts (State.takeCommand_exchangeVerdict standby true), acts (State.takeCommand_exchangeVerdict standby false),
        fun b => acts (if_pos standby), acts (if_pos standby), ⟨_, rfl, if_pos standby⟩, ⟨_, rfl, if_pos standby⟩,
        ⟨_, rfl, if_pos standby⟩, ⟨_, rfl, State.leaveStep_counts standby rfl⟩,
        fun n => ⟨_, rfl, State.takeCommand_halt standby n⟩⟩

end Sys2Proof.Machine
end


section
/-! SUPPORT. A cause of a group without EMCY, and what a step leaves beside registers and program images (R386, R388). -/

namespace Sys2Proof.Machine

open Sys2Proof Sys2Proof.Stated

variable {s t u : State}

/-- A cause of a group that sends no EMCY sets its bit and takes it out of the writes that wait to clear it. -/
theorem State.setCause_of_quiet {g n : Nat} (quiet : emcyGroup g = false) :
    s.setCause g n = { s.setBit (causeOf g) n true with
      dict := { s.dict with atClose := s.dict.atClose.map (keepCause (causeOf g) n) } } := by
  unfold State.setCause
  rw [quiet]
  rfl

theorem State.setsBit_setCause {g n : Nat} (hn : n < entryBits (causeOf g)) (kept : u.reg (causeOf g) = s.reg (causeOf g)) :
    SetsBit (causeOf g) n s (u.setCause g n) := by
  obtain ⟨sets, others⟩ := u.setsBit_setBit hn
  rw [← State.reg_setCause] at sets others
  exact ⟨sets, fun m hm e => (others m hm e).trans (by rw [kept])⟩

theorem apart_refl {keys : List Nat} : Apart keys s s := ⟨fun _ _ => rfl, rfl⟩

theorem apart_setReg {keys : List Nat} {k v : Nat} (h : Apart keys s t) (hk : k ∈ keys) : Apart keys s (t.setReg k v) := by
  obtain ⟨only, frame⟩ := h
  exact ⟨only_trans only (State.only_setReg_of_mem hk), congrArg (State.setReg · k v) frame⟩

theorem apart_setCause {keys : List Nat} {g n : Nat} (h : Apart keys s t) (quiet : emcyGroup g = false)
    (hk : causeOf g ∈ keys) : Apart keys s (t.setCause g n) := by
  obtain ⟨only, frame⟩ := h
  refine ⟨only_trans only (State.only_setCause_of_mem hk), ?_⟩
  rw [State.setCause_of_quiet quiet]
  exact congrArg (fun x : State => { x.setBit (causeOf g) n true with
    dict := { x.dict with atClose := x.dict.atClose.map (keepCause (causeOf g) n) } }) frame

/-- `t` is `s` but for registers, the program images, and the writes that wait for a closing point. -/
def ImagesApart (s t : State) : Prop :=
  t = { s with regs := t.regs, img := t.img, dict := { s.dict with atClose := t.dict.atClose } }

theorem ImagesApart.trans (h : ImagesApart s t) (h' : ImagesApart t u) : ImagesApart s u := by
  unfold ImagesApart at *
  rw [h', h]

theorem State.imagesApart_setReg {k v : Nat} : ImagesApart s (s.setReg k v) := rfl

theorem State.imagesApart_setBank {n : Nat} {b : Bank} : ImagesApart s (s.setBank n b) := by
  unfold State.setBank
  split <;> rfl

theorem State.imagesApart_showBank {n v : Nat} : ImagesApart s (s.showBank n v) := by
  unfold State.showBank
  dsimp only
  split <;> rfl

theorem State.imagesApart_emptyBank {n : Nat} : ImagesApart s (s.emptyBank n) := by
  obtain ⟨cold, eq⟩ := State.emptyBank_eq (s := s) (n := n)
  rw [eq]
  exact (State.imagesApart_setBank.trans State.imagesApart_showBank).trans rfl

theorem State.imagesApart_setCause {g n : Nat} (quiet : emcyGroup g = false) : ImagesApart s (s.setCause g n) := by
  rw [State.setCause_of_quiet quiet]
  rfl

end Sys2Proof.Machine
end

section
/-! SUPPORT. The events of a program image: the end of its verification, and the steps of its exchange (R122, R132, R136,
R137). -/

namespace Sys2Proof.Machine

open Sys2Proof Sys2Proof.Stated

variable {s : State}

/-! ## The end of a verification (R122) -/

theorem State.setBank_regs {n : Nat} {b : Bank} : (s.setBank n b).regs = s.regs := by
  unfold State.setBank
  split <;> rfl

theorem State.setBank_download {n : Nat} {b : Bank} : (s.setBank n b).img.download = s.img.download := by
  unfold State.setBank
  split <;> rfl

theorem State.reg_showBank {n v k : Nat} (h : k < 0x220003 ∨ 0x22000A < k) : (s.showBank n v).reg k = s.reg k := by
  unfold State.showBank
  dsimp only
  split
  all_goals
    simp only [State.reg_setReg]
    repeat rw [if_neg (by omega)]

/-- New content of a bank shows in the bank's own entries alone. -/
theorem State.reg_fillBank {n v k : Nat} {b : Bank} (h : k < 0x220003 ∨ 0x22000A < k) :
    ((s.setBank n b).showBank n v).reg k = s.reg k := by
  rw [State.reg_showBank h, State.reg, State.setBank_regs, State.reg]

theorem State.fillBank_download {n v : Nat} {b : Bank} : ((s.setBank n b).showBank n v).img.download = s.img.download := by
  rw [State.showBank_img, State.setBank_download]

theorem State.reg_emptyBank {n k : Nat} (h : k < 0x220003 ∨ 0x22000A < k) : (s.emptyBank n).reg k = s.reg k := by
  obtain ⟨cold, eq⟩ := State.emptyBank_eq (s := s) (n := n)
  rw [eq]
  exact State.reg_fillBank h

theorem State.emptyBank_download {n : Nat} : (s.emptyBank n).img.download = s.img.download := by
  obtain ⟨cold, eq⟩ := State.emptyBank_eq (s := s) (n := n)
  rw [eq]
  exact State.fillBank_download

/-- What a verification puts into its bank: the image that it found valid with its container, or nothing (R122). -/
def State.placeImage (s : State) (n : Nat) (bs : List Byte) (m : Option Image) : State :=
  match m with
  | some x => ((s.setBank n ⟨some x, bs⟩).showBank n 1).setReg 0x220102 3
  | none => (s.emptyBank n).setReg 0x220102 0

variable {n : Nat} {bs : List Byte} {m : Option Image}

theorem State.placeImage_apart : ImagesApart s (s.placeImage n bs m) := by
  cases m with
  | some x => exact (State.imagesApart_setBank.trans State.imagesApart_showBank).trans State.imagesApart_setReg
  | none => exact State.imagesApart_emptyBank.trans State.imagesApart_setReg

theorem State.reg_placeImage {k : Nat} (h : k < 0x220003 ∨ 0x22000A < k) (other : k ≠ 0x220102) :
    (s.placeImage n bs m).reg k = s.reg k := by
  cases m with
  | some x => exact (State.reg_setReg_other _ _ _ _ other).trans (State.reg_fillBank h)
  | none => exact (State.reg_setReg_other _ _ _ _ other).trans (State.reg_emptyBank h)

theorem State.placeImage_download : (s.placeImage n bs m).img.download = s.img.download := by
  cases m with
  | some x => exact State.fillBank_download
  | none => exact State.emptyBank_download

theorem State.placeImage_some {x : Image} :
    let t := s.placeImage n bs (some x)
    t.bank n = ⟨some x, bs⟩ ∧ t.bankState n = 1 ∧ t.reg 0x220102 = 3 :=
  ⟨State.bank_showBank.trans State.bank_setBank_same,
    (State.bankState_setReg (by decide) (by decide)).trans (State.bankState_showBank (by decide)),
    State.reg_exchangeState (by decide)⟩

theorem State.placeImage_none :
    let t := s.placeImage n bs none
    t.bank n = {} ∧ t.bankState n = 0 ∧ t.reg 0x220102 = 0 :=
  ⟨State.bank_emptyBank.trans State.bank_setBank_same,
    (State.bankState_setReg (by decide) (by decide)).trans State.bankState_emptyBank,
    State.reg_exchangeState (by decide)⟩

theorem State.finishVerification_idle (idle : s.img.download = none) : s.finishVerification = s := by
  rw [State.finishVerification, idle]

/-- The end of a verification with its verdict and detail (R122). -/
def State.showVerdict (s : State) (v : Verdict) : State :=
  ({ s with img := { s.img with download := none } }.setReg 0x22000C v.code).setReg 0x22000D v.detail

theorem State.reg_showVerdict {v : Verdict} {k : Nat} (h : k ≠ 0x22000C) (h' : k ≠ 0x22000D) :
    (s.showVerdict v).reg k = s.reg k :=
  (State.reg_setReg_other _ _ _ _ h').trans (State.reg_setReg_other _ _ _ _ h)

theorem State.showVerdict_code {v : Verdict} : (s.showVerdict v).reg 0x22000C = fit 0x22000C v.code :=
  (State.reg_setReg_other _ _ _ _ (by decide)).trans (State.reg_setReg_same ..)

theorem State.showVerdict_detail {v : Verdict} : (s.showVerdict v).reg 0x22000D = fit 0x22000D v.detail :=
  State.reg_setReg_same ..

theorem State.showVerdict_apart {v : Verdict} : ImagesApart s (s.showVerdict v) := rfl

/-- The verdict shows, the bank is filled or emptied, and cause group 3 says so. -/
theorem State.finishVerification_due (due : s.img.download = some bs) :
    s.finishVerification = ((s.showVerdict (verifyProgram bs s.ownerHash).1).placeImage s.img.target bs
      (verifyProgram bs s.ownerHash).2).setCause 3 0 := by
  unfold State.finishVerification
  rw [due]
  dsimp only
  generalize verifyProgram bs s.ownerHash = judged
  obtain ⟨v, m⟩ := judged
  cases m with
  | none => rfl
  | some x => rfl

theorem State.bank_setCause {g k : Nat} : (s.setCause g k).bank n = s.bank n := by
  rw [State.bank, State.setCause_img, State.bank]

theorem State.bankState_setCause {g k : Nat} (hA : 0x220009 ≠ causeOf g) (hB : 0x22000A ≠ causeOf g) :
    (s.setCause g k).bankState n = s.bankState n := by
  unfold State.bankState
  split
  · exact State.reg_setCause_other hA
  · exact State.reg_setCause_other hB

theorem imageVerificationDone_due (due : s.img.download = some bs) :
    let v := verifyProgram bs s.ownerHash
    let n := s.img.target
    ∃ t, exec .imageVerificationDone s = .next t ∧ t.img.download = none ∧
      t.reg 0x22000C = fit 0x22000C v.1.code ∧ t.reg 0x22000D = fit 0x22000D v.1.detail ∧ SetsBit (causeOf 3) 0 s t ∧
      (∀ x, v.2 = some x → t.bank n = ⟨some x, bs⟩ ∧ t.bankState n = 1 ∧ t.reg 0x220102 = 3) ∧
      (v.2 = none → t.bank n = {} ∧ t.bankState n = 0 ∧ t.reg 0x220102 = 0) ∧
      t = { s with regs := t.regs, img := t.img, dict := { s.dict with atClose := t.dict.atClose } } := by
  intro v n
  have runs : exec .imageVerificationDone s = .next (((s.showVerdict v.1).placeImage n bs v.2).setCause 3 0) :=
    congrArg Host.Outcome.next (State.finishVerification_due due)
  generalize v = judged at runs ⊢
  obtain ⟨verdict, m⟩ := judged
  dsimp only at runs ⊢
  have shows {k : Nat} (h : k < 0x220003 ∨ 0x22000A < k) (other : k ≠ 0x220102) (quiet : k ≠ causeOf 3) :
      (((s.showVerdict verdict).placeImage n bs m).setCause 3 0).reg k = (s.showVerdict verdict).reg k :=
    (State.reg_setCause_other quiet).trans (State.reg_placeImage h other)
  refine ⟨_, runs, ?_, (shows (by decide) (by decide) (by decide)).trans State.showVerdict_code,
    (shows (by decide) (by decide) (by decide)).trans State.showVerdict_detail,
    State.setsBit_setCause (by decide +kernel) ?_, fun x valid => ?_, fun fails => ?_,
    (State.showVerdict_apart.trans State.placeImage_apart).trans (State.imagesApart_setCause rfl)⟩
  · rw [State.setCause_img, State.placeImage_download]
    rfl
  · rw [State.reg_placeImage (by decide) (by decide), State.reg_showVerdict (by decide) (by decide)]
  · rw [State.bank_setCause, State.bankState_setCause (by decide) (by decide), State.reg_setCause_other (by decide), valid]
    exact State.placeImage_some
  · rw [State.bank_setCause, State.bankState_setCause (by decide) (by decide), State.reg_setCause_other (by decide), fails]
    exact State.placeImage_none

/-! ## The exchange (R132, R136, R137) -/

theorem Memory.readBytes_length {m : Sparse Byte} {a n : Nat} : (Memory.readBytes m a n).length = n := by
  induction n generalizing a with
  | zero => rfl
  | succ n ih => rw [Memory.readBytes, List.length_cons, ih]

theorem Memory.read_copyBytes_outside {src dst : Sparse Byte} {a b n x : Nat} (h : x < b ∨ b + n ≤ x) :
    Memory.read (copyBytes src dst a b n) x = Memory.read dst x :=
  Memory.read_writeBytes_outside _ _ _ _ (by rwa [Memory.readBytes_length])

/-- A piece of a transfer lies, at its destination, within one of the monuments that the transfer moves. -/
theorem pieces_within {lo n : Nat} {xs : List (Nat × Nat × Nat)} {y : Nat × Nat × Nat} (h : y ∈ pieces lo n xs) :
    ∃ x ∈ xs, x.2.1 ≤ y.2.1 ∧ y.2.1 + y.2.2 ≤ x.2.1 + x.2.2 := by
  induction xs generalizing lo n with
  | nil => simp [pieces] at h
  | cons x xs ih =>
    obtain ⟨a, b, k⟩ := x
    simp only [pieces, List.mem_append] at h
    rcases h with first | rest
    · split at first
      · simp at first
      · obtain rfl := List.mem_singleton.mp first
        exact ⟨_, List.mem_cons_self, by dsimp only; omega⟩
    · obtain ⟨x, hx, within⟩ := ih rest
      exact ⟨x, List.mem_cons_of_mem _ hx, within⟩

/-- A copy of pieces leaves every byte outside their destinations. -/
theorem State.read_copyPieces_outside {xs : List (Nat × Nat × Nat)} {a : Nat}
    (h : ∀ x ∈ xs, a < memKey 3 0 x.2.1 ∨ memKey 3 0 x.2.1 + x.2.2 ≤ a) :
    Memory.read (s.copyPieces xs).mem a = Memory.read s.mem a :=
  List.foldlRecOn (motive := fun mem => Memory.read mem a = Memory.read s.mem a) xs _ rfl
    fun _ ih x hx => (Memory.read_copyBytes_outside (h x hx)).trans ih

/-- A background copy stays within the destinations of the monuments that move. -/
theorem State.read_copyOn_outside {a : Nat} (h : ∀ x, x ∈ movedList s.image s.newImage →
    a < memKey 3 0 x.2.1 ∨ memKey 3 0 x.2.1 + x.2.2 ≤ a) :
    Memory.read (s.copyOn n).mem a = Memory.read s.mem a :=
  State.read_copyPieces_outside fun y hy => by
    obtain ⟨x, hx, within⟩ := pieces_within hy
    have outside := h x hx
    unfold memKey at *
    omega

theorem backgroundTransferDone_due (prepares : s.reg 0x220102 = 4) (due : s.img.bgComplete = false) :
    exec .backgroundTransferDone s = .next (s.copyOn (s.bgTotal - s.img.bgDone)) :=
  congrArg Host.Outcome.next (if_pos (by simp [prepares, due]))

theorem backgroundTransferDone_idle (h : s.reg 0x220102 ≠ 4 ∨ s.img.bgComplete = true) :
    exec .backgroundTransferDone s = .next s :=
  congrArg Host.Outcome.next (if_neg (by simpa [← imp_iff_not_or] using h))

theorem State.copyOn_completes : (s.copyOn (s.bgTotal - s.img.bgDone)).img =
    { s.img with bgDone := max s.img.bgDone s.bgTotal, bgComplete := true } := by
  have total : s.img.bgDone + (s.bgTotal - s.img.bgDone) = max s.img.bgDone s.bgTotal := add_tsub_eq_max
  have whole : decide (s.bgTotal ≤ max s.img.bgDone s.bgTotal) = true := by simp
  unfold State.copyOn
  rw [total, whole]
  rfl

theorem State.reg_copyOn : (s.copyOn n).reg 0x220205 = fit 0x220205 (s.img.bgDone + n) := State.reg_setReg_same ..

theorem State.only_copyOn : Only [0x220205] s (s.copyOn n) := fun k hk =>
  State.reg_setReg_other _ _ k _ (by simpa using hk)

theorem State.copyOn_apart : s.copyOn n =
    { s with regs := (s.copyOn n).regs, img := (s.copyOn n).img, mem := (s.copyOn n).mem } := rfl

/-- PREPARING past its limit ends the exchange with result 0x0D, and leaves the data memory alone (R136). -/
theorem State.abortExchange_apart {r : Nat} (prepares : s.reg 0x220102 = 4) :
    let rested : State := { s with img := { s.img with bgDone := 0, bgComplete := false, dirtyPages := [] } }
    let t := s.abortExchange r
    SetsBit (causeOf 3) 2 s t ∧ t.reg 0x220206 = 0 ∧ Apart [0x220102, 0x220103, 0x220206, causeOf 3] rested t := by
  intro rested t
  have steps : t = (((rested.setReg 0x220102 3).setReg 0x220103 r).setReg 0x220206 0).setCause 3 2 := if_pos (.inl prepares)
  rw [steps]
  refine ⟨State.setsBit_setCause (by decide +kernel) ?_, ?_,
    apart_setCause (apart_setReg (apart_setReg (apart_setReg apart_refl (by simp)) (by simp)) (by simp)) rfl (by simp)⟩
  · simp only [State.reg_setReg]
    rw [if_neg (by decide), if_neg (by decide), if_neg (by decide)]
    rfl
  · rw [State.reg_setCause_other (by decide), State.reg_setReg_same, fit, Nat.zero_mod]

theorem bankRecordCommitted_due (waits : s.reg 0x22000B = 0) :
    exec .bankRecordCommitted s = .next
      (({ s with img := { s.img with committedBank := s.reg 0x220002 } }.setReg 0x22000B 1).setCause 3 4) :=
  congrArg Host.Outcome.next (if_pos waits)

/-- Settles O28: each event by whether something of its kind is under way. -/
theorem imageEvents : Obligations.ImageEvents := by
  intro s _
  refine ⟨fun bs due => imageVerificationDone_due due,
    fun idle => congrArg Host.Outcome.next (State.finishVerification_idle idle),
    fun prepares => ⟨?limit, fun due => ?transfer, fun whole => backgroundTransferDone_idle (.inr whole)⟩,
    fun rests => ⟨congrArg Host.Outcome.next (if_neg rests), backgroundTransferDone_idle (.inl rests)⟩, fun waits => ?record,
    fun stands => congrArg Host.Outcome.next (if_neg stands)⟩
  case limit =>
    obtain ⟨state, result, -⟩ := State.abortExchange_leaves (s := s) (r := 0xD) (by decide) (.inl prepares)
    obtain ⟨cause, dirty, apart⟩ := State.abortExchange_apart (r := 0xD) prepares
    exact ⟨_, congrArg Host.Outcome.next (if_pos prepares), state, result, cause, dirty, apart⟩
  case transfer =>
    refine ⟨_, backgroundTransferDone_due prepares due, State.copyOn_completes, ?_, State.only_copyOn, State.copyOn_apart,
      fun a => State.read_copyOn_outside⟩
    rw [State.reg_copyOn, add_tsub_eq_max]
  case record =>
    refine ⟨_, bankRecordCommitted_due waits, ?_, State.setsBit_setCause (by decide +kernel) ?_,
      apart_setCause (apart_setReg apart_refl (by simp)) rfl (by simp)⟩
    · rw [State.reg_setCause_other (by decide), State.reg_setReg_same]
      decide +kernel
    · exact State.reg_setReg_other _ _ _ _ (by decide)

end Sys2Proof.Machine
end


section
/-! SUPPORT. The release of a reset of level 2 counts a start in the keeper (R438, R446). -/

namespace Sys2Proof.Machine

open Sys2Proof Sys2Proof.Stated

variable {s : State}

/-- What the entries that follow image, chain and budgets do not hold: the keeper, and how far resets and starts have come. -/
def State.startCore (s : State) : KeeperState × ResetState := (s.keep, s.rst)

@[simp] theorem State.setReg_startCore {k v : Nat} : (s.setReg k v).startCore = s.startCore := rfl

@[simp] theorem State.setCause_startCore {g n : Nat} : (s.setCause g n).startCore = s.startCore := by
  unfold State.setCause
  dsimp only
  split <;> rfl

theorem State.refreshBudget_startCore : s.refreshBudget.startCore = s.startCore := by
  unfold State.refreshBudget
  extract_lets b cur v s1 s2
  split
  · rfl
  · exact State.setCause_startCore

theorem State.refreshCapacity_startCore : s.refreshCapacity.startCore = s.startCore := by
  unfold State.refreshCapacity
  extract_lets v s1
  have loads : s1.startCore = s.startCore := State.each_field State.startCore fun _ _ => State.setReg_startCore
  rw [State.setReg_startCore, State.setReg_startCore, loads]

theorem State.refresh_startCore : s.refresh.startCore = s.startCore := by
  simp only [State.refresh, State.showMatrix, State.setReg_startCore, State.refreshCapacity_startCore,
    State.refreshBudget_startCore]

theorem State.showImage_startCore : s.showImage.startCore = s.startCore := by
  unfold State.showImage
  extract_lets m x e s1 s2 s3
  have tasks : s2.startCore = s1.startCore := State.each_field State.startCore fun t k => by
    split
    · simp only [State.setReg_startCore]
    · rfl
  simp only [State.refreshCapacity_startCore, State.setReg_startCore, s3, tasks, s1]

theorem State.chainInit_startCore : s.chainInit.startCore = s.startCore := by
  rw [State.chainInit, State.relink, State.setReg_startCore, State.setReg_startCore]
  exact State.each_field State.startCore fun _ _ => State.setReg_startCore

theorem State.applicationReset_startCore : s.applicationReset.startCore = s.startCore := by
  unfold State.applicationReset
  rw [State.refresh_startCore, State.showImage_startCore, State.chainInit_startCore]
  rfl

/-- A start moves the failed-start counter, and the keeper notes the write (R324, R446). -/
theorem State.countStart_keep (opened : s.keep.locked = false) : s.countStart.keep =
    { s.keep with units := [⟨0x2B2002, 0, leBytes 4 (s.reg 0x2B2002)⟩] } := by
  have written : (s.setKeeper 0x2B2002 (min 255 (s.reg 0x2B2002 + 1))).keep =
      { s.keep with units := [⟨0x2B2002, 0, leBytes 4 (s.reg 0x2B2002)⟩] } := by
    rw [State.setKeeper, if_neg (by simp [opened])]
    rfl
  unfold State.countStart
  dsimp only
  split <;> exact written

/-- With the supervisor up and the keeper open, the release of level 2 leaves a write to the keeper behind. -/
theorem State.release_application_keep (up : s.rst.supervisorUp = true) (opened : s.keep.locked = false) :
    ∃ old, (s.release 2).keep = { s.keep with units := [⟨0x2B2002, 0, old⟩] } := by
  let rst : ResetState := { s.rst with progress := none, startLevel := 2, tested := false }
  generalize hu : ({ s with rst := rst } : State).applicationReset = u
  have core : u.startCore = (s.keep, rst) := hu ▸ State.applicationReset_startCore
  have keep : u.keep = s.keep := congrArg Prod.fst core
  have supervisor : u.rst.supervisorUp = true := (congrArg (·.2.supervisorUp) core).trans up
  let v := u.setReg 0x210001 (if !u.rst.optionsRead then stOption else stSelfTest)
  have released : s.release 2 = v.countStart.decideStart := by
    unfold State.release
    dsimp only
    rw [if_pos rfl, hu, if_pos supervisor]
  have kept : v.keep = s.keep := keep
  have counted := State.countStart_keep (s := v) (by rw [kept, opened])
  rw [released, ← kept]
  exact ⟨_, counted⟩

/-- Refutes O48: a level-2 reset of a module whose supervisor runs increments the failed-start counter in keeper RAM (R446),
so its release does not leave the keeper as it stands: the keeper holds a write that it did not hold before. -/
theorem not_resetReleases : ¬ Obligations.ResetReleases := by
  unfold Obligations.ResetReleases
  rintro ⟨releases, -⟩
  let s : State := { State.reset with keep := { locked := false }, rst := { progress := some 2, supervisorUp := true } }
  have ok : s.Ok := ⟨State.reset_ok.regs, State.reset_ok.fits, rfl, rfl, rfl⟩
  obtain ⟨-, released⟩ := releases s ok
  obtain ⟨t, runs, -, -, -, -, -, -, stands, -⟩ := released 2 rfl (by decide)
  obtain ⟨old, counted⟩ := State.release_application_keep (s := s) rfl rfl
  have same : s.release 2 = t := Host.Outcome.next.inj runs
  rw [same, stands] at counted
  have noted : ([] : List KeeperUnit) = [⟨0x2B2002, 0, old⟩] := congrArg KeeperState.units counted
  exact nomatch noted

end Sys2Proof.Machine
end

section
/-! SUPPORT. What the own role's changes to STANDBY-SYNCING and NOT-READY leave of the pair (R169, R171). -/

namespace Sys2Proof.Machine

open Sys2Proof Sys2Proof.Stated

variable {s : State}

@[simp] theorem State.setCause_pair {g n : Nat} : (s.setCause g n).pair = s.pair :=
  State.pair_of_pairCore State.setCause_pairCore

@[simp] theorem State.stopModule_pair : s.stopModule.pair = s.pair := State.pair_of_pairCore State.stopModule_pairCore

theorem State.setUnreachable_pair {b : Bool} : (s.setUnreachable b).pair = s.pair := by
  have answers (t : State) (xs : List Relayed) (reply : Relayed → Reply) :
      (t.each xs fun t x => t.answer (reply x)).pairCore = t.pairCore :=
    State.each_pairCore fun _ _ _ => State.answer_pairCore
  have causes (t : State) {c : Bool} : (t.causeIf c 5 4).pair = t.pair := State.pair_of_pairCore State.causeIf_pairCore
  have ended (code : Nat) : (s.endRelayed code).pair = s.pair := State.pair_of_pairCore (answers ..)
  refine (causes _).trans ?_
  split
  · exact ended _
  · rfl

/-- A unit that leaves ACTIVE forgets what it prepared as the active (R178, R185). -/
theorem State.leaveActive_pair :
    s.leaveActive.pair = { s.pair with target := none, holdOffDone := false, verdictDue := false } := by
  unfold State.leaveActive
  extract_lets due s1 mute _ _ s2
  have h1 : s1.pair = s.pair := State.pair_of_pairCore (State.each_pairCore fun _ _ _ => State.answer_pairCore)
  have h2 : s2.pair = { s.pair with target := none, holdOffDone := false, verdictDue := false } := by
    rw [← h1]
  refine Eq.trans ?_ h2
  rw [State.pair_of_pairCore State.abortExchange_pairCore, State.pair_of_pairCore State.busesLeave_pairCore,
    State.pair_of_pairCore State.hartLeave_pairCore]
  rfl

/-- A unit that stops computing closes its silence watch and keeps its count of attempts; one that was ACTIVE owes no
verdict any more. -/
theorem State.setRole_stops_pair {code r : Nat} (stops : code = 3 ∨ code = 4) (h : s.role ≠ code) :
    let p := (s.setRole code r).pair
    p.watch = none ∧ p.attempts = s.pair.attempts ∧ (s.role = 1 → p.verdictDue = false) := by
  unfold State.setRole
  extract_lets s1 s2 s3 s4 _ s5 s6 p
  have h2 : s2.pair.attempts = s.pair.attempts ∧ (s.role = 1 → s2.pair.verdictDue = false) := by
    unfold s2
    split
    next active =>
      rw [State.leaveActive_pair]
      exact ⟨rfl, fun _ => rfl⟩
    next other => exact ⟨rfl, fun active => absurd active other⟩
  have h3 : s3.pair = s2.pair := State.setCause_pair
  obtain ⟨attempts, verdictDue⟩ : s4.pair.attempts = s3.pair.attempts ∧ s4.pair.verdictDue = s3.pair.verdictDue := by
    unfold s4
    split <;> exact ⟨rfl, rfl⟩
  have h5 : s5.pair = { s4.pair with watch := none, gapMissed := false } := by
    unfold s5
    rw [if_neg (by omega)]
    rfl
  have h6 : s6 = s5 := if_neg (by omega)
  have last : (if (code = 3 ∨ code = 4) ∧ s6.mode = stRun then s6.stopModule else s6).pair = s5.pair := by
    rw [h6]
    split
    · exact State.stopModule_pair
    · rfl
  have left : p = { s4.pair with watch := none, gapMissed := false } := by
    unfold p
    rw [if_neg h, last, h5]
  rw [left]
  dsimp only
  rw [attempts, verdictDue, h3]
  exact ⟨rfl, h2⟩

theorem State.setRole_syncing_role {r : Nat} : (s.setRole 3 r).role = 3 := by
  have bits : entryBits (pr 1) = 8 := by decide +kernel
  by_cases same : s.role = 3
  · rw [State.setRole, if_pos same]
    exact (State.reg_setReg_other _ _ _ _ (by decide)).trans same
  unfold State.setRole
  extract_lets s1 s2 s3 s4 _ s5 s6
  have h3 : s3.role = 3 := by
    rw [State.role, State.reg_setCause_other (by decide), show 0x250101 = pr 1 from rfl, State.reg_setReg_same,
      fit_of_lt (by rw [bits]; decide)]
  have h5 : s5.role = s4.role :=
    (State.reg_setReg_other _ _ _ _ (by decide)).trans (State.reg_setReg_other _ _ _ _ (by decide))
  have h6 : s6.role = 3 := h5.trans h3
  rw [if_neg same]
  split
  · exact (State.reg_of_pairCore State.stopModule_pairCore (by decide) (by decide)).trans h6
  · exact h6

/-- A watch that is closed stays closed when the unit goes over to STANDBY-SYNCING (R169, R183). -/
theorem State.setRole_syncing_watch {r : Nat} (closed : s.pair.watch = none) : (s.setRole 3 r).pair.watch = none := by
  by_cases same : s.role = 3
  · rw [State.setRole, if_pos same]
    exact closed
  · exact (State.setRole_stops_pair (.inl rfl) same).1

end Sys2Proof.Machine
end

section
/-! SUPPORT. The drivers of the field dies that a unit turns off (R189, R239). -/

namespace Sys2Proof.Machine

open Sys2Proof Sys2Proof.Stated

variable {s : State} {n m : Nat}

/-- What each step brings about for its own element and no step undoes holds of every element in the end. -/
theorem State.each_reaches {α : Type} {xs : List α} {f : State → α → State} {P : State → α → Prop}
    (sets : ∀ t x, P (f t x) x) (keeps : ∀ t x y, P t y → P (f t x) y) : ∀ x ∈ xs, P (s.each xs f) x := by
  induction xs generalizing s with
  | nil => simp
  | cons y ys ih =>
    intro x hx
    rcases List.mem_cons.mp hx with rfl | rest
    · exact List.foldlRecOn (motive := fun t => P t x) ys f (sets s x) fun t ht y _ => keeps t y x ht
    · exact ih x rest

/-- A bit that is clear stays clear where another bit is written or it is written clear. -/
theorem State.setBit_clear {k k' b c : Nat} {v : Bool} (clear : s.bit k c = false) (other : v = false ∨ c ≠ b) :
    (s.setBit k' b v).bit k c = false := by
  by_cases same : k = k'
  · subst same
    rw [State.bit, State.setBit, State.reg_setReg_same, fit, Nat.testBit_mod_two_pow, testBit_withBit]
    rcases other with rfl | other
    · simp [show (s.reg k).testBit c = false from clear]
    · simp [other, show (s.reg k).testBit c = false from clear]
  · exact (congrArg (·.testBit c) (s.reg_setReg_other k' k _ same)).trans clear

theorem State.setBit_clears {k b : Nat} : (s.setBit k b false).bit k b = false := by
  rw [State.bit, State.setBit, State.reg_setReg_same, fit, Nat.testBit_mod_two_pow, testBit_withBit]
  simp

theorem State.chanBit_setCause {g k b : Nat} : (s.setCause g k).chanBit n b = s.chanBit n b :=
  congrArg (·.testBit b) (State.reg_setCause_other (by unfold dch causeOf keyOf; omega))

/-! ## A stage that is off stays off -/

theorem State.off_setBit {b : Nat} {v : Bool} (off : Off s n) (other : v = false ∨ (b ≠ bStageOn ∧ b ≠ bPendingOn)) :
    Off (s.setBit (dch m 0xB) b v) n := by
  obtain ⟨stage, waits⟩ := off
  exact ⟨State.setBit_clear stage (other.imp id fun h => h.1.symm),
    State.setBit_clear waits (other.imp id fun h => h.2.symm)⟩

theorem State.off_dropDiag {b : Nat} (off : Off s n) : Off (s.dropDiag m b) n := by
  unfold State.dropDiag
  split
  · obtain ⟨stage, waits⟩ := State.off_setBit (m := m) (b := b) (v := false) off (.inl rfl)
    exact ⟨State.chanBit_setCause.trans stage, State.chanBit_setCause.trans waits⟩
  · exact off

/-- A demagnetisation and the diagnostics that clear with it switch no stage on (R240, R242). -/
theorem State.off_demag (off : Off s n) :
    Off (((s.setBit (dch m 0xB) bDemag true).dropDiag m bOverload).dropDiag m bOpenOn) n :=
  State.off_dropDiag (State.off_dropDiag (State.off_setBit off (.inr (by decide))))

theorem State.off_stageOff_other (off : Off s n) : Off (s.stageOff m) n := by
  unfold State.stageOff
  split
  · exact State.off_demag (State.off_setBit off (.inl rfl))
  · exact off

theorem State.off_stageOff (waits : s.chanBit n bPendingOn = false) : Off (s.stageOff n) n := by
  unfold State.stageOff
  split
  next on => exact State.off_demag ⟨State.setBit_clears, State.setBit_clear waits (.inl rfl)⟩
  next off => exact ⟨by simpa using off, waits⟩

/-! ## One channel of a die that turns its drivers off -/

/-- A configured channel loses its drive and its pending re-enable (R189). -/
def State.turnOff (s : State) (n : Nat) : State :=
  if s.chanMode n = 0 then s else (s.setBit (dch n 0xB) bPendingOn false).stageOff n

theorem State.chanMode_setBit {b : Nat} {v : Bool} : (s.setBit (dch m 0xB) b v).chanMode n = s.chanMode n :=
  s.reg_setReg_other (dch m 0xB) (dch n 1) _ (by unfold dch keyOf; omega)

theorem State.chanMode_dropDiag {b : Nat} (hn : n < 64) : (s.dropDiag m b).chanMode n = s.chanMode n := by
  unfold State.dropDiag
  split
  · have key : dch n 1 ≠ causeOf 7 := by unfold dch causeOf keyOf; omega
    exact (State.reg_setCause_other key).trans State.chanMode_setBit
  · rfl

theorem State.chanMode_turnOff (hn : n < 64) : (s.turnOff m).chanMode n = s.chanMode n := by
  unfold State.turnOff State.stageOff
  split
  · rfl
  · split
    · simp only [State.chanMode_dropDiag hn, State.chanMode_setBit]
    · exact State.chanMode_setBit

theorem State.off_turnOff (configured : s.chanMode n ≠ 0) : Off (s.turnOff n) n := by
  rw [State.turnOff, if_neg configured]
  exact State.off_stageOff State.setBit_clears

theorem State.off_turnOff_other (off : Off s n) : Off (s.turnOff m) n := by
  unfold State.turnOff
  split
  · exact off
  · exact State.off_stageOff_other (State.off_setBit off (.inl rfl))

theorem State.dropDiag_dig {b : Nat} : (s.dropDiag n b).dig = s.dig := by
  have causes (t : State) : (t.setCause 7 1).dig = t.dig := by
    unfold State.setCause
    dsimp only
    split <;> rfl
  unfold State.dropDiag
  split
  · exact causes _
  · rfl

theorem State.turnOff_dig : (s.turnOff n).dig = s.dig := by
  unfold State.turnOff State.stageOff
  split
  · rfl
  · split
    · exact State.dropDiag_dig.trans State.dropDiag_dig
    · rfl

/-! ## A die that turns its drivers off -/

/-- No output of the die drives before the next release (R248). -/
def State.holdDie (s : State) (die : Nat) : State :=
  { s with dig := if die = 0 then { s.dig with holdOverA := true } else { s.dig with holdOverB := true } }

/-- The channels of a field die. -/
def dieChannels (die : Nat) : List Nat := (List.range 32).map fun i => 32 * die + i

theorem mem_dieChannels (hn : n < 64) : n ∈ dieChannels 0 ∨ n ∈ dieChannels 1 := by
  simp only [dieChannels, List.mem_map, List.mem_range]
  by_cases low : n < 32
  · exact .inl ⟨n, low, by omega⟩
  · exact .inr ⟨n - 32, by omega, by omega⟩

theorem State.dropDie_eq {die : Nat} : s.dropDie die = (s.holdDie die).each (dieChannels die) State.turnOff := rfl

theorem State.dropDie_dig {die : Nat} : (s.dropDie die).dig = (s.holdDie die).dig := by
  rw [State.dropDie_eq]
  exact State.each_field State.dig fun _ _ => State.turnOff_dig

theorem State.chanMode_dropDie {die : Nat} (hn : n < 64) : (s.dropDie die).chanMode n = s.chanMode n := by
  rw [State.dropDie_eq]
  exact State.each_field (fun t => t.chanMode n) fun _ _ => State.chanMode_turnOff hn

theorem State.off_dropDie {die : Nat} (hn : n < 64) (mine : n ∈ dieChannels die) (configured : s.chanMode n ≠ 0) :
    Off (s.dropDie die) n := by
  have reaches : n < 64 → (s.dropDie die).chanMode n ≠ 0 → Off (s.dropDie die) n := by
    rw [State.dropDie_eq]
    refine State.each_reaches (P := fun t n => n < 64 → t.chanMode n ≠ 0 → Off t n) (fun t n hn h => ?_)
      (fun t m n off hn h => ?_) n mine
    · exact State.off_turnOff (State.chanMode_turnOff hn ▸ h)
    · exact State.off_turnOff_other (off hn (State.chanMode_turnOff hn ▸ h))
  exact reaches hn (by rwa [State.chanMode_dropDie hn])

theorem State.off_dropDie_other {die : Nat} (off : Off s n) : Off (s.dropDie die) n := by
  rw [State.dropDie_eq]
  exact List.foldlRecOn (motive := fun t => Off t n) _ _ off fun _ off _ _ => State.off_turnOff_other off

/-- With both dies turned off nothing drives (R189). -/
theorem State.dropDies_off :
    let t := (s.dropDie 0).dropDie 1
    t.dig.holdOverA = true ∧ t.dig.holdOverB = true ∧ ∀ n, n < 64 → s.chanMode n ≠ 0 → Off t n := by
  refine ⟨?_, ?_, fun n hn configured => ?_⟩
  · rw [State.dropDie_dig, State.holdDie, State.dropDie_dig]
    rfl
  · rw [State.dropDie_dig]
    rfl
  · rcases mem_dieChannels hn with first | second
    · exact State.off_dropDie_other (State.off_dropDie hn first configured)
    · exact State.off_dropDie hn second (by rwa [State.chanMode_dropDie hn])

end Sys2Proof.Machine
end

section
/-! SUPPORT. A failed attempt to resynchronise: the cause that it leaves, and what the next attempt keeps (R191, R193). -/

namespace Sys2Proof.Machine

open Sys2Proof Sys2Proof.Stated

variable {s t : State} {n : Nat}

/-! ## Registers beyond those of the module state and the program images -/

theorem State.reg_abortExchange {r k : Nat} (lo : 0x230000 ≤ k) (cause : k ≠ causeOf 3) :
    (s.abortExchange r).reg k = s.reg k := by
  unfold State.abortExchange
  split
  · rw [State.reg_setCause_other cause]
    simp only [State.reg_setReg]
    repeat rw [if_neg (by omega)]
    rfl
  · rfl

theorem State.reg_loopsForceOff {k : Nat} (lo : 0x248000 ≤ k) : s.loopsForceOff.reg k = s.reg k :=
  State.each_keeps (fun t => t.reg k) fun t i hi => by
    have key (sub : Nat) (h : sub < 256) : k ≠ lb i sub := by
      have := List.mem_range.mp hi
      unfold lb keyOf
      omega
    dsimp only
    rw [State.reg_setReg_other _ _ _ _ (key _ (by decide)), State.reg_setReg_other _ _ _ _ (key _ (by decide))]
    rfl

theorem State.reg_busesStop {k : Nat} : s.busesStop.reg k = s.reg k := by
  unfold State.busesStop
  extract_lets s1
  have h1 : s1.reg k = s.reg k := State.each_field (fun t => t.reg k) fun _ _ => rfl
  exact Eq.trans (State.each_field (fun t => t.reg k) fun _ _ => rfl) h1

theorem State.reg_setMode {m k : Nat} (lo : 0x220000 ≤ k) (cause : k ≠ causeOf 1) : (s.setMode m).reg k = s.reg k := by
  unfold State.setMode
  split
  · rfl
  · rw [State.reg_causeIf_other cause, State.reg_causeIf_other cause, State.reg_setCause_other cause,
      State.reg_setReg_other _ _ _ _ (by omega)]

theorem State.reg_endRun {k : Nat} (lo : 0x248000 ≤ k) (cause : k ≠ causeOf 3) : s.endRun.reg k = s.reg k := by
  have frame (t : State) : State.reg { t with tick := { t.tick with firstRun := false } } k = t.reg k := rfl
  unfold State.endRun
  split
  · extract_lets s1
    have h1 : s1.reg k = s.reg k := by
      rw [State.reg_busesStop, State.reg_abortExchange (by omega) cause, State.reg_loopsForceOff lo]
    exact (frame s1).trans h1
  · rfl

theorem State.reg_stopModule {k : Nat} (lo : 0x248000 ≤ k) (mode : k ≠ causeOf 1) (exchange : k ≠ causeOf 3) :
    s.stopModule.reg k = s.reg k :=
  (State.reg_setMode (by omega) mode).trans (State.reg_endRun lo exchange)

theorem State.reg_showImage {k : Nat} (lo : 0x230000 ≤ k) : s.showImage.reg k = s.reg k := by
  unfold State.showImage
  extract_lets m x e s1 s2 s3
  have tasks : s2.reg k = s1.reg k := State.each_keeps (fun t => t.reg k) fun t i hi => by
    have key (sub : Nat) (h : sub < 256) : k ≠ keyOf (0x2110 + i) sub := by
      have := List.mem_range.mp hi
      unfold keyOf
      omega
    split
    · simp only [State.reg_setReg]
      repeat rw [if_neg (key _ (by decide))]
    · simp only [List.foldl_cons, List.foldl_nil, State.reg_setReg]
      repeat rw [if_neg (key _ (by decide))]
  rw [State.reg_refreshCapacity (by omega)]
  simp only [s3, State.reg_setReg]
  repeat rw [if_neg (by omega)]
  rw [tasks]
  simp only [s1, State.reg_setReg]
  repeat rw [if_neg (by omega)]

theorem State.reg_makeActive {k : Nat} (lo : 0x230000 ≤ k) : (s.makeActive n).reg k = s.reg k := by
  unfold State.makeActive
  dsimp only
  rw [State.reg_showImage lo, State.reg_setReg_other _ _ _ _ (by omega), State.reg_setReg_other _ _ _ _ (by omega),
    State.reg_setReg_other _ _ _ _ (by omega)]

/-! ## A cause of the pair stays set -/

/-- The cause of a failed attempt to resynchronise, group 5 bit 7 (R388). -/
def State.gaveUp (s : State) : Bool := (s.reg (causeOf 5)).testBit 7

theorem State.gaveUp_of_reg (h : t.reg (causeOf 5) = s.reg (causeOf 5)) : t.gaveUp = s.gaveUp := congrArg (·.testBit 7) h

@[simp] theorem State.frame_gaveUp {p : PairState} : State.gaveUp { s with pair := p } = s.gaveUp := (rfl)

theorem State.gaveUp_setReg {k v : Nat} (h : causeOf 5 ≠ k) : (s.setReg k v).gaveUp = s.gaveUp :=
  State.gaveUp_of_reg (s.reg_setReg_other _ _ _ h)

theorem State.gaveUp_setBit {k b : Nat} {v : Bool} (h : causeOf 5 ≠ k) : (s.setBit k b v).gaveUp = s.gaveUp :=
  State.gaveUp_setReg h

theorem State.gaveUp_stopResync : s.stopResync.gaveUp = s.gaveUp := State.gaveUp_setReg (by decide)

theorem State.gaveUp_setCause {b : Nat} (h : 7 ≠ b) : (s.setCause 5 b).gaveUp = s.gaveUp := by
  have bits : entryBits (causeOf 5) = 32 := by decide +kernel
  rw [State.gaveUp, State.reg_setCause, State.testBit_reg_setBit _ _ _ (by omega), if_neg h, State.gaveUp]

theorem State.gaveUp_stopModule : s.stopModule.gaveUp = s.gaveUp :=
  State.gaveUp_of_reg (State.reg_stopModule (by decide) (by decide) (by decide))

/-- A unit in STANDBY-SYNCING that enters NOT-READY keeps the cause. -/
theorem State.gaveUp_setRole {r : Nat} (syncing : s.role = 3) : (s.setRole 4 r).gaveUp = s.gaveUp := by
  unfold State.setRole
  extract_lets s1 s2 s3 s4 _ s5 s6
  have h2 : s2 = s1 := if_neg (by omega)
  have h3 : s3.gaveUp = s.gaveUp := by
    unfold s3
    rw [State.gaveUp_setCause (by decide), State.gaveUp_setReg (by decide), h2, State.gaveUp_setReg (by decide)]
  have h4 : s4.gaveUp = s.gaveUp := by
    unfold s4
    rw [if_neg (by decide), State.gaveUp_stopResync, h3]
  have h5 : s5.gaveUp = s.gaveUp := by
    unfold s5
    rw [if_neg (by decide), State.gaveUp_setBit (by decide), State.gaveUp_setBit (by decide), State.frame_gaveUp, h4]
  have h6 : s6 = s5 := if_neg (by decide)
  rw [if_neg (by omega), h6]
  split
  · rw [State.gaveUp_stopModule, h5]
  · exact h5

/-! ## The attempts (R191, R193) -/

/-- The step from the copies to the entries (R191) leaves the count of failed attempts, and clears no cause. -/
theorem State.afterCopy_keeps {p : RoleStatus} :
    (s.afterCopy p).gaveUp = s.gaveUp ∧ (s.afterCopy p).pair.attempts = s.pair.attempts := by
  unfold State.afterCopy
  extract_lets n s1
  have h1 : s1.gaveUp = s.gaveUp ∧ s1.pair = s.pair := by
    unfold s1
    split
    · exact ⟨State.gaveUp_of_reg (State.reg_makeActive (by decide)), State.pair_of_pairCore State.makeActive_pairCore⟩
    · exact ⟨rfl, rfl⟩
  obtain ⟨cause, pair⟩ := h1
  exact ⟨(State.gaveUp_setReg (by decide)).trans cause, congrArg PairState.attempts pair⟩

/-- The begin of an attempt leaves the count of failed ones, and clears no cause. -/
theorem State.beginResync_keeps :
    s.beginResync.gaveUp = s.gaveUp ∧ s.beginResync.pair.attempts = s.pair.attempts := by
  unfold State.beginResync
  split
  next => exact ⟨rfl, rfl⟩
  next p _ =>
    split
    next => exact ⟨rfl, rfl⟩
    next may =>
      have syncing : s.role = 3 := by
        by_contra other
        exact may (.inl other)
      split
      next =>
        obtain ⟨-, attempts, -⟩ := State.setRole_stops_pair (s := s) (code := 4) (r := 2) (.inr rfl) (by omega)
        exact ⟨State.gaveUp_setRole syncing, attempts⟩
      next =>
        extract_lets todo _ s1
        have cause : s1.gaveUp = s.gaveUp :=
          (State.gaveUp_setReg (by decide)).trans (State.gaveUp_setReg (by decide))
        split
        · exact ⟨State.afterCopy_keeps.1.trans cause, State.afterCopy_keeps.2⟩
        · exact ⟨(State.gaveUp_setReg (by decide)).trans cause, rfl⟩

/-- An attempt that fails sets the cause and counts, and the third in a row leads to NOT-READY (R193). -/
theorem State.failAttempt_shows (syncing : s.role = 3) :
    let t := s.failAttempt
    t.gaveUp = true ∧ (s.pair.attempts < 2 → t.pair.attempts = s.pair.attempts + 1) ∧
      (2 ≤ s.pair.attempts → t.role = 4 ∧ t.reg 0x250108 = 6 ∧ t.pair.attempts = 0) := by
  have bits : entryBits (causeOf 5) = 32 := by decide +kernel
  unfold State.failAttempt
  extract_lets s1 _ t
  have cause : s1.gaveUp = true := State.cause_setCause (by omega)
  have role : s1.role = 3 :=
    (State.reg_setCause_other (by decide)).trans ((State.reg_setReg_other _ _ _ _ (by decide)).trans syncing)
  have attempts : s1.pair.attempts = s.pair.attempts :=
    (congrArg PairState.attempts State.setCause_pair).trans rfl
  rw [← attempts]
  clear_value s1
  by_cases third : 2 ≤ s1.pair.attempts
  · generalize hu : ({ s1 with pair := { s1.pair with attempts := 0 } } : State) = u
    have given : t = u.setRole 4 6 := (if_pos third).trans (congrArg (State.setRole · 4 6) hu)
    have syncing : u.role = 3 := by rw [← hu]; exact role
    obtain ⟨notReady, reason, -⟩ := State.setRole_notReady (s := u) (r := 6) (by omega) (by decide)
    obtain ⟨-, kept, -⟩ := State.setRole_stops_pair (s := u) (code := 4) (r := 6) (.inr rfl) (by omega)
    rw [given, State.gaveUp_setRole syncing, ← hu]
    refine ⟨cause, fun early => absurd third (by omega), fun _ => ?_⟩
    rw [hu]
    exact ⟨notReady, reason, kept.trans (by rw [← hu])⟩
  · generalize hu : ({ s1 with pair := { s1.pair with attempts := s1.pair.attempts + 1 } } : State) = u
    have again : t = u.beginResync := (if_neg third).trans (congrArg State.beginResync hu)
    obtain ⟨lasts, counts⟩ := State.beginResync_keeps (s := u)
    rw [again, lasts, counts, ← hu]
    exact ⟨cause, fun _ => rfl, fun late => absurd late third⟩

end Sys2Proof.Machine
end

section
/-! SUPPORT. The verdict of the active on a closure mismatch (R185). -/

namespace Sys2Proof.Machine

open Sys2Proof Sys2Proof.Stated

variable {s : State}

/-- A unit that enters NOT-READY keeps its counts, its record of the last switch-over and its verdict. -/
theorem State.reg_setRole_notReady (h : s.role ≠ 4) {r k : Nat} (lo : 0x250109 ≤ k) (hi : k < 0x252100)
    (phase : k ≠ 0x25010E) : (s.setRole 4 r).reg k = s.reg k := by
  have kept : (s.setReg 0x250108 r).reg k = s.reg k := s.reg_setReg_other _ _ _ (by omega)
  rw [State.setRole_notReady_entries h k (by omega) hi, State.setBit, State.reg_setReg_other _ _ _ _ (by omega),
    State.setBit, State.reg_setReg_other _ _ _ _ (by omega), State.reg_setReg_other _ _ _ _ phase,
    State.reg_setReg_other _ _ _ _ (by omega)]
  split
  · rw [State.leaveActive_entries k (by omega) hi, State.setBit, State.reg_setReg_other _ _ _ _ (by omega),
      State.reg_setReg_other _ _ _ _ (by omega), kept]
  · exact kept

theorem State.issueToken_pair : s.issueToken.pair = s.pair := by
  unfold State.issueToken State.chainAtK
  split <;> rfl

theorem State.mem_out_issueToken {e : Emission} (sent : e ∈ s.out) : e ∈ s.issueToken.out := by
  unfold State.issueToken State.chainAtK
  split
  · simp [State.sendChain, State.emit, sent]
  · exact sent

theorem State.mem_out_emit {e : Emission} : e ∈ (s.emit e).out := by simp [State.emit]

/-! ## The verdict shows -/

/-- The entries of a verdict, and what it ends (2510, R185). -/
def State.noteVerdict (s : State) (v a b : Nat) : State :=
  let s1 := ((((s.setReg 0x251001 v).setReg 0x251002 0).setReg 0x251003 s.tickNo).setReg 0x251007 a).setReg 0x251008 b
  { s1 with pair := { s1.pair with verdictDue := false } }.setCause 5 2

theorem State.decideVerdict_eq :
    let sets := s.readbackSets
    let v := s.verdictOf sets.1 sets.2
    s.decideVerdict = (s.noteVerdict v sets.1 sets.2).actOnVerdict v := rfl

theorem State.verdictOf_le {a b : Nat} : s.verdictOf a b ≤ 5 :=
  ite_le_of_le (by decide) (ite_le_of_le (ite_le_of_le (by decide) (by decide)) (ite_le_of_le (by decide) (by decide)))

theorem State.reg_noteVerdict {v a b k : Nat} (h : k < 0x251001) :
    (s.noteVerdict v a b).reg k = s.reg k := by
  rw [State.noteVerdict, State.reg_setCause_other (by unfold causeOf keyOf; omega)]
  refine (State.reg_setReg_other _ _ _ _ (by omega)).trans ?_
  simp only [State.reg_setReg]
  repeat rw [if_neg (by omega)]

theorem State.noteVerdict_shows {v a b : Nat} (hv : v ≤ 5) :
    let t := s.noteVerdict v a b
    t.reg 0x251001 = v ∧ t.reg 0x251003 = s.tickNo % 2 ^ 64 ∧ t.pair.verdictDue = false := by
  have bits : entryBits 0x251001 = 8 ∧ entryBits 0x251003 = 64 := by decide +kernel
  have shows (k : Nat) (h : k ≠ 0x251007) (h' : k ≠ 0x251008) (cause : k ≠ causeOf 5) : (s.noteVerdict v a b).reg k =
      (((s.setReg 0x251001 v).setReg 0x251002 0).setReg 0x251003 s.tickNo).reg k := by
    rw [State.noteVerdict, State.reg_setCause_other cause]
    exact (State.reg_setReg_other _ _ _ _ h').trans (State.reg_setReg_other _ _ _ _ h)
  refine ⟨?_, ?_, congrArg PairState.verdictDue State.setCause_pair⟩
  · rw [shows _ (by decide) (by decide) (by decide), State.reg_setReg_other _ _ _ _ (by decide),
      State.reg_setReg_other _ _ _ _ (by decide), State.reg_setReg_same, fit_of_lt (by rw [bits.1]; omega)]
  · rw [shows _ (by decide) (by decide) (by decide), State.reg_setReg_same, fit, bits.2]

/-! ## What a verdict does -/

variable {v : Nat}

/-- Verdict 2: the active is at fault and leaves its role to its partner. -/
theorem State.actOnVerdict_abdicates (active : s.role = 1) :
    let t := s.actOnVerdict 2
    t.role = 4 ∧ t.reg 0x250108 = 4 ∧ Emission.tieCommand .takeOver ∈ t.out ∧ t.pair.verdictDue = false ∧
      ∀ k ∈ [0x251001, 0x251003, 0x250109], t.reg k = s.reg k := by
  have acts : s.actOnVerdict 2 = ((s.setRole 4 4).stopModule).emit (.tieCommand .takeOver) := if_pos rfl
  obtain ⟨role, reason, -⟩ := State.setRole_notReady (s := s) (r := 4) (by omega) (by decide)
  obtain ⟨-, -, verdict⟩ := State.setRole_stops_pair (s := s) (code := 4) (r := 4) (.inr rfl) (by omega)
  have core : (((s.setRole 4 4).stopModule).emit (.tieCommand .takeOver)).pairCore = (s.setRole 4 4).pairCore := by simp
  rw [acts]
  refine ⟨(State.reg_of_pairCore core (by decide) (by decide)).trans role,
    (State.reg_of_pairCore core (by decide) (by decide)).trans reason, State.mem_out_emit,
    (congrArg PairState.verdictDue (State.pair_of_pairCore core)).trans (verdict active), fun k hk => ?_⟩
  have range : 0x250109 ≤ k ∧ k < 0x252100 ∧ k ≠ 0x25010E := by
    simp only [List.mem_cons, List.not_mem_nil, or_false] at hk
    omega
  obtain ⟨lo, hi, phase⟩ := range
  exact (State.reg_of_pairCore core (by omega) hi).trans (State.reg_setRole_notReady (by omega) lo hi phase)

/-- An undecided verdict under the policy that halts (R112, R185). -/
theorem State.actOnVerdict_halts (undecided : 4 ≤ v) (policy : s.reg 0x250008 = 1) :
    let t := s.actOnVerdict v
    t.mode = stHalted ∧ t.reg 0x251002 = 1 ∧ t.pair = s.pair ∧ ∀ k ∈ [0x251001, 0x251003, 0x250109], t.reg k = s.reg k := by
  have bits : entryBits 0x251002 = 8 := by decide +kernel
  have acts : s.actOnVerdict v =
      (((s.setReg 0x251002 1).halt 5 0xFF 0xFF).causeIf true 1 1).emit (.tieCommand (.halt s.tickNo)) :=
    (if_neg (by omega)).trans (if_pos ⟨undecided, policy⟩)
  have core : ((((s.setReg 0x251002 1).halt 5 0xFF 0xFF).causeIf true 1 1).emit (.tieCommand (.halt s.tickNo))).pairCore =
      (s.setReg 0x251002 1).pairCore := by simp
  rw [acts]
  refine ⟨?_, ?_, (State.pair_of_pairCore core).trans rfl, fun k hk => ?_⟩
  · exact (State.reg_causeIf_other (by decide)).trans (State.mode_setMode (by decide))
  · rw [State.reg_of_pairCore core (by decide) (by decide), State.reg_setReg_same, fit_of_lt (by rw [bits]; decide)]
  · simp only [List.mem_cons, List.not_mem_nil, or_false] at hk
    rw [State.reg_of_pairCore core (by omega) (by omega), State.reg_setReg_other _ _ _ _ (by omega)]

/-- Any other verdict: the active goes on, and its standby leaves the step. -/
theorem State.actOnVerdict_goesOn (keeps : v ≠ 2) (goesOn : v < 4 ∨ s.reg 0x250008 ≠ 1) :
    let t := s.actOnVerdict v
    t.tick.token = true ∧ t.reg 0x251002 = 0 ∧ Emission.tieCommand (.leaveStep true) ∈ t.out ∧ t.pair = s.pair ∧
      ∀ k ∈ [0x251001, 0x251003, 0x250109], t.reg k = s.reg k := by
  have acts : s.actOnVerdict v = ((s.setReg 0x251002 0).emit (.tieCommand (.leaveStep true))).issueToken :=
    (if_neg keeps).trans (if_neg (by omega))
  have reads (k : Nat) : (s.actOnVerdict v).reg k = (s.setReg 0x251002 0).reg k := by
    rw [acts, State.reg, State.issueToken_regs]
    rfl
  refine ⟨?_, ?_, ?_, ?_, fun k hk => ?_⟩
  · rw [acts, State.issueToken_tick]
  · rw [reads, State.reg_setReg_same, fit, Nat.zero_mod]
  · rw [acts]
    exact State.mem_out_issueToken State.mem_out_emit
  · rw [acts, State.issueToken_pair]
    rfl
  · simp only [List.mem_cons, List.not_mem_nil, or_false] at hk
    rw [reads, State.reg_setReg_other _ _ _ _ (by omega)]

/-- Whatever a verdict does, it stays on record, and no other is due. -/
theorem State.actOnVerdict_keeps (active : s.role = 1) (done : s.pair.verdictDue = false) :
    let t := s.actOnVerdict v
    t.pair.verdictDue = false ∧ ∀ k ∈ [0x251001, 0x251003, 0x250109], t.reg k = s.reg k := by
  by_cases fault : v = 2
  · subst fault
    obtain ⟨-, -, -, due, keeps⟩ := State.actOnVerdict_abdicates active
    exact ⟨due, keeps⟩
  by_cases halts : 4 ≤ v ∧ s.reg 0x250008 = 1
  · obtain ⟨-, -, pair, keeps⟩ := State.actOnVerdict_halts halts.1 halts.2
    exact ⟨(congrArg PairState.verdictDue pair).trans done, keeps⟩
  · obtain ⟨-, -, -, pair, keeps⟩ := State.actOnVerdict_goesOn (s := s) fault (by omega)
    exact ⟨(congrArg PairState.verdictDue pair).trans done, keeps⟩

/-- A verdict is recorded and then acted on, and the count of mismatches stands. -/
theorem State.decideVerdict_shows (active : s.role = 1) :
    let t := s.decideVerdict
    let sets := s.readbackSets
    let v := s.verdictOf sets.1 sets.2
    t.reg 0x251001 = v ∧ t.reg 0x251003 = s.tickNo % 2 ^ 64 ∧ t.pair.verdictDue = false ∧ t.reg 0x250109 = s.reg 0x250109 ∧
    (v = 2 → t.role = 4 ∧ t.reg 0x250108 = 4 ∧ Emission.tieCommand .takeOver ∈ t.out) ∧
    (4 ≤ v → s.reg 0x250008 = 1 → t.mode = stHalted ∧ t.reg 0x251002 = 1) ∧
    (v = 1 ∨ v = 3 ∨ (4 ≤ v ∧ s.reg 0x250008 ≠ 1) → t.tick.token = true ∧ t.reg 0x251002 = 0 ∧
      Emission.tieCommand (.leaveStep true) ∈ t.out) := by
  intro t sets v
  generalize hu : s.noteVerdict v sets.1 sets.2 = u
  have decides : t = u.actOnVerdict v := State.decideVerdict_eq.trans (congrArg (State.actOnVerdict · v) hu)
  have noted := State.noteVerdict_shows (s := s) (a := sets.1) (b := sets.2) (show v ≤ 5 from State.verdictOf_le)
  have stands {k : Nat} (h : k < 0x251001) : u.reg k = s.reg k := hu ▸ State.reg_noteVerdict h
  rw [hu] at noted
  obtain ⟨verdict, tick, done⟩ := noted
  have role : u.role = 1 := (stands (by decide)).trans active
  have policy : u.reg 0x250008 = s.reg 0x250008 := stands (by decide)
  obtain ⟨due, keeps⟩ := State.actOnVerdict_keeps (v := v) role done
  rw [decides]
  refine ⟨(keeps _ (by simp)).trans verdict, (keeps _ (by simp)).trans tick, due,
    (keeps _ (by simp)).trans (stands (by decide)), fun fault => ?_, fun undecided halts => ?_, fun goesOn => ?_⟩
  · obtain ⟨role, reason, tells, -⟩ := State.actOnVerdict_abdicates role
    rw [fault]
    exact ⟨role, reason, tells⟩
  · obtain ⟨mode, shows, -⟩ := State.actOnVerdict_halts undecided (policy.trans halts)
    exact ⟨mode, shows⟩
  · obtain ⟨token, shows, tells, -⟩ := State.actOnVerdict_goesOn (s := u) (v := v) (by omega) (by omega)
    exact ⟨token, shows, tells⟩

end Sys2Proof.Machine
end

section
/-! SUPPORT. The events of a pair: its lanes, its role line, and what its waits end in (R171, R177, R179, R183, R184). -/

namespace Sys2Proof.Machine

open Sys2Proof Sys2Proof.Stated

variable {s : State} {n : Nat}

/-! ## The lanes of the tie link (R184) -/

/-- With both lanes down the partner is no longer reached, and a resynchronisation ends (R184, R191). -/
def State.losePartner (s : State) : State :=
  let s1 := { s with pair := { s.pair with heard := 0 } }.setPartnerRole 0xFF
  if s1.role = 3 then s1.stopResync else s1

theorem State.reg_setPartnerRole_lanes {c : Nat} : (s.setPartnerRole c).reg 0x250105 = s.reg 0x250105 := by
  by_cases same : s.partnerRole = c
  · rw [State.setPartnerRole, if_pos same]
  have entries := State.setPartnerRole_entries same
  dsimp only at entries
  rw [entries _ (by decide) (by decide)]
  split
  · rw [State.reg_setReg_other _ _ _ _ (by decide), State.setBit, State.reg_setReg_other _ _ _ _ (by decide),
      State.reg_setReg_other _ _ _ _ (by decide)]
  · exact State.reg_setReg_other _ _ _ _ (by decide)

theorem State.losePartner_shows (old : s.partnerRole < 256) :
    let t := s.losePartner
    t.reg 0x250105 = s.reg 0x250105 ∧ t.reg 0x250102 = 0xFF ∧ t.pair.heard = 0 := by
  unfold State.losePartner
  generalize hu : ({ s with pair := { s.pair with heard := 0 } } : State) = u
  have lanes : u.reg 0x250105 = s.reg 0x250105 := by rw [← hu]; rfl
  have partner : (u.setPartnerRole 0xFF).reg 0x250102 = 0xFF :=
    (State.setPartnerRole_shows (s := u) (c := 0xFF) (by rw [← hu]; exact old)).1
  have heard : (u.setPartnerRole 0xFF).pair.heard = 0 :=
    (congrArg TieView.heard State.setPartnerRole_tieView).trans (by rw [← hu]; rfl)
  have lanes1 : (u.setPartnerRole 0xFF).reg 0x250105 = s.reg 0x250105 := State.reg_setPartnerRole_lanes.trans lanes
  dsimp only
  split
  · exact ⟨(State.reg_setReg_other _ _ _ _ (by decide)).trans lanes1,
      (State.reg_setReg_other _ _ _ _ (by decide)).trans partner, heard⟩
  · exact ⟨lanes1, partner, heard⟩

theorem exec_tieLinkLaneFail (hn : n < 2) : exec (.tieLinkLaneFail n) s =
    .next (let s1 := s.setBit 0x250105 n false
      if s1.reg 0x250105 = 0 ∧ s1.inPair then s1.losePartner else s1) := by
  simp only [exec, execTieLinkLaneFail, hn, decide_true, whenValid_true]
  rfl

theorem tieLinkLaneFail_takes (ok : s.Ok) (hn : n < 2) : ∃ t, exec (.tieLinkLaneFail n) s = .next t ∧
    (t.reg 0x250105).testBit n = false ∧
    (t.reg 0x250105 = 0 → s.inPair = true → t.reg 0x250102 = 0xFF ∧ t.pair.heard = 0) ∧
    (t.reg 0x250105 ≠ 0 ∨ s.inPair = false → Only [0x250105] s t ∧ t = { s with regs := t.regs }) := by
  refine ⟨_, exec_tieLinkLaneFail hn, ?_⟩
  generalize hu : s.setBit 0x250105 n false = u
  have clear : (u.reg 0x250105).testBit n = false := hu ▸ State.setBit_clears
  have reads {k : Nat} (h : k ≠ 0x250105) : u.reg k = s.reg k := hu ▸ s.reg_setReg_other _ _ _ h
  have pair : u.inPair = s.inPair := congrArg (· != 0) (reads (by decide))
  have partner : u.partnerRole < 256 := by
    rw [State.partnerRole, reads (by decide)]
    exact ok.partnerRole_lt
  dsimp only
  split
  next down =>
    obtain ⟨lanes, role, heard⟩ := State.losePartner_shows partner
    rw [lanes]
    refine ⟨clear, fun _ _ => ⟨role, heard⟩, fun up => ?_⟩
    rcases up with lane | simplex
    · exact absurd down.1 lane
    · exact nomatch down.2.symm.trans (pair.trans simplex)
  next up =>
    refine ⟨clear, fun none inPair => absurd ⟨none, pair.trans inPair⟩ up, fun _ => ?_⟩
    rw [← hu]
    exact ⟨s.only_setReg _ _, rfl⟩

theorem tieLinkLaneUp_takes (hn : n < 2) (inPair : s.inPair = true) (block : s.blockUp 13 = true) :
    ∃ t, exec (.tieLinkLaneUp n) s = .next t ∧
      SetsBit 0x250105 n s t ∧ Only [0x250105] s t ∧ t = { s with regs := t.regs } := by
  have bits : entryBits 0x250105 = 8 := by decide +kernel
  have runs : exec (.tieLinkLaneUp n) s = .next (s.setBit 0x250105 n true) := by
    simp only [exec, execTieLinkLaneUp, hn, decide_true, whenValid_true, inPair, block, Bool.and_self, if_true]
    rfl
  exact ⟨_, runs, s.setsBit_setBit (by omega), s.only_setReg _ _, rfl⟩

theorem tieLinkLaneUp_of_other (hn : n < 2) (other : s.inPair = false ∨ s.blockUp 13 = false) :
    exec (.tieLinkLaneUp n) s = .next s := by
  have down : (s.inPair && s.blockUp 13) = false := by rcases other with h | h <;> simp [h]
  simp [exec, execTieLinkLaneUp, hn, whenValid_true, down]

/-! ## The silence watch (R183) -/

/-- The watch closes: the unit goes over to STANDBY-SYNCING where its partner still drives ROLE_IN, and takes over where it
does not. -/
theorem State.closeWatch_shows :
    let t := s.closeWatch
    t.pair.watch = none ∧
    (s.pair.change.any (fun c => c.role == 1) = true → t.pair.change = s.pair.change ∧ t.role = s.role) ∧
    (s.pair.change.any (fun c => c.role == 1) = false →
      (s.on 0x250103 = true → t.role = 3) ∧
      (s.on 0x250103 = false → t.pair.change = some { sources := [2], role := 1, kind := 2 } ∧ t.role = s.role)) := by
  generalize hu : ({ s with pair := { s.pair with watch := none } } : State).setBit (pr 7) 2 false = u
  have change : u.pair.change = s.pair.change := by rw [← hu]; rfl
  have closed : u.pair.watch = none := by rw [← hu]; rfl
  have reads {k : Nat} (h : k ≠ 0x250107) : u.reg k = s.reg k := hu ▸ State.reg_setReg_other _ _ _ _ h
  have role : u.role = s.role := reads (by decide)
  have line : u.on (pr 3) = s.on 0x250103 := congrArg (· != 0) (reads (by decide))
  have closes : s.closeWatch = if s.pair.change.any (fun c => c.role == 1) then u
      else if s.on 0x250103 then (if u.pair.watchHeard then u else u.setUnreachable true).setRole 3 0
      else u.takeOver 2 := by
    rw [← line, ← change, ← hu]
    rfl
  rw [closes]
  dsimp only
  cases s.pair.change.any (fun c => c.role == 1) with
  | true => exact ⟨closed, fun _ => ⟨change, role⟩, nofun⟩
  | false =>
    cases s.on 0x250103 with
    | true =>
      have silent : (if u.pair.watchHeard then u else u.setUnreachable true).pair.watch = none := by
        split
        · exact closed
        · exact (congrArg PairState.watch State.setUnreachable_pair).trans closed
      exact ⟨State.setRole_syncing_watch silent, nofun, fun _ => ⟨fun _ => State.setRole_syncing_role, nofun⟩⟩
    | false => exact ⟨closed, nofun, fun _ => ⟨nofun, fun _ => ⟨rfl, role⟩⟩⟩

theorem silenceWatchClose_due (watch : s.pair.watch = some n) (due : n < s.tickNo) :
    exec .silenceWatchClose s = .next s.closeWatch := by
  simp [exec, execSilenceWatchClose, watch, due]

theorem silenceWatchClose_of_other (other : s.pair.watch = none ∨ ∃ n, s.pair.watch = some n ∧ s.tickNo ≤ n) :
    exec .silenceWatchClose s = .next s := by
  rcases other with closed | ⟨n, watch, early⟩
  · simp [exec, execSilenceWatchClose, closed]
  · simp [exec, execSilenceWatchClose, watch, Nat.not_lt.mpr early]

/-! ## The role line (R179, R183, R188) -/

/-- The role change that waits once ROLE_IN has gone to `level`: a standby whose partner drops the line takes over. -/
def State.calledBy (s : State) (level : Bool) : Option RoleChange :=
  if level || s.role != 2 then s.pair.change
  else if s.pair.watch.isSome then some { sources := [2], role := 1, kind := 2 }
  else if s.tick.point = .s && s.on 0x250103 then some { sources := [2], role := 1, kind := 1 }
  else s.pair.change

theorem State.calledBy_eq {level : Bool} : s.calledBy level =
    if level = false ∧ s.role = 2 ∧ s.pair.watch.isSome = true then some { sources := [2], role := 1, kind := 2 }
    else if level = false ∧ s.role = 2 ∧ s.tick.point = .s ∧ s.on 0x250103 = true then
      some { sources := [2], role := 1, kind := 1 }
    else s.pair.change := by
  unfold State.calledBy
  by_cases quiet : level = true ∨ s.role ≠ 2
  · have same : ¬(level = false ∧ s.role = 2) := by rintro ⟨rfl, role⟩; simp [role] at quiet
    rw [if_pos (by simpa using quiet), if_neg fun h => same ⟨h.1, h.2.1⟩, if_neg fun h => same ⟨h.1, h.2.1⟩]
  · obtain ⟨rfl, standby⟩ : level = false ∧ s.role = 2 := by simpa using quiet
    simp [standby]

/-- ROLE_IN shows, and where the standby is called its change waits. -/
theorem exec_roleInChange {level : Bool} : exec (.roleInChange level) s =
    .next { s.setReg 0x250103 (if level then 1 else 0) with pair := { s.pair with change := s.calledBy level } } := by
  generalize hu : s.setReg 0x250103 (if level then 1 else 0) = u
  have role : u.role = s.role := hu ▸ s.reg_setReg_other _ _ _ (by decide)
  have pair : u.pair = s.pair := by rw [← hu, State.setReg_pair]
  have tick : u.tick = s.tick := by rw [← hu, State.setReg_tick]
  have runs : exec (.roleInChange level) s = .next (if level || s.role != 2 then u
      else if s.pair.watch.isSome then u.takeOver 2
      else if s.tick.point = .s && s.on 0x250103 then u.takeOver 1 else u) := by
    rw [← role, ← pair, ← tick, ← hu]
    rfl
  have shows : (if level || s.role != 2 then u else if s.pair.watch.isSome then u.takeOver 2
      else if s.tick.point = .s && s.on 0x250103 then u.takeOver 1 else u) =
      { u with pair := { u.pair with change := s.calledBy level } } := by
    have stays (h : s.calledBy level = s.pair.change) :
        u = { u with pair := { u.pair with change := s.calledBy level } } := by
      rw [h, ← pair]
    have called {kind : Nat} (h : s.calledBy level = some { sources := [2], role := 1, kind := kind }) :
        u.takeOver kind = { u with pair := { u.pair with change := s.calledBy level } } := by
      rw [h]
      rfl
    split_ifs with quiet watch falls
    · exact stays (if_pos quiet)
    · exact called ((if_neg quiet).trans (if_pos watch))
    · exact called ((if_neg quiet).trans ((if_neg watch).trans (if_pos falls)))
    · exact stays ((if_neg quiet).trans ((if_neg watch).trans (if_neg falls)))
  rw [runs, shows, pair]

theorem roleInChange_takes (b : Bool) : ∃ t, exec (.roleInChange b) s = .next t ∧
    t.reg 0x250103 = (if b then 1 else 0) ∧ Only [0x250103] s t ∧
    t.pair = { s.pair with change := t.pair.change } ∧ t = { s with regs := t.regs, pair := t.pair } ∧
    t.pair.change = (if b = false ∧ s.role = 2 ∧ s.pair.watch.isSome = true
      then some { sources := [2], role := 1, kind := 2 }
      else if b = false ∧ s.role = 2 ∧ s.tick.point = .s ∧ s.on 0x250103 = true
      then some { sources := [2], role := 1, kind := 1 } else s.pair.change) := by
  have bits : entryBits 0x250103 = 1 := by decide +kernel
  refine ⟨_, exec_roleInChange, ?_, s.only_setReg _ _, rfl, rfl, State.calledBy_eq⟩
  refine (s.reg_setReg_same 0x250103 _).trans (fit_of_lt ?_)
  rw [bits]
  cases b <;> decide

/-! ## The claim wait (R171, R177) -/

/-- What lets a unit claim ACTIVE at the end of its claim wait. -/
def State.mayClaim (s : State) : Bool :=
  s.inPair && s.running && !s.on (pr 3) && !s.reached && s.eligible && (s.role == 3 || (s.role == 4 && s.reg (pr 8) == 9))

theorem State.mayClaim_iff : s.mayClaim = true ↔
    s.inPair = true ∧ s.running = true ∧ s.on 0x250103 = false ∧ s.reached = false ∧ s.eligible = true ∧
      (s.role = 3 ∨ (s.role = 4 ∧ s.reg 0x250108 = 9)) := by
  simp only [State.mayClaim, Bool.and_eq_true, Bool.or_eq_true, Bool.not_eq_true', beq_iff_eq, and_assoc]
  exact Iff.rfl

theorem exec_claimWaitExpiry : exec .claimWaitExpiry s =
    .next (if s.mayClaim then s.changeRole { sources := [3, 4], role := 1, kind := 6 } else s) := rfl

/-! ## The resynchronisation (R192) -/

theorem resynchronisationPassComplete_due (streams : s.role = 3 ∧ (s.reg 0x25010E = 4 ∨ s.reg 0x25010E = 5)) :
    ∃ t, exec .resynchronisationPassComplete s = .next t ∧
      t.reg 0x25010E = 6 ∧ Only [0x25010E] s t ∧
      t = { s with regs := t.regs, pair := { s.pair with passDone := true } } := by
  have bits : entryBits 0x25010E = 8 := by decide +kernel
  refine ⟨_, congrArg Host.Outcome.next (if_pos streams), ?_, State.only_setReg _ _ _, rfl⟩
  exact (State.reg_setReg_same _ 0x25010E 6).trans (fit_of_lt (by rw [bits]; decide))

theorem driverTurnOff_of_other (other : s.inPair = false ∨ s.active = true ∨ s.on 0x250103 = false) :
    exec .driverTurnOff s = .next s := by
  have off : ¬(s.inPair && !s.active && s.on (pr 3)) = true := by
    rintro turns
    simp only [Bool.and_eq_true, Bool.not_eq_true'] at turns
    obtain ⟨⟨inPair, passive⟩, line⟩ := turns
    rcases other with h | h | h
    · exact nomatch h.symm.trans inPair
    · exact nomatch h.symm.trans passive
    · exact nomatch h.symm.trans line
  exact congrArg Host.Outcome.next (if_neg off)

/-- Settles O30: each event by whether what it ends is under way. -/
theorem pairEvents : Obligations.PairEvents := by
  intro s ok
  refine ⟨fun n => tieLinkLaneFail_takes ok, fun n hn => ⟨tieLinkLaneUp_takes hn, tieLinkLaneUp_of_other hn⟩,
    fun active due => ⟨_, ?verdict, State.decideVerdict_shows active⟩, fun other => ?noVerdict,
    fun n watch due => ⟨_, silenceWatchClose_due watch due, State.closeWatch_shows⟩, silenceWatchClose_of_other,
    roleInChange_takes, ⟨fun claims => ⟨s.changeRole _, ?claim, rfl⟩, fun quiet => ?noClaim⟩,
    fun inPair passive line => ⟨_, congrArg Host.Outcome.next (if_pos ?turnOff), State.dropDies_off⟩,
    driverTurnOff_of_other, rfl,
    ⟨resynchronisationPassComplete_due, fun idle => congrArg Host.Outcome.next (if_neg idle)⟩,
    fun syncing step => ⟨_, congrArg Host.Outcome.next (if_pos ⟨syncing, step⟩), State.failAttempt_shows syncing⟩,
    fun other => congrArg Host.Outcome.next (if_neg ?noAttempt)⟩
  case verdict => simp [exec, execClosureVerdict, active, due]
  case noVerdict => rcases other with role | due <;> simp [exec, execClosureVerdict, *]
  case claim => rw [exec_claimWaitExpiry, if_pos (State.mayClaim_iff.mpr claims)]
  case noClaim => rw [exec_claimWaitExpiry, if_neg (mt State.mayClaim_iff.mp quiet)]
  case turnOff =>
    rw [inPair, passive]
    exact line
  case noAttempt =>
    rintro ⟨syncing, step⟩
    rcases other with role | none
    · exact role syncing
    · exact step none

end Sys2Proof.Machine
end

section
/-! SUPPORT. The controller's end of the chain: returned slots enter the records, and a chain port's link goes down and up
(R200, R203, R210, R212). -/

namespace Sys2Proof.Machine

open Sys2Proof Sys2Proof.Stated

variable {s : State} {h : ChainHeader} {slots : List Slot} {port : Nat}

/-- Slots that enter the records of their stations touch nothing else. -/
theorem State.takeSlots_eq {d : Nat} : s.takeSlots d slots =
    { s with chain := { s.chain with records := entered s.chain.records d slots } } := by
  induction slots generalizing s with
  | nil => rfl
  | cons x xs ih => exact ih (s := s.setOutRec x.address ((s.outRec x.address).take d x))

/-- The controller notes how the frame of a direction came back (R210, R213). -/
def State.noteReturn (s : State) (h : ChainHeader) : State :=
  { s with chain := if h.direction = 0 then { s.chain with back0 := some h.reflector }
    else { s.chain with back1 := some h.reflector } }

theorem State.noteReturn_shows :
    let c := (s.noteReturn h).chain
    (if h.direction = 0 then c.back0 else c.back1) = some h.reflector ∧
    (if h.direction = 0 then c.back1 = s.chain.back1 else c.back0 = s.chain.back0) ∧ c.records = s.chain.records := by
  by_cases first : h.direction = 0 <;> simp [State.noteReturn, first]

/-- A bad FCS counts on the port on which the frame came back (R210). -/
def State.countReturn (s : State) (h : ChainHeader) (ok : Bool) : State :=
  if ok then s else s.count (if (if h.reflector = 0 then 1 - h.direction else h.direction) = 0 then 0x261001 else 0x261003)

theorem State.countReturn_chain {ok : Bool} : (s.countReturn h ok).chain = s.chain := by
  unfold State.countReturn
  split <;> rfl

theorem exec_traverseFrameReturn {ok : Bool} (dir : h.direction < 2)
    (stations : ∀ x ∈ slots, 1 ≤ x.address ∧ x.address ≤ 32) :
    exec (.traverseFrameReturn h slots ok) s = .next
      (if !s.chainMaster || h.tick != s.tickNo || s.tick.point != .d then s.countReturn h ok
       else ((s.countReturn h ok).noteReturn h).takeSlots h.direction
        (slots.filter fun x => (ok || x.valid) && s.on (recK x.address 1))) := by
  have valid : (decide (h.direction < 2) &&
      slots.all (fun x => decide (1 ≤ x.address) && decide (x.address ≤ 32))) = true := by simpa [dir] using stations
  exact congrArg (whenValid · s _) valid

theorem tp_chainPort {sub : Nat} : tp (2 + port) sub = keyOf (0x2A12 + port) sub := by
  unfold tp
  congr 1
  omega

theorem exec_chainPortLinkDown (hp : port < 2) : exec (.chainPortLinkDown port) s =
    .next ((((s.setReg (linkKey port) 0).setReg (keyOf (0x2A12 + port) 0xC) 0).setReg (keyOf (0x2A12 + port) 0xD) 0).setPrt
      (2 + port) {}) := by
  rw [← tp_chainPort, ← tp_chainPort]
  exact congrArg (whenValid · s _) (decide_eq_true hp)

theorem exec_chainPortLinkUp {speed : Nat} (hp : port < 2) (hs : speed ∈ [10, 100, 1000]) :
    exec (.chainPortLinkUp port speed) s =
      .next ((s.setReg (linkKey port) (if speed = 1000 then 1 else 0)).setReg (keyOf (0x2A12 + port) 0xC) speed) := by
  have valid : (decide (port < 2) && [10, 100, 1000].contains speed) = true := by simpa [hp] using hs
  rw [← tp_chainPort]
  exact congrArg (whenValid · s _) valid

/-- Settles O31: a frame in time enters the records by its slots, any other one counts at most. -/
theorem chainEvents : Obligations.ChainEvents := by
  refine fun s h slots ok => ⟨fun dir stations => ?_, fun port speed hp hs =>
    ⟨exec_chainPortLinkDown hp, exec_chainPortLinkUp hp hs, congrArg (whenValid · s s) (decide_eq_true hp)⟩⟩
  have runs := exec_traverseFrameReturn (s := s) (ok := ok) dir stations
  refine ⟨fun late => runs.trans (congrArg Host.Outcome.next (if_pos ?late)),
    fun master tick point => ⟨_, runs.trans (congrArg Host.Outcome.next (if_neg ?inTime)), ?_⟩⟩
  case late => rcases late with slave | tick | point <;> simp [*]
  case inTime => simp [master, tick, point]
  obtain ⟨back, other, records⟩ := State.noteReturn_shows (s := s.countReturn h ok) (h := h)
  rw [State.countReturn_chain] at other records
  rw [State.takeSlots_eq]
  exact ⟨rfl, back, other, congrArg (entered · h.direction _) records, rfl⟩

end Sys2Proof.Machine
end

section
/-! SUPPORT. A chain frame at a node: where it goes on, and what the node reads of a frame that it does not accept (R205,
R211, R212, R222). -/

namespace Sys2Proof.Machine

open Sys2Proof Sys2Proof.Stated

variable {s t : State} {h : ChainHeader} {slots : List Slot} {body : List Byte} {port ns : Nat}

theorem State.passHeader_eq : s.passHeader port h = (wayOn s port, Stated.onward s port h) := by
  unfold State.passHeader wayOn Stated.onward
  rw [show s.portUp (1 - port) = s.on (linkKey (1 - port)) from rfl]
  cases s.on (linkKey (1 - port)) with
  | false => rfl
  | true =>
    by_cases back : h.reflector = 0 <;> simp [back]

theorem State.countReflection_eq : s.countReflection port = passed s port := by
  unfold State.countReflection passed
  rw [show s.portUp (1 - port) = s.on (linkKey (1 - port)) from rfl]
  simp only [Bool.and_eq_true, Bool.not_eq_true']

theorem apart_passed {keys : List Nat} (counts : 0x27001B ∈ keys) : Apart keys s (passed s port) := by
  unfold passed
  split
  · exact apart_setReg apart_refl counts
  · exact apart_refl

/-- What a frame that goes on leaves of the node. -/
theorem passed_emit_shows {e : Emission} :
    let t := (passed s port).emit e
    t.out = s.out ++ [e] ∧ Only [0x27001B] s t ∧ t.mem = s.mem ∧ t.tick = s.tick ∧ t.ost = s.ost := by
  obtain ⟨only, frame⟩ := apart_passed (s := s) (port := port) (List.mem_singleton_self 0x27001B)
  exact ⟨(congrArg (State.out · ++ [e]) frame :), only, (congrArg State.mem frame :), (congrArg State.tick frame :),
    (congrArg State.ost frame :)⟩

theorem passed_of_controller (controller : s.outstation = false) : passed s port = s := by simp [passed, controller]

theorem State.controller_of_readsFrame (reads : s.readsFrame h = true) : s.outstation = false := by
  simp only [State.readsFrame, Bool.and_eq_true, Bool.not_eq_true'] at reads
  obtain ⟨⟨⟨⟨⟨controller, -⟩, -⟩, -⟩, -⟩, -⟩ := reads
  exact controller

theorem State.readSlots_of_unread (unread : s.readsFrame h = false) : s.readSlots h slots = s := by
  simp [State.readSlots, unread]

theorem State.readSlots_of_reads (reads : s.readsFrame h = true) : s.readSlots h slots =
    { s with chain := { s.chain with
      records := entered s.chain.records h.direction (slots.filter fun x => x.valid && s.on (recK x.address 1)) } } :=
  (if_pos reads).trans State.takeSlots_eq

theorem State.readToken_of_unread (unread : s.readsFrame h = false) : s.readToken h body = s := by
  simp [State.readToken, unread]

theorem State.readToken_of_reads (reads : s.readsFrame h = true) : s.readToken h body =
    if body.length = 12 ∧ crc32c (body.take 8) = field body 8 4
    then { s with chain := { s.chain with seen := some (h.tick, field body 4 4) } }
    else s := by
  simp [State.readToken, reads]

theorem State.readSlots_outstation : (s.readSlots h slots).outstation = s.outstation := by
  unfold State.readSlots
  split
  · rw [State.takeSlots_eq]
    rfl
  · rfl

theorem State.readToken_outstation : (s.readToken h body).outstation = s.outstation := by
  unfold State.readToken
  split <;> rfl

/-! ## The frames as the model runs them -/

/-- The port on which direction 0 comes, and whether it came (R211, R214). -/
def State.noteDirection (s : State) (port : Nat) (h : ChainHeader) : State :=
  { s with ost := { s.ost with
    dir0Port := if h.direction = 0 then port else 1 - port, dir0Now := s.ost.dir0Now || h.direction == 0 } }

/-- The outstation has met an accepted traverse frame: its direction, and its header (R211, R215, R219). -/
def State.meetTraverse (s : State) (port : Nat) (h : ChainHeader) : State := (s.noteDirection port h).takeHeader h

/-- The outstation notes that its slot was in the frame (R207). -/
def State.noteInsertion (s : State) (slots : List Slot) : State :=
  if slots.any (fun x => x.address == s.reg 0x270001) then { s with ost := { s.ost with inserted := true } } else s

/-- The outstation fills its own slot (R206, R207). -/
def State.answerSlot (s : State) (h : ChainHeader) (x : Slot) : Slot :=
  if x.address = s.reg 0x270001 then s.fillSlot h x else x

/-- The header of a frame that a node does not take as its own: reflected already, or not accepted (R212, R215). -/
abbrev State.passesOn (s : State) (h : ChainHeader) : Prop := h.reflector ≠ 0 ∨ s.acceptsFrame h = false

theorem State.not_own_of_passesOn (other : s.passesOn h) : ¬(h.reflector = 0 ∧ s.acceptsFrame h = true) := by
  rintro ⟨first, accepts⟩
  rcases other with back | refused
  · exact back first
  · exact nomatch refused.symm.trans accepts

section
variable (hp : port < 2) (forwards : s.forwards = true)
include hp forwards

theorem exec_traverseFrame_other (other : s.passesOn h) : exec (.traverseFrame port h slots) s =
    .next ((passed (s.readSlots h slots) port).emit (.forwardTraverse (wayOn s port) (onward s port h) slots)) := by
  have cond : h.reflector ≠ 0 ∨ (!s.acceptsFrame h) = true := by simpa [State.passesOn] using other
  simp only [exec, execTraverseFrame, hp, decide_true, whenValid_true, forwards, Bool.not_true, Bool.false_eq_true, if_false,
    State.passHeader_eq, State.countReflection_eq, if_pos cond]

theorem exec_traverseFrame_own (first : h.reflector = 0) (accepts : s.acceptsFrame h = true) :
    exec (.traverseFrame port h slots) s =
    .next ((passed ((s.meetTraverse port h).noteInsertion slots) port).emit
      (.forwardTraverse (wayOn s port) (onward s port h) (slots.map ((s.meetTraverse port h).answerSlot h)))) := by
  have cond : ¬(h.reflector ≠ 0 ∨ (!s.acceptsFrame h) = true) := by simp [first, accepts]
  simp only [exec, execTraverseFrame, hp, decide_true, whenValid_true, forwards, Bool.not_true, Bool.false_eq_true, if_false,
    State.passHeader_eq, State.countReflection_eq, if_neg cond]
  rfl

theorem exec_stakeFrame : exec (.stakeFrame port h body) s =
    .next ((passed (if h.reflector = 0 ∧ s.acceptsFrame h then s.keepStake h body else s) port).emit
      (.forwardFrame (wayOn s port) (onward s port h) body)) := by
  simp [exec, execStakeFrame, hp, whenValid_true, forwards, State.passHeader_eq, State.countReflection_eq]

theorem exec_tokenFrame : exec (.tokenFrame port h body ns) s =
    .next ((passed (if h.reflector = 0 ∧ s.acceptsFrame h then s.keepToken h body ns else s.readToken h body) port).emit
      (.forwardFrame (wayOn s port) (onward s port h) body)) := by
  simp [exec, execTokenFrame, hp, whenValid_true, forwards, State.passHeader_eq, State.countReflection_eq]

end

theorem exec_chainFrame_of_idle (hp : port < 2) (idle : s.forwards = false) :
    exec (.traverseFrame port h slots) s = .next s ∧ exec (.stakeFrame port h body) s = .next s ∧
    exec (.tokenFrame port h body ns) s = .next s := by
  simp [exec, execTraverseFrame, execStakeFrame, execTokenFrame, hp, whenValid_true, idle]

end Sys2Proof.Machine
end

section
/-! SUPPORT. An accepted traverse frame in an outstation: the times and flags of its header, and the slot that it takes along
(R206, R207, R211, R215, R219, R226). -/

namespace Sys2Proof.Machine

open Sys2Proof Sys2Proof.Stated

variable {s t : State} {h : ChainHeader} {slots : List Slot} {port : Nat}

/-- The tick of an outstation under the datum times and flags of an accepted header (R215, R219). -/
def TickState.underHeader (k : TickState) (h : ChainHeader) (nowNs : Nat) : TickState :=
  let datum := if h.flags.testBit 1 then h.datumNs else k.datumNs
  { k with
    stepped := k.stepped || h.flags.testBit 1, stretched := k.stretched || h.flags.testBit 2, datumNs := datum
    nextNs := if datum < h.nextNs then h.nextNs else k.nextNs, nowNs := nowNs }

/-- What counts a stretched tick: 2001.05, 2020.07 and the cause of group 2 (R30). -/
abbrev stretchKeys : List Nat := [0x200105, 0x202007, causeOf 2]

/-- A tick that the frame stretches counts, once (R30, R215). -/
def State.countStretched (s : State) (h : ChainHeader) : State :=
  if h.flags.testBit 2 && !s.tick.stretched then ((s.count 0x200105).count 0x202007).setCause 2 1 else s

theorem State.apart_countStretched : Apart stretchKeys s (s.countStretched h) := by
  unfold State.countStretched
  split
  · exact apart_setCause (apart_setReg (apart_setReg apart_refl (by simp)) (by simp)) rfl (by simp)
  · exact apart_refl

theorem State.takeHeader_shows :
    let t := s.takeHeader h
    Only stretchKeys s t ∧
    t = { s with
      regs := t.regs, dict := { s.dict with atClose := t.dict.atClose }, time := t.time
      ost := { s.ost with accepted := true }, tick := s.tick.underHeader h t.tick.nowNs } := by
  obtain ⟨only, frame⟩ := State.apart_countStretched (s := s) (h := h)
  rw [State.takeHeader, show s.takeFlags h = { s.countStretched h with tick := { (s.countStretched h).tick with
    stepped := (s.countStretched h).tick.stepped || h.flags.testBit 1
    stretched := (s.countStretched h).tick.stretched || h.flags.testBit 2 } } from rfl]
  generalize s.countStretched h = u at only frame
  rw [frame]
  unfold TickState.underHeader
  cases h.flags.testBit 1 <;> exact ⟨only, rfl⟩

/-! ## The configuration checksum (R226) -/

theorem State.checksumItem_congr {k : Nat} (reg : t.reg k = s.reg k) (blobs : t.blobs = s.blobs) :
    t.checksumItem k = s.checksumItem k := by
  have bytes : t.valueBytes k = s.valueBytes k := by
    unfold State.valueBytes State.blob
    rw [reg, blobs]
  rw [State.checksumItem, bytes]
  rfl

/-- The keys that the configuration checksum of an outstation covers. -/
theorem ownChecksum_covers {k : Nat}
    (hk : k ∈ [0x200001] ++ (List.range 9).map (fun n => keyOf 0x2700 (n + 2)) ++ [0x27000C] ++ persistedKeys 0x2800 0x29FF) :
    k = 0x200001 ∨ 0x270000 ≤ k ∧ k < 0x2A0000 := by
  simp only [persistedKeys, List.mem_append, List.mem_singleton, List.mem_map, List.mem_flatMap, List.mem_filter,
    List.mem_range] at hk
  unfold keyOf at hk
  rcases hk with ((rfl | ⟨n, hn, rfl⟩) | rfl) | ⟨i, ⟨hi, -⟩, ⟨n, hn, rfl⟩, -⟩ <;> omega

theorem State.ownChecksum_congr (only : Only stretchKeys s t) (blobs : t.blobs = s.blobs) : t.ownChecksum = s.ownChecksum := by
  have items (k : Nat) (hk : k = 0x200001 ∨ 0x270000 ≤ k ∧ k < 0x2A0000) : t.checksumItem k = s.checksumItem k :=
    State.checksumItem_congr (only k (by simp [causeOf, keyOf]; omega)) blobs
  exact congrArg (fun bytes => crc32c bytes.flatten) (List.map_congr_left fun k hk => items k (ownChecksum_covers hk))

/-! ## The slots -/

theorem State.meetTraverse_shows :
    let t := s.meetTraverse port h
    Only stretchKeys s t ∧ t.out = s.out ∧ t.mem = s.mem ∧ t.blobs = s.blobs ∧
    t.ost.accepted = true ∧ t.ost.payload = s.ost.payload ∧ t.tick = s.tick.underHeader h t.tick.nowNs := by
  obtain ⟨only, frame⟩ := State.takeHeader_shows (s := s.noteDirection port h) (h := h)
  have ost := congrArg State.ost frame
  exact ⟨only, (congrArg State.out frame :), (congrArg State.mem frame :), (congrArg State.blobs frame :),
    (congrArg OutstationState.accepted ost :), (congrArg OutstationState.payload ost :), (congrArg State.tick frame :)⟩

theorem State.answerSlot_other {x : Slot} (other : x.address ≠ s.reg 0x270001) :
    (s.meetTraverse port h).answerSlot h x = x := by
  obtain ⟨only, -⟩ := State.meetTraverse_shows (s := s) (h := h) (port := port)
  have address := only 0x270001 (by decide)
  exact if_neg (address ▸ other)

theorem State.answerSlot_own {x : Slot} (own : x.address = s.reg 0x270001) :
    let y := (s.meetTraverse port h).answerSlot h x
    y.address = x.address ∧ y.state = (if s.on 0x270010 then 1 else 2) ∧ y.hop = min (h.hops + 1) 255 ∧
    y.checksum = s.ownChecksum ∧ y.payload = (if x.length = s.reg 0x270005 then s.ost.payload else x.payload) := by
  obtain ⟨only, -, -, blobs, -, payload, -⟩ := State.meetTraverse_shows (s := s) (h := h) (port := port)
  have address := only 0x270001 (by decide)
  have size := only 0x270005 (by decide)
  have linked : (s.meetTraverse port h).on 0x270010 = s.on 0x270010 := congrArg (· != 0) (only 0x270010 (by decide))
  rw [State.answerSlot, if_pos (own.trans address.symm), State.fillSlot, linked, size, payload,
    State.ownChecksum_congr only blobs]
  exact ⟨rfl, rfl, rfl, rfl, by simp⟩

theorem State.noteInsertion_shows :
    let t := s.noteInsertion slots
    t.out = s.out ∧ t.mem = s.mem ∧ t.tick = s.tick ∧ t.ost.accepted = s.ost.accepted := by
  unfold State.noteInsertion
  split <;> exact ⟨rfl, rfl, rfl, rfl⟩

theorem State.meetTraverse_sent {e : Emission} :
    let t := (passed ((s.meetTraverse port h).noteInsertion slots) port).emit e
    t.out = s.out ++ [e] ∧ t.mem = s.mem ∧ t.ost.accepted = true ∧ t.tick = s.tick.underHeader h t.tick.nowNs := by
  obtain ⟨-, out, mem, -, accepted, -, tick⟩ := State.meetTraverse_shows (s := s) (h := h) (port := port)
  obtain ⟨out1, mem1, tick1, accepted1⟩ := State.noteInsertion_shows (s := s.meetTraverse port h) (slots := slots)
  obtain ⟨sent, -, mem2, tick2, ost2⟩ :=
    passed_emit_shows (s := (s.meetTraverse port h).noteInsertion slots) (port := port) (e := e)
  have met := tick2.trans tick1
  refine ⟨sent.trans (by rw [out1, out]), mem2.trans (mem1.trans mem),
    (congrArg OutstationState.accepted ost2).trans (accepted1.trans accepted), ?_⟩
  rw [met, ← tick]

end Sys2Proof.Machine
end

section
/-! SUPPORT. Stakes and tokens in an outstation, and its hold limit (R208, R209, R216 to R218). -/

namespace Sys2Proof.Machine

open Sys2Proof Sys2Proof.Stated

variable {s t : State} {h : ChainHeader} {body : List Byte} {port ns : Nat}

theorem only_of_subset {ks ls : List Nat} (sub : ks ⊆ ls) (only : Only ks s t) : Only ls s t :=
  fun k hk => only k fun mem => hk (sub mem)

/-- The entries that a stake writes: its tick, its unit, its payload, and the stakes that were never released. -/
abbrev stakeKeys : List Nat := [0x270013, 0x270014, 0x270015, 0x27001A, 0x27001B]

/-- The entries of a stake that was found take its tick, its unit and its payload (R217). -/
def State.showStake (s : State) (h : ChainHeader) (slot : Option (List Byte)) : State :=
  match slot with
  | some p => ((s.setReg 0x270013 h.tick).setReg 0x270014 h.source).setReg 0x270015 (leNat p)
  | none => s

theorem State.showStake_shows {slot : Option (List Byte)} :
    let t := s.showStake h slot
    Apart stakeKeys s t ∧
    (∀ p, slot = some p → t.reg 0x270013 = fit 0x270013 h.tick ∧ t.reg 0x270014 = fit 0x270014 h.source) ∧
    (slot = none → t.reg 0x270013 = s.reg 0x270013) := by
  cases slot with
  | none => exact ⟨apart_refl, nofun, fun _ => rfl⟩
  | some p =>
    refine ⟨apart_setReg (apart_setReg (apart_setReg apart_refl (by simp)) (by simp)) (by simp),
      fun _ _ => ⟨?_, ?_⟩, nofun⟩
    · exact (State.reg_setReg_other _ _ _ _ (by decide)).trans
        ((State.reg_setReg_other _ _ _ _ (by decide)).trans (State.reg_setReg_same _ _ _))
    · exact (State.reg_setReg_other _ _ _ _ (by decide)).trans (State.reg_setReg_same _ _ _)

/-- A stake is filed in the record of its unit, where the one before may count as never released; then it shows (R217). -/
theorem State.keepStake_files : ∃ u : State,
    s.keepStake h body = u.showStake h (findStake 33 (s.reg 0x270001) body) ∧
    Only [0x27001A] s u ∧ u.out = s.out ∧ u.ost.tokens = s.ost.tokens := by
  unfold State.keepStake
  extract_lets slot old same add s1 new ost s2
  have counted : Apart [0x27001A] s s1 := by
    unfold s1
    split
    · exact apart_refl
    · exact apart_setReg apart_refl (by simp)
  obtain ⟨only, frame⟩ := counted
  exact ⟨s2, rfl, only, (congrArg State.out frame :), (congrArg (·.ost.tokens) frame :)⟩

theorem State.keepStake_shows :
    let t := s.keepStake h body
    Only stakeKeys s t ∧ t.out = s.out ∧ t.ost.tokens = s.ost.tokens ∧
    (∀ p, findStake 33 (s.reg 0x270001) body = some p →
      t.reg 0x270013 = fit 0x270013 h.tick ∧ t.reg 0x270014 = fit 0x270014 h.source) ∧
    (findStake 33 (s.reg 0x270001) body = none → t.reg 0x270013 = s.reg 0x270013) := by
  obtain ⟨u, shown, filed, out, tokens⟩ := State.keepStake_files (s := s) (h := h) (body := body)
  obtain ⟨⟨only, frame⟩, found, missed⟩ :=
    State.showStake_shows (s := u) (h := h) (slot := findStake 33 (s.reg 0x270001) body)
  rw [shown]
  refine ⟨only_trans (only_of_subset (by simp) filed) only, (congrArg State.out frame).trans out,
    (congrArg (·.ost.tokens) frame).trans tokens, found, fun none => (missed none).trans (filed _ (by decide))⟩

theorem State.keepToken_bad (bad : body.length ≠ 12 ∨ crc32c (body.take 8) ≠ field body 8 4) :
    s.keepToken h body ns = s := if_pos bad

/-- The first token of a unit for a tick is kept, late or in time (R209, R216). -/
theorem State.keepToken_new (size : body.length = 12) (check : crc32c (body.take 8) = field body 8 4)
    (new : ∀ x ∈ s.ost.tokens, x.tick = h.tick → x.unit ≠ h.source) :
    (s.keepToken h body ns).ost.tokens = s.ost.tokens ++
      [⟨h.source, h.tick, h.nextNs, field body 0 4, field body 4 4, decide (h.nextNs < ns + 2000)⟩] := by
  have sound : ¬(body.length ≠ 12 ∨ crc32c (body.take 8) ≠ field body 8 4) := by simp [size, check]
  have first : ¬(s.ost.tokens.any fun t => t.tick == h.tick && t.unit == h.source) = true := by simpa using new
  rw [State.keepToken, if_neg sound, if_neg first]
  dsimp only
  split <;> rfl

theorem State.keepToken_frame :
    let t := s.keepToken h body ns
    Only [0x270019, 0x27001B] s t ∧ t.out = s.out := by
  unfold State.keepToken
  dsimp only
  split_ifs with bad old late
  · exact ⟨fun _ _ => rfl, rfl⟩
  · exact ⟨fun _ _ => rfl, rfl⟩
  · exact ⟨State.only_setReg_of_mem (s := s) (by simp), rfl⟩
  · exact ⟨fun _ _ => rfl, rfl⟩

/-! ## The hold limit (R218) -/

theorem State.setOwnLink_shows {v : Nat} (fits : v < 2 ^ entryBits 0x270010) :
    (s.setOwnLink v).reg 0x270010 = v ∧ Apart [0x270010, causeOf 6] s (s.setOwnLink v) ∧
    ∀ m, m < entryBits (causeOf 6) → (s.reg (causeOf 6)).testBit m = true →
      ((s.setOwnLink v).reg (causeOf 6)).testBit m = true := by
  unfold State.setOwnLink
  split
  next same => exact ⟨same, apart_refl, fun _ _ set => set⟩
  next =>
    refine ⟨?_, apart_setCause (apart_setReg apart_refl (by simp)) rfl (by simp), fun m hm set => ?_⟩
    · exact (State.reg_setCause_other (by decide)).trans ((State.reg_setReg_same _ _ _).trans (fit_of_lt fits))
    · rw [State.reg_setCause, State.testBit_reg_setBit _ _ _ hm, State.reg_setReg_other _ _ _ _ (by decide)]
      simp [set]

/-- The hold limit shows: EXPIRED counts and is a cause, and the outstation is UNLINKED. -/
theorem State.expired_shows :
    let t := ((s.count 0x270018).setCause 6 3).setOwnLink 0
    t.reg 0x270010 = 0 ∧ Counts 0x270018 1 s t ∧ (t.reg (causeOf 6)).testBit 3 = true ∧
    t.ost = s.ost ∧ t.tick = s.tick := by
  have bits : entryBits (causeOf 6) = 32 := by decide +kernel
  obtain ⟨-, caused⟩ : Apart [0x270018, causeOf 6] s ((s.count 0x270018).setCause 6 3) :=
    apart_setCause (apart_setReg apart_refl (by simp)) rfl (by simp)
  obtain ⟨unlinked, ⟨only, frame⟩, keeps⟩ :=
    State.setOwnLink_shows (s := (s.count 0x270018).setCause 6 3) (Nat.two_pow_pos (entryBits 0x270010))
  refine ⟨unlinked, ?_, keeps 3 (by omega) (State.cause_setCause (by omega)), ?_, ?_⟩
  · exact (only _ (by decide)).trans ((State.reg_setCause_other (by decide)).trans (s.reg_count _))
  · exact (congrArg State.ost frame).trans (congrArg State.ost caused :)
  · exact (congrArg State.tick frame).trans (congrArg State.tick caused :)

theorem State.holdLimitExpiry_due (accepted : s.ost.accepted = true) (first : s.ost.expired = false)
    (limit : s.reg 0x270002 ≤ s.reg 0x270017) :
    let t := s.holdLimitExpiry
    t.ost.expired = true ∧ t.reg 0x270010 = 0 ∧ Counts 0x270018 1 s t ∧
    (t.reg (causeOf 6)).testBit 3 = true ∧ t.ost.carry.testBit 2 = true ∧
    (s.ost.releasedOnce = false → t.tick = s.tick) ∧
    (s.ost.releasedOnce = true → t.ost.subst = true ∧ t.tick.prevReleased = s.tick.released) := by
  have due : (s.ost.accepted && !s.ost.expired && decide (s.reg 0x270002 ≤ s.reg 0x270017)) = true := by
    simp [accepted, first, limit]
  have carried : (withBit s.ost.carry 2 true).testBit 2 = true := (testBit_withBit ..).trans (if_pos rfl)
  obtain ⟨unlinked, counts, cause, ost, tick⟩ := State.expired_shows (s := s)
  rw [State.holdLimitExpiry, if_pos due]
  generalize ((s.count 0x270018).setCause 6 3).setOwnLink 0 = u at *
  dsimp only
  rw [ost]
  cases s.ost.releasedOnce with
  | true => exact ⟨rfl, unlinked, counts, cause, carried, nofun, fun _ => ⟨rfl, congrArg TickState.released tick⟩⟩
  | false => exact ⟨rfl, unlinked, counts, cause, carried, fun _ => tick, nofun⟩

theorem exec_holdLimitExpiry_of_other
    (other : s.outstation = false ∨ s.ost.accepted = false ∨ s.ost.expired = true ∨ s.reg 0x270017 < s.reg 0x270002) :
    exec .holdLimitExpiry s = .next s := by
  rcases other with controller | never | expired | below
  · simp [exec, execHoldLimitExpiry, controller]
  · simp [exec, execHoldLimitExpiry, State.holdLimitExpiry, never]
  · simp [exec, execHoldLimitExpiry, State.holdLimitExpiry, expired]
  · simp [exec, execHoldLimitExpiry, State.holdLimitExpiry, Nat.not_le.mpr below]

/-! ## The frames of an outstation and of a partner controller -/

theorem traverseFrame_own (hp : port < 2) (forwards : s.forwards = true) (first : h.reflector = 0)
    (accepts : s.acceptsFrame h = true) {slots : List Slot} :
    ∃ (t : State) (ys : List Slot), exec (.traverseFrame port h slots) s = .next t ∧
      t.out = s.out ++ [.forwardTraverse (wayOn s port) (onward s port h) ys] ∧ ys.length = slots.length ∧
      (∀ (i : Nat) (x : Slot), slots[i]? = some x → x.address ≠ s.reg 0x270001 → ys[i]? = some x) ∧
      (∀ (i : Nat) (x : Slot), slots[i]? = some x → x.address = s.reg 0x270001 → ∃ y : Slot, ys[i]? = some y ∧
        y.address = x.address ∧ y.state = (if s.on 0x270010 then 1 else 2) ∧ y.hop = min (h.hops + 1) 255 ∧
        y.checksum = s.ownChecksum ∧ y.payload = (if x.length = s.reg 0x270005 then s.ost.payload else x.payload)) ∧
      t.ost.accepted = true ∧ t.mem = s.mem ∧ t.tick = s.tick.underHeader h t.tick.nowNs := by
  obtain ⟨sent, mem, accepted, tick⟩ := State.meetTraverse_sent (s := s) (h := h) (slots := slots) (port := port)
    (e := .forwardTraverse (wayOn s port) (onward s port h) (slots.map ((s.meetTraverse port h).answerSlot h)))
  refine ⟨_, _, exec_traverseFrame_own hp forwards first accepts, sent, List.length_map _, fun i x hx other => ?_,
    fun i x hx own => ⟨_, ?_, State.answerSlot_own (port := port) own⟩, accepted, mem, tick⟩
  · rw [List.getElem?_map, hx, Option.map_some, State.answerSlot_other other]
  · rw [List.getElem?_map, hx, Option.map_some]

theorem stakeFrame_own (hp : port < 2) (forwards : s.forwards = true) (first : h.reflector = 0)
    (accepts : s.acceptsFrame h = true) :
    ∃ t, exec (.stakeFrame port h body) s = .next t ∧
      t.out = s.out ++ [.forwardFrame (wayOn s port) (onward s port h) body] ∧
      Only stakeKeys s t ∧ t.ost.tokens = s.ost.tokens ∧
      (∀ p, findStake 33 (s.reg 0x270001) body = some p →
        t.reg 0x270013 = fit 0x270013 h.tick ∧ t.reg 0x270014 = fit 0x270014 h.source) ∧
      (findStake 33 (s.reg 0x270001) body = none → t.reg 0x270013 = s.reg 0x270013) := by
  have runs := exec_stakeFrame (s := s) (h := h) (body := body) hp forwards
  rw [if_pos ⟨first, accepts⟩] at runs
  obtain ⟨only, out, tokens, found, missed⟩ := State.keepStake_shows (s := s) (h := h) (body := body)
  obtain ⟨sent, counted, -, -, ost⟩ := passed_emit_shows (s := s.keepStake h body) (port := port)
    (e := .forwardFrame (wayOn s port) (onward s port h) body)
  rw [out] at sent
  refine ⟨_, runs, sent, only_trans only (only_of_subset (by simp) counted),
    (congrArg OutstationState.tokens ost).trans tokens, fun p hit => ?_,
    fun none => (counted _ (by decide)).trans (missed none)⟩
  rw [counted _ (by decide), counted _ (by decide)]
  exact found p hit

theorem tokenFrame_own (hp : port < 2) (forwards : s.forwards = true) (first : h.reflector = 0)
    (accepts : s.acceptsFrame h = true) :
    ∃ t, exec (.tokenFrame port h body ns) s = .next t ∧
      t.out = s.out ++ [.forwardFrame (wayOn s port) (onward s port h) body] ∧ Only [0x270019, 0x27001B] s t ∧
      (body.length = 12 → crc32c (body.take 8) = field body 8 4 →
        (∀ x, x ∈ s.ost.tokens → x.tick = h.tick → x.unit ≠ h.source) →
        t.ost.tokens = s.ost.tokens ++
          [⟨h.source, h.tick, h.nextNs, field body 0 4, field body 4 4, decide (h.nextNs < ns + 2000)⟩]) ∧
      (body.length ≠ 12 ∨ crc32c (body.take 8) ≠ field body 8 4 → t.ost = s.ost) := by
  have runs := exec_tokenFrame (s := s) (h := h) (body := body) (ns := ns) hp forwards
  rw [if_pos ⟨first, accepts⟩] at runs
  obtain ⟨only, out⟩ := State.keepToken_frame (s := s) (h := h) (body := body) (ns := ns)
  obtain ⟨sent, counted, -, -, ost⟩ := passed_emit_shows (s := s.keepToken h body ns) (port := port)
    (e := .forwardFrame (wayOn s port) (onward s port h) body)
  rw [out] at sent
  exact ⟨_, runs, sent, only_trans only (only_of_subset (by simp) counted),
    fun size check new => (congrArg OutstationState.tokens ost).trans (State.keepToken_new size check new),
    fun bad => ost.trans (congrArg State.ost (State.keepToken_bad bad))⟩

/-- Settles O32: each frame by who the node is to it, one that passes it on, a partner that reads it, or the outstation that
accepts it; and the hold limit by whether it is reached. -/
theorem outstationFrames : Obligations.OutstationFrames := by
  refine fun s port h slots body ns hp => ⟨exec_chainFrame_of_idle hp, fun forwards other => ?other,
    fun _ forwards first accepts =>
      ⟨?traverse, stakeFrame_own hp forwards first accepts, tokenFrame_own hp forwards first accepts⟩,
    fun _ outstation accepted inTime limit => ⟨_, congrArg Host.Outcome.next (if_pos outstation),
      State.holdLimitExpiry_due accepted inTime limit⟩,
    exec_holdLimitExpiry_of_other⟩
  case other =>
    have traverse := exec_traverseFrame_other (slots := slots) hp forwards other
    have stake := exec_stakeFrame (h := h) (body := body) hp forwards
    have token := exec_tokenFrame (h := h) (body := body) (ns := ns) hp forwards
    rw [if_neg (State.not_own_of_passesOn other)] at stake token
    refine ⟨stake, fun unread => ?_, fun reads => ?_⟩
    · rw [State.readSlots_of_unread unread] at traverse
      rw [State.readToken_of_unread unread] at token
      exact ⟨traverse, token⟩
    · have controller := State.controller_of_readsFrame reads
      rw [passed_of_controller (State.readSlots_outstation.trans controller), State.readSlots_of_reads reads] at traverse
      rw [passed_of_controller (State.readToken_outstation.trans controller), State.readToken_of_reads reads] at token
      rw [passed_of_controller controller]
      exact ⟨traverse, token⟩
  case traverse =>
    obtain ⟨t, ys, runs, out, size, others, own, accepted, mem, tick⟩ :=
      traverseFrame_own (slots := slots) hp forwards first accepts
    have datum : t.tick.datumNs = if h.flags.testBit 1 then h.datumNs else s.tick.datumNs :=
      congrArg TickState.datumNs tick
    refine ⟨t, ys, runs, out, size, others, own, accepted, (congrArg TickState.token tick :), mem,
      (congrArg TickState.stepped tick :), (congrArg TickState.stretched tick :), datum, ?_⟩
    rw [datum]
    exact congrArg TickState.nextNs tick

end Sys2Proof.Machine
end

section
/-! SUPPORT. The registers of the digital channels, and what raising and dropping a diagnostic of a channel leaves of the
state (R242, R247, R251). -/

namespace Sys2Proof.Machine

open Sys2Proof Sys2Proof.Stated

variable {s t u : State} {n b : Nat}

/-! ## Changes of registers that leave the rest (R386, R388) -/

theorem registers_refl : Registers s s := rfl

theorem registers_trans (h : Registers s t) (h' : Registers t u) : Registers s u := by
  unfold Registers at *
  rw [h', h]

theorem registers_setReg {k v : Nat} : Registers s (s.setReg k v) := rfl

theorem registers_setCause {g k : Nat} : Registers s (s.setCause g k) := by
  unfold State.setCause
  dsimp only
  split <;> rfl

/-- An error-task cause as RUN records it (R89, R91). -/
def State.putRecord (s : State) (r : ErrRecord) : State :=
  let t := s.setReg 0x212006 r.number
  if s.hasErrorTask then { t with tick := { t.tick with errNew := t.tick.errNew ++ [r] } } else t

theorem State.recordError_eq {c p q : Nat} :
    s.recordError c p q = if s.mode = stRun then s.putRecord ⟨c, p, q, s.tickNo⟩ else s := rfl

theorem State.putRecord_regs {r : ErrRecord} : (s.putRecord r).regs = (s.setReg 0x212006 r.number).regs := by
  unfold State.putRecord
  generalize r.number = v
  dsimp only
  split <;> rfl

theorem State.reg_putRecord {r : ErrRecord} (k : Nat) : (s.putRecord r).reg k = (s.setReg 0x212006 r.number).reg k :=
  congrArg (Sparse.get (defaultOf k) · k) State.putRecord_regs

theorem registers_errNew {es : List ErrRecord} (h : Registers s t) :
    Registers s { t with tick := { t.tick with errNew := es } } :=
  (congrArg (fun x : State => ({ x with tick := { x.tick with errNew := es } } : State)) h :)

theorem registers_putRecord {r : ErrRecord} : Registers s (s.putRecord r) := by
  have shown : Registers s (s.setReg 0x212006 r.number) := registers_setReg
  unfold State.putRecord
  dsimp only
  split
  · exact registers_errNew shown
  · exact shown

theorem registers_recordError {c p q : Nat} : Registers s (s.recordError c p q) := by
  rw [State.recordError_eq]
  split
  · exact registers_putRecord
  · exact registers_refl

/-! ## The entries of channels and slices (R250, R251) -/

theorem dch_inj {m sub sub' : Nat} (h : sub < 256) (h' : sub' < 256) : dch n sub = dch m sub' ↔ n = m ∧ sub = sub' := by
  unfold dch keyOf
  omega

theorem dch_ne_causeOf {sub g : Nat} (hn : n < 64) (hs : sub < 256) : dch n sub ≠ causeOf g := by
  unfold dch causeOf keyOf
  omega

theorem dsl_ne_causeOf {k sub g : Nat} (hk : k < 8) (hs : sub < 256) : dsl k sub ≠ causeOf g := by
  unfold dsl causeOf keyOf
  omega

theorem dsl_ne_dch {k sub sub' : Nat} (hk : k < 8) (hs : sub < 256) (hs' : sub' < 256) : dsl k sub ≠ dch n sub' := by
  unfold dsl dch keyOf
  omega

theorem entryBits_dch {sub : Nat} (hn : n < 64) (hs : sub < 256) : entryBits (dch n sub) = entryBits (keyOf 0x2810 sub) :=
  have layout : OneLayout 0x2810 64 := by decide +kernel
  layout.entryBits_add hn hs

theorem entryBits_dsl {k sub : Nat} (hk : k < 8) (hs : sub < 256) : entryBits (dsl k sub) = entryBits (keyOf 0x2801 sub) :=
  have layout : OneLayout 0x2801 8 := by decide +kernel
  layout.entryBits_add hk hs

/-- The status word of a channel has 32 bits. -/
theorem entryBits_chanStatus (hn : n < 64) : entryBits (dch n 0xB) = 32 :=
  (entryBits_dch hn (by decide)).trans (by decide +kernel)

theorem entryBits_causeOf_seven : entryBits (causeOf 7) = 32 := by decide +kernel

/-- A stored bit of a status word is the one written last. -/
theorem State.chanBit_setBit {m c : Nat} {v : Bool} (hn : n < 64) (hb : b < 32) :
    (s.setBit (dch m 0xB) c v).chanBit n b = if n = m ∧ b = c then v else s.chanBit n b := by
  by_cases same : n = m
  · subst same
    simp only [true_and]
    exact s.testBit_reg_setBit c v ((entryBits_chanStatus hn).symm ▸ hb)
  · have key : dch n 0xB ≠ dch m 0xB := fun e => same ((dch_inj (by decide) (by decide)).mp e).1
    rw [if_neg fun e => same e.1]
    exact congrArg (·.testBit b) (s.reg_setReg_other _ _ _ key)

/-! ## A diagnostic is noted (R247, R251) -/

theorem ErrRecord.number_lt (r : ErrRecord) : r.number < 2 ^ 128 := by
  unfold ErrRecord.number
  omega

theorem State.mode_count {k : Nat} (h : 0x210001 ≠ k) : (s.count k).mode = s.mode := State.mode_setReg h

theorem State.reg_recordError_other {c p q k : Nat} (h : k ≠ 0x212006) : (s.recordError c p q).reg k = s.reg k := by
  rw [State.recordError_eq]
  split
  · exact (State.reg_putRecord k).trans (s.reg_setReg_other _ _ _ h)
  · rfl

/-- In RUN an error-task cause shows its record. -/
theorem State.reg_recordError {c p q : Nat} (run : s.mode = stRun) :
    (s.recordError c p q).reg 0x212006 = (⟨c, p, q, s.tickNo⟩ : ErrRecord).number := by
  have bits : entryBits 0x212006 = 128 := by decide +kernel
  rw [State.recordError_eq, if_pos run, State.reg_putRecord, State.reg_setReg_same,
    fit_of_lt (bits.symm ▸ ErrRecord.number_lt _)]

/-- The registers that a noted diagnostic writes. -/
abbrev noteKeys (n b : Nat) : List Nat := [0x212006, causeOf 7] ++ if diagStat b = 0 then [] else [dch n (diagStat b)]

/-- The state with the frame statistic of a diagnostic counted (R251). -/
def State.countDiag (s : State) (n b : Nat) : State := if diagStat b = 0 then s else s.count (dch n (diagStat b))

theorem State.noteDiag_eq : s.noteDiag n b = ((s.countDiag n b).recordError 4 n (diagCode b)).setCause 7 0 := rfl

theorem State.registers_noteDiag : Registers s (s.noteDiag n b) := by
  have counted : Registers s (s.countDiag n b) := by
    unfold State.countDiag
    split <;> rfl
  exact registers_trans (registers_trans counted registers_recordError) registers_setCause

theorem diagStat_lt : diagStat b < 0x1A := by
  unfold diagStat
  split <;> decide

theorem diagStat_ne_status : diagStat b ≠ 0xB := by
  unfold diagStat
  split <;> decide

theorem State.reg_noteDiag {k : Nat} (record : k ≠ 0x212006) (cause : k ≠ causeOf 7) :
    (s.noteDiag n b).reg k = (s.countDiag n b).reg k := by
  rw [State.noteDiag_eq, State.reg_setCause_other cause, State.reg_recordError_other record]

theorem State.only_noteDiag : Only (noteKeys n b) s (s.noteDiag n b) := by
  intro k hk
  simp only [noteKeys, List.cons_append, List.nil_append, List.mem_cons, not_or] at hk
  obtain ⟨record, cause, stat⟩ := hk
  rw [State.reg_noteDiag record cause]
  unfold State.countDiag
  split
  next => rfl
  next counted => exact s.reg_setReg_other _ _ _ (by simpa [counted] using stat)

theorem State.cause_noteDiag : ((s.noteDiag n b).reg (causeOf 7)).testBit 0 = true :=
  State.cause_setCause (entryBits_causeOf_seven ▸ by decide)

theorem State.reg_noteDiag_count (hn : n < 64) (counted : diagStat b ≠ 0) :
    Counts (dch n (diagStat b)) 1 s (s.noteDiag n b) := by
  have small := diagStat_lt (b := b)
  rw [Counts, State.reg_noteDiag (by unfold dch keyOf; omega) (dch_ne_causeOf hn (by omega)), State.countDiag, if_neg counted]
  exact s.reg_count _

theorem State.reg_noteDiag_record (hn : n < 64) (run : s.mode = stRun) :
    (s.noteDiag n b).reg 0x212006 = (⟨4, n, diagCode b, s.tickNo⟩ : ErrRecord).number := by
  have small := diagStat_lt (b := b)
  have apart (k : Nat) (h : k < 0x281000) : (s.countDiag n b).reg k = s.reg k := by
    unfold State.countDiag
    split
    · rfl
    · exact s.reg_setReg_other _ _ _ (by unfold dch keyOf; omega)
  have runs : (s.countDiag n b).mode = stRun := (apart _ (by decide)).trans run
  rw [State.noteDiag_eq, State.reg_setCause_other (by decide), State.reg_recordError runs,
    show (s.countDiag n b).tickNo = s.tickNo from apart _ (by decide)]

/-- A noted diagnostic writes no status word. -/
theorem State.status_noteDiag {m : Nat} (hm : m < 64) : (s.noteDiag n b).reg (dch m 0xB) = s.reg (dch m 0xB) := by
  have status := diagStat_ne_status (b := b)
  have small := diagStat_lt (b := b)
  refine State.only_noteDiag _ ?_
  simp only [noteKeys, List.cons_append, List.nil_append, List.mem_cons, not_or]
  refine ⟨by unfold dch keyOf; omega, dch_ne_causeOf hm (by decide), ?_⟩
  split
  · simp
  · rw [List.mem_singleton, dch_inj (by decide) (by omega)]
    exact fun e => status e.2.symm

theorem State.chanBit_noteDiag {m c : Nat} (hm : m < 64) : (s.noteDiag n b).chanBit m c = s.chanBit m c :=
  congrArg (·.testBit c) (State.status_noteDiag hm)

/-! ## Raising and dropping a diagnostic (R242) -/

theorem State.raiseDiag_raises (hn : n < 64) (hb : b < 32) : Raises n b s (s.raiseDiag n b) := by
  unfold State.raiseDiag
  refine ⟨fun set => if_pos set, fun clear => ?_⟩
  rw [if_neg (by simp [clear])]
  have written (k : Nat) (h : k ≠ dch n 0xB) : (s.setBit (dch n 0xB) b true).reg k = s.reg k := s.reg_setReg_other _ _ _ h
  have early (k : Nat) (h : k < 0x281000) : (s.setBit (dch n 0xB) b true).reg k = s.reg k :=
    written k (by unfold dch keyOf; omega)
  refine ⟨?_, State.cause_noteDiag, registers_trans registers_setReg State.registers_noteDiag, fun counted => ?_, fun run => ?_, ?_⟩
  · rw [SetsBit, State.status_noteDiag hn]
    exact s.setsBit_setBit (entryBits_chanStatus hn ▸ hb)
  · rw [Counts, State.reg_noteDiag_count hn counted, written]
    rw [ne_eq, dch_inj (diagStat_lt.trans (by decide)) (by decide)]
    exact fun e => diagStat_ne_status e.2
  · rw [State.reg_noteDiag_record hn ((early _ (by decide)).trans run), State.tickNo, early _ (by decide)]
    rfl
  · refine only_trans (State.only_setReg_of_mem (by simp)) (only_of_subset ?_ State.only_noteDiag)
    simp

theorem State.dropDiag_drops (hn : n < 64) : Drops n b s (s.dropDiag n b) := by
  unfold State.dropDiag
  refine ⟨fun clear => if_neg (by simp [clear]), fun set => ?_⟩
  rw [if_pos set]
  refine ⟨?_, State.cause_setCause (entryBits_causeOf_seven ▸ by decide), registers_trans registers_setReg registers_setCause,
    only_trans (State.only_setReg_of_mem (by simp)) (State.only_setCause_of_mem (by simp)), fun m hm other => ?_⟩
  · exact State.chanBit_setCause.trans State.setBit_clears
  · rw [State.chanBit_setCause, State.chanBit_setBit hn (by omega), if_neg fun e => other e.2]

theorem State.only_dropDiag : Only [dch n 0xB, causeOf 7] s (s.dropDiag n b) := by
  unfold State.dropDiag
  split
  · exact only_trans (State.only_setReg_of_mem (by simp)) (State.only_setCause_of_mem (by simp))
  · exact fun _ _ => rfl

theorem State.registers_dropDiag : Registers s (s.dropDiag n b) := by
  unfold State.dropDiag
  split
  · exact registers_trans registers_setReg registers_setCause
  · rfl

theorem State.chanBit_dropDiag {m c : Nat} (hm : m < 64) (hc : c < 32) :
    (s.dropDiag n b).chanBit m c = if m = n ∧ c = b then false else s.chanBit m c := by
  unfold State.dropDiag
  split
  · rw [State.chanBit_setCause, State.chanBit_setBit hm hc]
  next clear =>
    split
    next same => simpa [same.1, same.2] using clear
    next => rfl

end Sys2Proof.Machine
end

section
/-! SUPPORT. The diagnostics of the digital channels: where each is monitored (R237, R242, R243, R245). -/

namespace Sys2Proof.Machine

open Sys2Proof Sys2Proof.Stated

variable {s : State} {n : Nat}

/-- A diagnostic that its event raises where it is monitored, and nowhere else. -/
theorem raises_of_monitored {r : Result} {b : Nat} {c : Bool} {monitored : Prop} (hn : n < 64) (hb : b < 32)
    (runs : r = .next (if c then s.raiseDiag n b else s)) (where_ : c = true ↔ monitored) :
    (monitored → ∃ t, r = .next t ∧ Raises n b s t) ∧ (¬ monitored → r = .next s) := by
  rw [← where_]
  exact ⟨fun m => ⟨_, runs.trans (by rw [if_pos m]), State.raiseDiag_raises hn hb⟩, fun m => runs.trans (by rw [if_neg m])⟩

theorem State.outputMonitored_iff :
    s.outputMonitored n = true ↔ s.isOutput n = true ∧ s.sliceLow (n / 8) = false ∧ s.active = true := by
  simp [State.outputMonitored, State.monitored, and_assoc]

theorem State.monitorsOpenOn_iff : (s.outputMonitored n && s.on (dch n 6) && s.chanBit n bStageOn) = true ↔
    (s.isOutput n = true ∧ s.sliceLow (n / 8) = false ∧ s.active = true) ∧ s.chanBit n bStageOn = true ∧
      s.on (dch n 6) = true := by
  rw [Bool.and_eq_true, Bool.and_eq_true, State.outputMonitored_iff, and_assoc, and_comm (a := s.on (dch n 6) = true)]

theorem State.monitorsOpenOff_iff :
    (s.outputMonitored n && s.on (dch n 7) && !s.chanBit n bStageOn && !s.chanBit n bDemag) = true ↔
    (s.isOutput n = true ∧ s.sliceLow (n / 8) = false ∧ s.active = true) ∧ s.chanBit n bStageOn = false ∧
      s.on (dch n 7) = true ∧ s.chanBit n bDemag = false := by
  rw [Bool.and_eq_true, Bool.and_eq_true, Bool.and_eq_true, State.outputMonitored_iff, Bool.not_eq_true', Bool.not_eq_true',
    and_assoc, and_assoc, and_left_comm (a := s.on (dch n 7) = true)]

theorem State.wireMonitored_iff :
    s.wireMonitored n = true ↔ (s.chanMode n = 1 ∨ s.chanMode n = 3) ∧ s.on (dch n 3) = true := by
  simp [State.wireMonitored]

theorem State.readbackTrips_iff : (s.chanMode n == 5 && s.active && decide (s.reg (dch n 8) ≤ (s.drt n).mismatchRun) &&
      decide (0 < (s.drt n).mismatchRun)) = true ↔
    s.chanMode n = 5 ∧ s.active = true ∧ s.reg (dch n 8) ≤ (s.drt n).mismatchRun ∧ 0 < (s.drt n).mismatchRun := by
  simp only [Bool.and_eq_true, beq_iff_eq, decide_eq_true_eq, and_assoc]

/-- A diagnostic of R242 on a configured channel makes it invalid. -/
theorem State.chanValid_of_chanBit {b : Nat} (mode : s.chanMode n ≠ 0) (hb : b < 7) (set : s.chanBit n b = true) :
    s.chanValid n = false := by
  have word : (s.chanStatus n).testBit b = true := by
    unfold State.chanStatus
    dsimp only
    rw [testBit_withBit, if_neg (by omega), testBit_withBit, if_neg (by omega), testBit_withBit, if_neg (by omega),
      testBit_withBit, if_neg (by omega)]
    exact set
  have diag : s.chanStatus n % 2 ^ 9 ≠ 0 := fun none => by
    have low := Nat.testBit_mod_two_pow (s.chanStatus n) 9 b
    rw [none, word] at low
    simp at low
    omega
  have shown : s.chanDiag n = true := by simpa [State.chanDiag, mode] using diag
  simp [State.chanValid, shown]

theorem State.inputValue_of_wirebreak (wire : s.wireMonitored n = true) (set : s.chanBit n bWirebreak = true) :
    s.inputValue n = false := by simp [State.inputValue, wire, set]

theorem State.openloadClear_clears (hn : n < 64) :
    let t := (s.dropDiag n bOpenOn).dropDiag n bOpenOff
    t.chanBit n bOpenOn = false ∧ t.chanBit n bOpenOff = false ∧ Registers s t ∧ Only [dch n 0xB, causeOf 7] s t ∧
      ∀ m, m < 16 → m ≠ bOpenOn → m ≠ bOpenOff → t.chanBit n m = s.chanBit n m := by
  have bits (m : Nat) (hm : m < 32) : ((s.dropDiag n bOpenOn).dropDiag n bOpenOff).chanBit n m =
      if m = bOpenOff then false else if m = bOpenOn then false else s.chanBit n m := by
    simp [State.chanBit_dropDiag hn hm]
  refine ⟨bits _ (by decide), bits _ (by decide), registers_trans State.registers_dropDiag State.registers_dropDiag,
    only_trans State.only_dropDiag State.only_dropDiag, fun m hm on off => ?_⟩
  rw [bits m (by omega), if_neg off, if_neg on]

/-- Settles O33: each event by where its diagnostic is monitored. -/
theorem channelDiagnostics : Obligations.ChannelDiagnostics := by
  intro s n _ hn
  dsimp only
  have run (u : State) : whenValid (decide (n < 64)) s u = .next u := by rw [decide_eq_true hn, whenValid_true]
  have both {a b : Bool} {p q : Prop} (h : a = true ↔ p) (h' : b = true ↔ q) : (a && b) = true ↔ p ∧ q := by
    rw [Bool.and_eq_true, h, h']
  obtain ⟨overload, noOverload⟩ := raises_of_monitored (r := exec (.overloadDetect n) s) (b := bOverload) hn (by decide)
    (run _) (both State.outputMonitored_iff .rfl)
  obtain ⟨openOn, noOpenOn⟩ := raises_of_monitored (r := exec (.openloadOnDetect n) s) (b := bOpenOn) hn (by decide)
    (run _) State.monitorsOpenOn_iff
  obtain ⟨openOff, noOpenOff⟩ := raises_of_monitored (r := exec (.openloadOffDetect n) s) (b := bOpenOff) hn (by decide)
    (run _) State.monitorsOpenOff_iff
  obtain ⟨wire, noWire⟩ := raises_of_monitored (r := exec (.wirebreakDetect n) s) (b := bWirebreak) hn (by decide)
    (run _) (both State.wireMonitored_iff (by rw [State.monitored, Bool.not_eq_true']))
  obtain ⟨readback, noReadback⟩ := raises_of_monitored (r := exec (.readbackFault n) s) (b := bReadback) hn (by decide)
    (run _) State.readbackTrips_iff
  refine ⟨overload, noOverload, ⟨_, run _, State.dropDiag_drops hn⟩, openOn, noOpenOn, openOff, noOpenOff,
    ⟨_, run _, State.openloadClear_clears hn⟩, fun m supplied => wire ⟨m, supplied⟩, fun m => noWire ?_, fun m set => ?_,
    ⟨_, run _, State.dropDiag_drops hn⟩, readback, noReadback⟩
  · rintro ⟨monitored, supplied⟩
    rcases m with unmonitored | low
    · exact unmonitored monitored
    · exact nomatch low.symm.trans supplied
  · have wired := State.wireMonitored_iff.mpr m
    refine ⟨State.inputValue_of_wirebreak wired set, State.chanValid_of_chanBit (fun off => ?_) (by decide) set⟩
    rw [off] at m
    simp at m

end Sys2Proof.Machine
end

section
/-! SUPPORT. The stages of the digital channels: what raising a diagnostic and switching a stage off leave of the status words
and of the other registers (R240, R242). -/

namespace Sys2Proof.Machine

open Sys2Proof Sys2Proof.Stated

variable {s t : State} {n m b c : Nat}

/-- A command whose operands name something that exists runs. -/
theorem next_of_valid {v : Bool} (h : v = true) : whenValid v s t = .next t := by rw [h, whenValid_true]

theorem dig_of_registers (h : Registers s t) : t.dig = s.dig := (congrArg State.dig h :)
theorem mem_of_registers (h : Registers s t) : t.mem = s.mem := (congrArg State.mem h :)
theorem engines_of_registers (h : Registers s t) : t.engines = s.engines := (congrArg State.engines h :)
theorem drt_of_registers (h : Registers s t) : t.drt n = s.drt n := by rw [State.drt, dig_of_registers h, State.drt]

theorem State.chanBit_of_reg (h : t.reg (dch n 0xB) = s.reg (dch n 0xB)) : t.chanBit n b = s.chanBit n b :=
  congrArg (·.testBit b) h

/-! ## Raising a diagnostic (R242) -/

theorem State.registers_raiseDiag : Registers s (s.raiseDiag n b) := by
  unfold State.raiseDiag
  split
  · exact registers_refl
  · exact registers_trans registers_setReg State.registers_noteDiag

theorem State.only_raiseDiag : Only (dch n 0xB :: noteKeys n b) s (s.raiseDiag n b) := by
  unfold State.raiseDiag
  split
  · exact fun _ _ => rfl
  · exact only_trans (State.only_setReg_of_mem (by simp)) (only_of_subset (by simp) State.only_noteDiag)

theorem State.chanBit_raiseDiag (hm : m < 64) (hc : c < 32) :
    (s.raiseDiag n b).chanBit m c = if m = n ∧ c = b then true else s.chanBit m c := by
  unfold State.raiseDiag
  split
  next set =>
    split
    next same => rw [same.1, same.2, set]
    next => rfl
  next => rw [State.chanBit_noteDiag hm, State.chanBit_setBit hm hc]

theorem State.off_raiseDiag (hm : m < 64) (stage : b ≠ bStageOn) (waits : b ≠ bPendingOn) (off : Off s m) :
    Off (s.raiseDiag n b) m := by
  obtain ⟨offStage, offWaits⟩ := off
  rw [Off, State.chanBit_raiseDiag hm (by decide), State.chanBit_raiseDiag hm (by decide), if_neg fun e => stage e.2.symm,
    if_neg fun e => waits e.2.symm]
  exact ⟨offStage, offWaits⟩

/-! ## A stage switches off (R240, R242) -/

theorem State.registers_stageOff : Registers s (s.stageOff n) := by
  unfold State.stageOff
  split
  · have written : Registers s ((s.setBit (dch n 0xB) bStageOn false).setBit (dch n 0xB) bDemag true) := rfl
    exact registers_trans (registers_trans written State.registers_dropDiag) State.registers_dropDiag
  · exact registers_refl

theorem State.only_stageOff : Only [dch n 0xB, causeOf 7] s (s.stageOff n) := by
  have status (u : State) (c : Nat) (v : Bool) : Only [dch n 0xB, causeOf 7] u (u.setBit (dch n 0xB) c v) :=
    State.only_setReg_of_mem (by simp)
  unfold State.stageOff
  split
  · exact only_trans (only_trans (only_trans (status _ _ _) (status _ _ _)) State.only_dropDiag) State.only_dropDiag
  · exact fun _ _ => rfl

theorem State.chanBit_stageOff (hn : n < 64) (hc : c < 32) : (s.stageOff n).chanBit n c =
    if s.chanBit n bStageOn = true then
      (if c = bStageOn ∨ c = bOverload ∨ c = bOpenOn then false else if c = bDemag then true else s.chanBit n c)
    else s.chanBit n c := by
  unfold State.stageOff
  split
  · rw [State.chanBit_dropDiag hn hc, State.chanBit_dropDiag hn hc, State.chanBit_setBit hn hc, State.chanBit_setBit hn hc]
    simp only [true_and]
    split_ifs <;> simp_all
  · rfl

theorem State.stageOff_clears (hn : n < 64) : (s.stageOff n).chanBit n bStageOn = false := by
  rw [State.chanBit_stageOff hn (by decide)]
  simp

end Sys2Proof.Machine
end

section
/-! SUPPORT. The events of a digital channel: its input filter, the end of a demagnetisation, and its trips for
over-temperature (R236, R237, R240, R243, R244, R246). -/

namespace Sys2Proof.Machine

open Sys2Proof Sys2Proof.Stated

variable {s : State} {n ns : Nat} {level : RawLevel}

/-! ## The input filter (R236, R237, R244, R246) -/

/-- The channel with a level that its filter accepted. -/
def State.acceptLevel (s : State) (n : Nat) (level : RawLevel) : State :=
  s.setDrt n { s.drt n with accepted := level == .high, broken := level == .broken }

theorem exec_inputFilterAccept (hn : n < 64) : exec (.inputFilterAccept n level ns) s = .next
    (if (level == .between || (level == .broken && !s.wireMonitored n)) || !(s.isInput n || s.chanMode n == 5) then s
     else if (level == .high) = (s.drt n).accepted then s.acceptLevel n level
     else (s.acceptLevel n level).stampEdge n (level == .high) ns) :=
  next_of_valid (decide_eq_true hn)

theorem exec_inputFilterAccept_ignored (hn : n < 64)
    (ignored : level = .between ∨ (level = .broken ∧ s.wireMonitored n = false) ∨ (s.isInput n = false ∧ s.chanMode n ≠ 5)) :
    exec (.inputFilterAccept n level ns) s = .next s := by
  refine (exec_inputFilterAccept hn).trans (congrArg Host.Outcome.next (if_pos ?_))
  rcases ignored with rfl | ⟨rfl, free⟩ | ⟨input, mode⟩
  · simp
  · simp [free]
  · simp [input, mode]

theorem exec_inputFilterAccept_taken (hn : n < 64) (band : level ≠ .between)
    (broken : level = .broken → s.wireMonitored n = true) (used : s.isInput n = true ∨ s.chanMode n = 5) :
    exec (.inputFilterAccept n level ns) s = .next
      (if (level == .high) = (s.drt n).accepted then s.acceptLevel n level
       else (s.acceptLevel n level).stampEdge n (level == .high) ns) := by
  refine (exec_inputFilterAccept hn).trans (congrArg Host.Outcome.next (if_neg ?_))
  have monitored : (level == .broken && !s.wireMonitored n) = false := by
    by_cases open_ : level = .broken
    · simp [broken open_]
    · simp [open_]
  have level_ : (level == .between) = false := by simpa using band
  have input : (s.isInput n || s.chanMode n == 5) = true := by
    rcases used with input | mode
    · simp [input]
    · simp [mode]
  rw [level_, monitored, input]
  decide

/-- A change is stamped on a channel that takes part in the sequence of events, at most four times in a tick (R246). -/
theorem State.stampEdge_acceptLevel {rising : Bool} : (s.acceptLevel n level).stampEdge n rising ns =
    if s.on (dch n 4) && s.isInput n then
      if 4 ≤ (s.dig.edges.filter (fun e => e.channel == n)).length then (s.acceptLevel n level).count (dch n 0x19)
      else { s.acceptLevel n level with
        dig := { (s.acceptLevel n level).dig with edges := s.dig.edges ++ [⟨n, rising, ns / 1000 * 1000⟩] } }
    else s.acceptLevel n level := rfl

/-- A level that the filter accepts is kept; a change of it is stamped, or counted beyond the fourth. -/
theorem State.acceptLevel_effect :
    (if (level == .high) = (s.drt n).accepted then s.acceptLevel n level
     else (s.acceptLevel n level).stampEdge n (level == .high) ns) =
    if (level == .high) != (s.drt n).accepted && s.on (dch n 4) && s.isInput n then
      if 4 ≤ (s.dig.edges.filter (fun e => e.channel == n)).length then (s.acceptLevel n level).count (dch n 0x19)
      else { s.acceptLevel n level with
        dig := { (s.acceptLevel n level).dig with edges := s.dig.edges ++ [⟨n, level == .high, ns / 1000 * 1000⟩] } }
    else s.acceptLevel n level := by
  rw [State.stampEdge_acceptLevel]
  by_cases same : (level == .high) = (s.drt n).accepted
  · rw [if_pos same, same, bne_self_eq_false, Bool.false_and, Bool.false_and, if_neg Bool.false_ne_true]
  · rw [if_neg same, bne_iff_ne.mpr same, Bool.true_and]

/-! ## The end of a demagnetisation (R240, R245) -/

/-- The channel after its demagnetisation. -/
def State.endDemag (s : State) (n ns : Nat) : State :=
  let t := s.setBit (dch n 0xB) bDemag false
  t.setDrt n { t.drt n with
    demagNs := ns, skipPrev := if ns ≤ s.tick.datumNs then t.stageHeld n else (t.drt n).skipPrev }

theorem exec_demagEnd (hn : n < 64) :
    exec (.demagEnd n ns) s = .next (if s.chanBit n bDemag then s.endDemag n ns else s) :=
  next_of_valid (decide_eq_true hn)

theorem State.endDemag_shows :
    let t := s.endDemag n ns
    t.chanBit n bDemag = false ∧ Only [dch n 0xB] s t ∧
    (∃ skip, t.dig = (s.setDrt n { s.drt n with demagNs := ns, skipPrev := skip }).dig ∧
      (s.tick.datumNs < ns → skip = (s.drt n).skipPrev) ∧ (ns ≤ s.tick.datumNs → skip = t.stageHeld n)) ∧
    t = { s with regs := t.regs, dig := t.dig } :=
  ⟨State.setBit_clears, s.only_setReg _ _, ⟨_, rfl, fun late => if_neg (by omega), fun early => if_pos early⟩, rfl⟩

/-! ## Trips for over-temperature (R242, R243) -/

/-- The channel as it trips: its stage is off, the trip shows and counts. -/
def State.tripped (s : State) (n : Nat) : State :=
  (((s.stageOff n).setBit (dch n 0xB) bPendingOn false).raiseDiag n bOvertemp).count (dch n 0xE)

/-- The channel with the time of its trip, before the retry limit is looked at. -/
def State.trippedAt (s : State) (n ns : Nat) : State :=
  (s.tripped n).setDrt n { (s.tripped n).drt n with tripNs := ns, freed := false }

theorem exec_overtempTrip (hn : n < 64) : exec (.overtempTrip n ns) s = .next
    (if s.isOutput n && s.monitored n then
      (if (s.trippedAt n ns).reg (dch n 0xA) ≤ (s.trippedAt n ns).reg (dch n 0xE) then
        (s.trippedAt n ns).raiseDiag n bOtLatched else s.trippedAt n ns)
     else s) :=
  next_of_valid (decide_eq_true hn)

theorem State.registers_tripped : Registers s (s.tripped n) :=
  registers_trans (registers_trans (registers_trans State.registers_stageOff registers_setReg) State.registers_raiseDiag)
    registers_setReg

theorem State.trippedAt_dig :
    (s.trippedAt n ns).dig = (s.setDrt n { s.drt n with tripNs := ns, freed := false }).dig := by
  have kept := State.registers_tripped (s := s) (n := n)
  unfold State.trippedAt State.setDrt
  rw [drt_of_registers kept, dig_of_registers kept]

theorem State.reg_tripped {sub : Nat} (hn : n < 64) (hs : sub < 256) (status : sub ≠ 0xB) (stat : sub ≠ 0x13) :
    (((s.stageOff n).setBit (dch n 0xB) bPendingOn false).raiseDiag n bOvertemp).reg (dch n sub) = s.reg (dch n sub) := by
  have other : dch n sub ≠ dch n 0xB := fun e => status ((dch_inj hs (by decide)).mp e).2
  have counted : dch n sub ≠ dch n 0x13 := fun e => stat ((dch_inj hs (by decide)).mp e).2
  have record : dch n sub ≠ 0x212006 := by unfold dch keyOf; omega
  have cause : dch n sub ≠ causeOf 7 := dch_ne_causeOf hn hs
  rw [State.only_raiseDiag _ (by simp [noteKeys, diagStat, other, counted, record, cause]), State.setBit,
    State.reg_setReg_other _ _ _ _ other, State.only_stageOff _ (by simp [other, cause])]

theorem State.tripped_shows (hn : n < 64) :
    let t := s.tripped n
    Off t n ∧ t.chanBit n bOvertemp = true ∧ t.chanBit n bOtLatched = s.chanBit n bOtLatched ∧
    Counts (dch n 0xE) 1 s t ∧ t.reg (dch n 0xA) = s.reg (dch n 0xA) := by
  have status : dch n 0xB ≠ dch n 0xE := fun e => nomatch ((dch_inj (by decide) (by decide)).mp e).2
  have limit : dch n 0xA ≠ dch n 0xE := fun e => nomatch ((dch_inj (by decide) (by decide)).mp e).2
  have bits (c : Nat) (hc : c < 32) : (s.tripped n).chanBit n c =
      if c = bOvertemp then true else if c = bPendingOn then false else (s.stageOff n).chanBit n c := by
    unfold State.tripped
    rw [State.count, State.countBy, State.chanBit_of_reg (State.reg_setReg_other _ _ _ _ status),
      State.chanBit_raiseDiag hn hc, State.chanBit_setBit hn hc]
    simp only [true_and]
  refine ⟨⟨?_, bits _ (by decide)⟩, bits _ (by decide), ?_, ?_, ?_⟩
  · exact (bits _ (by decide)).trans (State.stageOff_clears hn)
  · refine (bits _ (by decide)).trans ?_
    rw [State.chanBit_stageOff hn (by decide)]
    simp
  · unfold State.tripped
    rw [Counts, State.reg_count, State.reg_tripped hn (by decide) (by decide) (by decide)]
  · unfold State.tripped
    rw [State.count, State.countBy, State.reg_setReg_other _ _ _ _ limit,
      State.reg_tripped hn (by decide) (by decide) (by decide)]

/-- At the retry limit a trip latches (R243). -/
theorem State.trip_shows (hn : n < 64) :
    let u := s.trippedAt n ns
    let t := if u.reg (dch n 0xA) ≤ u.reg (dch n 0xE) then u.raiseDiag n bOtLatched else u
    Off t n ∧ t.chanBit n bOvertemp = true ∧ Counts (dch n 0xE) 1 s t ∧
    (s.reg (dch n 0xA) ≤ t.reg (dch n 0xE) → t.chanBit n bOtLatched = true) ∧
    (t.reg (dch n 0xE) < s.reg (dch n 0xA) → t.chanBit n bOtLatched = s.chanBit n bOtLatched) ∧
    t.dig = (s.setDrt n { s.drt n with tripNs := ns, freed := false }).dig ∧ t.mem = s.mem ∧ t.engines = s.engines := by
  obtain ⟨off, trip, latched, counts, limit⟩ := State.tripped_shows (s := s) hn
  have kept := State.registers_tripped (s := s) (n := n)
  intro u t
  have trips : dch n 0xE ∉ dch n 0xB :: noteKeys n bOtLatched := by
    have status : dch n 0xE ≠ dch n 0xB := fun e => nomatch ((dch_inj (by decide) (by decide)).mp e).2
    have record : dch n 0xE ≠ 0x212006 := by unfold dch keyOf; omega
    simp [noteKeys, diagStat, status, record, dch_ne_causeOf hn]
  have limitU : u.reg (dch n 0xA) = s.reg (dch n 0xA) := limit
  have bits (c : Nat) (hc : c < 32) (other : c ≠ bOtLatched) : t.chanBit n c = u.chanBit n c := by
    unfold t
    split
    · rw [State.chanBit_raiseDiag hn hc, if_neg fun e => other e.2]
    · rfl
  have count : t.reg (dch n 0xE) = u.reg (dch n 0xE) := by
    unfold t
    split
    · exact State.only_raiseDiag _ trips
    · rfl
  have rest : Registers u t := by
    unfold t
    split
    · exact State.registers_raiseDiag
    · exact registers_refl
  refine ⟨⟨(bits _ (by decide) (by decide)).trans off.1, (bits _ (by decide) (by decide)).trans off.2⟩,
    (bits _ (by decide) (by decide)).trans trip, count.trans counts, fun reached => ?_, fun below => ?_,
    (dig_of_registers rest).trans State.trippedAt_dig, (mem_of_registers rest).trans (mem_of_registers kept :),
    (engines_of_registers rest).trans (engines_of_registers kept :)⟩
  · rw [count, ← limitU] at reached
    unfold t
    rw [if_pos reached, State.chanBit_raiseDiag hn (by decide), if_pos ⟨rfl, rfl⟩]
  · rw [count, ← limitU] at below
    unfold t
    rw [if_neg (by omega)]
    exact latched

theorem exec_tripCountClear (hn : n < 64) :
    exec (.tripCountClear n) s = .next (if s.chanBit n bStageOn then s.setReg (dch n 0xE) 0 else s) :=
  next_of_valid (decide_eq_true hn)

/-- Settles O34: each event by whether the channel takes it, and what it leaves of the channel. -/
theorem channelEvents : Obligations.ChannelEvents := by
  intro s n ns _ hn
  refine ⟨fun level => exec_inputFilterAccept_ignored hn, fun level band broken used => ?filter,
    fun on => ⟨_, (exec_demagEnd hn).trans (by rw [if_pos on]), State.endDemag_shows⟩,
    fun off => (exec_demagEnd hn).trans (by simp [off]), fun output supplied => ?trip, fun other => ?still,
    fun on => ⟨_, (exec_tripCountClear hn).trans (by rw [if_pos on]), ?clears, s.only_setReg _ _, rfl⟩,
    fun off => (exec_tripCountClear hn).trans (by simp [off])⟩
  case filter =>
    have runs := (exec_inputFilterAccept_taken hn band broken used).trans
      (congrArg Host.Outcome.next (State.acceptLevel_effect (ns := ns)))
    intro v u taken full
    refine ⟨fun idle => ?_, fun change many => ?_, fun change few => ?_⟩
    · exact runs.trans (congrArg Host.Outcome.next (if_neg (Bool.eq_false_iff.mp idle)))
    · exact runs.trans (congrArg Host.Outcome.next ((if_pos change).trans (if_pos (of_decide_eq_true many))))
    · exact runs.trans (congrArg Host.Outcome.next ((if_pos change).trans (if_neg (of_decide_eq_false few))))
  case trip =>
    have monitored : (s.isOutput n && s.monitored n) = true := by simp [State.monitored, output, supplied]
    exact ⟨_, (exec_overtempTrip hn).trans (congrArg Host.Outcome.next (if_pos monitored)), State.trip_shows hn⟩
  case still =>
    have unmonitored : ¬(s.isOutput n && s.monitored n) = true := by
      rcases other with input | low
      · simp [input]
      · simp [State.monitored, low]
    exact (exec_overtempTrip hn).trans (congrArg Host.Outcome.next (if_neg unmonitored))
  case clears => rw [State.reg_setReg_same, fit, Nat.zero_mod]

end Sys2Proof.Machine
end

section
/-! SUPPORT. A slice whose stages all switch off (R231, R232, R242), and the hold latch of a field die (R248). -/

namespace Sys2Proof.Machine

open Sys2Proof Sys2Proof.Stated

variable {s t u : State} {n m k b : Nat}

/-! ## What a step in the channels of a slice leaves (R231, R232, R242) -/

/-- `t` is `s` but for what the channels of slice `k` report: their entries other than their modes, the record of the error
task, and causes of group 7, which only set. -/
structure SliceOnly (k : Nat) (s t : State) : Prop where
  registers : Registers s t
  regs : ∀ j, j ≠ 0x212006 → j ≠ causeOf 7 → (∀ n sub, n / 8 = k → sub < 256 → sub ≠ 1 → j ≠ dch n sub) → t.reg j = s.reg j
  causes : ∀ c, c < 32 → (s.reg (causeOf 7)).testBit c = true → (t.reg (causeOf 7)).testBit c = true

theorem SliceOnly.refl : SliceOnly k s s := ⟨registers_refl, fun _ _ _ _ => rfl, fun _ _ h => h⟩

theorem SliceOnly.trans (h : SliceOnly k s t) (h' : SliceOnly k t u) : SliceOnly k s u where
  registers := registers_trans h.registers h'.registers
  regs j record cause others := (h'.regs j record cause others).trans (h.regs j record cause others)
  causes c hc set := h'.causes c hc (h.causes c hc set)

theorem SliceOnly.each {xs : List Nat} {f : State → Nat → State} (step : ∀ u, ∀ n ∈ xs, SliceOnly k u (f u n)) :
    SliceOnly k s (s.each xs f) :=
  List.foldlRecOn (motive := fun t => SliceOnly k s t) xs f SliceOnly.refl fun _ h n hn => h.trans (step _ n hn)

theorem State.causes_setCause {c : Nat} (hc : c < 32) (set : (s.reg (causeOf 7)).testBit c = true) :
    ((s.setCause 7 b).reg (causeOf 7)).testBit c = true := by
  rw [State.reg_setCause, State.testBit_reg_setBit _ _ _ (entryBits_causeOf_seven ▸ hc), set, ite_self]

theorem sliceOnly_setCause : SliceOnly k s (s.setCause 7 b) where
  registers := registers_setCause
  regs _ _ cause _ := State.reg_setCause_other cause
  causes _ := State.causes_setCause

/-- A write to an entry of a channel of the slice. -/
theorem sliceOnly_setReg {sub v : Nat} (hn : n < 64) (slice : n / 8 = k) (hs : sub < 256) (mode : sub ≠ 1) :
    SliceOnly k s (s.setReg (dch n sub) v) where
  registers := registers_setReg
  regs _ _ _ others := s.reg_setReg_other _ _ _ (others n sub slice hs mode)
  causes _ _ set := by rwa [s.reg_setReg_other _ _ _ (dch_ne_causeOf hn hs).symm]

theorem sliceOnly_dropDiag (hn : n < 64) (slice : n / 8 = k) : SliceOnly k s (s.dropDiag n b) := by
  unfold State.dropDiag
  split
  · exact (sliceOnly_setReg hn slice (by decide) (by decide)).trans sliceOnly_setCause
  · exact .refl

theorem sliceOnly_turnOff (hn : n < 64) (slice : n / 8 = k) : SliceOnly k s (s.turnOff n) := by
  have status (u : State) (c : Nat) (v : Bool) : SliceOnly k u (u.setBit (dch n 0xB) c v) :=
    sliceOnly_setReg hn slice (by decide) (by decide)
  unfold State.turnOff State.stageOff
  split
  · exact .refl
  · split
    · exact ((((status _ _ _).trans (status _ _ _)).trans (status _ _ _)).trans (sliceOnly_dropDiag hn slice)).trans
        (sliceOnly_dropDiag hn slice)
    · exact status _ _ _

theorem diagStat_ne_mode : diagStat b ≠ 1 := by
  unfold diagStat
  split <;> decide

theorem sliceOnly_recordError {c p q : Nat} : SliceOnly k s (s.recordError c p q) where
  registers := registers_recordError
  regs _ record _ _ := State.reg_recordError_other record
  causes _ _ set := by rwa [State.reg_recordError_other (by decide)]

theorem sliceOnly_noteDiag (hn : n < 64) (slice : n / 8 = k) : SliceOnly k s (s.noteDiag n b) := by
  have counted : SliceOnly k s (s.countDiag n b) := by
    unfold State.countDiag
    split
    · exact .refl
    · exact sliceOnly_setReg hn slice (diagStat_lt.trans (by decide)) diagStat_ne_mode
  exact (counted.trans sliceOnly_recordError).trans sliceOnly_setCause

/-- The modes of channels are configuration, which no event of a slice writes. -/
theorem SliceOnly.chanMode (h : SliceOnly k s t) (hn : n < 64) : t.chanMode n = s.chanMode n :=
  h.regs _ (by unfold dch keyOf; omega) (dch_ne_causeOf hn (by decide))
    fun _ _ _ hs mode e => mode ((dch_inj (by decide) hs).mp e).2.symm

/-! ## The stages of a slice switch off -/

/-- A configured channel switches its stage off and reports why (R242). -/
def State.cutOff (s : State) (b n : Nat) : State :=
  if s.chanMode n = 0 then s else ((s.setBit (dch n 0xB) bPendingOn false).stageOff n).noteDiag n b

theorem State.cutOff_eq : s.cutOff b n = if s.chanMode n = 0 then s else (s.turnOff n).noteDiag n b := by
  unfold State.cutOff State.turnOff
  split <;> rfl

theorem sliceOnly_cutOff (hn : n < 64) (slice : n / 8 = k) : SliceOnly k s (s.cutOff b n) := by
  rw [State.cutOff_eq]
  split
  · exact .refl
  · exact (sliceOnly_turnOff hn slice).trans (sliceOnly_noteDiag hn slice)

theorem State.off_noteDiag (hm : m < 64) (off : Off s m) : Off (s.noteDiag n b) m := by
  rwa [Off, State.chanBit_noteDiag hm, State.chanBit_noteDiag hm]

theorem State.off_cutOff (hn : n < 64) (configured : s.chanMode n ≠ 0) : Off (s.cutOff b n) n := by
  rw [State.cutOff_eq, if_neg configured]
  exact State.off_noteDiag hn (State.off_turnOff configured)

theorem State.off_cutOff_other (hm : m < 64) (off : Off s m) : Off (s.cutOff b n) m := by
  rw [State.cutOff_eq]
  split
  · exact off
  · exact State.off_noteDiag hm (State.off_turnOff_other off)

/-- Every channel of slice `k` switches off with diagnostic `b`. -/
def State.cutSlice (s : State) (b k : Nat) : State := s.each (sliceChannels k) fun t n => t.cutOff b n

theorem mem_sliceChannels : n ∈ sliceChannels k ↔ n / 8 = k := by
  simp only [sliceChannels, List.mem_map, List.mem_range]
  exact ⟨fun ⟨i, hi, e⟩ => by omega, fun e => ⟨n % 8, by omega, by omega⟩⟩

theorem sliceOnly_cutSlice (hk : k < 8) : SliceOnly k s (s.cutSlice b k) :=
  .each fun _ n hn => by
    have slice := mem_sliceChannels.mp hn
    exact sliceOnly_cutOff (by omega) slice

theorem State.chanMode_cutOff (hm : m < 64) : (s.cutOff b n).chanMode m = s.chanMode m := by
  have noted (t : State) : (t.noteDiag n b).chanMode m = t.chanMode m := by
    have stat : dch m 1 ≠ dch n (diagStat b) := fun e =>
      diagStat_ne_mode ((dch_inj (by decide) (diagStat_lt.trans (by decide))).mp e).2.symm
    have record : dch m 1 ≠ 0x212006 := by unfold dch keyOf; omega
    refine State.only_noteDiag _ ?_
    simp only [noteKeys, List.cons_append, List.nil_append, List.mem_cons, not_or]
    refine ⟨record, dch_ne_causeOf hm (by decide), ?_⟩
    split <;> simp [stat]
  rw [State.cutOff_eq]
  split
  · rfl
  · exact (noted _).trans (State.chanMode_turnOff hm)

theorem State.off_cutSlice (hk : k < 8) (slice : n / 8 = k) (configured : s.chanMode n ≠ 0) :
    Off (s.cutSlice b k) n := by
  have hn : n < 64 := by omega
  have reaches : n < 64 → (s.cutSlice b k).chanMode n ≠ 0 → Off (s.cutSlice b k) n := by
    refine State.each_reaches (P := fun t n => n < 64 → t.chanMode n ≠ 0 → Off t n) (fun t n hn h => ?_)
      (fun t m n off hn h => ?_) n (mem_sliceChannels.mpr slice)
    · exact State.off_cutOff hn (State.chanMode_cutOff hn ▸ h)
    · exact State.off_cutOff_other hn (off hn (State.chanMode_cutOff hn ▸ h))
  exact reaches hn (by rwa [(sliceOnly_cutSlice hk).chanMode hn])

theorem State.cutSlice_shows (hk : k < 8) :
    let t := s.cutSlice b k
    (∀ sub, sub < 256 → t.reg (dsl k sub) = s.reg (dsl k sub)) ∧
    ((s.reg (causeOf 7)).testBit 2 = true → (t.reg (causeOf 7)).testBit 2 = true) ∧ Registers s t ∧ OtherSlices k s t ∧
    ∀ i, i < 8 → s.chanMode (8 * k + i) ≠ 0 → Off t (8 * k + i) := by
  have cut : SliceOnly k s (s.cutSlice b k) := sliceOnly_cutSlice hk
  refine ⟨fun sub hs => cut.regs _ ?_ (dsl_ne_causeOf hk hs) fun _ _ _ hs' _ => dsl_ne_dch hk hs hs',
    cut.causes 2 (by decide), cut.registers, fun n sub hn other hs => cut.regs _ ?_ (dch_ne_causeOf hn hs) ?_,
    fun i hi => State.off_cutSlice hk (by omega)⟩
  · unfold dsl keyOf
    omega
  · unfold dch keyOf
    omega
  · intro m sub' slice hs' _ e
    exact other (((dch_inj hs hs').mp e).1 ▸ slice)

/-! ## A slice that reports (R231, R242, R250) -/

/-- Writes to entries of slices and causes leave the entries of channels. -/
theorem channel_of_only {sub sub' sub'' : Nat} (hk : k < 8) (hs : sub < 256) (hs' : sub' < 256) (hs'' : sub'' < 256)
    (only : Only [dsl k sub, dsl k sub', dsl k sub'', causeOf 7] s t) {n i : Nat} (hn : n < 64) (hi : i < 256) :
    t.reg (dch n i) = s.reg (dch n i) :=
  only _ (by simp [dch_ne_causeOf hn hi, (dsl_ne_dch hk hs hi).symm, (dsl_ne_dch hk hs' hi).symm, (dsl_ne_dch hk hs'' hi).symm])

theorem entryBits_sliceState (hk : k < 8) : entryBits (dsl k 2) = 8 :=
  (entryBits_dsl hk (by decide)).trans (by decide +kernel)

theorem dsl_ne_dsl {sub sub' : Nat} (h : sub ≠ sub') : dsl k sub ≠ dsl k sub' := by
  unfold dsl keyOf
  omega

/-- The slice in L+LOW, before its stages switch off. -/
def State.reportLow (s : State) (k : Nat) : State :=
  (((s.setBit (dsl k 2) 0 true).setReg (dsl k 7) 0).count (dsl k 4)).setCause 7 2

theorem State.reportLow_shows (hk : k < 8) :
    let t := s.reportLow k
    t.sliceLow k = true ∧ t.reg (dsl k 7) = 0 ∧ Counts (dsl k 4) 1 s t ∧ (t.reg (causeOf 7)).testBit 2 = true ∧
      Registers s t ∧ Only [dsl k 2, dsl k 7, dsl k 4, causeOf 7] s t := by
  have cause (sub : Nat) (hs : sub < 256) (u : State) : (u.setCause 7 2).reg (dsl k sub) = u.reg (dsl k sub) :=
    State.reg_setCause_other (dsl_ne_causeOf hk hs)
  unfold State.reportLow
  refine ⟨?_, ?_, ?_, State.cause_setCause (entryBits_causeOf_seven ▸ by decide),
    registers_trans (registers_trans (registers_trans registers_setReg registers_setReg) registers_setReg) registers_setCause,
    ?_⟩
  · rw [State.sliceLow, State.bit, cause _ (by decide), State.count, State.countBy,
      State.reg_setReg_other _ _ _ _ (dsl_ne_dsl (by decide)),
      State.reg_setReg_other _ _ _ _ (dsl_ne_dsl (by decide)),
      State.testBit_reg_setBit _ _ _ (entryBits_sliceState hk ▸ by decide), if_pos rfl]
  · rw [cause _ (by decide), State.count, State.countBy,
      State.reg_setReg_other _ _ _ _ (dsl_ne_dsl (by decide)), State.reg_setReg_same, fit, Nat.zero_mod]
  · rw [Counts, cause _ (by decide), State.reg_count,
      State.reg_setReg_other _ _ _ _ (dsl_ne_dsl (by decide)), State.setBit,
      State.reg_setReg_other _ _ _ _ (dsl_ne_dsl (by decide))]
  · exact only_trans (only_trans (only_trans (State.only_setReg_of_mem (by simp)) (State.only_setReg_of_mem (by simp)))
      (State.only_setReg_of_mem (by simp))) (State.only_setCause_of_mem (by simp))

/-- A slice that holds its outputs ends its hold with the loss of L+ (R248). -/
def State.endHold (s : State) (k : Nat) : State := if 0 < s.dig.holdEdges then s.endSliceHold k else s

theorem State.reg_endHold {j : Nat} : (s.endHold k).reg j = s.reg j := by
  unfold State.endHold
  split <;> rfl

theorem registers_endHold (h : Registers s t) : Registers (s.endHold k) (t.endHold k) := by
  unfold State.endHold
  rw [dig_of_registers h]
  split
  · exact (congrArg (fun x : State => x.endSliceHold k) h :)
  · exact h

theorem exec_lPlusLowSet (hk : k < 8) : exec (.lPlusLowSet k) s =
    .next (if s.sliceLow k then s else ((s.reportLow k).endHold k).cutSlice 7 k) :=
  next_of_valid (decide_eq_true hk)

theorem State.lPlusLow_shows (hk : k < 8) :
    let t := ((s.reportLow k).endHold k).cutSlice 7 k
    t.sliceLow k = true ∧ t.reg (dsl k 7) = 0 ∧ Counts (dsl k 4) 1 s t ∧ (t.reg (causeOf 7)).testBit 2 = true ∧
      Registers (s.endHold k) t ∧ OtherSlices k s t ∧ ∀ i, i < 8 → s.chanMode (8 * k + i) ≠ 0 → Off t (8 * k + i) := by
  obtain ⟨low, supply, counts, cause, registers, only⟩ := State.reportLow_shows (s := s) hk
  obtain ⟨slice, causes, cut, others, off⟩ := State.cutSlice_shows (s := (s.reportLow k).endHold k) (b := 7) hk
  have kept {n i : Nat} (hn : n < 64) (hi : i < 256) : ((s.reportLow k).endHold k).reg (dch n i) = s.reg (dch n i) :=
    State.reg_endHold.trans (channel_of_only hk (by decide) (by decide) (by decide) only hn hi)
  rw [State.reg_endHold] at causes
  simp only [State.reg_endHold] at slice
  refine ⟨(congrArg (·.testBit 0) (slice 2 (by decide))).trans low, (slice 7 (by decide)).trans supply,
    (slice 4 (by decide)).trans counts, causes cause, registers_trans (registers_endHold registers) cut,
    fun n sub hn other hs => (others n sub hn other hs).trans (kept hn hs), fun i hi configured => off i hi ?_⟩
  rwa [State.chanMode, kept (by omega) (by decide)]

/-! ## A slice that recovers its supply (R231, R232) -/

/-- The slice with its supply back, before its channels report. -/
def State.reportSupply (s : State) (k : Nat) : State :=
  ((s.setBit (dsl k 2) 0 false).setReg (dsl k 7) 1).setCause 7 2

/-- Every configured channel of a slice reports that a diagnostic has cleared. -/
def State.reportCleared (s : State) (k : Nat) : State :=
  s.each (sliceChannels k) fun t n => if t.chanMode n = 0 then t else t.setCause 7 1

theorem exec_lPlusLowClear (hk : k < 8) : exec (.lPlusLowClear k) s =
    .next (if s.sliceLow k then (s.reportSupply k).reportCleared k else s) :=
  next_of_valid (decide_eq_true hk)

/-- Causes that channels report leave the rest, and every other cause of group 7. -/
theorem State.each_cause_leaves {xs : List Nat} {f : State → Nat → State}
    (step : ∀ t n, f t n = t ∨ f t n = t.setCause 7 1) :
    Registers s (s.each xs f) ∧ Only [causeOf 7] s (s.each xs f) ∧
    ((s.reg (causeOf 7)).testBit 2 = true → ((s.each xs f).reg (causeOf 7)).testBit 2 = true) := by
  refine List.foldlRecOn (motive := fun t => Registers s t ∧ Only [causeOf 7] s t ∧
    ((s.reg (causeOf 7)).testBit 2 = true → (t.reg (causeOf 7)).testBit 2 = true)) _ _
    ⟨registers_refl, fun _ _ => rfl, id⟩ fun t h n _ => ?_
  obtain ⟨registers, only, cause⟩ := h
  rcases step t n with same | reports
  · rw [same]
    exact ⟨registers, only, cause⟩
  · rw [reports]
    exact ⟨registers_trans registers registers_setCause, only_trans only (State.only_setCause_of_mem (by simp)),
      fun set => State.causes_setCause (by decide) (cause set)⟩

theorem State.lPlusBack_shows (hk : k < 8) :
    let t := (s.reportSupply k).reportCleared k
    t.sliceLow k = false ∧ t.reg (dsl k 7) = 1 ∧ (t.reg (causeOf 7)).testBit 2 = true ∧ Registers s t ∧
      Only [dsl k 2, dsl k 7, causeOf 7] s t := by
  have supply : 2 ^ entryBits (dsl k 7) = 2 := by
    rw [entryBits_dsl hk (by decide)]
    decide +kernel
  have apart : dsl k 2 ≠ dsl k 7 := dsl_ne_dsl (by decide)
  have reports (t : State) (n : Nat) : (if t.chanMode n = 0 then t else t.setCause 7 1) = t ∨
      (if t.chanMode n = 0 then t else t.setCause 7 1) = t.setCause 7 1 := ite_eq_or_eq ..
  obtain ⟨registers, only, cause⟩ := State.each_cause_leaves (s := s.reportSupply k) (xs := sliceChannels k) reports
  have slice (sub : Nat) (hs : sub < 256) : ((s.reportSupply k).reportCleared k).reg (dsl k sub) =
      ((s.setBit (dsl k 2) 0 false).setReg (dsl k 7) 1).reg (dsl k sub) :=
    (only _ (by simp [dsl_ne_causeOf hk hs])).trans (State.reg_setCause_other (dsl_ne_causeOf hk hs))
  have written : Registers s ((s.setBit (dsl k 2) 0 false).setReg (dsl k 7) 1) :=
    registers_trans registers_setReg registers_setReg
  refine ⟨?_, ?_, cause (State.cause_setCause (entryBits_causeOf_seven ▸ by decide)),
    registers_trans (registers_trans written registers_setCause) registers, only_trans (only_trans (only_trans
      (State.only_setReg_of_mem (by simp)) (State.only_setReg_of_mem (by simp))) (State.only_setCause_of_mem (by simp)))
      (only_of_subset (by simp) only)⟩
  · rw [State.sliceLow, State.bit, slice _ (by decide), State.reg_setReg_other _ _ _ _ apart]
    exact State.setBit_clears
  · rw [slice _ (by decide), State.reg_setReg_same, fit, supply]

/-! ## A slice that trips (R242) -/

/-- The slice in SLICE-OC, before its stages switch off. -/
def State.reportOc (s : State) (k : Nat) : State := ((s.setBit (dsl k 2) 1 true).count (dsl k 5)).setCause 7 2

theorem exec_sliceOcTrip (hk : k < 8) : exec (.sliceOcTrip k) s =
    .next (if s.sliceOc k || s.sliceLow k || !s.active then s else (s.reportOc k).cutSlice 8 k) :=
  next_of_valid (decide_eq_true hk)

theorem State.sliceOc_shows (hk : k < 8) :
    let t := (s.reportOc k).cutSlice 8 k
    t.sliceOc k = true ∧ Counts (dsl k 5) 1 s t ∧ (t.reg (causeOf 7)).testBit 2 = true ∧ Registers s t ∧
      OtherSlices k s t ∧ ∀ i, i < 8 → s.chanMode (8 * k + i) ≠ 0 → Off t (8 * k + i) := by
  have apart : dsl k 2 ≠ dsl k 5 := dsl_ne_dsl (by decide)
  have cause (sub : Nat) (hs : sub < 256) : (s.reportOc k).reg (dsl k sub) =
      ((s.setBit (dsl k 2) 1 true).count (dsl k 5)).reg (dsl k sub) := State.reg_setCause_other (dsl_ne_causeOf hk hs)
  have only : Only [dsl k 2, dsl k 5, dsl k 5, causeOf 7] s (s.reportOc k) := only_trans (only_trans
    (State.only_setReg_of_mem (by simp)) (State.only_setReg_of_mem (by simp))) (State.only_setCause_of_mem (by simp))
  have written : Registers s ((s.setBit (dsl k 2) 1 true).count (dsl k 5)) :=
    registers_trans registers_setReg registers_setReg
  obtain ⟨slice, causes, cut, others, off⟩ := State.cutSlice_shows (s := s.reportOc k) (b := 8) hk
  refine ⟨?_, ?_, causes (State.cause_setCause (entryBits_causeOf_seven ▸ by decide)),
    registers_trans (registers_trans written registers_setCause) cut, fun n sub hn other hs =>
      (others n sub hn other hs).trans (channel_of_only hk (by decide) (by decide) (by decide) only hn hs),
    fun i hi configured => off i hi ?_⟩
  · rw [State.sliceOc, State.bit, slice _ (by decide), cause _ (by decide), State.count, State.countBy,
      State.reg_setReg_other _ _ _ _ apart, State.testBit_reg_setBit _ _ _ (entryBits_sliceState hk ▸ by decide), if_pos rfl]
  · rw [Counts, slice _ (by decide), cause _ (by decide), State.reg_count, State.setBit,
      State.reg_setReg_other _ _ _ _ apart.symm]
  · rwa [State.chanMode, channel_of_only hk (by decide) (by decide) (by decide) only (by omega) (by decide)]

/-! ## The hold latch of a die (R248) -/

theorem exec_holdLatchLimitExpiry {die : Nat} (hd : die < 2) :
    exec (.holdLatchLimitExpiry die) s = .next (if s.dig.everReleased && !(if die = 0 then s.dig.holdOverA else s.dig.holdOverB) &&
      (!s.running || decide (s.holdLimit ≤ s.dig.holdEdges)) then s.dropDie die else s) :=
  next_of_valid (decide_eq_true hd)

theorem State.registers_turnOff : Registers s (s.turnOff n) := by
  unfold State.turnOff
  split
  · exact registers_refl
  · exact registers_trans registers_setReg State.registers_stageOff

theorem State.dropDie_shows {die : Nat} (hd : die < 2) :
    let t := s.dropDie die
    (if die = 0 then t.dig.holdOverA else t.dig.holdOverB) = true ∧ t.mem = s.mem ∧ t.tick.released = s.tick.released ∧
      ∀ i, i < 32 → s.chanMode (32 * die + i) ≠ 0 → Off t (32 * die + i) := by
  have kept : Registers (s.holdDie die) (s.dropDie die) :=
    List.foldlRecOn (motive := Registers (s.holdDie die)) _ _ registers_refl
      fun _ h _ _ => registers_trans h State.registers_turnOff
  refine ⟨?_, (mem_of_registers kept :), congrArg TickState.released State.dropDie_tick, fun i hi =>
    State.off_dropDie (by omega) (List.mem_map.mpr ⟨i, List.mem_range.mpr hi, rfl⟩)⟩
  rw [State.dropDie_dig, State.holdDie]
  split <;> rfl

/-- Settles O35: each event by whether the slice or the die is in the state that it ends. -/
theorem sliceEvents : Obligations.SliceEvents := by
  intro s k _ hk unheld
  refine ⟨fun supplied => ⟨_, (exec_lPlusLowSet hk).trans (by rw [supplied, if_neg Bool.false_ne_true]),
      State.lPlusLow_shows hk⟩,
    fun low => ⟨(exec_lPlusLowSet hk).trans (by rw [if_pos low]), _, (exec_lPlusLowClear hk).trans (by rw [if_pos low]),
      State.lPlusBack_shows hk⟩,
    fun supplied => (exec_lPlusLowClear hk).trans (by rw [supplied, if_neg Bool.false_ne_true]),
    fun free supplied active => ⟨_, (exec_sliceOcTrip hk).trans (by simp [free, supplied, active]),
      State.sliceOc_shows hk⟩,
    fun still => (exec_sliceOcTrip hk).trans (by rcases still with h | h | h <;> simp [h]), fun die hd => ⟨?_, ?_⟩⟩
  · intro released holds due
    have ends : (s.dig.everReleased && !(if die = 0 then s.dig.holdOverA else s.dig.holdOverB) && (!s.running || decide (s.holdLimit ≤ s.dig.holdEdges))) = true := by
      rcases due with stopped | reached
      · simp [released, holds, stopped]
      · simp [released, holds, reached]
    exact ⟨_, (exec_holdLatchLimitExpiry hd).trans (congrArg Host.Outcome.next (if_pos ends)), State.dropDie_shows hd⟩
  · intro still
    have stays : ¬(s.dig.everReleased && !(if die = 0 then s.dig.holdOverA else s.dig.holdOverB) && (!s.running || decide (s.holdLimit ≤ s.dig.holdEdges))) = true := by
      rcases still with h | h | ⟨running, early⟩
      · simp [h]
      · simp [h]
      · simp [running, early]
    exact (exec_holdLatchLimitExpiry hd).trans (congrArg Host.Outcome.next (if_neg stays))

end Sys2Proof.Machine
end

section
/-! SUPPORT. Writes to the entries of the channels, the time unit, the keeper and the buses as a closing point applies them:
which operation a key reaches. -/

namespace Sys2Proof.Machine

open Sys2Proof Sys2Proof.Stated

variable {s t : State} {p : Path} {k : Nat} {d : List Byte}

/-- A command is not stored, so no budget rests on it. -/
theorem shapesBudget_of_wo (h : (entryOf (k / 256) (k % 256)).map (·.access) = some .wo) : shapesBudget k = false := by
  obtain ⟨entry, found, wo⟩ := Option.map_eq_some_iff.mp h
  simp [shapesBudget, isPersisted, found, wo]

/-- The same for a command that stands at every index of a layout. -/
theorem shapesBudget_layout {a n i sub : Nat} (layout : OneLayout a n) (hi : i < n) (hs : sub < 256)
    (h : (entryOf a sub).map (·.access) = some .wo) : shapesBudget (keyOf (a + i) sub) = false :=
  shapesBudget_of_wo (by rw [keyOf_div hs, keyOf_mod hs, layout.entryOf_add hi, h])

theorem State.dictApply_field_none (lo : 0x280000 ≤ k) (hi : k < 0x2D0000) :
    s.dictApply { path := p, key := k, data := d } = none := by
  have tree : (between 0x2F41 (k / 256) 0x2F4F || k == rk 1) = false := by
    simp [between, rk, keyOf]
    omega
  unfold State.dictApply
  dsimp only
  rw [if_neg (by omega), if_neg (by omega), if_neg (by omega), tree, if_neg Bool.false_ne_true]
  repeat rw [if_neg (by omega)]

theorem State.resetApply_field_none (hi : k < 0x2D0000) : s.resetApply p k d = none := by
  unfold State.resetApply
  dsimp only
  repeat rw [if_neg (by omega)]

theorem State.imageApply_none {v : Nat} (lo : 0x280000 ≤ k) : s.imageApply k v = none := if_neg (by omega)

theorem State.bookApply_field_none (hi : k < 0x2D0000) : s.bookApply k d = none := by
  unfold State.bookApply
  repeat rw [if_neg (by omega)]

theorem State.digitalApply_none_above {v : Nat} (lo : 0x290000 ≤ k) : s.digitalApply k v = none := by
  unfold State.digitalApply
  dsimp only
  repeat rw [if_neg (by omega)]

theorem State.analogApply_none_above (lo : 0x2A0000 ≤ k) : s.analogApply k d = none := by
  unfold State.analogApply
  dsimp only
  repeat rw [if_neg (by omega)]

theorem State.busApply_none_below {v : Nat} (hi : k < 0x2C0000) : s.busApply k v = none := by
  unfold State.busApply
  dsimp only
  repeat rw [if_neg (by omega)]

theorem State.timeApply_none_above {v : Nat} (lo : 0x2B0000 ≤ k) : s.timeApply k v = none := by
  unfold State.timeApply
  dsimp only
  repeat rw [if_neg (by omega)]

/-- A command of these chapters does what the first of them that knows it says. -/
theorem State.applyEntry_field (lo : 0x280000 ≤ k) (hi : k < 0x2D0000) (command : shapesBudget k = false)
    (h : (s.digitalApply k (leNat d) <|> s.analogApply k d <|> s.busApply k (leNat d) <|> s.timeApply k (leNat d) <|>
      s.keeperApply k d) = some t) :
    s.applyEntry { path := p, key := k, data := d } = t := by
  have range : between 0x3000 (k / 256) 0x5FFF = false := by simp [between]; omega
  unfold State.applyEntry
  dsimp only
  rw [range, if_neg Bool.false_ne_true, command, if_neg Bool.false_ne_true, State.dictApply_field_none lo hi,
    State.resetApply_field_none hi, State.matrixApply_none (by omega) (by omega) (by omega),
    State.loopApply_none (by omega), State.imageApply_none lo, State.bookApply_field_none hi]
  revert h
  cases s.digitalApply k (leNat d) with
  | some u => simp
  | none =>
    cases s.analogApply k d with
    | some u => simp
    | none =>
      cases s.busApply k (leNat d) with
      | some u => simp
      | none =>
        cases s.timeApply k (leNat d) with
        | some u => simp
        | none =>
          intro h
          have h' : s.keeperApply k d = some t := by simpa using h
          simp [h']

theorem State.applyEntry_digital (lo : 0x280000 ≤ k) (hi : k < 0x2D0000) (command : shapesBudget k = false)
    (h : s.digitalApply k (leNat d) = some t) : s.applyEntry { path := p, key := k, data := d } = t :=
  State.applyEntry_field lo hi command (by rw [h]; rfl)

theorem State.applyEntry_analog (lo : 0x290000 ≤ k) (hi : k < 0x2D0000) (command : shapesBudget k = false)
    (h : s.analogApply k d = some t) : s.applyEntry { path := p, key := k, data := d } = t :=
  State.applyEntry_field (by omega) hi command (by rw [State.digitalApply_none_above lo, h]; rfl)

theorem State.applyEntry_bus (lo : 0x2C0000 ≤ k) (hi : k < 0x2D0000) (command : shapesBudget k = false)
    (h : s.busApply k (leNat d) = some t) : s.applyEntry { path := p, key := k, data := d } = t :=
  State.applyEntry_field (by omega) hi command
    (by rw [State.digitalApply_none_above (by omega), State.analogApply_none_above (by omega), h]; rfl)

theorem State.applyEntry_time (lo : 0x2A0000 ≤ k) (hi : k < 0x2B0000) (command : shapesBudget k = false)
    (h : s.timeApply k (leNat d) = some t) : s.applyEntry { path := p, key := k, data := d } = t :=
  State.applyEntry_field (by omega) (by omega) command (by
    rw [State.digitalApply_none_above (by omega), State.analogApply_none_above (by omega),
      State.busApply_none_below (by omega), h]
    rfl)

theorem State.applyEntry_keeper (lo : 0x2B0000 ≤ k) (hi : k < 0x2C0000) (command : shapesBudget k = false)
    (h : s.keeperApply k d = some t) : s.applyEntry { path := p, key := k, data := d } = t :=
  State.applyEntry_field (by omega) (by omega) command (by
    rw [State.digitalApply_none_above (by omega), State.analogApply_none_above (by omega),
      State.busApply_none_below (by omega), State.timeApply_none_above (by omega), h]
    rfl)

end Sys2Proof.Machine
end

section
/-! SUPPORT. The commands of the digital channels as they are applied (R242, R243, R250, R252). -/

namespace Sys2Proof.Machine

open Sys2Proof Sys2Proof.Stated

variable {s t : State} {p : Path} {n m k c : Nat}

/-! ## OT-LATCHED of a channel (R243) -/

theorem dch_eq {sub : Nat} : dch n sub = 0x281000 + sub + 256 * n := by
  unfold dch keyOf
  omega

theorem dsl_eq {sub : Nat} : dsl k sub = 0x280100 + sub + 256 * k := by
  unfold dsl keyOf
  omega

theorem State.unlatchOt_of_clear (clear : s.chanBit n bOtLatched = false) : s.unlatchOt n = s := if_neg (by simp [clear])

theorem State.unlatchOt_of_set (set : s.chanBit n bOtLatched = true) : s.unlatchOt n =
    ((s.dropDiag n bOtLatched).setReg (dch n 0xE) 0).setDrt n { s.drt n with freed := true } := if_pos set

theorem dch_count_ne_status : dch n 0xB ≠ dch m 0xE := fun e => nomatch ((dch_inj (by decide) (by decide)).mp e).2

theorem State.chanBit_unlatchOt (hn : n < 64) (hc : c < 32) :
    (s.unlatchOt m).chanBit n c = if n = m ∧ c = bOtLatched then false else s.chanBit n c := by
  unfold State.unlatchOt
  split
  · exact (State.chanBit_of_reg (State.reg_setReg_other _ _ _ _ dch_count_ne_status)).trans (State.chanBit_dropDiag hn hc)
  next clear =>
    split
    next same => simpa [same.1, same.2] using clear
    next => rfl

theorem State.drt_unlatchOt_other (h : n ≠ m) : (s.unlatchOt m).drt n = s.drt n := by
  unfold State.unlatchOt
  split
  · refine (Sparse.get_set_other _ _ _ _ _ _ h).trans ?_
    exact congrArg (fun d : Sparse DigitalRt => Sparse.get {} d n) (congrArg DigitalState.channels State.dropDiag_dig)
  · rfl

theorem State.unlatchOt_shows (hn : n < 64) (set : s.chanBit n bOtLatched = true) :
    let t := s.unlatchOt n
    t.chanBit n bOtLatched = false ∧ t.reg (dch n 0xE) = 0 ∧ (t.drt n).freed = true ∧
      (t.reg (causeOf 7)).testBit 1 = true ∧ Only [dch n 0xB, dch n 0xE, causeOf 7] s t := by
  obtain ⟨-, drops⟩ := State.dropDiag_drops (s := s) (b := bOtLatched) hn
  obtain ⟨-, cause, -, only, -⟩ := drops set
  refine ⟨(State.chanBit_unlatchOt hn (by decide)).trans (if_pos ⟨rfl, rfl⟩), ?_⟩
  rw [State.unlatchOt_of_set set]
  refine ⟨?_, congrArg DigitalRt.freed (Sparse.get_set_same _ _ _ _), ?_, ?_⟩
  · exact (State.reg_setReg_same _ _ _).trans (Nat.zero_mod _)
  · exact (congrArg (·.testBit 1) (State.reg_setReg_other _ _ _ _ (dch_ne_causeOf (sub := 0xE) hn (by decide)).symm)).trans cause
  · have dropped : Only [dch n 0xB, dch n 0xE, causeOf 7] s (s.dropDiag n bOtLatched) := only_of_subset (by simp) only
    exact only_trans dropped (State.only_setReg_of_mem (k := dch n 0xE) (v := 0) (by simp))

theorem State.applyEntry_clearOt (hn : n < 64) :
    s.applyEntry { path := p, key := 0x28100C + 256 * n, data := [1] } = s.unlatchOt n := by
  have layout : OneLayout 0x2810 64 := by decide +kernel
  have command : shapesBudget (dch n 0xC) = false := shapesBudget_layout layout hn (by decide) (by decide +kernel)
  rw [dch_eq] at command
  refine State.applyEntry_digital (by omega) (by omega) command ?_
  unfold State.digitalApply
  dsimp only
  rw [if_pos (by omega), show (0x28100C + 256 * n) / 256 - 0x2810 = n by omega]

theorem clearOtLatched_applied (hn : n < 64) (a : Applied (.clearOtLatched p n) s t) :
    (s.chanBit n bOtLatched = false → t = s) ∧
    (s.chanBit n bOtLatched = true → t.chanBit n bOtLatched = false ∧ t.reg (0x28100E + 256 * n) = 0 ∧
      (t.drt n).freed = true ∧ (t.reg (causeOf 7)).testBit 1 = true ∧
      Only [0x28100B + 256 * n, 0x28100E + 256 * n, causeOf 7] s t) := by
  have operand : writes (.clearOtLatched p n) = some (p, 0x28100C + 256 * n, [1]) := if_pos (by simpa using hn)
  rw [applied_of_writes operand, State.applyEntry_clearOt hn] at a
  subst a
  have shows_ := State.unlatchOt_shows (s := s) hn
  rw [dch_eq, dch_eq] at shows_
  exact ⟨State.unlatchOt_of_clear, shows_⟩

/-! ## SLICE-OC and OT-LATCHED of a slice (R242, R250) -/

theorem State.clearSlice_shows (hk : k < 8) (set : s.sliceOc k = true) :
    let t := s.clearSlice k
    t.sliceOc k = false ∧ (t.reg (causeOf 7)).testBit 2 = true ∧ Only [dsl k 2, causeOf 7] s t := by
  have reports (t : State) (n : Nat) : (if t.isOutput n then t.setCause 7 1 else t) = t ∨
      (if t.isOutput n then t.setCause 7 1 else t) = t.setCause 7 1 := (ite_eq_or_eq ..).symm
  obtain ⟨-, only, cause⟩ := State.each_cause_leaves (s := (s.setBit (dsl k 2) 1 false).setCause 7 2)
    (xs := sliceChannels k) reports
  unfold State.clearSlice
  rw [if_pos set]
  refine ⟨?_, cause (State.cause_setCause (entryBits_causeOf_seven ▸ by decide)), only_trans (only_trans
    (State.only_setReg_of_mem (by simp)) (State.only_setCause_of_mem (by simp))) (only_of_subset (by simp) only)⟩
  rw [State.sliceOc, State.bit, only _ (by simp [dsl_ne_causeOf hk]), State.reg_setCause_other (dsl_ne_causeOf hk (by decide))]
  exact State.setBit_clears

theorem State.applyEntry_sliceCommand {v : Byte} (hk : k < 8) :
    s.applyEntry { path := p, key := 0x280106 + 256 * k, data := [v] } =
      if v.toNat = 1 then s.clearSlice k else s.each (sliceChannels k) State.unlatchOt := by
  have layout : OneLayout 0x2801 8 := by decide +kernel
  have command : shapesBudget (dsl k 6) = false := shapesBudget_layout layout hk (by decide) (by decide +kernel)
  rw [dsl_eq] at command
  refine State.applyEntry_digital (by omega) (by omega) command ?_
  unfold State.digitalApply
  dsimp only
  rw [if_neg (by omega), if_neg (by omega), if_pos (by omega), show (0x280106 + 256 * k) / 256 - 0x2801 = k by omega]
  rfl

theorem clearSliceOc_applied (hk : k < 8) (a : Applied (.clearSliceOc p k) s t) :
    (s.sliceOc k = false → t = s) ∧
    (s.sliceOc k = true → t.sliceOc k = false ∧ (t.reg (causeOf 7)).testBit 2 = true ∧
      Only [0x280102 + 256 * k, causeOf 7] s t) := by
  have operand : writes (.clearSliceOc p k) = some (p, 0x280106 + 256 * k, [1]) := if_pos (by simpa using hk)
  rw [applied_of_writes operand, State.applyEntry_sliceCommand hk, if_pos (by decide)] at a
  subst a
  have shows_ := State.clearSlice_shows (s := s) hk
  rw [dsl_eq] at shows_
  exact ⟨fun clear => if_neg (by simp [clear]), shows_⟩

theorem clearSliceOtLatched_applied (hk : k < 8) (a : Applied (.clearSliceOtLatched p k) s t) :
    (∀ i, i < 8 → t.chanBit (8 * k + i) bOtLatched = false) ∧
    (∀ n, n < 64 → n / 8 ≠ k → t.chanBit n bOtLatched = s.chanBit n bOtLatched ∧ t.drt n = s.drt n) := by
  have operand : writes (.clearSliceOtLatched p k) = some (p, 0x280106 + 256 * k, [2]) := if_pos (by simpa using hk)
  rw [applied_of_writes operand, State.applyEntry_sliceCommand hk, if_neg (by decide)] at a
  subst a
  refine ⟨fun i hi => ?_, fun n hn other => ?_⟩
  · refine State.each_reaches (P := fun t n => n < 64 → t.chanBit n bOtLatched = false) (fun t n hn => ?_)
      (fun t m n clear hn => ?_) (8 * k + i) (mem_sliceChannels.mpr (by omega)) (by omega)
    · rw [State.chanBit_unlatchOt hn (by decide), if_pos ⟨rfl, rfl⟩]
    · rw [State.chanBit_unlatchOt hn (by decide), clear hn, ite_self]
  · have apart {m : Nat} (hm : m ∈ sliceChannels k) : n ≠ m := fun e => other (e ▸ mem_sliceChannels.mp hm)
    exact ⟨State.each_keeps (fun t => t.chanBit n bOtLatched) fun t m hm => by
        rw [State.chanBit_unlatchOt hn (by decide), if_neg fun e => apart hm e.1],
      State.each_keeps (fun t => t.drt n) fun t m hm => State.drt_unlatchOt_other (apart hm)⟩

/-! ## The SOE queue (R252) -/

theorem soeQueueDiscard_applied (a : Applied (.soeQueueDiscard p) s t) :
    t = { s with dig := { s.dig with queue := [] }, regs := t.regs } ∧ t.reg 0x288001 = 0 ∧ Only [0x288001] s t := by
  have command : shapesBudget 0x288005 = false := shapesBudget_of_wo (by decide +kernel)
  have applies : s.applyEntry { path := p, key := 0x288005, data := [1] } = s.setQueue [] := by
    refine State.applyEntry_digital (by decide) (by decide) command ?_
    unfold State.digitalApply
    dsimp only
    rw [if_neg (by decide), if_neg (by decide), if_neg (by decide), if_pos rfl]
  rw [applied_of_writes rfl, applies] at a
  subst a
  exact ⟨rfl, (State.reg_setReg_same _ _ _).trans (Nat.zero_mod _), State.only_setReg _ _ _⟩

end Sys2Proof.Machine
end

section
/-! SUPPORT. The HART commands as they are applied (R274 to R277). -/

namespace Sys2Proof.Machine

open Sys2Proof Sys2Proof.Stated

variable {s t : State} {p : Path} {n m : Nat} {d : List Byte}

theorem State.art_setArt_same {r : AnalogRt} : (s.setArt n r).art n = r := Sparse.get_set_same _ _ _ _

theorem State.art_setArt_other {r : AnalogRt} (h : m ≠ n) : (s.setArt n r).art m = s.art m :=
  Sparse.get_set_other _ _ _ _ _ _ h

theorem State.art_of_ana (h : t.ana.channels = s.ana.channels) : t.art m = s.art m := by
  rw [State.art, h, State.art]

/-! ## The start of a transaction (R272, R275) -/

/-- A channel with a transaction under way, or that waits for the end of an abort, starts nothing. -/
theorem State.hartStart_busy (busy : (s.art n).hartNow.isSome = true ∨ (s.art n).hartBarred = true) : s.hartStart n = s := by
  unfold State.hartStart
  dsimp only
  split
  next now _ =>
    have barred : (s.art n).hartBarred = true := by simpa [now] using busy
    rw [barred]
    simp
  next => rfl

theorem State.hartStart_next {q : HartRequest} {rest : List HartRequest} (now : (s.art n).hartNow = none)
    (queue : (s.art n).hartQueue = q :: rest) (active : s.active = true) (on : s.reg (hch n 1) ≠ 0)
    (joined : (s.art n).isolated = false) (free : (s.art n).hartBarred = false) : s.hartStart n =
    (s.setArt n { s.art n with hartNow := some q, hartQueue := rest, hartTries := 1, hartEnd := .none }).emit
      (.hartFrame n (s.hartBytes n q.frame)) := by
  unfold State.hartStart
  simp [now, queue, active, on, joined, free]

theorem State.art_hartStart_other (h : m ≠ n) : (s.hartStart n).art m = s.art m := by
  unfold State.hartStart
  dsimp only
  split
  · split
    · exact State.art_setArt_other h
    · rfl
  · rfl

/-! ## A request (R274, R275) -/

/-- A request joins its channel's queue. -/
def State.queueRequest (s : State) (n : Nat) (q : HartRequest) : State :=
  s.setArt n { s.art n with hartQueue := (s.art n).hartQueue ++ [q] }

theorem State.art_queueRequest {q : HartRequest} :
    (s.queueRequest n q).art n = { s.art n with hartQueue := (s.art n).hartQueue ++ [q] } := State.art_setArt_same

theorem leNat_take_one (d : List Byte) : leNat (d.take 1) = (d.getD 0 0).toNat := by
  cases d <;> simp [leNat]

theorem leNat_second (d : List Byte) : leNat ((d.drop 1).take 1) = (d.getD 1 0).toNat := by
  rw [leNat_take_one]
  simp

theorem State.applyEntry_hartRequest : s.applyEntry { path := p, key := 0x299001, data := d } =
    if 4 ≤ (s.art (leNat (d.take 1))).hartQueue.length then s
    else (s.queueRequest (leNat (d.take 1)) { tag := leNat ((d.drop 1).take 1), frame := d.drop 4 }).hartStart
      (leNat (d.take 1)) := by
  have command : shapesBudget 0x299001 = false := shapesBudget_of_wo (by decide +kernel)
  refine State.applyEntry_analog (by decide) (by decide) command ?_
  rw [leNat_take_one, leNat_second]
  unfold State.analogApply
  dsimp only
  rw [if_neg (by decide), if_pos rfl]
  rfl

theorem hartRequest_applied (a : Applied (.hartRequest p d) s t) :
    let n := leNat (d.take 1)
    let q : HartRequest := { tag := leNat ((d.drop 1).take 1), frame := d.drop 4 }
    (4 ≤ (s.art n).hartQueue.length → t = s) ∧
    ((s.art n).hartQueue.length < 4 → (s.art n).hartNow.isSome = true ∨ (s.art n).hartBarred = true →
      (t.art n).hartQueue = (s.art n).hartQueue ++ [q] ∧ t.out = s.out ∧ t.regs = s.regs) ∧
    ((s.art n).hartNow = none → (s.art n).hartQueue = [] → s.active = true → s.reg (hch n 1) ≠ 0 →
      (s.art n).isolated = false → (s.art n).hartBarred = false →
      (t.art n).hartNow = some q ∧ (t.art n).hartQueue = [] ∧ (t.art n).hartTries = 1 ∧
      t.out = s.out ++ [.hartFrame n (s.hartBytes n q.frame)]) ∧
    (∀ m, m ≠ n → t.art m = s.art m) := by
  rw [applied_of_writes rfl, State.applyEntry_hartRequest] at a
  subst a
  intro n q
  have queued : (s.queueRequest n q).art n = { s.art n with hartQueue := (s.art n).hartQueue ++ [q] } :=
    State.art_queueRequest
  refine ⟨fun full => if_pos full, fun room busy => ?_, fun now empty active on joined free => ?_, fun m other => ?_⟩
  · have stays : (s.queueRequest n q).hartStart n = s.queueRequest n q := State.hartStart_busy (by rw [queued]; exact busy)
    rw [if_neg (Nat.not_le.mpr room), stays, queued]
    exact ⟨rfl, rfl, rfl⟩
  · have starts := State.hartStart_next (s := s.queueRequest n q) (n := n) (q := q) (rest := []) (by rw [queued]; exact now)
      (by rw [queued, empty]; rfl) active on (by rw [queued]; exact joined) (by rw [queued]; exact free)
    rw [if_neg (by simp [n, empty]), starts]
    have art : ((s.queueRequest n q).hartStart n).art n =
        { (s.queueRequest n q).art n with hartNow := some q, hartQueue := [], hartTries := 1, hartEnd := .none } := by
      rw [starts]
      exact State.art_setArt_same
    rw [starts] at art
    rw [art]
    exact ⟨rfl, rfl, rfl, rfl⟩
  · split
    · rfl
    · exact (State.art_hartStart_other other).trans (State.art_setArt_other other)

/-! ## An abort (R277) -/

/-- A queued request that the abort finds ends as it says. -/
def HartRequest.mark (how : HartEnding) (q : HartRequest) : HartRequest :=
  if q.ending = .none then { q with ending := how } else q

theorem State.hartStop_eq {how : HartEnding} : s.hartStop n how =
    let t := s.setArt n { s.art n with
      hartEnd := if (s.art n).hartNow.isSome && (s.art n).hartEnd == .none then how else (s.art n).hartEnd
      hartQueue := (s.art n).hartQueue.map (·.mark how) }
    if (s.art n).hartNow.isSome then t else t.hartFlush n := rfl

theorem HartRequest.mark_ending {q : HartRequest} : (q.mark .command).ending ≠ .none := by
  unfold HartRequest.mark
  split
  · exact (by decide : HartEnding.command ≠ .none)
  next ends => exact ends

/-- Every request that an abort marked leaves the queue. -/
theorem filter_marked (xs : List HartRequest) :
    (xs.map (·.mark .command)).filter (fun x => x.ending == .none) = [] ∧
    (xs.map (·.mark .command)).filter (fun x => x.ending != .none) = xs.map (·.mark .command) := by
  refine ⟨List.filter_eq_nil_iff.mpr fun x hx => ?_, List.filter_eq_self.mpr fun x hx => ?_⟩
  · obtain ⟨q, -, rfl⟩ := List.mem_map.mp hx
    simpa using HartRequest.mark_ending
  · obtain ⟨q, -, rfl⟩ := List.mem_map.mp hx
    simpa using HartRequest.mark_ending

theorem State.setCause_ana {g c : Nat} : (s.setCause g c).ana = s.ana := (congrArg State.ana registers_setCause :)

theorem State.hartPlace_channels {r : List Byte} : (s.hartPlace r).ana.channels = s.ana.channels := by
  unfold State.hartPlace
  split <;> exact (congrArg AnalogState.channels State.setCause_ana).trans rfl

theorem State.hartPlace_responses {r : List Byte} (room : s.ana.responses.length < 32) :
    (s.hartPlace r).ana.responses = s.ana.responses ++ [r] := by
  unfold State.hartPlace
  rw [if_neg (by omega)]
  exact (congrArg AnalogState.responses State.setCause_ana).trans rfl

theorem State.each_hartPlace {xs : List HartRequest} {f : HartRequest → List Byte}
    (room : xs.length + s.ana.responses.length ≤ 32) :
    (s.each xs fun t x => t.hartPlace (f x)).ana.responses = s.ana.responses ++ xs.map f := by
  induction xs generalizing s with
  | nil => exact (List.append_nil _).symm
  | cons x xs ih =>
    rw [List.length_cons] at room
    have placed := State.hartPlace_responses (s := s) (r := f x) (by omega)
    refine (ih (s := s.hartPlace (f x)) ?_).trans ?_
    · rw [placed, List.length_append, List.length_singleton]
      omega
    · rw [placed, List.append_assoc]
      rfl

theorem State.art_hartFlush : (s.hartFlush n).art n =
    { s.art n with hartQueue := (s.art n).hartQueue.filter (fun x => x.ending == .none) } := by
  have channels (u : State) (xs : List HartRequest) (f : HartRequest → List Byte) :
      (u.each xs fun t x => t.hartPlace (f x)).ana.channels = u.ana.channels :=
    State.each_field (fun t => t.ana.channels) fun _ _ => State.hartPlace_channels
  exact (State.art_of_ana (channels _ _ _)).trans State.art_setArt_same

theorem State.applyEntry_hartAbort (hn : n < 16) :
    s.applyEntry { path := p, key := 0x299004, data := leBytes 1 n } = s.hartStop n .command := by
  have command : shapesBudget 0x299004 = false := shapesBudget_of_wo (by decide +kernel)
  have number : leNat (leBytes 1 n) = n := (leNat_leBytes 1 n).trans (Nat.mod_eq_of_lt (by omega))
  refine State.applyEntry_analog (by decide) (by decide) command ?_
  unfold State.analogApply
  dsimp only
  rw [if_neg (by decide), if_neg (by decide), if_pos rfl, number]

theorem hartAbort_applied (hn : n < 16) (a : Applied (.hartAbort p n) s t) :
    let r := s.art n
    (r.hartNow.isSome = true → t.regs = s.regs ∧ t.art n = { r with
      hartEnd := if r.hartEnd = .none then .command else r.hartEnd
      hartQueue := r.hartQueue.map (fun q => if q.ending = .none then { q with ending := .command } else q) }) ∧
    (r.hartNow = none → (t.art n).hartQueue = [] ∧
      ((∀ q, q ∈ r.hartQueue → q.ending = .none) → r.hartQueue.length + s.ana.responses.length ≤ 32 →
        t.ana.responses = s.ana.responses ++
          (s.art n).hartQueue.map (fun q => [BitVec.ofNat 8 n, BitVec.ofNat 8 q.tag, 3, 0, 0, 0, 0, 0]))) := by
  have operand : writes (.hartAbort p n) = some (p, 0x299004, leBytes 1 n) := if_pos (by simpa using (by omega : n < 256))
  rw [applied_of_writes operand, State.applyEntry_hartAbort hn, State.hartStop_eq] at a
  subst a
  intro r
  obtain ⟨none_, all⟩ := filter_marked r.hartQueue
  refine ⟨fun now => ?_, fun idle => ?_⟩
  · dsimp only
    rw [if_pos now, State.art_setArt_same]
    refine ⟨rfl, ?_⟩
    have ending : (if r.hartNow.isSome && r.hartEnd == .none then HartEnding.command else r.hartEnd) =
        if r.hartEnd = .none then .command else r.hartEnd := by
      rw [now, Bool.true_and]
      exact if_congr beq_iff_eq rfl rfl
    rw [ending]
    rfl
  · have now : ¬(s.art n).hartNow.isSome = true := by simp [show (s.art n).hartNow = none from idle]
    dsimp only
    rw [if_neg now]
    refine ⟨?_, fun fresh room => ?_⟩
    · rw [State.art_hartFlush, State.art_setArt_same]
      exact none_
    · unfold State.hartFlush
      rw [State.art_setArt_same]
      dsimp only
      rw [all, State.each_hartPlace (by rw [List.length_map]; exact room), List.map_map]
      congr 1
      refine List.map_congr_left fun q hq => ?_
      have marked : q.mark .command = { q with ending := .command } := if_pos (fresh q hq)
      rw [Function.comp_apply, marked]
      rfl

end Sys2Proof.Machine
end

section
/-! SUPPORT. The reset of the time unit and the commands of the keeper as they are applied (R293, R308, R315, R319, R320). -/

namespace Sys2Proof.Machine

open Sys2Proof Sys2Proof.Stated

variable {s t : State} {p : Path} {d : List Byte}

/-! ## The reset of the time unit (R293) -/

/-- The time unit with its servo, its ports and its record cleared, before its state changes. -/
def State.clearTimeUnit (s : State) : State :=
  let u := s.clearServo.each (List.range 4) fun t n => (t.setReg (tp n 0xD) 0).setReg (tp n 0xE) 0xFF
  ((u.setReg 0x2A0102 0).setReg 0x2A0103 0).setReg 0x2A010A (u.reg 0x2A000B)

theorem State.resetTimeUnit_eq : s.resetTimeUnit =
    ((s.clearTimeUnit.setTu tuFree).count 0x2A010B).setReg 0x2A010C s.tickNo := rfl

theorem State.reg_clearTimeUnit {k : Nat} (kept : k < 0x2A0102 ∨ k = 0x2A0106 ∨ k = 0x2A010B) :
    s.clearTimeUnit.reg k = s.reg k := by
  have ports : (s.clearServo.each (List.range 4) fun t n => (t.setReg (tp n 0xD) 0).setReg (tp n 0xE) 0xFF).reg k =
      s.clearServo.reg k := State.each_field (fun t => t.reg k) fun t n => by
    rw [State.reg_setReg_other _ _ _ _ (by unfold tp keyOf; omega), State.reg_setReg_other _ _ _ _ (by unfold tp keyOf; omega)]
  unfold State.clearTimeUnit
  simp only [State.reg_setReg]
  repeat rw [if_neg (by omega)]
  rw [ports]
  unfold State.clearServo
  simp only [State.reg_setReg]
  repeat rw [if_neg (by omega)]
  rfl

theorem State.clearTimeUnit_tick : s.clearTimeUnit.tick = { s.tick with stepPending := none, stepHeld := false } := by
  have ports : (s.clearServo.each (List.range 4) fun t n => (t.setReg (tp n 0xD) 0).setReg (tp n 0xE) 0xFF).tick =
      s.clearServo.tick := State.each_field State.tick fun _ _ => rfl
  simp only [State.clearTimeUnit, State.setReg_tick, ports]
  simp only [State.clearServo, State.setReg_tick]

theorem State.clearTimeUnit_time :
    s.clearTimeUnit.time = { syncBarNs := s.time.syncBarNs, ppsSecond := s.time.ppsSecond } := by
  have ports : (s.clearServo.each (List.range 4) fun t n => (t.setReg (tp n 0xD) 0).setReg (tp n 0xE) 0xFF).time =
      s.clearServo.time := State.each_field State.time fun _ _ => rfl
  simp only [State.clearTimeUnit, State.setReg_time, ports]
  simp only [State.clearServo, State.setReg_time]

theorem State.setTu_shows {v : Nat} (hv : v < 256) : (s.setTu v).tu = v ∧ (s.setTu v).tick = s.tick ∧
    (s.setTu v).time = s.time ∧ Only [0x2A0101, causeOf 9] s (s.setTu v) := by
  have bits : entryBits 0x2A0101 = 8 := by decide +kernel
  unfold State.setTu
  split
  next same => exact ⟨same, rfl, rfl, fun _ _ => rfl⟩
  next =>
    have rest := registers_setCause (s := s.setReg 0x2A0101 v) (g := 9) (k := 0)
    refine ⟨?_, State.setCause_tick, (congrArg State.time rest :),
      only_trans (State.only_setReg_of_mem (by simp)) (State.only_setCause_of_mem (by simp))⟩
    rw [State.tu, State.reg_setCause_other (by decide), State.reg_setReg_same, fit_of_lt (by rw [bits]; exact hv)]

theorem State.resetTimeUnit_tick : s.resetTimeUnit.tick = { s.tick with stepPending := none, stepHeld := false } := by
  obtain ⟨-, tick, -, -⟩ := State.setTu_shows (s := s.clearTimeUnit) (v := tuFree) (by decide)
  rw [State.resetTimeUnit_eq, State.setReg_tick, State.count_tick, tick, State.clearTimeUnit_tick]

theorem State.resetTimeUnit_time :
    s.resetTimeUnit.time = { syncBarNs := s.time.syncBarNs, ppsSecond := s.time.ppsSecond } := by
  obtain ⟨-, -, time, -⟩ := State.setTu_shows (s := s.clearTimeUnit) (v := tuFree) (by decide)
  rw [State.resetTimeUnit_eq, State.setReg_time, State.count, State.countBy, State.setReg_time, time, State.clearTimeUnit_time]

theorem timeUnitReset_applied (ok : s.Ok) (a : Applied (.timeUnitReset p) s t) :
    t.tu = tuFree ∧ Counts 0x2A010B 1 s t ∧ t.reg 0x2A010C = s.tickNo ∧ t.tick.stepPending = none ∧
    t.tick.nowNs = s.tick.nowNs ∧ t.tickNo = s.tickNo ∧ t.time.servo = 0 ∧ t.reg 0x2A0106 = s.reg 0x2A0106 := by
  have command : shapesBudget 0x2A010F = false := shapesBudget_of_wo (by decide +kernel)
  have width : entryBits 0x2A010C = entryBits 0x200101 := by decide +kernel
  have applies : s.applyEntry { path := p, key := 0x2A010F, data := [1] } = s.resetTimeUnit := by
    refine State.applyEntry_time (by decide) (by decide) command ?_
    unfold State.timeApply
    dsimp only
    rw [if_neg (by decide), if_neg (by decide), if_pos rfl]
  rw [applied_of_writes rfl, applies, State.resetTimeUnit_eq] at a
  subst a
  obtain ⟨state, -, -, only⟩ := State.setTu_shows (s := s.clearTimeUnit) (v := tuFree) (by decide)
  have rest {k : Nat} (count : k ≠ 0x2A010B) (stamp : k ≠ 0x2A010C) :
      (((s.clearTimeUnit.setTu tuFree).count 0x2A010B).setReg 0x2A010C s.tickNo).reg k =
        (s.clearTimeUnit.setTu tuFree).reg k := by
    rw [State.reg_setReg_other _ _ _ _ stamp, State.count, State.countBy, State.reg_setReg_other _ _ _ _ count]
  rw [← State.resetTimeUnit_eq, State.resetTimeUnit_tick, State.resetTimeUnit_time, State.resetTimeUnit_eq]
  refine ⟨(rest (by decide) (by decide)).trans state, ?_, ?_, rfl, rfl, ?_, rfl, ?_⟩
  · rw [Counts, State.reg_setReg_other _ _ _ _ (by decide), State.reg_count, only _ (by decide),
      State.reg_clearTimeUnit (by decide)]
  · rw [State.reg_setReg_same, fit_of_lt (width ▸ ok.reg_lt 0x200101)]
  · exact (rest (by decide) (by decide)).trans ((only _ (by decide)).trans (State.reg_clearTimeUnit (by decide)))
  · exact (rest (by decide) (by decide)).trans ((only _ (by decide)).trans (State.reg_clearTimeUnit (by decide)))

/-! ## The keeper (R308, R315, R319, R320) -/

theorem State.keeperApply_locked {k : Nat} (keeper : between 0x2B00 (k / 256) 0x2BFF = true) (locked : s.keep.locked = true) :
    s.keeperApply k d = some s := by
  unfold State.keeperApply
  dsimp only
  rw [keeper, locked, if_pos (by decide)]

theorem keeperCommand_locked {c : Instr} {k : Nat} (operand : writes c = some (p, k, d)) (lo : 0x2B0000 ≤ k) (hi : k < 0x2C0000)
    (command : (entryOf (k / 256) (k % 256)).map (·.access) = some .wo) (locked : s.keep.locked = true)
    (a : Applied c s t) : t = s := by
  have keeper : between 0x2B00 (k / 256) 0x2BFF = true := by simp [between]; omega
  rw [applied_of_writes operand] at a
  exact a.trans (State.applyEntry_keeper lo hi (shapesBudget_of_wo command) (State.keeperApply_locked keeper locked))

theorem calendarSet_applied (open_ : s.keep.locked = false) (a : Applied (.calendarSet p d) s t) :
    t.keep = { s.keep with clock := calendarClock d } ∧ Only [0x2B0101] s t ∧
    (∀ b, b ∈ [0, 2, 4] → (t.reg 0x2B0101).testBit b = false) ∧
    (∀ b, b ∉ [0, 2, 4] → b < 16 → (t.reg 0x2B0101).testBit b = (s.reg 0x2B0101).testBit b) := by
  have command : shapesBudget 0x2B1002 = false := shapesBudget_of_wo (by decide +kernel)
  have bits : entryBits 0x2B0101 = 16 := by decide +kernel
  have mask : ∀ b < 16, (65535 - 2 ^ bTimeLost - 2 ^ bBadWrite - 2 ^ bCalEnd).testBit b = decide (b ∉ [0, 2, 4]) := by decide
  have applies : s.applyEntry { path := p, key := 0x2B1002, data := d } = s.setCalendar d := by
    refine State.applyEntry_keeper (by decide) (by decide) command ?_
    unfold State.keeperApply
    dsimp only
    rw [open_, Bool.and_false, if_neg Bool.false_ne_true, if_neg (by decide), if_neg (by decide), if_pos rfl]
  rw [applied_of_writes rfl, applies] at a
  subst a
  have flags (b : Nat) (hb : b < 16) : ((s.setCalendar d).reg 0x2B0101).testBit b =
      ((s.reg 0x2B0101).testBit b && decide (b ∉ [0, 2, 4])) := by
    unfold State.setCalendar
    rw [show ks 1 = 0x2B0101 from rfl, State.reg_setReg_same, fit, Nat.testBit_mod_two_pow, bits, Nat.testBit_and, mask b hb]
    simp [hb]
  refine ⟨rfl, fun k hk => State.reg_setReg_other _ _ _ _ fun e => hk (List.mem_singleton.mpr e), fun b cleared => ?_, fun b kept hb => ?_⟩
  · have hb : b < 16 := by
      simp only [List.mem_cons, List.not_mem_nil, or_false] at cleared
      omega
    rw [flags b hb, decide_eq_false (not_not.mpr cleared), Bool.and_false]
  · rw [flags b hb, decide_eq_true kept, Bool.and_true]

theorem State.setReg_frame {k v : Nat} : s.setReg k v = { s with regs := (s.setReg k v).regs } := rfl

theorem calendarCapture_applied (open_ : s.keep.locked = false) (a : Applied (.calendarCapture p) s t) :
    Only [0x2B1004] s t ∧ t = { s with regs := t.regs } ∧ t.reg 0x2B1004 = leNat (calendarBytes s.keep.clock) % 2 ^ 80 := by
  have command : shapesBudget 0x2B1003 = false := shapesBudget_of_wo (by decide +kernel)
  have bits : entryBits 0x2B1004 = 80 := by decide +kernel
  have applies : s.applyEntry { path := p, key := 0x2B1003, data := [1] } =
      s.setReg 0x2B1004 (leNat (calendarBytes s.keep.clock)) := by
    refine State.applyEntry_keeper (by decide) (by decide) command ?_
    unfold State.keeperApply
    dsimp only
    rw [open_, Bool.and_false, if_neg Bool.false_ne_true, if_neg (by decide), if_neg (by decide), if_neg (by decide),
      if_pos rfl]
  rw [applied_of_writes rfl, applies] at a
  subst a
  exact ⟨State.only_setReg _ _ _, State.setReg_frame, by rw [State.reg_setReg_same, fit, bits]⟩

theorem wakeAcknowledge_applied (open_ : s.keep.locked = false) (a : Applied (.wakeAcknowledge p) s t) :
    (t.reg 0x2B0101).testBit 6 = false ∧ Only [0x2B0101] s t ∧ t.keep = s.keep := by
  have command : shapesBudget 0x2B1101 = false := shapesBudget_of_wo (by decide +kernel)
  have applies : s.applyEntry { path := p, key := 0x2B1101, data := [1] } = s.setBit 0x2B0101 bWakeN false := by
    refine State.applyEntry_keeper (by decide) (by decide) command ?_
    unfold State.keeperApply
    dsimp only
    rw [open_, Bool.and_false, if_neg Bool.false_ne_true, if_neg (by decide), if_neg (by decide), if_neg (by decide),
      if_neg (by decide), if_pos rfl]
    rfl
  rw [applied_of_writes rfl, applies] at a
  subst a
  exact ⟨State.setBit_clears, State.only_setReg _ _ _, rfl⟩

end Sys2Proof.Machine
end

section
/-! SUPPORT. The commands of the vessel buses as they are applied (R332, R339, R356). -/

namespace Sys2Proof.Machine

open Sys2Proof Sys2Proof.Stated

variable {s t : State} {p : Path} {c m q : Nat} {d : List Byte}

theorem State.crt_setCrt_same {r : CanRt} : (s.setCrt c r).crt c = r := Sparse.get_set_same _ _ _ _

theorem State.crt_setCrt_other {r : CanRt} (h : m ≠ c) : (s.setCrt c r).crt m = s.crt m :=
  Sparse.get_set_other _ _ _ _ _ _ h

theorem State.applyEntry_canCommand (hc : c < 4) : s.applyEntry { path := p, key := 0x2C001C + 256 * c, data := d } =
    if leNat d = 1 then s.startRecovery c else s.setCrt c { s.crt c with txq := [] } := by
  have layout : OneLayout 0x2C00 4 := by decide +kernel
  have command : shapesBudget (keyOf (0x2C00 + c) 0x1C) = false := shapesBudget_layout layout hc (by decide) (by decide +kernel)
  rw [show keyOf (0x2C00 + c) 0x1C = 0x2C001C + 256 * c by unfold keyOf; omega] at command
  refine State.applyEntry_bus (by omega) (by omega) command ?_
  unfold State.busApply
  dsimp only
  rw [show (0x2C001C + 256 * c) / 256 = 0x2C00 + c by omega, show (0x2C001C + 256 * c) % 256 = 0x1C by omega,
    if_pos (by omega), if_neg (by decide), if_neg (by decide), if_pos rfl, Nat.add_sub_cancel_left]

theorem State.applyEntry_windowRelease (hc : c < 4) : s.applyEntry { path := p, key := 0x2C2003 + 256 * c, data := d } =
    s.windowRelease c (leNat d - 1) := by
  have layout : OneLayout 0x2C20 4 := by decide +kernel
  have command : shapesBudget (keyOf (0x2C20 + c) 3) = false := shapesBudget_layout layout hc (by decide) (by decide +kernel)
  rw [show keyOf (0x2C20 + c) 3 = 0x2C2003 + 256 * c by unfold keyOf; omega] at command
  refine State.applyEntry_bus (by omega) (by omega) command ?_
  unfold State.busApply
  dsimp only
  rw [show (0x2C2003 + 256 * c) / 256 = 0x2C20 + c by omega, show (0x2C2003 + 256 * c) % 256 = 3 by omega,
    if_neg (by omega), if_pos (by omega), Nat.add_sub_cancel_left]

theorem startBusOffRecovery_applied (hc : c < 4) (a : Applied (.startBusOffRecovery p c) s t) :
    (s.canBit c bBusOff = true → t.canBit c bRecovering = true ∧ t.canBit c bBusOff = true ∧ t = { s with regs := t.regs }) ∧
    (s.canBit c bBusOff = false → t = s) := by
  have layout : OneLayout 0x2C00 4 := by decide +kernel
  have width : 3 ≤ entryBits (keyOf 0x2C00 0x19) := by decide +kernel
  have bits : 3 ≤ entryBits (cc c 0x19) := (layout.entryBits_add (sub := 0x19) hc (by decide)).symm ▸ width
  have operand : writes (.startBusOffRecovery p c) = some (p, 0x2C001C + 256 * c, [1]) := if_pos (by simpa using hc)
  rw [applied_of_writes operand, State.applyEntry_canCommand hc, if_pos (by decide), State.startRecovery] at a
  subst a
  refine ⟨fun off => ?_, fun on => if_neg (by simp [on])⟩
  rw [if_pos off]
  refine ⟨(State.testBit_reg_setBit _ _ _ (Nat.lt_of_lt_of_le (by decide) bits)).trans (if_pos rfl), ?_, rfl⟩
  exact (State.testBit_reg_setBit _ _ _ (Nat.lt_of_lt_of_le (by decide) bits)).trans ((if_neg (by decide)).trans off)

theorem discardTransmitQueue_applied (hc : c < 4) (a : Applied (.discardTransmitQueue p c) s t) :
    (t.crt c).txq = [] ∧ t.crt c = { s.crt c with txq := [] } ∧ t.regs = s.regs ∧ (∀ m, m ≠ c → t.crt m = s.crt m) := by
  have operand : writes (.discardTransmitQueue p c) = some (p, 0x2C001C + 256 * c, [2]) := if_pos (by simpa using hc)
  rw [applied_of_writes operand, State.applyEntry_canCommand hc, if_neg (by decide)] at a
  subst a
  rw [State.crt_setCrt_same]
  exact ⟨rfl, rfl, rfl, fun m other => State.crt_setCrt_other other⟩

/-- The window of a queue as its release leaves it (R339). -/
def CanRt.release (r : CanRt) (q : Nat) : CanRt :=
  ({ r with rxq := dropFirst q r.rxq ++ ((r.shadow q).map fun x => (q, x)).toList }.setHeld q false).setShadow q none

theorem CanRt.release_shows (r : CanRt) (hq : q < 2) : (r.release q).held q = false ∧ (r.release q).shadow q = none ∧
    (r.release q).rxq = dropFirst q r.rxq ++ (r.shadow q).toList.map (fun x => (q, x)) := by
  have tail : ((r.shadow q).map fun x => (q, x)).toList = (r.shadow q).toList.map (fun x => (q, x)) := by
    cases r.shadow q <;> rfl
  rw [← tail]
  obtain rfl | rfl : q = 0 ∨ q = 1 := by omega
  · exact ⟨rfl, rfl, rfl⟩
  · exact ⟨rfl, rfl, rfl⟩

theorem State.windowRelease_eq : s.windowRelease c q = if (s.crt c).held q then s.setCrt c ((s.crt c).release q) else s := rfl

theorem releaseRxq_applied (hc : c < 4) (hq : q < 2)
    (a : Applied (if q = 0 then .releaseRxq0 p c else .releaseRxq1 p c) s t) :
    ((s.crt c).held q = false → t = s) ∧
    ((s.crt c).held q = true → (t.crt c).held q = false ∧ (t.crt c).shadow q = none ∧
      (t.crt c).rxq = dropFirst q (s.crt c).rxq ++ ((s.crt c).shadow q).toList.map (fun x => (q, x))) ∧
    (∀ m, m ≠ c → t.crt m = s.crt m) := by
  have operand : ∃ d, writes (if q = 0 then .releaseRxq0 p c else .releaseRxq1 p c) = some (p, 0x2C2003 + 256 * c, d) ∧
      leNat d - 1 = q := by
    obtain rfl | rfl : q = 0 ∨ q = 1 := by omega
    · exact ⟨[1], if_pos (by simpa using hc), rfl⟩
    · exact ⟨[2], if_pos (by simpa using hc), rfl⟩
  obtain ⟨d, operand, number⟩ := operand
  rw [applied_of_writes operand, State.applyEntry_windowRelease hc, number, State.windowRelease_eq] at a
  subst a
  refine ⟨fun free => if_neg (by simp [free]), fun held => ?_, fun m other => ?_⟩
  · rw [if_pos held, State.crt_setCrt_same]
    exact CanRt.release_shows _ hq
  · split
    · exact State.crt_setCrt_other other
    · rfl

/-- Settles O53: each command by the operation that its key reaches and what that operation leaves. -/
theorem fieldWrites : Obligations.FieldWrites :=
  fun _ _ _ ok => ⟨fun _ hn => clearOtLatched_applied hn, fun _ hk => clearSliceOc_applied hk,
    fun _ hk => clearSliceOtLatched_applied hk, soeQueueDiscard_applied, fun _ => hartRequest_applied,
    fun _ hn => hartAbort_applied hn, timeUnitReset_applied ok,
    fun locked => ⟨fun _ => keeperCommand_locked rfl (by decide) (by decide) (by decide +kernel) locked,
      keeperCommand_locked rfl (by decide) (by decide) (by decide +kernel) locked,
      keeperCommand_locked rfl (by decide) (by decide) (by decide +kernel) locked⟩,
    fun _ => calendarSet_applied, calendarCapture_applied, wakeAcknowledge_applied,
    fun _ hc => ⟨startBusOffRecovery_applied hc, discardTransmitQueue_applied hc, fun _ hq => releaseRxq_applied hc hq⟩⟩

end Sys2Proof.Machine
end

section
/-! SUPPORT. Reads of dictionary entries: what refuses them, what they answer, and what a read of a queue takes (R246, R276,
R314, R320, R339, R352, R365, R366). -/

namespace Sys2Proof.Machine

open Sys2Proof Sys2Proof.Stated

variable {s t : State} {p : Path} {k : Nat} {e : Entry}

/-! ## Refusals (R320, R366, R441) -/

/-- The entry is one of the module's own, not an exported variable (R377). -/
abbrev OwnEntry (k : Nat) : Prop := k / 256 < 0x3000 ∨ 0x5FFF < k / 256

theorem not_exported_of_own (own : OwnEntry k) : between 0x3000 (k / 256) 0x5FFF = false := by
  simp only [between, Bool.and_eq_false_iff, decide_eq_false_iff_not]
  omega

theorem State.readEntry_refused {code : Nat} (refused : s.readRefusal k = code) (nonzero : code ≠ 0) :
    s.readEntry k = (.error code, s) := by
  unfold State.readEntry
  dsimp only
  rw [refused, if_pos nonzero]

/-- The checks of a read of an own entry, in their order. -/
theorem State.readRefusal_own (own : OwnEntry k) (found : entryOf (k / 256) (k % 256) = some e) : s.readRefusal k =
    if e.access = .wo then 0x06010001
    else if k = 0x213001 then 0x08000020
    else if between 0x2B00 (k / 256) 0x2BFF && s.keep.locked then 0x0F000017
    else if s.fencedEntry k then 0x0F000011
    else if s.stuck then 0x08000022
    else if between 0x2C20 (k / 256) 0x2C23 && (k % 256 == 1 || k % 256 == 2) &&
      !s.hostQueue (k / 256 - 0x2C20) (k % 256 - 1) then 0x06040043
    else 0 := by
  unfold State.readRefusal
  dsimp only
  rw [not_exported_of_own own, if_neg Bool.false_ne_true, found]

theorem State.readEntry_writeOnly (own : OwnEntry k) (found : entryOf (k / 256) (k % 256) = some e) (access : e.access = .wo) :
    s.readEntry k = (.error 0x06010001, s) :=
  State.readEntry_refused ((State.readRefusal_own own found).trans (if_pos access)) (by decide)

theorem State.readEntry_container : s.readEntry 0x213001 = (.error 0x08000020, s) := by
  have access : (entryOf (0x213001 / 256) (0x213001 % 256)).map (·.access) = some .rws := by decide +kernel
  obtain ⟨e, found, stored⟩ := Option.map_eq_some_iff.mp access
  refine State.readEntry_refused ((State.readRefusal_own (by decide) found).trans ?_) (by decide)
  rw [stored, if_neg (by decide), if_pos rfl]

theorem State.readEntry_locked (found : entryOf (k / 256) (k % 256) = some e) (access : e.access ≠ .wo)
    (keeper : between 0x2B00 (k / 256) 0x2BFF = true) (locked : s.keep.locked = true) :
    s.readEntry k = (.error 0x0F000017, s) := by
  have range : 0x2B00 ≤ k / 256 ∧ k / 256 ≤ 0x2BFF := by simpa [between] using keeper
  refine State.readEntry_refused ((State.readRefusal_own (.inl (by omega)) found).trans ?_) (by decide)
  rw [if_neg access, if_neg (by omega), keeper, locked, if_pos (by decide)]

theorem State.readEntry_fenced (own : OwnEntry k) (found : entryOf (k / 256) (k % 256) = some e) (access : e.access ≠ .wo)
    (keeper : between 0x2B00 (k / 256) 0x2BFF = false) (container : k ≠ 0x213001) (fenced : s.fencedEntry k = true) :
    s.readEntry k = (.error 0x0F000011, s) := by
  refine State.readEntry_refused ((State.readRefusal_own own found).trans ?_) (by decide)
  rw [if_neg access, if_neg container, keeper, Bool.false_and, if_neg Bool.false_ne_true, if_pos fenced]

/-- A read that is refused removes nothing. -/
theorem State.eq_of_readEntry_error {code : Nat} (h : s.readEntry k = (.error code, t)) : t = s := by
  revert h
  unfold State.readEntry
  dsimp only
  split
  · exact fun h => (congrArg Prod.snd h).symm
  · split
    · split <;> exact fun h => nomatch congrArg Prod.fst h
    · split
      · exact fun h => nomatch congrArg Prod.fst h
      · split <;> exact fun h => nomatch congrArg Prod.fst h

/-! ## Values (R365) -/

theorem State.readEntry_value {w : Nat} (own : OwnEntry k) (found : entryOf (k / 256) (k % 256) = some e)
    (size : e.type.size = some w) (served : s.readRefusal k = 0) (queue : s.queueRead k = none) :
    s.readEntry k = (.ok (leBytes w (s.valueOf k)), s) := by
  unfold State.readEntry
  dsimp only
  rw [served, if_neg (by decide), not_exported_of_own own, if_neg Bool.false_ne_true, queue, found]
  simp [size]

theorem State.readEntry_queue {r : List Byte × State} (own : OwnEntry k) (served : s.readRefusal k = 0)
    (queue : s.queueRead k = some r) : s.readEntry k = (.ok r.1, r.2) := by
  unfold State.readEntry
  dsimp only
  rw [served, if_neg (by decide), not_exported_of_own own, if_neg Bool.false_ne_true, queue]

/-! ## Reads by name (R362, R366) -/

/-- The reads that have a command of their own, with the path and the entry of each. -/
theorem exec_read {n ix sub : Nat} {c : Instr} {q : Path}
    (h : (c, q, k) ∈ [(Instr.soeQueueRead p, p, 0x288002), (.hartResponseRead p, p, 0x299002),
      (.canWindowRead p (n % 4) 0, p, 0x2C2001 + 256 * (n % 4)), (.canWindowRead p (n % 4) 1, p, 0x2C2002 + 256 * (n % 4)),
      (.sentenceQueueRead p (n % 5), p, 0x2C800A + 256 * (n % 5)),
      (.sdoUploadRequest (n % 4) (ix % 65536) (sub % 256), .can (n % 4), 256 * (ix % 65536) + sub % 256),
      (.partnerRequest (ix % 65536) (sub % 256) none, .partner, 256 * (ix % 65536) + sub % 256)]) :
    exec c s = .next (s.readOn q k) := by
  have four : n % 4 < 4 := Nat.mod_lt _ (by decide)
  have five : n % 5 < 5 := Nat.mod_lt _ (by decide)
  have index : ix % 65536 < 65536 := Nat.mod_lt _ (by decide)
  have subindex : sub % 256 < 256 := Nat.mod_lt _ (by decide)
  have window (j : Nat) : cw (n % 4) j = 0x2C2000 + j + 256 * (n % 4) := by unfold cw keyOf; omega
  have sentence : sp (n % 5) 0xA = 0x2C800A + 256 * (n % 5) := by unfold sp keyOf; omega
  have key : keyOf (ix % 65536) (sub % 256) = 256 * (ix % 65536) + sub % 256 := by unfold keyOf; omega
  simp only [List.mem_cons, List.not_mem_nil, or_false, Prod.mk.injEq] at h
  rcases h with ⟨rfl, rfl, rfl⟩ | ⟨rfl, rfl, rfl⟩ | ⟨rfl, rfl, rfl⟩ | ⟨rfl, rfl, rfl⟩ | ⟨rfl, rfl, rfl⟩ | ⟨rfl, rfl, rfl⟩ |
    ⟨rfl, rfl, rfl⟩
  · rfl
  · rfl
  · rw [← window 1]
    exact next_of_valid (by simp [four])
  · rw [← window 2]
    exact next_of_valid (by simp [four])
  · rw [← sentence]
    exact next_of_valid (by simp [five])
  · rw [← key]
    exact next_of_valid (by simp [four, index, subindex])
  · rw [← key]
    exact next_of_valid (by simp [index, subindex])

/-- A read on a path: nothing where the path is not served, else the value or the abort. -/
theorem read_shows {c : Instr} {q : Path} (runs : exec c s = .next (s.readOn q k)) :
    (s.serves q = false → exec c s = .next s) ∧
    (s.serves q = true → ∀ r t, s.readEntry k = (r, t) →
      (∀ code, r = .error code → exec c s = .next (s.answer { path := q, key := k, code := code }) ∧ t = s) ∧
      (∀ bs, r = .ok bs → exec c s = .next (t.answer { path := q, key := k, code := 0, data := bs }))) := by
  rw [runs]
  unfold State.readOn
  refine ⟨fun unserved => by rw [unserved, if_neg Bool.false_ne_true], fun served r t read => ?_⟩
  rw [if_pos served, read]
  refine ⟨fun code refused => ?_, fun bs answered => ?_⟩
  · subst refused
    have same := State.eq_of_readEntry_error read
    exact ⟨by rw [same]; rfl, same⟩
  · subst answered
    rfl

/-! ## The calendar (R314) -/

theorem calendarBytes_length (clock : Nat) : (calendarBytes clock).length = 10 := by
  unfold calendarBytes
  dsimp only
  simp

/-- Each field is fetched before or after a carry; a stopped calendar carries no more. -/
theorem State.calendarRead_shows : ∃ bs t, s.calendarRead = (bs, t) ∧ t = { s with free := t.free } ∧ bs.length = 10 ∧
    (∀ i, i < 10 → bs.getD i 0 = (calendarBytes s.keep.clock).getD i 0 ∨
      bs.getD i 0 = (calendarBytes (min lastClock ((s.keep.clock / 32768 + 1) * 32768))).getD i 0) ∧
    (s.bit 0x2B0101 4 = true → bs = calendarBytes s.keep.clock) := by
  by_cases stopped : s.bit 0x2B0101 4 = true
  · exact ⟨_, s, if_pos stopped, rfl, calendarBytes_length _, fun _ _ => .inl rfl, fun _ => rfl⟩
  · refine ⟨_, _, if_neg stopped, rfl, by simp, fun i hi => ?_, fun h => absurd h stopped⟩
    rw [List.getD_eq_getElem?_getD, List.getElem?_map, List.getElem?_range hi]
    dsimp only [Option.map_some, Option.getD_some]
    split
    · exact .inr rfl
    · exact .inl rfl

/-! ## Reads of queues that are not fenced (R246, R276, R339, R352) -/

/-- An own entry that can be read, of no fenced block and no queue that goes to the image, is served. -/
theorem State.readRefusal_of_readable (own : OwnEntry k) (readable : (entryOf (k / 256) (k % 256)).map (·.access) = some .ro)
    (container : k ≠ 0x213001) (keeper : (between 0x2B00 (k / 256) 0x2BFF && s.keep.locked) = false)
    (fence : s.fencedEntry k = false) (starts : s.stuck = false) : s.readRefusal k =
    if between 0x2C20 (k / 256) 0x2C23 && (k % 256 == 1 || k % 256 == 2) &&
      !s.hostQueue (k / 256 - 0x2C20) (k % 256 - 1) then 0x06040043
    else 0 := by
  obtain ⟨e, found, ro⟩ := Option.map_eq_some_iff.mp readable
  rw [State.readRefusal_own own found, ro, if_neg (by decide), if_neg container, keeper, if_neg Bool.false_ne_true, fence,
    if_neg Bool.false_ne_true, starts, if_neg Bool.false_ne_true]

theorem State.readEntry_calendar (open_ : s.keep.locked = false) (starts : s.stuck = false) :
    s.readEntry 0x2B1001 = (.ok s.calendarRead.1, s.calendarRead.2) := by
  refine State.readEntry_queue (by decide) ?_ rfl
  rw [State.readRefusal_of_readable (by decide) (by decide +kernel) (by decide) (by rw [open_, Bool.and_false]) rfl starts]
  rfl

theorem State.readEntry_soe (starts : s.stuck = false) : s.readEntry 0x288002 = (.ok s.soeRead.1, s.soeRead.2) := by
  refine State.readEntry_queue (by decide) ?_ rfl
  rw [State.readRefusal_of_readable (by decide) (by decide +kernel) (by decide) rfl rfl starts]
  rfl

theorem State.readEntry_hart (starts : s.stuck = false) : s.readEntry 0x299002 = (.ok s.hartRead.1, s.hartRead.2) := by
  refine State.readEntry_queue (by decide) ?_ rfl
  rw [State.readRefusal_of_readable (by decide) (by decide +kernel) (by decide) rfl rfl starts]
  rfl

theorem State.soeRead_shows : s.soeRead.2 = { s with
      dig := { s.dig with queue := s.dig.queue.drop 64 }, regs := s.soeRead.2.regs } ∧ Only [0x288001] s s.soeRead.2 ∧
    (s.dig.queue.length < 65536 → s.soeRead.2.reg 0x288001 = s.dig.queue.length - 64) := by
  have bits : entryBits 0x288001 = 16 := by decide +kernel
  refine ⟨rfl, State.only_setReg _ _ _, fun short => (State.reg_setReg_same _ _ _).trans ?_⟩
  rw [List.length_drop, fit_of_lt (by rw [bits]; omega)]

/-- The entry of a receive window belongs to the block of its controller. -/
theorem window_entry : ∀ c < 4, ∀ q < 2, entryBlocks (0x2C2001 + q + 256 * c) = [c] ∧
    (entryOf ((0x2C2001 + q + 256 * c) / 256) ((0x2C2001 + q + 256 * c) % 256)).map (·.access) = some .ro := by
  decide +kernel

theorem State.readEntry_window {c q : Nat} (starts : s.stuck = false) (hc : c < 4) (hq : q < 2) (up : s.stage c ≠ .fenced) :
    (s.hostQueue c q = false → s.readEntry (0x2C2001 + q + 256 * c) = (.error 0x06040043, s)) ∧
    (s.hostQueue c q = true →
      s.readEntry (0x2C2001 + q + 256 * c) = (.ok (s.windowRead c q).1, (s.windowRead c q).2)) := by
  obtain ⟨blocks, readable⟩ := window_entry c hc q hq
  have index : (0x2C2001 + q + 256 * c) / 256 = 0x2C20 + c := by omega
  have sub : (0x2C2001 + q + 256 * c) % 256 = q + 1 := by omega
  have fence : s.fencedEntry (0x2C2001 + q + 256 * c) = false := by simp [State.fencedEntry, blocks, up]
  have keeper : between 0x2B00 (0x2C20 + c) 0x2BFF = false := by simp [between]; omega
  have window : (between 0x2C20 (0x2C20 + c) 0x2C23 && (q + 1 == 1 || q + 1 == 2)) = true := by
    simp [between]
    omega
  have own : OwnEntry (0x2C2001 + q + 256 * c) := .inl (by omega)
  have refusal := State.readRefusal_of_readable own readable (by omega) (by rw [index, keeper, Bool.false_and]) fence starts
  rw [index, sub, window, Bool.true_and, Nat.add_sub_cancel_left, Nat.add_sub_cancel] at refusal
  refine ⟨fun image => State.readEntry_refused (refusal.trans ?_) (by decide), fun host =>
    State.readEntry_queue own (refusal.trans ?_) ?_⟩
  · rw [image, if_pos (by decide)]
  · rw [host, if_neg (by decide)]
  · unfold State.queueRead
    dsimp only
    rw [if_neg (by omega), if_neg (by omega), if_neg (by omega), index, sub, window, if_pos rfl, Nat.add_sub_cancel_left,
      Nat.add_sub_cancel]

/-- The entry of a sentence queue belongs to the block of its port; the last one is on the plant ports (R439). -/
theorem sentence_entry : ∀ c < 5, entryBlocks (0x2C800A + 256 * c) = (if c < 4 then [4 + c] else []) ∧
    (entryOf ((0x2C800A + 256 * c) / 256) ((0x2C800A + 256 * c) % 256)).map (·.access) = some .ro := by
  decide +kernel

theorem State.readEntry_sentences {c : Nat} (starts : s.stuck = false) (hc : c < 5) (up : c < 4 → s.stage (4 + c) ≠ .fenced) :
    s.readEntry (0x2C800A + 256 * c) = (.ok (s.sentenceRead c).1, (s.sentenceRead c).2) := by
  obtain ⟨blocks, readable⟩ := sentence_entry c hc
  have index : (0x2C800A + 256 * c) / 256 = 0x2C80 + c := by omega
  have sub : (0x2C800A + 256 * c) % 256 = 10 := by omega
  have fence : s.fencedEntry (0x2C800A + 256 * c) = false := by
    unfold State.fencedEntry
    rw [blocks]
    split
    next port => simp [up port]
    next => rfl
  have keeper : between 0x2B00 (0x2C80 + c) 0x2BFF = false := by simp [between]; omega
  have window : between 0x2C20 (0x2C80 + c) 0x2C23 = false := by simp [between]; omega
  have sentence : (between 0x2C80 (0x2C80 + c) 0x2C84 && (10 == 10)) = true := by simp [between]; omega
  have own : OwnEntry (0x2C800A + 256 * c) := .inl (by omega)
  have refusal := State.readRefusal_of_readable own readable (by omega) (by rw [index, keeper, Bool.false_and]) fence starts
  rw [index, window, Bool.false_and, Bool.false_and, if_neg Bool.false_ne_true] at refusal
  refine State.readEntry_queue own refusal ?_
  unfold State.queueRead
  dsimp only
  rw [if_neg (by omega), if_neg (by omega), if_neg (by omega), index, sub, window, Bool.false_and, if_neg Bool.false_ne_true,
    sentence, if_pos rfl, Nat.add_sub_cancel_left]

/-- Settles O55: each read by the first check that refuses it, or by the queue or the value that it answers. -/
theorem entryReads : Obligations.EntryReads := by
  intro s p n ix sub _
  refine ⟨fun c q k read => read_shows (exec_read read),
    fun k w e found size served queue own => State.readEntry_value own found size served queue,
    fun k e found access own => State.readEntry_writeOnly own found access, State.readEntry_container,
    fun k e found access keeper locked => State.readEntry_locked found access keeper locked,
    fun k e found access keeper container own fenced => State.readEntry_fenced own found access keeper container fenced,
    fun open_ starts => ?calendar, fun starts => ⟨?soe, State.readEntry_hart starts,
      fun c q hc hq up => State.readEntry_window starts hc hq up, fun c hc up => State.readEntry_sentences starts hc up⟩⟩
  case calendar =>
    obtain ⟨bs, t, read, shows_⟩ := State.calendarRead_shows (s := s)
    exact ⟨bs, t, by rw [State.readEntry_calendar open_ starts, read], shows_⟩
  case soe =>
    obtain ⟨frame, only, level⟩ := State.soeRead_shows (s := s)
    exact ⟨_, State.readEntry_soe starts, frame, only, level⟩

end Sys2Proof.Machine
end

section
/-! SUPPORT. The events of a HART modem: replies, damaged and missing replies, and burst frames (R275 to R278, R282). -/

namespace Sys2Proof.Machine

open Sys2Proof Sys2Proof.Stated

variable {s : State} {n us res : Nat} {f r : List Byte} {q : HartRequest}

/-! ## The response queue (R275) -/

theorem entryBits_causeOf_eight : entryBits (causeOf 8) = 32 := by decide +kernel

theorem hch_inj {m sub sub' : Nat} (h : sub < 256) (h' : sub' < 256) : hch n sub = hch m sub' ↔ n = m ∧ sub = sub' := by
  unfold hch keyOf
  omega

theorem hch_ne_loss {sub : Nat} (hn : n < 16) (hs : sub < 256) : hch n sub ≠ 0x299005 := by
  unfold hch keyOf
  omega

theorem hch_ne_causeOf {sub g : Nat} (hn : n < 16) (hs : sub < 256) : hch n sub ≠ causeOf g := by
  unfold hch causeOf keyOf
  omega

theorem State.hartPlace_full (full : 32 ≤ s.ana.responses.length) : s.hartPlace r = (s.count 0x299005).setCause 8 3 :=
  if_pos full

theorem State.hartPlace_room (room : s.ana.responses.length < 32) : s.hartPlace r =
    ({ s with ana := { s.ana with responses := s.ana.responses ++ [r] } }).setCause 8 2 := if_neg (Nat.not_le.mpr room)

theorem State.only_hartPlace : Only [0x299005, causeOf 8] s (s.hartPlace r) := by
  unfold State.hartPlace
  split
  · exact only_trans (State.only_setReg_of_mem (by simp)) (State.only_setCause_of_mem (by simp))
  · exact fun k hk => State.reg_setCause_other fun e => hk (by simp [e])

theorem State.hartPlace_mem : (s.hartPlace r).mem = s.mem := by
  unfold State.hartPlace
  split <;> exact (mem_of_registers registers_setCause).trans rfl

theorem State.hartPlace_tick : (s.hartPlace r).tick = s.tick := by
  unfold State.hartPlace
  split <;> exact State.setCause_tick.trans rfl

/-- A record that finds room enters the queue. -/
theorem State.hartPlace_enters (room : s.ana.responses.length < 32) :
    (s.hartPlace r).ana.responses = s.ana.responses ++ [r] ∧ ((s.hartPlace r).reg (causeOf 8)).testBit 2 = true := by
  refine ⟨State.hartPlace_responses room, ?_⟩
  rw [State.hartPlace_room room]
  exact State.cause_setCause (entryBits_causeOf_eight ▸ by decide)

/-- A record that finds the queue full is lost and counted. -/
theorem State.hartPlace_lost (full : 32 ≤ s.ana.responses.length) :
    (s.hartPlace r).ana.responses = s.ana.responses ∧ Counts 0x299005 1 s (s.hartPlace r) ∧
      ((s.hartPlace r).reg (causeOf 8)).testBit 3 = true := by
  rw [State.hartPlace_full full]
  refine ⟨(congrArg AnalogState.responses State.setCause_ana :), ?_, State.cause_setCause (entryBits_causeOf_eight ▸ by decide)⟩
  rw [Counts, State.reg_setCause_other (by decide)]
  exact s.reg_count _

/-! ## The end of a transaction (R275, R277, R282) -/

/-- The channel free of its transaction, with the statistics of R282 counted, before the record is placed. -/
def State.hartClose (s : State) (n res : Nat) : State :=
  let t := (s.setArt n { s.art n with hartNow := none, hartTries := 0, hartEnd := .none }).count (hch n 0xB)
  if res = 1 ∨ res = 2 then t.count (hch n 0xD) else t

theorem State.hartFinish_idle (idle : (s.art n).hartNow = none) : s.hartFinish n res us f = s := by
  unfold State.hartFinish
  simp only [idle]

theorem State.hartFinish_eq (now : (s.art n).hartNow = some q) : s.hartFinish n res us f =
    (s.hartClose n res).hartPlace (hartRecord n q.tag res (s.art n).hartTries us f) := by
  unfold State.hartFinish
  simp only [now]
  rfl

theorem State.hartClose_frame :
    s.hartClose n res = { s with regs := (s.hartClose n res).regs, ana := (s.hartClose n res).ana } := by
  unfold State.hartClose
  dsimp only
  split <;> rfl

theorem State.hartClose_responses : (s.hartClose n res).ana.responses = s.ana.responses := by
  unfold State.hartClose
  dsimp only
  split <;> rfl

theorem State.art_hartClose :
    (s.hartClose n res).art n = { s.art n with hartNow := none, hartTries := 0, hartEnd := .none } := by
  unfold State.hartClose
  dsimp only
  split <;> exact (State.art_of_ana rfl).trans State.art_setArt_same

theorem State.only_hartClose : Only [hch n 0xB, hch n 0xD] s (s.hartClose n res) := by
  have ended (r : AnalogRt) : Only [hch n 0xB, hch n 0xD] s ((s.setArt n r).count (hch n 0xB)) :=
    State.only_setReg_of_mem (s := s.setArt n r) (by simp)
  unfold State.hartClose
  dsimp only
  split
  · exact only_trans (ended _) (State.only_setReg_of_mem (by simp))
  · exact ended _

theorem State.hartClose_counts : Counts (hch n 0xB) 1 s (s.hartClose n res) := by
  have apart : hch n 0xB ≠ hch n 0xD := fun e => nomatch ((hch_inj (by decide) (by decide)).mp e).2
  unfold State.hartClose
  dsimp only
  split
  · exact (State.reg_setReg_other _ _ _ _ apart).trans (State.reg_count _ _)
  · exact State.reg_count _ _

theorem State.hartClose_countsError (failed : res = 1 ∨ res = 2) : Counts (hch n 0xD) 1 s (s.hartClose n res) := by
  have apart : hch n 0xD ≠ hch n 0xB := fun e => nomatch ((hch_inj (by decide) (by decide)).mp e).2
  unfold State.hartClose
  dsimp only
  rw [if_pos failed, Counts, State.reg_count, State.count, State.countBy, State.reg_setReg_other _ _ _ _ apart]
  rfl

/-- The transaction is over, whatever its result. -/
theorem State.hartNow_hartFinish : ((s.hartFinish n res us f).art n).hartNow = none := by
  cases now : (s.art n).hartNow with
  | none => rw [State.hartFinish_idle now, now]
  | some q => rw [State.hartFinish_eq now, State.art_of_ana State.hartPlace_channels, State.art_hartClose]

theorem State.hartFinish_shows (hn : n < 16) (now : (s.art n).hartNow = some q) :
    let t := s.hartFinish n res us f
    Counts (hch n 0xB) 1 s t ∧ (res = 1 ∨ res = 2 → Counts (hch n 0xD) 1 s t) ∧
    (s.ana.responses.length < 32 → t.ana.responses = s.ana.responses ++ [hartRecord n q.tag res (s.art n).hartTries us f] ∧
      (t.reg (causeOf 8)).testBit 2 = true) ∧
    (32 ≤ s.ana.responses.length → t.ana.responses = s.ana.responses ∧ Counts 0x299005 1 s t ∧
      (t.reg (causeOf 8)).testBit 3 = true) ∧ t.mem = s.mem ∧ t.tick = s.tick := by
  rw [State.hartFinish_eq now]
  generalize hartRecord n q.tag res (s.art n).hartTries us f = r
  have statistic {sub : Nat} (hs : sub < 256) :
      ((s.hartClose n res).hartPlace r).reg (hch n sub) = (s.hartClose n res).reg (hch n sub) :=
    State.only_hartPlace _ (by simp [hch_ne_loss hn hs, hch_ne_causeOf hn hs])
  have queue : (s.hartClose n res).ana.responses = s.ana.responses := State.hartClose_responses
  have loss : (s.hartClose n res).reg 0x299005 = s.reg 0x299005 :=
    State.only_hartClose _ (by simp [(hch_ne_loss hn _).symm])
  refine ⟨(statistic (by decide)).trans State.hartClose_counts,
    fun failed => (statistic (by decide)).trans (State.hartClose_countsError failed), fun room => ?_, fun full => ?_,
    State.hartPlace_mem.trans (congrArg State.mem State.hartClose_frame :),
    State.hartPlace_tick.trans (congrArg State.tick State.hartClose_frame :)⟩
  · rw [← queue] at room ⊢
    exact State.hartPlace_enters room
  · rw [← queue] at full
    rw [Counts, ← loss, ← queue]
    exact State.hartPlace_lost full

/-! ## An abort (R277) -/

/-- After an abort the channel is free, and starts nothing before the next datum edge. -/
theorem State.art_hartAborted :
    ((s.hartAborted n us).art n).hartBarred = true ∧ ((s.hartAborted n us).art n).hartNow = none := by
  unfold State.hartAborted
  rw [State.art_setArt_same, State.art_hartFlush]
  exact ⟨rfl, State.hartNow_hartFinish⟩

/-! ## A failed attempt (R275) -/

theorem State.hartRetry_idle (idle : (s.art n).hartNow = none) : s.hartRetry n res us = s := by
  unfold State.hartRetry
  simp only [idle]

theorem State.hartRetry_eq (now : (s.art n).hartNow = some q) : s.hartRetry n res us =
    if (s.art n).hartEnd ≠ .none then s.hartAborted n us
    else if (s.art n).hartTries ≤ s.reg (hch n 4) then
      (s.setArt n { s.art n with hartTries := (s.art n).hartTries + 1 }).emit (.hartFrame n (s.hartBytes n q.frame))
    else (s.hartFinish n res us []).hartStart n := by
  unfold State.hartRetry
  simp only [now]

/-! ## The events -/

theorem exec_hartResponseFrame_damaged (hn : n < 16) :
    exec (.hartResponseFrame n f false us) s = .next (s.hartRetry n 2 us) := next_of_valid (decide_eq_true hn)

theorem exec_hartResponseTimeout (hn : n < 16) : exec (.hartResponseTimeout n us) s = .next (s.hartRetry n 1 us) :=
  next_of_valid (decide_eq_true hn)

theorem exec_hartResponseFrame_intact (hn : n < 16) : exec (.hartResponseFrame n f true us) s = .next
    (if (f.getD 0 0).toNat % 8 = 1 then s.hartBurst n f
     else if s.ownMaster n f = false then s
     else if (s.art n).hartEnd ≠ .none then s.hartAborted n us
     else (s.hartFinish n 0 us f).hartStart n) :=
  (next_of_valid (decide_eq_true hn)).trans (by simp)

theorem exec_hartBurstFrame (hn : n < 16) :
    exec (.hartBurstFrame n f) s = .next (if s.reg (hch n 1) = 0 then s else s.hartBurst n f) :=
  next_of_valid (decide_eq_true hn)

/-- Settles O37: an intact frame by whose it is, a failed attempt by what the transaction waits for, and the record of its
end by the room in the response queue. -/
theorem hartEvents : Obligations.HartEvents := by
  intro s n us f _ hn r burst stored
  have intact := exec_hartResponseFrame_intact (s := s) (f := f) (us := us) hn
  have burstFrame := exec_hartBurstFrame (s := s) (f := f) hn
  obtain ⟨barred, free⟩ := State.art_hartAborted (s := s) (n := n) (us := us)
  refine ⟨fun bursts => ?_, fun other foreign => ?_, fun other own goes => ?_, fun other own ends => ?_,
    fun waits => State.hartStart_busy (.inr waits), barred, free,
    fun idle => (exec_hartResponseTimeout hn).trans (congrArg _ (State.hartRetry_idle idle)), fun c res failed => ?_,
    fun on => burstFrame.trans (by rw [if_neg on]; rfl), fun off => burstFrame.trans (by rw [if_pos off]),
    fun q res now => State.hartFinish_shows hn now⟩
  · rw [intact, if_pos bursts]
    rfl
  · rw [intact, if_neg other, if_pos foreign]
  · rw [intact, if_neg other, if_neg (by simp [own]), if_neg (not_not.mpr goes)]
  · rw [intact, if_neg other, if_neg (by simp [own]), if_pos ends]
  · have retries : exec c s = .next (s.hartRetry n res us) := by
      rcases failed with ⟨rfl, rfl⟩ | ⟨rfl, rfl⟩
      · exact exec_hartResponseFrame_damaged hn
      · exact exec_hartResponseTimeout hn
    refine ⟨fun idle => ?_, fun q now => ⟨fun ends => ?_, fun goes again => ?_, fun goes spent => ?_⟩⟩
    · rw [retries, State.hartRetry_idle idle]
    · rw [retries, State.hartRetry_eq now, if_pos ends]
    · rw [retries, State.hartRetry_eq now, if_neg (not_not.mpr goes), if_pos again]
    · rw [retries, State.hartRetry_eq now, if_neg (not_not.mpr goes), if_neg (Nat.not_le.mpr spent)]

end Sys2Proof.Machine
end

section
/-! SUPPORT. The registers of the analog channels, and what raising and dropping a diagnostic of a channel leaves of the state
(R268, R281). -/

namespace Sys2Proof.Machine

open Sys2Proof Sys2Proof.Stated

variable {s t u : State} {n m b c : Nat}

/-! ## The entries of the channels (R281) -/

theorem ach_inj {sub sub' : Nat} (h : sub < 256) (h' : sub' < 256) : ach n sub = ach m sub' ↔ n = m ∧ sub = sub' := by
  unfold ach keyOf
  omega

theorem ach_ne_causeOf {sub g : Nat} (hn : n < 16) (hs : sub < 256) : ach n sub ≠ causeOf g := by
  unfold ach causeOf keyOf
  omega

/-- The entries of channels lie above those of the module state and of the error task. -/
theorem ach_ne_low {sub k : Nat} (hk : k < 0x291000) : ach n sub ≠ k := by
  unfold ach keyOf
  omega

/-- The status word of a channel has 32 bits. -/
theorem entryBits_anaStatus (hn : n < 16) : entryBits (ach n 8) = 32 :=
  have layout : OneLayout 0x2910 16 := by decide +kernel
  (layout.entryBits_add hn (by decide)).trans (by decide +kernel)

theorem State.anaBit_of_reg (h : t.reg (ach n 8) = s.reg (ach n 8)) : t.anaBit n b = s.anaBit n b :=
  congrArg (·.testBit b) h

theorem State.anaBit_setCause {g k : Nat} (hn : n < 16) : (s.setCause g k).anaBit n b = s.anaBit n b :=
  State.anaBit_of_reg (State.reg_setCause_other (ach_ne_causeOf hn (by decide)))

/-- A stored bit of a status word is the one written last. -/
theorem State.anaBit_setBit {v : Bool} (hn : n < 16) (hc : c < 32) :
    (s.setBit (ach m 8) b v).anaBit n c = if n = m ∧ c = b then v else s.anaBit n c := by
  by_cases same : n = m
  · subst same
    simp only [true_and]
    exact s.testBit_reg_setBit b v ((entryBits_anaStatus hn).symm ▸ hc)
  · have key : ach n 8 ≠ ach m 8 := fun e => same ((ach_inj (by decide) (by decide)).mp e).1
    rw [if_neg fun e => same e.1]
    exact State.anaBit_of_reg (s.reg_setReg_other _ _ _ key)

theorem ana_of_registers (h : Registers s t) : t.ana = s.ana := (congrArg State.ana h :)
theorem art_of_registers (h : Registers s t) : t.art n = s.art n := State.art_of_ana (congrArg _ (ana_of_registers h))
theorem anaMode_of_registers (h : Registers s t) : t.anaMode n = s.anaMode n :=
  congrArg AnalogRt.modeInForce (art_of_registers h)

/-! ## Raising a diagnostic (R268) -/

/-- A diagnostic is noted: counted, recorded for the error task, and its cause set. -/
def State.anaNote (s : State) (n b : Nat) : State :=
  ((s.count (ach n 0xD)).recordError 4 (0x100 + n) (anaCode b)).setCause 8 0

theorem State.anaRaise_eq :
    s.anaRaise n b = if s.anaBit n b then s else (s.setBit (ach n 8) b true).anaNote n b := rfl

theorem State.registers_anaNote : Registers s (s.anaNote n b) :=
  registers_trans (registers_trans registers_setReg registers_recordError) registers_setCause

theorem State.reg_anaNote {k : Nat} (record : k ≠ 0x212006) (cause : k ≠ causeOf 8) :
    (s.anaNote n b).reg k = (s.count (ach n 0xD)).reg k := by
  rw [State.anaNote, State.reg_setCause_other cause, State.reg_recordError_other record]

theorem State.only_anaNote : Only [ach n 0xD, 0x212006, causeOf 8] s (s.anaNote n b) := by
  intro k hk
  simp only [List.mem_cons, List.not_mem_nil, or_false, not_or] at hk
  obtain ⟨count, record, cause⟩ := hk
  rw [State.reg_anaNote record cause]
  exact s.reg_setReg_other _ _ _ count

theorem State.cause_anaNote : ((s.anaNote n b).reg (causeOf 8)).testBit 0 = true :=
  State.cause_setCause (entryBits_causeOf_eight ▸ by decide)

theorem State.counts_anaNote (hn : n < 16) : Counts (ach n 0xD) 1 s (s.anaNote n b) := by
  rw [Counts, State.reg_anaNote (ach_ne_low (by decide)) (ach_ne_causeOf hn (by decide))]
  exact s.reg_count _

/-- In RUN the error task has the record of the diagnostic. -/
theorem State.record_anaNote (run : s.mode = stRun) :
    (s.anaNote n b).reg 0x212006 = (⟨4, 0x100 + n, anaCode b, s.tickNo⟩ : ErrRecord).number := by
  have kept {k : Nat} (h : k < 0x291000) : (s.count (ach n 0xD)).reg k = s.reg k :=
    s.reg_setReg_other _ _ _ (ach_ne_low h).symm
  rw [State.anaNote, State.reg_setCause_other (by decide), State.reg_recordError ((kept (by decide)).trans run),
    show (s.count (ach n 0xD)).tickNo = s.tickNo from kept (by decide)]

/-- A noted diagnostic writes no status word. -/
theorem State.status_anaNote (hm : m < 16) : (s.anaNote n b).reg (ach m 8) = s.reg (ach m 8) :=
  State.only_anaNote _ (by simp [ach_ne_causeOf hm, ach_ne_low, ach_inj])

/-- The registers that a raised diagnostic writes. -/
abbrev anaKeys (n : Nat) : List Nat := [ach n 8, ach n 0xD, 0x212006, causeOf 8]

theorem State.registers_anaRaise : Registers s (s.anaRaise n b) := by
  rw [State.anaRaise_eq]
  split
  · exact registers_refl
  · exact registers_trans registers_setReg State.registers_anaNote

theorem State.only_anaRaise : Only (anaKeys n) s (s.anaRaise n b) := by
  rw [State.anaRaise_eq]
  split
  · exact fun _ _ => rfl
  · exact only_trans (State.only_setReg_of_mem (by simp)) (only_of_subset (by simp) State.only_anaNote)

theorem State.anaBit_anaRaise (hm : m < 16) (hc : c < 32) :
    (s.anaRaise n b).anaBit m c = if m = n ∧ c = b then true else s.anaBit m c := by
  rw [State.anaRaise_eq]
  split
  next set =>
    split
    next same => rw [same.1, same.2, set]
    next => rfl
  next => rw [State.anaBit_of_reg (State.status_anaNote hm), State.anaBit_setBit hm hc]

theorem State.anaRaise_raises (hn : n < 16) (hb : b < 32) : AnaRaises n b s (s.anaRaise n b) := by
  rw [State.anaRaise_eq]
  refine ⟨fun set => if_pos set, fun clear => ?_⟩
  rw [if_neg (by simp [clear])]
  have written {k : Nat} (h : k ≠ ach n 8) : (s.setBit (ach n 8) b true).reg k = s.reg k := s.reg_setReg_other _ _ _ h
  have early {k : Nat} (h : k < 0x291000) : (s.setBit (ach n 8) b true).reg k = s.reg k := written (ach_ne_low h).symm
  refine ⟨?_, ?_, State.cause_anaNote, registers_trans registers_setReg State.registers_anaNote, fun run => ?_,
    only_trans (State.only_setReg_of_mem (by simp)) (only_of_subset (by simp) State.only_anaNote)⟩
  · rw [SetsBit, State.status_anaNote hn]
    exact s.setsBit_setBit (entryBits_anaStatus hn ▸ hb)
  · rw [Counts, State.counts_anaNote hn, written (by simp [ach_inj])]
  · rw [State.record_anaNote ((early (by decide)).trans run), State.tickNo, early (by decide)]
    rfl

/-! ## Dropping a diagnostic (R268) -/

theorem State.registers_anaDrop : Registers s (s.anaDrop n b) := by
  unfold State.anaDrop
  split
  · exact registers_trans registers_setReg registers_setCause
  · exact registers_refl

theorem State.only_anaDrop : Only [ach n 8, causeOf 8] s (s.anaDrop n b) := by
  unfold State.anaDrop
  split
  · exact only_trans (State.only_setReg_of_mem (by simp)) (State.only_setCause_of_mem (by simp))
  · exact fun _ _ => rfl

theorem State.anaBit_anaDrop (hm : m < 16) (hc : c < 32) :
    (s.anaDrop n b).anaBit m c = if m = n ∧ c = b then false else s.anaBit m c := by
  unfold State.anaDrop
  split
  · rw [State.anaBit_setCause hm, State.anaBit_setBit hm hc]
  next clear =>
    split
    next same => simpa [same.1, same.2] using clear
    next => rfl

theorem State.anaDrop_drops (hn : n < 16) (hb : b < 32) : AnaDrops n b s (s.anaDrop n b) := by
  refine ⟨fun clear => if_neg (by simp [clear]), fun set => ⟨?_, ?_, State.registers_anaDrop, State.only_anaDrop, ?_⟩⟩
  · rw [State.anaBit_anaDrop hn hb, if_pos ⟨rfl, rfl⟩]
  · rw [State.anaDrop, if_pos set]
    exact State.cause_setCause (entryBits_causeOf_eight ▸ by decide)
  · intro m hm other
    rw [State.anaBit_anaDrop hn (by omega), if_neg fun e => other e.2]

/-! ## A diagnostic that follows a condition -/

theorem State.registers_anaFlag {on : Bool} : Registers s (s.anaFlag n b on) := by
  unfold State.anaFlag
  split
  · exact State.registers_anaRaise
  · exact State.registers_anaDrop

theorem State.only_anaFlag {on : Bool} : Only (anaKeys n) s (s.anaFlag n b on) := by
  unfold State.anaFlag
  split
  · exact State.only_anaRaise
  · exact only_of_subset (by simp) State.only_anaDrop

theorem State.anaBit_anaFlag {on : Bool} (hm : m < 16) (hc : c < 32) :
    (s.anaFlag n b on).anaBit m c = if m = n ∧ c = b then on else s.anaBit m c := by
  unfold State.anaFlag
  split
  next set => rw [State.anaBit_anaRaise hm hc, set]
  next clear => rw [State.anaBit_anaDrop hm hc, Bool.eq_false_of_not_eq_true clear]

/-- What each step writes, all of them together write. -/
theorem State.each_registers_only {α : Type} {keys : List Nat} {xs : List α} {f : State → α → State}
    (step : ∀ t, ∀ x ∈ xs, Registers t (f t x) ∧ Only keys t (f t x)) :
    Registers s (s.each xs f) ∧ Only keys s (s.each xs f) := by
  refine List.foldlRecOn (motive := fun t => Registers s t ∧ Only keys s t) xs f ⟨registers_refl, fun _ _ => rfl⟩ ?_
  intro t h x hx
  obtain ⟨registers, only⟩ := h
  obtain ⟨registers', only'⟩ := step t x hx
  exact ⟨registers_trans registers registers', only_trans only only'⟩

end Sys2Proof.Machine
end

section
/-! SUPPORT. A mode change of an analog channel: the mode in force and its cell, and the diagnostics that fall (R255, R269,
R478). -/

namespace Sys2Proof.Machine

open Sys2Proof Sys2Proof.Stated

variable {s t u : State} {n m b c : Nat}

/-! ## The mode in force and the stored mode (R269, R478) -/

theorem State.art_useMode : (s.useMode n m).art n = { s.art n with modeInForce := m } :=
  (State.art_of_ana rfl).trans State.art_setArt_same

theorem State.art_useMode_other {k : Nat} (h : k ≠ n) : (s.useMode n m).art k = s.art k :=
  (State.art_of_ana rfl).trans (State.art_setArt_other h)

theorem State.storedMode_useMode : (s.useMode n m).storedMode n = m := Sparse.get_set_same _ _ _ _

theorem State.storedMode_useMode_other {k : Nat} (h : k ≠ n) : (s.useMode n m).storedMode k = s.storedMode k :=
  Sparse.get_set_other _ _ _ _ _ _ h

/-- The pending mode is taken, before the terminal is in it. -/
def State.takePending (s : State) (n : Nat) : State :=
  (s.setArt n { s.art n with pendingMode := none }).setBit (ach n 8) bModePending false

theorem State.art_takePending : (s.takePending n).art n = { s.art n with pendingMode := none } :=
  (State.art_of_ana rfl).trans State.art_setArt_same

theorem State.art_takePending_other {k : Nat} (h : k ≠ n) : (s.takePending n).art k = s.art k :=
  (State.art_of_ana rfl).trans (State.art_setArt_other h)

theorem State.anaBit_takePending (hn : n < 16) (hc : c < 32) :
    (s.takePending n).anaBit n c = if c = bModePending then false else s.anaBit n c := by
  refine (State.anaBit_setBit (s := s.setArt n _) hn hc).trans ?_
  simp only [true_and]
  rfl

theorem State.only_takePending : Only [ach n 8] s (s.takePending n) :=
  State.only_setReg_of_mem (s := s.setArt n _) (by simp)

/-- The terminal is in a new mode, with the comparisons of R264 begun afresh; its diagnostics still stand. -/
def State.changeMode (s : State) (n m : Nat) : State :=
  ((s.takePending n).setArt n { (s.takePending n).art n with shortRun := 0, fullRun := 0 }).useMode n m

theorem State.art_changeMode : (s.changeMode n m).art n =
    { s.art n with pendingMode := none, modeInForce := m, shortRun := 0, fullRun := 0 } := by
  rw [State.changeMode, State.art_useMode, State.art_setArt_same, State.art_takePending]

theorem State.anaMode_changeMode : (s.changeMode n m).anaMode n = m :=
  congrArg AnalogRt.modeInForce State.art_changeMode

theorem State.anaBit_changeMode (hn : n < 16) (hc : c < 32) :
    (s.changeMode n m).anaBit n c = if c = bModePending then false else s.anaBit n c :=
  State.anaBit_takePending (s := s) hn hc

theorem State.only_changeMode : Only [ach n 8] s (s.changeMode n m) := State.only_takePending (s := s)

theorem State.applyMode_idle (h : (s.art n).pendingMode = none ∨ s.anaBusy n = true) : s.applyMode n = s := by
  unfold State.applyMode
  split
  next => rfl
  next pending =>
    have busy : s.anaBusy n = true := by simpa [pending] using h
    rw [if_pos busy]

theorem State.applyMode_same (pending : (s.art n).pendingMode = some m) (free : s.anaBusy n = false)
    (same : m = s.anaMode n) : s.applyMode n = (s.takePending n).useMode n m := by
  unfold State.applyMode
  simp only [pending]
  rw [if_neg (by simp [free]), if_pos same]
  rfl

theorem State.applyMode_changes (pending : (s.art n).pendingMode = some m) (free : s.anaBusy n = false)
    (other : m ≠ s.anaMode n) : s.applyMode n = (s.changeMode n m).anaFresh n := by
  unfold State.applyMode
  simp only [pending]
  rw [if_neg (by simp [free]), if_neg other]
  rfl

/-! ## The diagnostics of the new mode (R255, R268) -/

/-- The diagnostics fall that do not apply to mode `m`. -/
def State.dropStale (s : State) (n m : Nat) : State :=
  s.each ([bFailLow, bFailHigh, bCompliance, bLimit].filter (fun b => !anaApplies m b)) fun t b => t.anaDrop n b

/-- ALARM-UNSURE and the clamp go with COMPLIANCE, where the mode is not an output. -/
def State.clearUnsure (s : State) (n m : Nat) : State :=
  if m = 3 then s else s.each [bAlarmUnsure, bClamp] fun t b => t.setBit (ach n 8) b false

theorem State.anaFresh_eq : s.anaFresh n =
    let t := (s.dropStale n (s.anaMode n)).clearUnsure n (s.anaMode n)
    t.anaFlag n bSupply (s.anaMode n != 0 && t.reg (keyOf (0x2901 + n / 4) 2) == 1) := rfl

/-- Bits that are cleared one after another are clear in the end; the others stay. -/
theorem State.anaBit_each_clears {bs : List Nat} {f : State → Nat → State}
    (clears : ∀ t b, (f t b).anaBit n c = if c = b then false else t.anaBit n c) :
    (s.each bs f).anaBit n c = if c ∈ bs then false else s.anaBit n c := by
  induction bs generalizing s with
  | nil => rfl
  | cons b bs ih =>
    refine (ih (s := f s b)).trans ?_
    rw [clears]
    simp only [List.mem_cons]
    split_ifs <;> simp_all

theorem State.anaBit_dropStale (hn : n < 16) (hc : c < 32) : (s.dropStale n m).anaBit n c =
    if c ∈ [bFailLow, bFailHigh, bCompliance, bLimit] ∧ anaApplies m c = false then false else s.anaBit n c := by
  refine (State.anaBit_each_clears fun t b => ?_).trans ?_
  · rw [State.anaBit_anaDrop hn hc]
    simp only [true_and]
  · exact if_congr (by rw [List.mem_filter, Bool.not_eq_true']) rfl rfl

theorem State.anaBit_clearUnsure (hn : n < 16) (hc : c < 32) : (s.clearUnsure n m).anaBit n c =
    if m ≠ 3 ∧ c ∈ [bAlarmUnsure, bClamp] then false else s.anaBit n c := by
  unfold State.clearUnsure
  split
  next ao => rw [if_neg fun e => e.1 ao]
  next other =>
    refine (State.anaBit_each_clears fun t b => ?_).trans (if_congr (and_iff_right other).symm rfl rfl)
    rw [State.anaBit_setBit hn hc]
    simp only [true_and]

theorem State.dropStale_frame : Registers s (s.dropStale n m) ∧ Only [ach n 8, causeOf 8] s (s.dropStale n m) :=
  State.each_registers_only fun _ _ _ => ⟨State.registers_anaDrop, State.only_anaDrop⟩

theorem State.clearUnsure_frame : Registers s (s.clearUnsure n m) ∧ Only [ach n 8, causeOf 8] s (s.clearUnsure n m) := by
  unfold State.clearUnsure
  split
  · exact ⟨registers_refl, fun _ _ => rfl⟩
  · exact State.each_registers_only fun _ _ _ => ⟨registers_setReg, State.only_setReg_of_mem (by simp)⟩

theorem State.anaFresh_frame : Registers s (s.anaFresh n) ∧ Only (anaKeys n) s (s.anaFresh n) := by
  obtain ⟨dropped, onlyDropped⟩ := State.dropStale_frame (s := s) (n := n) (m := s.anaMode n)
  obtain ⟨cleared, onlyCleared⟩ := State.clearUnsure_frame (s := s.dropStale n (s.anaMode n)) (n := n) (m := s.anaMode n)
  rw [State.anaFresh_eq]
  exact ⟨registers_trans (registers_trans dropped cleared) State.registers_anaFlag,
    only_trans (only_of_subset (by simp) (only_trans onlyDropped onlyCleared)) State.only_anaFlag⟩

/-- The status bits after a mode change: SUPPLY follows the supply, and what the mode does not have is clear. -/
theorem State.anaBit_anaFresh (hn : n < 16) (hc : c < 32) : (s.anaFresh n).anaBit n c =
    if c = bSupply then s.anaMode n != 0 && s.reg (keyOf (0x2901 + n / 4) 2) == 1
    else if s.anaMode n ≠ 3 ∧ c ∈ [bAlarmUnsure, bClamp] then false
    else if c ∈ [bFailLow, bFailHigh, bCompliance, bLimit] ∧ anaApplies (s.anaMode n) c = false then false
    else s.anaBit n c := by
  have supply : keyOf (0x2901 + n / 4) 2 ∉ [ach n 8, causeOf 8] := by
    simp only [List.mem_cons, List.not_mem_nil, or_false, ach, causeOf, keyOf]
    omega
  rw [State.anaFresh_eq]
  dsimp only
  rw [State.anaBit_anaFlag hn hc, State.anaBit_clearUnsure hn hc, State.anaBit_dropStale hn hc,
    State.clearUnsure_frame.2 _ supply, State.dropStale_frame.2 _ supply]
  simp only [true_and]

theorem State.anaFresh_clears (hn : n < 16) :
    let t := s.anaFresh n
    (s.anaMode n ≠ 1 → s.anaMode n ≠ 2 → t.anaBit n bFailLow = false ∧ t.anaBit n bFailHigh = false) ∧
    (s.anaMode n = 1 ∨ s.anaMode n = 2 → t.anaBit n bFailLow = s.anaBit n bFailLow ∧
      t.anaBit n bFailHigh = s.anaBit n bFailHigh) ∧
    (s.anaMode n ≠ 3 → t.anaBit n bCompliance = false ∧ t.anaBit n bAlarmUnsure = false) ∧
    (s.anaMode n ≠ 2 → t.anaBit n bLimit = false) ∧ t.anaBit n bMiswire = s.anaBit n bMiswire ∧
    (t.anaBit n bSupply = true ↔ s.anaMode n ≠ 0 ∧ s.reg (keyOf (0x2901 + n / 4) 2) = 1) := by
  have bit {c : Nat} (hc : c < 32) := State.anaBit_anaFresh (s := s) hn hc
  refine ⟨fun one two => ?_, fun input => ?_, fun other => ?_, fun other => ?_, ?_, ?_⟩
  · rw [bit (by decide), bit (by decide)]
    simp [anaApplies, one, two]
  · rw [bit (by decide), bit (by decide)]
    simp [anaApplies, input]
  · rw [bit (by decide), bit (by decide)]
    simp [anaApplies, other]
  · rw [bit (by decide)]
    simp [anaApplies, other]
  · rw [bit (by decide)]
    simp
  · rw [bit (by decide)]
    simp

/-! ## What every applied mode leaves -/

/-- Mode `m` of channel `n` is applied: its cell holds it, no other channel's mode moves, and nothing is pending. -/
def ModeTaken (n m : Nat) (s t : State) : Prop :=
  t.storedMode n = m ∧ (∀ k, k ≠ n → t.art k = s.art k ∧ t.storedMode k = s.storedMode k) ∧
  t.ana.responses = s.ana.responses ∧ t.anaBit n bModePending = false

theorem modeTaken_same (hn : n < 16) : ModeTaken n m s ((s.takePending n).useMode n m) :=
  ⟨State.storedMode_useMode, fun _ other => ⟨(State.art_useMode_other other).trans (State.art_takePending_other other),
    State.storedMode_useMode_other other⟩, rfl, State.anaBit_takePending (s := s) hn (by decide)⟩

theorem modeTaken_changeMode (hn : n < 16) : ModeTaken n m s (s.changeMode n m) :=
  ⟨State.storedMode_useMode, fun _ other => ⟨((State.art_useMode_other other).trans (State.art_setArt_other other)).trans
    (State.art_takePending_other other), State.storedMode_useMode_other other⟩, rfl, State.anaBit_changeMode hn (by decide)⟩

theorem ModeTaken.of_registers (taken : ModeTaken n m s u) (h : Registers u t)
    (bit : t.anaBit n bModePending = u.anaBit n bModePending) : ModeTaken n m s t := by
  obtain ⟨cell, others, responses, idle⟩ := taken
  have stored (k : Nat) : t.storedMode k = u.storedMode k := by rw [State.storedMode, ana_of_registers h, State.storedMode]
  exact ⟨(stored n).trans cell, fun k other => by rw [art_of_registers h, stored]; exact others k other,
    by rw [ana_of_registers h, responses], bit.trans idle⟩

theorem State.modeTaken_applyMode (hn : n < 16) (pending : (s.art n).pendingMode = some m) (free : s.anaBusy n = false) :
    ModeTaken n m s (s.applyMode n) := by
  by_cases same : m = s.anaMode n
  · rw [State.applyMode_same pending free same]
    exact modeTaken_same hn
  · rw [State.applyMode_changes pending free same]
    refine (modeTaken_changeMode hn).of_registers State.anaFresh_frame.1 ?_
    rw [State.anaBit_anaFresh hn (by decide)]
    simp

/-! ## The two mode changes -/

/-- The mode in force asked again: only PENDING falls. -/
theorem State.applyMode_same_shows (hn : n < 16) (pending : (s.art n).pendingMode = some m) (free : s.anaBusy n = false)
    (same : m = s.anaMode n) :
    let t := s.applyMode n
    t.art n = { s.art n with pendingMode := none } ∧ Only [ach n 8] s t ∧
      ∀ b, b < 16 → b ≠ bModePending → t.anaBit n b = s.anaBit n b := by
  rw [State.applyMode_same pending free same]
  refine ⟨?_, State.only_takePending (s := s), fun b hb other => ?_⟩
  · rw [State.art_useMode, State.art_takePending, same]
    rfl
  · exact (State.anaBit_takePending (s := s) hn (by omega)).trans (if_neg other)

/-- A new mode: the comparisons begin afresh, and the diagnostics fall that it does not have. -/
theorem State.applyMode_changes_shows (hn : n < 16) (pending : (s.art n).pendingMode = some m) (free : s.anaBusy n = false)
    (other : m ≠ s.anaMode n) :
    let t := s.applyMode n
    t.art n = { s.art n with pendingMode := none, modeInForce := m, shortRun := 0, fullRun := 0 } ∧
      (m ≠ 1 → m ≠ 2 → t.anaBit n bFailLow = false ∧ t.anaBit n bFailHigh = false) ∧
      (m = 1 ∨ m = 2 → t.anaBit n bFailLow = s.anaBit n bFailLow ∧ t.anaBit n bFailHigh = s.anaBit n bFailHigh) ∧
      (m ≠ 3 → t.anaBit n bCompliance = false ∧ t.anaBit n bAlarmUnsure = false) ∧
      (m ≠ 2 → t.anaBit n bLimit = false) ∧ t.anaBit n bMiswire = s.anaBit n bMiswire ∧
      (t.anaBit n bSupply = true ↔ m ≠ 0 ∧ s.reg (keyOf (0x2901 + n / 4) 2) = 1) ∧ Only (anaKeys n) s t := by
  obtain ⟨registers, only⟩ := State.anaFresh_frame (s := s.changeMode n m) (n := n)
  obtain ⟨falls, stays, unsure, limit, miswire, supply⟩ := State.anaFresh_clears (s := s.changeMode n m) hn
  have bit {c : Nat} (hc : c < 32) (h : c ≠ bModePending) : (s.changeMode n m).anaBit n c = s.anaBit n c :=
    (State.anaBit_changeMode hn hc).trans (if_neg h)
  have supplyEntry : (s.changeMode n m).reg (keyOf (0x2901 + n / 4) 2) = s.reg (keyOf (0x2901 + n / 4) 2) :=
    State.only_changeMode _ (by simp only [List.mem_singleton, ach, keyOf]; omega)
  rw [State.anaMode_changeMode] at falls stays unsure limit supply
  rw [bit (by decide) (by decide), bit (by decide) (by decide)] at stays
  rw [bit (by decide) (by decide)] at miswire
  rw [supplyEntry] at supply
  rw [State.applyMode_changes pending free other]
  exact ⟨(art_of_registers registers).trans State.art_changeMode, falls, stays, unsure, limit, miswire, supply,
    only_trans (only_of_subset (by simp) State.only_changeMode) only⟩

end Sys2Proof.Machine
end

section
/-! SUPPORT. The tracking supplies of the analog slices (R255). -/

namespace Sys2Proof.Machine

open Sys2Proof Sys2Proof.Stated

variable {s : State} {n m k i : Nat}

/-- The registers that the diagnostics of the channels of slice `k` write. -/
def sliceAnaKeys (k : Nat) : List Nat := (List.range 4).flatMap fun i => anaKeys (4 * k + i)

theorem anaKeys_subset_slice (hi : i < 4) : anaKeys (4 * k + i) ⊆ sliceAnaKeys k := fun _ h =>
  List.mem_flatMap.mpr ⟨i, List.mem_range.mpr hi, h⟩

theorem supply_not_mem_slice {sub : Nat} (hk : k < 4) (hs : sub < 256) : keyOf (0x2901 + k) sub ∉ sliceAnaKeys k := by
  intro h
  obtain ⟨i, hi, mem⟩ := List.mem_flatMap.mp h
  simp only [List.mem_cons, List.not_mem_nil, or_false, ach, causeOf, keyOf] at mem
  omega

theorem status_not_mem_slice (hn : n < 16) (other : n / 4 ≠ k) : ach n 8 ∉ sliceAnaKeys k := by
  intro h
  obtain ⟨i, hi, mem⟩ := List.mem_flatMap.mp h
  rw [List.mem_range] at hi
  simp only [List.mem_cons, List.not_mem_nil, or_false, ach, causeOf, keyOf] at mem
  omega

theorem entryBits_supply (hk : k < 4) : entryBits (keyOf (0x2901 + k) 2) = 8 :=
  have layout : OneLayout 0x2901 4 := by decide +kernel
  (layout.entryBits_add hk (by decide)).trans (by decide +kernel)

theorem ach_ne_supply {sub sub' : Nat} (hk : k < 4) (hs : sub' < 256) : ach n sub ≠ keyOf (0x2901 + k) sub' := by
  unfold ach keyOf
  omega

/-- A configured channel reports the loss of its supply. -/
def State.markSupply (s : State) (k i : Nat) : State :=
  if s.anaMode (4 * k + i) = 0 then s else s.anaRaise (4 * k + i) bSupply

/-- The supply of a slice is out of regulation, before its channels report. -/
def State.loseSupply (s : State) (k : Nat) : State :=
  (s.setReg (keyOf (0x2901 + k) 2) 1).count (keyOf (0x2901 + k) 3)

theorem exec_supplySet (hk : k < 4) : exec (.supplySet k) s = .next (if s.reg (keyOf (0x2901 + k) 2) = 1 then s
    else (s.loseSupply k).each (List.range 4) fun t i => t.markSupply k i) := next_of_valid (decide_eq_true hk)

theorem exec_supplyClear (hk : k < 4) : exec (.supplyClear k) s = .next ((s.setReg (keyOf (0x2901 + k) 2) 0).each
    (List.range 4) fun t i => t.anaDrop (4 * k + i) bSupply) := next_of_valid (decide_eq_true hk)

theorem State.registers_markSupply : Registers s (s.markSupply k i) := by
  unfold State.markSupply
  split
  · exact registers_refl
  · exact State.registers_anaRaise

theorem State.markSupply_marks (hk : k < 4) (hi : i < 4) (configured : (s.markSupply k i).anaMode (4 * k + i) ≠ 0) :
    (s.markSupply k i).anaBit (4 * k + i) bSupply = true := by
  rw [anaMode_of_registers State.registers_markSupply] at configured
  rw [State.markSupply, if_neg configured, State.anaBit_anaRaise (by omega) (by decide), if_pos ⟨rfl, rfl⟩]

theorem State.markSupply_keeps (hm : m < 16) (set : s.anaBit m bSupply = true) :
    (s.markSupply k i).anaBit m bSupply = true := by
  unfold State.markSupply
  split
  · exact set
  · rw [State.anaBit_anaRaise hm (by decide), set, ite_self]

theorem State.markSupply_frame (hi : i < 4) :
    Registers s (s.markSupply k i) ∧ Only (sliceAnaKeys k) s (s.markSupply k i) := by
  refine ⟨State.registers_markSupply, ?_⟩
  unfold State.markSupply
  split
  · exact fun _ _ => rfl
  · exact only_of_subset (anaKeys_subset_slice hi) State.only_anaRaise

/-- Every configured channel of the slice reports the loss of its supply. -/
theorem State.each_markSupply (hk : k < 4) (hi : i < 4) (configured : s.anaMode (4 * k + i) ≠ 0) :
    (s.each (List.range 4) fun t i => t.markSupply k i).anaBit (4 * k + i) bSupply = true := by
  have kept := (State.each_registers_only (s := s) (xs := List.range 4) (f := fun t i => t.markSupply k i)
    fun _ _ h => State.markSupply_frame (List.mem_range.mp h)).1
  refine State.each_reaches (P := fun t i => i < 4 → t.anaMode (4 * k + i) ≠ 0 → t.anaBit (4 * k + i) bSupply = true)
    (fun t i hi => State.markSupply_marks hk hi) (fun t i j set hj on => ?_) i (List.mem_range.mpr hi) hi
    (by rwa [anaMode_of_registers kept])
  rw [anaMode_of_registers State.registers_markSupply] at on
  exact State.markSupply_keeps (by omega) (set hj on)

theorem State.supplySet_shows (hk : k < 4) :
    let t := (s.loseSupply k).each (List.range 4) fun t i => t.markSupply k i
    t.reg (keyOf (0x2901 + k) 2) = 1 ∧ Counts (keyOf (0x2901 + k) 3) 1 s t ∧ Registers s t ∧
      (∀ i, i < 4 → s.anaMode (4 * k + i) ≠ 0 → t.anaBit (4 * k + i) bSupply = true) ∧
      (∀ i, i < 16 → i / 4 ≠ k → t.reg (ach i 8) = s.reg (ach i 8)) := by
  obtain ⟨registers, only⟩ := State.each_registers_only (s := s.loseSupply k) (xs := List.range 4)
    (f := fun t i => t.markSupply k i) fun _ _ h => State.markSupply_frame (List.mem_range.mp h)
  have apart : keyOf (0x2901 + k) 2 ≠ keyOf (0x2901 + k) 3 := by unfold keyOf; omega
  have lost : Registers s (s.loseSupply k) := registers_trans registers_setReg registers_setReg
  refine ⟨?_, ?_, registers_trans lost registers, fun i hi configured => ?_, fun i hi other => ?_⟩
  · rw [only _ (supply_not_mem_slice hk (by decide)), State.loseSupply, State.count, State.countBy,
      State.reg_setReg_other _ _ _ _ apart, State.reg_setReg_same, fit_of_lt (entryBits_supply hk ▸ by decide)]
  · rw [Counts, only _ (supply_not_mem_slice hk (by decide)), State.loseSupply, State.reg_count,
      State.reg_setReg_other _ _ _ _ apart.symm]
  · exact State.each_markSupply hk hi (by rwa [anaMode_of_registers lost])
  · rw [only _ (status_not_mem_slice hi other), State.loseSupply, State.count, State.countBy,
      State.reg_setReg_other _ _ _ _ (ach_ne_supply hk (by decide)),
      State.reg_setReg_other _ _ _ _ (ach_ne_supply hk (by decide))]

theorem State.supplyClear_shows (hk : k < 4) :
    let t := (s.setReg (keyOf (0x2901 + k) 2) 0).each (List.range 4) fun t i => t.anaDrop (4 * k + i) bSupply
    t.reg (keyOf (0x2901 + k) 2) = 0 ∧ Registers s t ∧ (∀ i, i < 4 → t.anaBit (4 * k + i) bSupply = false) ∧
      (∀ i, i < 16 → i / 4 ≠ k → t.reg (ach i 8) = s.reg (ach i 8)) := by
  obtain ⟨registers, only⟩ := State.each_registers_only (s := s.setReg (keyOf (0x2901 + k) 2) 0) (xs := List.range 4)
    (f := fun t i => t.anaDrop (4 * k + i) bSupply) (keys := sliceAnaKeys k) fun _ _ h => ⟨State.registers_anaDrop,
      only_of_subset (List.Subset.trans (by simp) (anaKeys_subset_slice (List.mem_range.mp h))) State.only_anaDrop⟩
  refine ⟨?_, registers_trans registers_setReg registers, fun i hi => ?_, fun i hi other => ?_⟩
  · rw [only _ (supply_not_mem_slice hk (by decide)), State.reg_setReg_same, fit, Nat.zero_mod]
  · refine State.each_reaches (P := fun t i => i < 4 → t.anaBit (4 * k + i) bSupply = false) (fun t i hi => ?_)
      (fun t i j clear hj => ?_) i (List.mem_range.mpr hi) hi
    · rw [State.anaBit_anaDrop (by omega) (by decide), if_pos ⟨rfl, rfl⟩]
    · rw [State.anaBit_anaDrop (by omega) (by decide), clear hj, ite_self]
  · rw [only _ (status_not_mem_slice hi other), State.reg_setReg_other _ _ _ _ (ach_ne_supply hk (by decide))]

end Sys2Proof.Machine
end

section
/-! SUPPORT. The diagnostics of the analog channels: where each is monitored, and how it clears (R265 to R269). -/

namespace Sys2Proof.Machine

open Sys2Proof Sys2Proof.Stated

variable {s : State} {n : Nat}

/-! ## The events as the model runs them -/

theorem exec_limitDetect (hn : n < 16) :
    exec (.limitDetect n) s = .next (if s.anaMode n = 2 then s.anaRaise n bLimit else s) := next_of_valid (decide_eq_true hn)

theorem State.isAo_iff : s.isAo n = true ↔ s.anaMode n = 3 := beq_iff_eq

theorem exec_analogOvertempTrip (hn : n < 16) : exec (.analogOvertempTrip n) s =
    .next (if s.anaMode n = 2 ∨ (s.anaMode n = 3 ∧ s.active = true) then s.anaRaise n bAnaOvertemp else s) :=
  (next_of_valid (decide_eq_true hn)).trans
    (congrArg _ (if_congr (or_congr .rfl (and_congr State.isAo_iff .rfl)) rfl rfl))

theorem exec_complianceSet (hn : n < 16) : exec (.complianceSet n) s =
    .next (if s.anaMode n = 3 ∧ s.active = true ∧ 3 ≤ (s.art n).shortRun
      then (s.anaRaise n bCompliance).setBit (ach n 8) bAlarmUnsure true else s) :=
  (next_of_valid (decide_eq_true hn)).trans (congrArg _ (if_congr
    (by rw [Bool.and_eq_true, Bool.and_eq_true, State.isAo_iff, decide_eq_true_eq, and_assoc]) rfl rfl))

theorem exec_complianceClear (hn : n < 16) : exec (.complianceClear n) s =
    .next (if 3 ≤ (s.art n).fullRun then (s.anaDrop n bCompliance).setBit (ach n 8) bAlarmUnsure false else s) :=
  next_of_valid (decide_eq_true hn)

theorem exec_miswireDetect (hn : n < 16) : exec (.miswireDetect n) s = .next (if s.anaMode n = 0 then s
    else (((s.anaRaise n bMiswire).setArt n { s.art n with isolated := true, probes := 0 }).hartFinish n 5 0 []).hartFlush n) :=
  next_of_valid (decide_eq_true hn)

theorem exec_analogModeChangeApplied (hn : n < 16) : exec (.analogModeChangeApplied n) s =
    .next (if s.tick.point = .d ∧ s.tick.nowNs = s.tick.datumNs then s.applyMode n else s) :=
  next_of_valid (decide_eq_true hn)

/-! ## COMPLIANCE (R265) -/

theorem State.complianceSet_shows (hn : n < 16) :
    let t := (s.anaRaise n bCompliance).setBit (ach n 8) bAlarmUnsure true
    t.anaBit n bCompliance = true ∧ t.anaBit n bAlarmUnsure = true ∧ Registers s t ∧ Only (anaKeys n) s t := by
  refine ⟨?_, ?_, registers_trans State.registers_anaRaise registers_setReg,
    only_trans State.only_anaRaise (State.only_setReg_of_mem (by simp))⟩
  · rw [State.anaBit_setBit hn (by decide), State.anaBit_anaRaise hn (by decide)]
    simp
  · rw [State.anaBit_setBit hn (by decide), if_pos ⟨rfl, rfl⟩]

theorem State.complianceClear_shows (hn : n < 16) :
    let t := (s.anaDrop n bCompliance).setBit (ach n 8) bAlarmUnsure false
    t.anaBit n bCompliance = false ∧ t.anaBit n bAlarmUnsure = false ∧ Registers s t ∧ Only [ach n 8, causeOf 8] s t := by
  refine ⟨?_, State.setBit_clears, registers_trans State.registers_anaDrop registers_setReg,
    only_trans State.only_anaDrop (State.only_setReg_of_mem (by simp))⟩
  rw [State.anaBit_setBit hn (by decide), State.anaBit_anaDrop hn (by decide)]
  simp

/-! ## MISWIRE (R267) -/

/-- A probe of an isolated channel that has met `k` clean probes in a row. -/
def State.probed (s : State) (n k : Nat) : State :=
  let t := s.setArt n { s.art n with probes := k }
  if 10 ≤ k then t.anaDrop n bMiswire else t

theorem exec_miswireProbe {clean : Bool} (hn : n < 16) : exec (.miswireProbe n clean) s =
    .next (if s.anaBit n bMiswire then s.probed n (if clean then (s.art n).probes + 1 else 0) else s) :=
  next_of_valid (decide_eq_true hn)

theorem State.probed_shows {k : Nat} (hn : n < 16) :
    let t := s.probed n k
    t.ana = (s.setArt n { s.art n with probes := k }).ana ∧ (10 ≤ k → t.anaBit n bMiswire = false) ∧
      (k < 10 → t.regs = s.regs) ∧ Only [ach n 8, causeOf 8] s t := by
  unfold State.probed
  dsimp only
  split
  next clear =>
    refine ⟨ana_of_registers State.registers_anaDrop, fun _ => ?_, fun early => absurd clear (Nat.not_le.mpr early),
      State.only_anaDrop (s := s.setArt n _)⟩
    rw [State.anaBit_anaDrop hn (by decide), if_pos ⟨rfl, rfl⟩]
  next still => exact ⟨rfl, fun clear => absurd clear still, fun _ => rfl, fun _ _ => rfl⟩

/-- Settles O36: each event by where its diagnostic is monitored, a mode change by whether the mode is new. -/
theorem analogDiagnostics : Obligations.AnalogDiagnostics := by
  intro s n _ hn
  have limit := exec_limitDetect (s := s) hn
  have overtemp := exec_analogOvertempTrip (s := s) hn
  have compliance := exec_complianceSet (s := s) hn
  have complied := exec_complianceClear (s := s) hn
  have miswire := exec_miswireDetect (s := s) hn
  have change := exec_analogModeChangeApplied (s := s) hn
  refine ⟨fun powered => ⟨_, limit.trans (by rw [if_pos powered]), State.anaRaise_raises hn (by decide)⟩,
    fun other => limit.trans (by rw [if_neg other]),
    ⟨_, next_of_valid (decide_eq_true hn), State.anaDrop_drops hn (by decide)⟩,
    fun drives => ⟨_, overtemp.trans (by rw [if_pos drives]), State.anaRaise_raises hn (by decide)⟩,
    fun unpowered idle => overtemp.trans ?_,
    fun ao active short => ⟨_, compliance.trans (by rw [if_pos ⟨ao, active, short⟩]), State.complianceSet_shows hn⟩,
    fun still => compliance.trans ?_,
    fun full => ⟨_, complied.trans (by rw [if_pos full]), State.complianceClear_shows hn⟩,
    fun early => complied.trans (by rw [if_neg (Nat.not_le.mpr early)]), fun used => miswire.trans (by rw [if_neg used]),
    fun unused => miswire.trans (by rw [if_pos unused]),
    fun _ isolated => ⟨_, (exec_miswireProbe hn).trans (by rw [if_pos isolated]), State.probed_shows hn⟩,
    fun _ joined => (exec_miswireProbe hn).trans (by rw [joined, if_neg Bool.false_ne_true]),
    ⟨fun m pending free edge => ⟨_, change.trans (by rw [if_pos edge]), State.applyMode_same_shows hn pending free,
        State.applyMode_changes_shows hn pending free, State.modeTaken_applyMode hn pending free⟩,
      fun waits => change.trans ?_⟩,
    fun k hk => ⟨fun lost => (exec_supplySet hk).trans (by rw [if_pos lost]),
      fun regulated => ⟨_, (exec_supplySet hk).trans (by rw [if_neg regulated]), State.supplySet_shows hk⟩,
      _, exec_supplyClear hk, State.supplyClear_shows hk⟩⟩
  · rw [if_neg]
    rintro (powered | ⟨ao, active⟩)
    · exact unpowered powered
    · rcases idle with other | inactive
      · exact other ao
      · exact nomatch inactive.symm.trans active
  · rw [if_neg]
    rintro ⟨ao, active, short⟩
    rcases still with other | inactive | few
    · exact other ao
    · exact nomatch inactive.symm.trans active
    · omega
  · split
    next edge =>
      rcases waits with none | busy | past
      · rw [State.applyMode_idle (.inl none)]
      · rw [State.applyMode_idle (.inr busy)]
      · exact absurd edge past
    next => rfl

end Sys2Proof.Machine
end

section
/-! SUPPORT. The messages of the time ports: what a port does with each message, what a delay exchange measures, and what a
node passes on (R286 to R290, R298). -/

namespace Sys2Proof.Machine

open Sys2Proof Sys2Proof.Stated

-- One proof at a time, here and below: each further elaboration thread reserves 256 MiB of the memory of the check.
set_option Elab.async false

variable {s t u : State} {p q : Nat} {m y : PtpEvent} {a b : Announce} {x : DelayExchange}

/-! ## Sync and Follow_Up (R286, R290) -/

/-- A message that its port hears counts there, and shows the minor version of the port's peer. -/
def State.noteMessage (s : State) (p minor : Nat) : State := (s.count (tp p 0xF)).setReg (tp p 0xE) minor

/-- The Sync that a port keeps for its Follow_Up. -/
def State.keepSync (s : State) (p : Nat) (y : Option PtpEvent) : State := s.setPrt p { s.prt p with sync := y }

theorem exec_ptpSync_unheard (hp : p < 4) (deaf : s.hears p m.domain m.minor m.udp = false) :
    exec (.ptpSync p m) s = .next s := (next_of_valid (decide_eq_true hp)).trans (by rw [deaf]; rfl)

theorem exec_ptpFollowUp_unheard (hp : p < 4) (deaf : s.hears p m.domain m.minor m.udp = false) :
    exec (.ptpFollowUp p m) s = .next s := (next_of_valid (decide_eq_true hp)).trans (by rw [deaf]; rfl)

theorem exec_ptpSync_twoStep (hp : p < 4) (hears : s.hears p m.domain m.minor m.udp = true) (two : m.twoStep = true) :
    exec (.ptpSync p m) s = .next (((s.noteMessage p m.minor).keepSync p (some m)).passSync p m) :=
  (next_of_valid (decide_eq_true hp)).trans (by rw [hears, two]; rfl)

theorem exec_ptpSync_oneStep (hp : p < 4) (hears : s.hears p m.domain m.minor m.udp = true) (one : m.twoStep = false) :
    exec (.ptpSync p m) s = .next ((((s.noteMessage p m.minor).keepSync p none).portMeasure p m.source
      ((s.noteMessage p m.minor).syncOffset p m.originNs m.rxNs m.correction)).passSync p m) :=
  (next_of_valid (decide_eq_true hp)).trans (by rw [hears, one]; rfl)

theorem exec_ptpFollowUp_alone (hp : p < 4) (hears : s.hears p m.domain m.minor m.udp = true)
    (alone : (s.prt p).sync = none) : exec (.ptpFollowUp p m) s = .next (s.passFollowUp p m) :=
  (next_of_valid (decide_eq_true hp)).trans (by rw [hears, alone]; rfl)

theorem exec_ptpFollowUp_kept (hp : p < 4) (hears : s.hears p m.domain m.minor m.udp = true)
    (kept : (s.prt p).sync = some y) : exec (.ptpFollowUp p m) s = .next
      ((if y.source ≠ m.source ∨ y.sequence ≠ m.sequence then s
        else (s.keepSync p none).portMeasure p m.source (if y.rxNs + y.intervalNs < m.rxNs then none
          else s.syncOffset p m.originNs y.rxNs (y.correction + m.correction))).passFollowUp p m) :=
  (next_of_valid (decide_eq_true hp)).trans (by rw [hears, kept]; rfl)

/-! ## Announce (R287, R298) -/

/-- The master that a plant port takes from an Announce. -/
def State.takeMaster (s : State) (p : Nat) (a : Announce) : State :=
  (s.setPrt p { s.prt p with master := some a, stale := false }).showPorts

theorem exec_ptpAnnounce_unheard (hp : p < 4) (deaf : s.hears p a.domain a.minorVersion a.udp = false) :
    exec (.ptpAnnounce p a) s = .next s := (next_of_valid (decide_eq_true hp)).trans (by rw [deaf]; rfl)

theorem exec_ptpAnnounce_chain (hp : p < 4) (hears : s.hears p a.domain a.minorVersion a.udp = true) (chain : 2 ≤ p) :
    exec (.ptpAnnounce p a) s = .next ((if s.outstation then s.showMaster a false else s).passAnnounce p a) :=
  (next_of_valid (decide_eq_true hp)).trans (by rw [hears, if_pos chain]; rfl)

theorem exec_ptpAnnounce_first (hp : p < 4) (hears : s.hears p a.domain a.minorVersion a.udp = true) (plant : p < 2)
    (first : (s.prt p).master = none) : exec (.ptpAnnounce p a) s = .next (s.takeMaster p a) :=
  (next_of_valid (decide_eq_true hp)).trans (by rw [hears, if_neg (Nat.not_le.mpr plant), first]; rfl)

theorem exec_ptpAnnounce_again (hp : p < 4) (hears : s.hears p a.domain a.minorVersion a.udp = true) (plant : p < 2)
    (old : (s.prt p).master = some b) : exec (.ptpAnnounce p a) s = .next
      (if !(s.prt p).stale && b.source != a.source && listBefore (announceRank b) (announceRank a) then s
       else s.takeMaster p a) :=
  (next_of_valid (decide_eq_true hp)).trans (by rw [hears, if_neg (Nat.not_le.mpr plant), old]; rfl)

/-- The master of a port stands against another's Announce while it is heard and ranks before it. -/
theorem keepsMaster_iff :
    (!(s.prt p).stale && b.source != a.source && listBefore (announceRank b) (announceRank a)) = true ↔
    b.source ≠ a.source ∧ (s.prt p).stale = false ∧ listBefore (announceRank b) (announceRank a) = true := by
  simp only [Bool.and_eq_true, Bool.not_eq_true', bne_iff_ne]
  tauto

/-! ## Delay exchanges (R288, R289) -/

/-- A delay exchange counts, and its port shows the mean delay. -/
def State.showDelay (s : State) (p : Nat) (x : DelayExchange) : State :=
  (s.noteMessage p x.minor).setReg (tp p 0xD) (meanDelay s p x)

/-- The delay of the port is fresh again. -/
def State.freshDelay (s : State) (p : Nat) : State := s.setPrt p { s.prt p with delayAge := 0 }

/-- A delay exchange that its port hears sets the mean delay, and raises its maximum. -/
def State.takeDelay (s : State) (p : Nat) (x : DelayExchange) : State :=
  ((s.showDelay p x).freshDelay p).maxReg 0x2A2003 (meanDelay s p x)

theorem exec_ptpDelayExchange_unheard (hp : p < 4)
    (deaf : s.hears p x.domain x.minor x.udp = false ∨ x.peer ≠ (s.reg (tp p 2) == 2)) :
    exec (.ptpDelayExchange p x) s = .next s := by
  refine (next_of_valid (decide_eq_true hp)).trans (congrArg Host.Outcome.next (if_pos ?_))
  rcases deaf with deaf | other
  · rw [deaf]; rfl
  · rw [bne_iff_ne.mpr other, Bool.or_true]

theorem exec_ptpDelayExchange_heard (hp : p < 4) (hears : s.hears p x.domain x.minor x.udp = true)
    (mechanism : x.peer = (s.reg (tp p 2) == 2)) : exec (.ptpDelayExchange p x) s = .next (s.takeDelay p x) := by
  refine (next_of_valid (decide_eq_true hp)).trans (congrArg Host.Outcome.next ((if_neg ?_).trans ?_))
  · rw [hears, mechanism, bne_self_eq_false]
    decide
  · rw [State.takeDelay, meanDelay, Int.natCast_add]
    rfl

theorem tp_ne_max {sub : Nat} (hp : p < 4) (hs : sub < 256) : 0x2A2003 ≠ tp p sub := by
  unfold tp keyOf
  omega

theorem tp_ne {sub sub' : Nat} (h : sub ≠ sub') : tp p sub ≠ tp p sub' := fun e => h (Nat.add_left_cancel e)

theorem State.maxReg_frame {k v : Nat} : s.maxReg k v = { s with regs := (s.maxReg k v).regs } := by
  unfold State.maxReg
  split <;> rfl

theorem State.only_maxReg {k v : Nat} : Only [k] s (s.maxReg k v) := by
  unfold State.maxReg
  split
  · exact State.only_setReg _ _ _
  · exact fun _ _ => rfl

theorem meanDelay_lt : meanDelay s p x < 2 ^ 32 := Nat.lt_of_le_of_lt (Nat.min_le_right _ _) (by decide)

theorem State.only_noteMessage {minor : Nat} : Only [tp p 0xE, tp p 0xF] s (s.noteMessage p minor) :=
  only_trans (State.only_setReg_of_mem (by simp)) (State.only_setReg_of_mem (by simp))

/-- `t` is `s` but for registers and the time unit. -/
def TimeOnly (s t : State) : Prop := t = { s with regs := t.regs, time := t.time }

theorem TimeOnly.trans (h : TimeOnly s t) (h' : TimeOnly t u) : TimeOnly s u := by
  unfold TimeOnly at *
  rw [h', h]

theorem timeOnly_setReg {k v : Nat} : TimeOnly s (s.setReg k v) := rfl

theorem timeOnly_setPrt {r : PortRt} : TimeOnly s (s.setPrt p r) := rfl

theorem timeOnly_maxReg {k v : Nat} : TimeOnly s (s.maxReg k v) := by
  unfold State.maxReg
  split <;> rfl

theorem State.timeOnly_takeDelay : TimeOnly s (s.takeDelay p x) :=
  (((timeOnly_setReg.trans timeOnly_setReg).trans timeOnly_setReg).trans timeOnly_setPrt).trans timeOnly_maxReg

theorem State.maxReg_time {k v : Nat} : (s.maxReg k v).time = s.time := by
  unfold State.maxReg
  split <;> rfl

theorem State.reg_freshDelay {k : Nat} : (s.freshDelay p).reg k = s.reg k := rfl

theorem State.only_showDelay : Only [tp p 0xD, tp p 0xE, tp p 0xF] s (s.showDelay p x) :=
  only_trans (only_of_subset (by simp) State.only_noteMessage) (State.only_setReg_of_mem (by simp))

theorem State.delay_showDelay (hp : p < 4) : (s.showDelay p x).reg (tp p 0xD) = meanDelay s p x := by
  have bits : ∀ p < 4, entryBits (tp p 0xD) = 32 := by decide +kernel
  rw [State.showDelay, State.reg_setReg_same, fit_of_lt (by rw [bits p hp]; exact meanDelay_lt)]

theorem State.counts_showDelay : Counts (tp p 0xF) 1 s (s.showDelay p x) := by
  rw [Counts, State.showDelay, State.noteMessage, State.reg_setReg_other _ _ _ _ (tp_ne (by decide)),
    State.reg_setReg_other _ _ _ _ (tp_ne (by decide)), State.reg_count]

theorem State.takeDelay_shows (hp : p < 4) :
    let t := s.takeDelay p x
    t.reg (tp p 0xD) = meanDelay s p x ∧ Counts (tp p 0xF) 1 s t ∧
      t.reg 0x2A2003 = max (s.reg 0x2A2003) (meanDelay s p x) ∧ Only [tp p 0xD, tp p 0xE, tp p 0xF, 0x2A2003] s t ∧
      t.time = (s.setPrt p { s.prt p with delayAge := 0 }).time ∧ t = { s with regs := t.regs, time := t.time } := by
  have bits : entryBits 0x2A2003 = 32 := by decide +kernel
  have shown : Only [0x2A2003] (s.showDelay p x) (s.takeDelay p x) :=
    fun k hk => (State.only_maxReg k hk).trans State.reg_freshDelay
  have apart {sub : Nat} (hs : sub < 256) : tp p sub ∉ [0x2A2003] := by simpa using (tp_ne_max hp hs).symm
  refine ⟨?_, ?_, ?_, only_trans (only_of_subset (by simp) State.only_showDelay) (only_of_subset (by simp) shown),
    State.maxReg_time, State.timeOnly_takeDelay⟩
  · rw [shown _ (apart (by decide)), State.delay_showDelay hp]
  · rw [Counts, shown _ (apart (by decide))]
    exact State.counts_showDelay
  · have kept : ((s.showDelay p x).freshDelay p).reg 0x2A2003 = s.reg 0x2A2003 :=
      State.reg_freshDelay.trans (State.only_showDelay _ (by simp [tp_ne_max hp]))
    rw [State.takeDelay, State.reg_maxReg _ (by rw [bits]; exact meanDelay_lt), kept]

/-! ## The transparent clock (R214, R298) -/

theorem State.onward_chain (on : s.onward p = some q) : 2 ≤ p ∧ q = 3 - p := by
  unfold State.onward at on
  split at on
  next passes =>
    simp only [Bool.and_eq_true, decide_eq_true_eq] at passes
    obtain ⟨⟨chain, -⟩, -⟩ := passes
    exact ⟨chain, (Option.some.inj on).symm⟩
  next => exact nomatch on

theorem State.pass_none (off : s.onward p = none) :
    s.passSync p m = s ∧ s.passFollowUp p m = s ∧ s.passAnnounce p a = s := by
  simp only [State.passSync, State.passFollowUp, State.passAnnounce, off, and_self]

theorem State.passAnnounce_onward (on : s.onward p = some q) : s.passAnnounce p a = s.emit (.forwardAnnounce q a) := by
  simp only [State.passAnnounce, on]

theorem State.passFollowUp_onward (on : s.onward p = some q) : s.passFollowUp p m = s.emit (.forwardFollowUp q
    { m with correction := m.correction + (s.prt p).residence + s.reg (tp p 0xD) }) := by
  simp only [State.passFollowUp, on]

theorem State.passSync_twoStep (on : s.onward p = some q) (two : m.twoStep = true) : s.passSync p m =
    (s.draw.2.setPrt p { s.draw.2.prt p with residence := s.draw.1 % 2 ^ 32 }).emit (.forwardSync q m) := by
  simp only [State.passSync, on, two, if_true]

theorem State.passSync_oneStep (on : s.onward p = some q) (one : m.twoStep = false) : s.passSync p m =
    s.draw.2.emit (.forwardSync q
      { m with correction := m.correction + (s.draw.1 % 2 ^ 32 : Nat) + s.reg (tp p 0xD) }) := by
  simp only [State.passSync, on, one, Bool.false_eq_true, if_false]

theorem State.passSync_regs : (s.passSync p m).regs = s.regs := by
  unfold State.passSync
  split
  · rfl
  · dsimp only
    split <;> rfl

/-- Settles O38: each message by whether its port hears it, and then by what its port keeps. -/
theorem ptpMessages : Obligations.PtpMessages := by
  refine fun s p m a x _ hp => ⟨next_of_valid (decide_eq_true hp),
    fun deaf => ⟨exec_ptpSync_unheard hp deaf, exec_ptpFollowUp_unheard hp deaf⟩,
    fun hears => ⟨exec_ptpSync_twoStep hp hears, exec_ptpSync_oneStep hp hears, exec_ptpFollowUp_alone hp hears,
      fun y kept => ⟨fun other => ?_, fun source sequence => ?_⟩⟩,
    exec_ptpAnnounce_unheard hp, fun hears => ⟨fun chain node => ?_, fun chain node => ?_,
      fun plant first => exec_ptpAnnounce_first hp hears plant first,
      fun b plant old => ⟨fun takes => ?_, fun other heard before => ?_⟩⟩,
    exec_ptpDelayExchange_unheard hp,
    fun hears mechanism => ⟨_, exec_ptpDelayExchange_heard hp hears mechanism, State.takeDelay_shows hp⟩,
    State.pass_none, fun q on => ?_⟩
  · rw [exec_ptpFollowUp_kept hp hears kept, if_pos other]
  · rw [exec_ptpFollowUp_kept hp hears kept, if_neg (by simp [source, sequence])]
    rfl
  · rw [exec_ptpAnnounce_chain hp hears chain, node]
    rfl
  · rw [exec_ptpAnnounce_chain hp hears chain, node]
    rfl
  · rw [exec_ptpAnnounce_again hp hears plant old, if_neg]
    · rfl
    · rw [keepsMaster_iff]
      rintro ⟨other, heard, before⟩
      rcases takes with same | stale | after
      · exact other same
      · exact nomatch heard.symm.trans stale
      · exact nomatch before.symm.trans after
  · rw [exec_ptpAnnounce_again hp hears plant old, if_pos (keepsMaster_iff.mpr ⟨other, heard, before⟩)]
  · obtain ⟨chain, across⟩ := State.onward_chain on
    refine ⟨chain, across, State.passAnnounce_onward on, State.passFollowUp_onward on, State.passSync_regs,
      fun two => ?_, fun one => ⟨s.draw.1 % 2 ^ 32, Nat.mod_lt _ (by decide), ?_⟩⟩
    · rw [State.passSync_twoStep on two]
      rfl
    · rw [State.passSync_oneStep on one]
      rfl

end Sys2Proof.Machine
end

section
/-! SUPPORT. What a measurement leaves of the state: the offset that it shows, its sample in the level book, the term of the
servo, and the state of the time unit (R291, R292, R294, R295, R395). -/

namespace Sys2Proof.Machine

open Sys2Proof Sys2Proof.Stated

set_option Elab.async false

variable {s t u : State} {v : Int} {c : Nat}

/-! ## A sample of the level book (R391, R395, R401) -/

/-- `t` is `s` but for the level book, its count of suppressed commits, and its causes. -/
structure BookOnly (s t : State) : Prop where
  only  : Only [0x2D010A, causeOf 13] s t
  frame : t = { s with regs := t.regs, book := t.book, dict := { s.dict with atClose := t.dict.atClose } }

theorem BookOnly.trans (h : BookOnly s t) (h' : BookOnly t u) : BookOnly s u := by
  refine ⟨only_trans h.only h'.only, ?_⟩
  rw [h'.frame, h.frame]

theorem BookOnly.time (h : BookOnly s t) : t.time = s.time := (congrArg State.time h.frame :)

theorem BookOnly.tick (h : BookOnly s t) : t.tick = s.tick := (congrArg State.tick h.frame :)

theorem bookOnly_book {b : BookState} : BookOnly s { s with book := b } := ⟨fun _ _ => rfl, rfl⟩

theorem bookOnly_count : BookOnly s (s.count 0x2D010A) := ⟨State.only_setReg_of_mem (by simp), rfl⟩

theorem bookOnly_setCause {n : Nat} : BookOnly s (s.setCause 13 n) := by
  refine ⟨State.only_setCause_of_mem (by simp), ?_⟩
  rw [State.setCause_of_quiet (by decide)]
  rfl

theorem State.bookOnly_requestCommit : BookOnly s (s.requestCommit c) := by
  unfold State.requestCommit
  split
  · exact bookOnly_book
  · split
    · exact bookOnly_book
    · exact (bookOnly_book.trans bookOnly_count).trans bookOnly_setCause

theorem State.bookOnly_sampleBook : BookOnly s (s.sampleBook c v) := by
  unfold State.sampleBook State.takeSample
  split
  · exact bookOnly_book
  · dsimp only
    split
    · exact bookOnly_book
    · split
      · exact (bookOnly_book.trans bookOnly_setCause).trans State.bookOnly_requestCommit
      · exact bookOnly_book

/-! ## The offset that a measurement shows (R294, R302, R305) -/

/-- The entries of the offset, its maximum and its size. -/
abbrev offsetKeys : List Nat := [0x2A0103, 0x2A2001, 0x2A0107]

theorem State.regI_setRegI {k : Nat} (bits : entryBits k = 32) (low : -0x80000000 ≤ v) (high : v ≤ 0x7FFFFFFF) :
    (s.setRegI k v).regI k = v := by
  have fits : unsigned 32 v < 2 ^ 32 := by
    unfold unsigned
    omega
  rw [State.regI, State.setRegI, bits, State.reg_setReg_same, fit_of_lt (bits ▸ fits), signed_unsigned low high]

theorem State.regI_of_reg {k : Nat} (h : t.reg k = s.reg k) : t.regI k = s.regI k := congrArg (signed _) h

theorem State.only_showOffset : Only offsetKeys s (s.showOffset v) :=
  only_trans (only_trans (State.only_setReg_of_mem (by simp)) (only_of_subset (by simp) State.only_maxReg))
    (State.only_setReg_of_mem (by simp))

theorem State.showOffset_frame : s.showOffset v = { s with regs := (s.showOffset v).regs } := by
  rw [State.showOffset, State.maxReg_frame]
  rfl

theorem State.offset_showOffset : (s.showOffset v).regI 0x2A0103 = sat32 v := by
  have bits : entryBits 0x2A0103 = 32 := by decide +kernel
  have shown : (s.showOffset v).reg 0x2A0103 = (s.setRegI 0x2A0103 (sat32 v)).reg 0x2A0103 :=
    (State.reg_setReg_other _ _ _ _ (by decide)).trans (State.only_maxReg _ (by decide))
  refine (State.regI_of_reg shown).trans (State.regI_setRegI bits ?_ ?_)
  all_goals
    unfold sat32 clampInt
    split_ifs <;> omega

/-- A measurement is shown, and sampled in the level book. -/
def State.takeOffset (s : State) (v : Int) : State := (s.showOffset v).sampleBook 0xE8 v.natAbs

theorem State.only_takeOffset : Only (offsetKeys ++ [0x2D010A, causeOf 13]) s (s.takeOffset v) :=
  only_trans (only_of_subset (by simp) State.only_showOffset) (only_of_subset (by simp) State.bookOnly_sampleBook.only)

theorem State.takeOffset_time : (s.takeOffset v).time = s.time :=
  State.bookOnly_sampleBook.time.trans (congrArg State.time s.showOffset_frame :)

theorem State.takeOffset_tick : (s.takeOffset v).tick = s.tick :=
  State.bookOnly_sampleBook.tick.trans (congrArg State.tick s.showOffset_frame :)

theorem State.offset_takeOffset : (s.takeOffset v).regI 0x2A0103 = sat32 v :=
  (State.regI_of_reg (State.bookOnly_sampleBook.only _ (by decide))).trans State.offset_showOffset

theorem State.mode_takeOffset : (s.takeOffset v).mode = s.mode := State.only_takeOffset _ (by decide)

theorem State.tu_takeOffset : (s.takeOffset v).tu = s.tu := State.only_takeOffset _ (by decide)

theorem State.running_takeOffset : (s.takeOffset v).running = s.running := by
  rw [State.running, State.mode_takeOffset, State.running]

/-! ## The servo term (R295) -/

/-- The entries of the servo term and the applied frequency. -/
abbrev rateKeys : List Nat := [0x2A0105, 0x2A0106, 0x2A0107, causeOf 9]

theorem State.only_causeIf_of_mem {ks : List Nat} {b : Bool} {g n : Nat} (h : causeOf g ∈ ks) :
    Only ks s (s.causeIf b g n) := fun _ hk => State.reg_causeIf_other fun e => hk (e ▸ h)

theorem registers_causeIf {b : Bool} {g n : Nat} : Registers s (s.causeIf b g n) := by
  unfold State.causeIf
  split
  · exact registers_setCause
  · exact registers_refl

theorem State.causeIf_tick {b : Bool} {g n : Nat} : (s.causeIf b g n).tick = s.tick := by
  unfold State.causeIf
  split
  · exact State.setCause_tick
  · rfl

theorem State.only_applyRate : Only rateKeys s s.applyRate :=
  only_trans (only_trans (only_trans (State.only_setReg_of_mem (by simp)) (State.only_setReg_of_mem (by simp)))
    (State.only_causeIf_of_mem (by simp))) (State.only_setReg_of_mem (by simp))

theorem time_of_registers (h : Registers s t) : t.time = s.time := (congrArg State.time h :)

theorem State.setCause_time {g n : Nat} : (s.setCause g n).time = s.time := time_of_registers registers_setCause

theorem State.applyRate_time : s.applyRate.time = s.time :=
  time_of_registers (registers_trans (registers_trans (registers_trans registers_setReg registers_setReg) registers_causeIf)
    registers_setReg)

theorem State.applyRate_tick : s.applyRate.tick = s.tick :=
  State.causeIf_tick (s := (s.setRegI 0x2A0105 _).setRegI 0x2A0106 _)

theorem State.only_slew : Only rateKeys s s.slew := State.only_applyRate (s := { s.draw.2 with time := _ })

theorem State.slew_time : ∃ servo history, s.slew.time = { s.time with servo := servo, history := history } := by
  refine ⟨signed 32 s.draw.1, s.slew.time.history, ?_⟩
  simp only [State.slew, State.setServo, State.applyRate_time]
  rfl

/-! ## The states of the time unit (R291, R292) -/

/-- What the servo writes of the entries after a measurement is shown. -/
abbrev servoKeys : List Nat := [0x2A0101, 0x2A010D, 0x2A010E] ++ rateKeys

/-- From `s` to `t` the servo writes its own entries, and whether it has measured stands. -/
structure Steered (s t : State) : Prop where
  only     : Only servoKeys s t
  measured : t.time.measured = s.time.measured

theorem Steered.trans (h : Steered s t) (h' : Steered t u) : Steered s u :=
  ⟨only_trans h.only h'.only, h'.measured.trans h.measured⟩

theorem steered_runs {i o : Nat} : Steered s { s with time := { s.time with inRun := i, outRun := o } } :=
  ⟨fun _ _ => rfl, rfl⟩

theorem State.steered_setTu {n : Nat} (hn : n < 256) : Steered s (s.setTu n) := by
  obtain ⟨-, -, time, only⟩ := State.setTu_shows (s := s) hn
  exact ⟨only_of_subset (by simp) only, (congrArg TimeState.measured time :)⟩

theorem State.steered_slew : Steered s s.slew := by
  obtain ⟨servo, history, time⟩ := s.slew_time
  exact ⟨only_of_subset (by simp) State.only_slew, (congrArg TimeState.measured time :)⟩

theorem State.steered_acquire : Steered s (s.acquire v) := by
  unfold State.acquire
  extract_lets n
  split
  · exact steered_runs.trans (State.steered_setTu (by decide))
  · exact steered_runs

theorem State.steered_keepLock : Steered s (s.keepLock v) := by
  unfold State.keepLock
  extract_lets n
  split
  · exact steered_runs.trans (State.steered_setTu (by decide))
  · exact steered_runs

theorem State.steered_holdStep : Steered s (s.holdStep v) := ⟨fun _ _ => rfl, rfl⟩

/-- The record of a step, before the time unit acquires. -/
def State.recordStep (s : State) (v : Int) : State :=
  let now := ((s.tick.nowNs : Int) + v).toNat
  let t := { s with tick := { s.tick with nowNs := now, stepPending := none, stepHeld := false }
                    time := { s.time with ppsSecond := now / 1000000000 } }
  (((t.setReg 0x2A010D s.tickNo).setRegI 0x2A010E v).setBit 0x2A0107 1 true).setCause 9 1

theorem State.steered_recordStep : Steered s (s.recordStep v) := by
  refine ⟨only_trans (only_trans (only_trans (State.only_setReg_of_mem (s := { s with tick := _, time := _ }) (by simp))
    (State.only_setReg_of_mem (by simp))) (State.only_setReg_of_mem (by simp))) (State.only_setCause_of_mem (by simp)), ?_⟩
  unfold State.recordStep
  dsimp only
  rw [State.setCause_time]
  rfl

theorem State.applyStep_eq : s.applyStep v = (s.recordStep v).setTu tuAcquiring := rfl

theorem State.steered_applyStep : Steered s (s.applyStep v) := by
  rw [State.applyStep_eq]
  exact State.steered_recordStep.trans (State.steered_setTu (by decide))

theorem State.tu_setTu {n : Nat} (hn : n < 256) : (s.setTu n).tu = n := (State.setTu_shows hn).1

theorem State.tu_applyStep : (s.applyStep v).tu = tuAcquiring := by
  rw [State.applyStep_eq, State.tu_setTu (by decide)]

theorem State.tu_slew : s.slew.tu = s.tu := State.only_slew _ (by decide)

theorem State.tu_holdStep : (s.holdStep v).tu = s.tu := rfl

theorem State.pending_holdStep : (s.holdStep v).tick.stepPending = some v := rfl

theorem State.holdStep_held : (s.holdStep v).tick.stepHeld = true ↔
    (s.mode = stRun ∨ s.mode = stHalted) ∧ s.on 0x200007 = false := by
  simp [State.holdStep]

theorem State.acquire_beyond (far : ¬ within s v) :
    (s.acquire v).tu = s.tu ∧ (s.acquire v).time.inRun = 0 := by
  rw [State.acquire, if_neg (show ¬ v.natAbs ≤ s.reg 0x2A0006 from far)]
  exact ⟨rfl, rfl⟩

theorem State.acquire_counts (near : within s v) (few : s.time.inRun < 15) :
    (s.acquire v).tu = s.tu ∧ (s.acquire v).time.inRun = s.time.inRun + 1 := by
  rw [State.acquire, if_pos (show v.natAbs ≤ s.reg 0x2A0006 from near)]
  dsimp only
  rw [if_neg (by omega)]
  exact ⟨rfl, rfl⟩

theorem State.acquire_locks (near : within s v) (many : 15 ≤ s.time.inRun) : (s.acquire v).tu = tuLocked := by
  rw [State.acquire, if_pos (show v.natAbs ≤ s.reg 0x2A0006 from near)]
  dsimp only
  rw [if_pos (by omega)]
  exact State.tu_setTu (by decide)

theorem State.keepLock_near (near : v.natAbs ≤ s.reg 0x2A0007) :
    (s.keepLock v).tu = s.tu ∧ (s.keepLock v).time.outRun = 0 := by
  rw [State.keepLock, if_neg (Nat.not_lt.mpr near)]
  exact ⟨rfl, rfl⟩

theorem State.keepLock_counts (far : s.reg 0x2A0007 < v.natAbs) (few : s.time.outRun < 3) :
    (s.keepLock v).tu = s.tu ∧ (s.keepLock v).time.outRun = s.time.outRun + 1 := by
  rw [State.keepLock, if_pos far]
  dsimp only
  rw [if_neg (by omega)]
  exact ⟨rfl, rfl⟩

theorem State.keepLock_unlocks (far : s.reg 0x2A0007 < v.natAbs) (many : 3 ≤ s.time.outRun) :
    (s.keepLock v).tu = tuAcquiring := by
  rw [State.keepLock, if_pos far]
  dsimp only
  rw [if_pos (by omega)]
  exact State.tu_setTu (by decide)

end Sys2Proof.Machine
end

section
/-! SUPPORT. A measurement by the state of the time unit that it meets, and the entry to HOLDOVER (R291, R292, R294). -/

namespace Sys2Proof.Machine

open Sys2Proof Sys2Proof.Stated

set_option Elab.async false

variable {s t : State} {v : Int} {n : Nat}

/-! ## One measurement -/

/-- The first valid measurement after a time-unit reset was made. -/
def State.noteMeasured (s : State) : State := { s with time := { s.time with measured := true } }

theorem State.reg_noteMeasured {k : Nat} : s.noteMeasured.reg k = s.reg k := rfl

theorem State.noteMeasured_tick : s.noteMeasured.tick = s.tick := rfl

theorem State.measure_eq : s.measure v =
    if s.time.measured = false then (s.takeOffset v).firstMeasure v
    else if s.tu = tuStep then
      (if s.running then (s.takeOffset v).holdStep (-v) else (s.takeOffset v).applyStep (-v))
    else if s.tu = tuLocked then (s.takeOffset v).slew.keepLock v
    else ((s.takeOffset v).setTu tuAcquiring).slew.acquire v := by
  have time := s.takeOffset_time (v := v)
  have state := s.tu_takeOffset (v := v)
  have running := s.running_takeOffset (v := v)
  rw [← time, ← state, ← running]
  exact if_congr (Bool.not_eq_true' _).to_iff rfl rfl

theorem State.firstMeasure_far (far : 1000 < v.natAbs) : s.firstMeasure v =
    if s.running then (s.noteMeasured.setTu tuStep).holdStep (-v) else s.noteMeasured.applyStep (-v) := by
  rw [State.firstMeasure, if_neg (Nat.not_le.mpr far)]
  rfl

theorem State.steered_firstMeasure : Steered s.noteMeasured (s.firstMeasure v) := by
  unfold State.firstMeasure
  dsimp only
  split
  · exact ((State.steered_setTu (s := s.noteMeasured) (by decide)).trans State.steered_slew).trans State.steered_acquire
  · split
    · exact (State.steered_setTu (s := s.noteMeasured) (by decide)).trans State.steered_holdStep
    · exact State.steered_applyStep (s := s.noteMeasured)

/-- After its offset is shown a measurement writes the servo's entries alone. -/
theorem State.steered_measure : Steered (s.takeOffset v).noteMeasured (s.measure v) := by
  rw [State.measure_eq]
  split
  next => exact State.steered_firstMeasure
  next made =>
    have measured : (s.takeOffset v).time.measured = true := by
      rw [State.takeOffset_time]
      exact Bool.eq_true_of_not_eq_false made
    have noted : Steered (s.takeOffset v).noteMeasured (s.takeOffset v) :=
      ⟨fun _ _ => State.reg_noteMeasured.symm, measured⟩
    refine noted.trans ?_
    split_ifs
    · exact State.steered_holdStep
    · exact State.steered_applyStep
    · exact State.steered_slew.trans State.steered_keepLock
    · exact ((State.steered_setTu (by decide)).trans State.steered_slew).trans State.steered_acquire

theorem State.offset_measure : (s.measure v).regI 0x2A0103 = sat32 v :=
  (State.regI_of_reg ((State.steered_measure.only _ (by decide)).trans State.reg_noteMeasured)).trans
    State.offset_takeOffset

theorem State.measure_first (fresh : s.time.measured = false) : s.measure v = (s.takeOffset v).firstMeasure v := by
  rw [State.measure_eq, if_pos fresh]

theorem State.measure_stepping (made : s.time.measured = true) (state : s.tu = tuStep) : s.measure v =
    if s.running then (s.takeOffset v).holdStep (-v) else (s.takeOffset v).applyStep (-v) := by
  rw [State.measure_eq, if_neg (by simp [made]), if_pos state]

theorem State.measure_locked (made : s.time.measured = true) (state : s.tu = tuLocked) :
    s.measure v = (s.takeOffset v).slew.keepLock v := by
  rw [State.measure_eq, if_neg (by simp [made]), if_neg (by simp [state]), if_pos state]

theorem State.measure_acquiring (made : s.time.measured = true) (free : s.tu ≠ tuStep) (unlocked : s.tu ≠ tuLocked) :
    s.measure v = ((s.takeOffset v).setTu tuAcquiring).slew.acquire v := by
  rw [State.measure_eq, if_neg (by simp [made]), if_neg free, if_neg unlocked]

/-- A measurement that steps the time-scale while the sequencer runs waits for a datum edge (R292). -/
theorem State.measure_far_running (fresh : s.time.measured = false) (far : 1000 < v.natAbs) (run : s.running = true) :
    let t := s.measure v
    t.tu = tuStep ∧ t.tick.stepPending = some (-v) ∧
      (t.tick.stepHeld = true ↔ (s.mode = stRun ∨ s.mode = stHalted) ∧ s.on 0x200007 = false) := by
  have shown : Only (offsetKeys ++ [0x2D010A, causeOf 13]) s (s.takeOffset v).noteMeasured :=
    fun k hk => State.reg_noteMeasured.trans (State.only_takeOffset k hk)
  obtain ⟨state, -, -, only⟩ := State.setTu_shows (s := (s.takeOffset v).noteMeasured) (v := tuStep) (by decide)
  have mode : ((s.takeOffset v).noteMeasured.setTu tuStep).mode = s.mode := (only _ (by decide)).trans (shown _ (by decide))
  have absorbs : ((s.takeOffset v).noteMeasured.setTu tuStep).reg 0x200007 = s.reg 0x200007 :=
    (only _ (by decide)).trans (shown _ (by decide))
  rw [State.measure_first fresh, State.firstMeasure_far far, State.running_takeOffset, if_pos run]
  refine ⟨State.tu_holdStep.trans state, State.pending_holdStep, State.holdStep_held.trans ?_⟩
  rw [mode, State.on, absorbs, State.on]

/-- While the sequencer does not run the time-scale steps at once (R292). -/
theorem State.measure_far_stopped (fresh : s.time.measured = false) (far : 1000 < v.natAbs) (idle : s.running = false) :
    let t := s.measure v
    t.tu = tuAcquiring ∧ t.tick.stepPending = none ∧ t.tick.nowNs = ((s.tick.nowNs : Int) - v).toNat := by
  rw [State.measure_first fresh, State.firstMeasure_far far, State.running_takeOffset, idle, if_neg Bool.false_ne_true]
  refine ⟨State.tu_applyStep, congrArg TickState.stepPending State.applyStep_tick,
    (congrArg TickState.nowNs State.applyStep_tick).trans ?_⟩
  rw [State.noteMeasured_tick, State.takeOffset_tick, Int.sub_eq_add_neg]

theorem State.measure_stepping_shows (made : s.time.measured = true) (state : s.tu = tuStep) :
    let t := s.measure v
    (s.running = true → t.tu = tuStep ∧ t.tick.stepPending = some (-v)) ∧
      (s.running = false → t.tu = tuAcquiring ∧ t.tick.stepPending = none) := by
  rw [State.measure_stepping made state]
  refine ⟨fun run => ?_, fun idle => ?_⟩
  · rw [if_pos run]
    exact ⟨State.tu_holdStep.trans (State.tu_takeOffset.trans state), State.pending_holdStep⟩
  · rw [idle, if_neg Bool.false_ne_true]
    exact ⟨State.tu_applyStep, congrArg TickState.stepPending State.applyStep_tick⟩

theorem State.measure_locked_shows (made : s.time.measured = true) (state : s.tu = tuLocked) :
    let t := s.measure v
    (v.natAbs ≤ s.reg 0x2A0007 → t.tu = tuLocked ∧ t.time.outRun = 0) ∧
      (s.reg 0x2A0007 < v.natAbs → s.time.outRun < 3 → t.tu = tuLocked ∧ t.time.outRun = s.time.outRun + 1) ∧
      (s.reg 0x2A0007 < v.natAbs → 3 ≤ s.time.outRun → t.tu = tuAcquiring) := by
  obtain ⟨servo, history, time⟩ := (s.takeOffset v).slew_time
  have runs : (s.takeOffset v).slew.time.outRun = s.time.outRun := by rw [time, State.takeOffset_time]
  have window : (s.takeOffset v).slew.reg 0x2A0007 = s.reg 0x2A0007 :=
    (State.only_slew _ (by decide)).trans (State.only_takeOffset _ (by decide))
  have locked : (s.takeOffset v).slew.tu = tuLocked := State.tu_slew.trans (State.tu_takeOffset.trans state)
  rw [State.measure_locked made state, ← window, ← runs, ← locked]
  exact ⟨State.keepLock_near, State.keepLock_counts, State.keepLock_unlocks⟩

theorem State.measure_acquiring_shows (made : s.time.measured = true) (free : s.tu ≠ tuStep)
    (unlocked : s.tu ≠ tuLocked) :
    let t := s.measure v
    (¬ within s v → t.tu = tuAcquiring ∧ t.time.inRun = 0) ∧
      (within s v → s.time.inRun < 15 → t.tu = tuAcquiring ∧ t.time.inRun = s.time.inRun + 1) ∧
      (within s v → 15 ≤ s.time.inRun → t.tu = tuLocked) := by
  obtain ⟨state, -, kept, only⟩ := State.setTu_shows (s := s.takeOffset v) (v := tuAcquiring) (by decide)
  obtain ⟨servo, history, time⟩ := ((s.takeOffset v).setTu tuAcquiring).slew_time
  have runs : ((s.takeOffset v).setTu tuAcquiring).slew.time.inRun = s.time.inRun := by
    rw [time, kept, State.takeOffset_time]
  have window : within ((s.takeOffset v).setTu tuAcquiring).slew v ↔ within s v := by
    rw [within, State.only_slew _ (by decide), only _ (by decide), State.only_takeOffset _ (by decide), within]
  have acquires : ((s.takeOffset v).setTu tuAcquiring).slew.tu = tuAcquiring := State.tu_slew.trans state
  rw [State.measure_acquiring made free unlocked, ← window, ← runs]
  refine ⟨fun far => ?_, fun near few => ?_, State.acquire_locks⟩
  · obtain ⟨still, run⟩ := State.acquire_beyond far
    exact ⟨still.trans acquires, run⟩
  · obtain ⟨still, run⟩ := State.acquire_counts near few
    exact ⟨still.trans acquires, run⟩

/-! ## HOLDOVER (R291, R295, R299) -/

/-- The entries that follow the selected master. -/
abbrev masterKeys : List Nat := [0x2A0107, 0x2A0108, 0x2A0109, 0x2A010A, causeOf 9]

/-- From `s` to `t` the entries of the master may change, and the tick and the time unit stand. -/
structure MasterOnly (s t : State) : Prop where
  only : Only masterKeys s t
  tick : t.tick = s.tick
  time : t.time = s.time

theorem masterOnly_refl : MasterOnly s s := ⟨fun _ _ => rfl, rfl, rfl⟩

theorem MasterOnly.setReg {k w : Nat} (h : MasterOnly s t) (hk : k ∈ masterKeys) : MasterOnly s (t.setReg k w) :=
  ⟨only_trans h.only (State.only_setReg_of_mem hk), h.tick, h.time⟩

theorem State.masterOnly_causeIf {b : Bool} : MasterOnly s (s.causeIf b 9 n) :=
  ⟨State.only_causeIf_of_mem (by simp), State.causeIf_tick, time_of_registers registers_causeIf⟩

theorem State.masterOnly_showMaster {a : Announce} {legacy : Bool} : MasterOnly s (s.showMaster a legacy) := by
  have renamed := s.masterOnly_causeIf (n := 3) (b := s.reg 0x2A0108 != leNat (leBytes 8 a.identity).reverse)
  unfold State.showMaster
  extract_lets name s1 s2
  have flags : MasterOnly s s2 := (((renamed.setReg (by simp)).setReg (by simp)).setReg (by simp)).setReg (by simp)
  exact (flags.setReg (by simp)).setReg (by simp)

theorem State.masterOnly_noMaster : MasterOnly s s.noMaster :=
  ((masterOnly_refl.setReg (by simp)).setReg (by simp)).setReg (by simp)

theorem State.masterOnly_showPorts : MasterOnly s s.showPorts := by
  unfold State.showPorts
  split
  · exact masterOnly_refl
  · split
    · split
      · split
        · exact State.masterOnly_noMaster
        · exact State.masterOnly_showMaster
      · exact State.masterOnly_noMaster
    · exact State.masterOnly_noMaster

theorem State.enterHoldover_shows (steers : s.tu = tuAcquiring ∨ s.tu = tuLocked) :
    let t := s.enterHoldover
    t.tu = tuHoldover ∧ t.tick = s.tick ∧ t.time = { s.time with servo := s.meanServo } := by
  obtain ⟨state, tick, time, -⟩ := State.setTu_shows (s := s.setServo s.meanServo) (v := tuHoldover) (by decide)
  rw [State.enterHoldover, if_pos steers]
  exact ⟨state, tick.trans State.applyRate_tick, time.trans State.applyRate_time⟩

theorem exec_holdoverEntry_idle (acquires : s.tu ≠ tuAcquiring) (locked : s.tu ≠ tuLocked) :
    exec .holdoverEntry s = .next s := congrArg Host.Outcome.next (if_neg (not_or.mpr ⟨acquires, locked⟩))

theorem exec_holdoverEntry_kept (steers : s.tu = tuAcquiring ∨ s.tu = tuLocked)
    (kept : s.sourcePort = none ∨ s.outstation = true) : exec .holdoverEntry s = .next s.enterHoldover := by
  refine congrArg Host.Outcome.next ((if_pos steers).trans ?_)
  split
  next source => rw [if_pos (kept.resolve_left (by simp [source]))]
  next => rfl

theorem exec_holdoverEntry_lost (steers : s.tu = tuAcquiring ∨ s.tu = tuLocked) (source : s.sourcePort = some n)
    (plant : s.outstation = false) : exec .holdoverEntry s =
      .next (s.enterHoldover.setPrt n { s.prt n with stale := true }).showPorts := by
  refine congrArg Host.Outcome.next ((if_pos steers).trans ?_)
  rw [source]
  exact if_neg (by simp [plant])

theorem holdoverEntry_shows (steers : s.tu = tuAcquiring ∨ s.tu = tuLocked) :
    ∃ u, exec .holdoverEntry s = .next u ∧ u.tu = tuHoldover ∧
      u.tick = s.tick ∧ u.time = { s.time with servo := s.meanServo, ports := u.time.ports } ∧
      (s.sourcePort = none ∨ s.outstation = true → u.time.ports = s.time.ports) ∧
      ∀ n, s.sourcePort = some n → s.outstation = false →
        u.time.ports = Sparse.set {} s.time.ports n { s.prt n with stale := true } := by
  obtain ⟨state, tick, time⟩ := State.enterHoldover_shows steers
  by_cases kept : s.sourcePort = none ∨ s.outstation = true
  · refine ⟨_, exec_holdoverEntry_kept steers kept, state, tick, ?_, fun _ => ?_, fun n source plant => ?_⟩
    · rw [time]
    · rw [time]
    · simp [source, plant] at kept
  · obtain ⟨some, plant⟩ := not_or.mp kept
    obtain ⟨n, source⟩ := Option.ne_none_iff_exists'.mp some
    obtain ⟨only, tick', time'⟩ := State.masterOnly_showPorts
      (s := s.enterHoldover.setPrt n { s.prt n with stale := true })
    have lost : (s.enterHoldover.setPrt n { s.prt n with stale := true }).time =
        { s.time with servo := s.meanServo, ports := Sparse.set {} s.time.ports n { s.prt n with stale := true } } := by
      rw [State.setPrt, time]
    refine ⟨_, exec_holdoverEntry_lost steers source (Bool.eq_false_of_not_eq_true plant),
      (only _ (by decide)).trans state, tick'.trans tick, ?_, fun still => absurd still kept, fun m same _ => ?_⟩
    · rw [time', lost]
    · rw [time', lost, Option.some.inj (source.symm.trans same)]

/-- Settles O39: a measurement by the state that it meets and the run that it continues, HOLDOVER by its source. -/
theorem servoStates : Obligations.ServoStates := fun _ _ _ =>
  ⟨State.offset_measure, State.steered_measure.measured, State.measure_far_running, State.measure_far_stopped,
    State.measure_stepping_shows, State.measure_locked_shows, State.measure_acquiring_shows, holdoverEntry_shows,
    exec_holdoverEntry_idle⟩

end Sys2Proof.Machine
end

section
/-! SUPPORT. The other events of the time unit: delay exchanges that begin, the links of the plant ports, the pulses, and
the time messages of the chain (R284, R285, R288, R289, R298, R300, R301, R304). -/

namespace Sys2Proof.Machine

open Sys2Proof Sys2Proof.Stated

set_option Elab.async false

variable {s : State} {p ns : Nat}

/-! ## Delay exchanges and plant ports (R288, R289, R304) -/

/-- A port begins a delay exchange: it ages the last one, and its request leaves at `ns`. -/
def State.beginDelay (s : State) (p ns : Nat) : State :=
  (s.setPrt p { s.prt p with delayAge := min 17 ((s.prt p).delayAge + 1) }).emit
    (.delayRequest p ((ns + s.latency p true) % (2 ^ 48 * 1000000000)) (decide (p < 2) && s.reg 0x2A0002 == 1)
      (-s.asymmetry p) (if s.reg (tp p 0xE) = 0 then 0 else 1))

theorem exec_delayRequestTransmit (hp : p < 4) : exec (.delayRequestTransmit p ns) s = .next
    (if s.on (tp p 1) = true ∧ s.timeUp p = true ∧ (2 ≤ p ∨ s.outstation = false) then s.beginDelay p ns else s) :=
  (next_of_valid (decide_eq_true hp)).trans (congrArg Host.Outcome.next (if_congr (by simp [and_assoc]) rfl rfl))

theorem exec_delayRequestTransmit_idle (hp : p < 4)
    (idle : s.on (tp p 1) = false ∨ s.timeUp p = false ∨ (p < 2 ∧ s.outstation = true)) :
    exec (.delayRequestTransmit p ns) s = .next s := by
  rw [exec_delayRequestTransmit hp, if_neg]
  rintro ⟨on, up, who⟩
  rcases idle with off | down | ⟨plant, node⟩
  · exact nomatch on.symm.trans off
  · exact nomatch up.symm.trans down
  · rcases who with chain | controller
    · omega
    · exact nomatch node.symm.trans controller

/-- A plant port without its link, its master and its delay. -/
def State.losePort (s : State) (p : Nat) : State := ((s.setReg (tp p 0xC) 0).setPrt p {}).setReg (tp p 0xD) 0

/-- The port had the best master, and no other source of time is left. -/
def State.losesLast (s : State) (p : Nat) : Prop :=
  s.bestPort = some p ∧ (s.losePort p).bestPort = none ∧ s.tieSteers = false ∧ s.outstation = false

theorem exec_plantPortLinkDown_other (hp : p < 2) (other : ¬ s.losesLast p) :
    exec (.plantPortLinkDown p) s = .next (s.losePort p).showPorts := by
  refine (next_of_valid (decide_eq_true hp)).trans (congrArg (fun u : State => Host.Outcome.next u.showPorts) (if_neg ?_))
  simpa [State.losesLast, State.losePort] using other

theorem exec_plantPortLinkDown_last (hp : p < 2) (last : s.losesLast p) :
    exec (.plantPortLinkDown p) s = .next (s.losePort p).enterHoldover.showPorts := by
  refine (next_of_valid (decide_eq_true hp)).trans (congrArg (fun u : State => Host.Outcome.next u.showPorts) (if_pos ?_))
  simpa [State.losesLast, State.losePort] using last

theorem exec_plantPortLinkUp {speed : Nat} (hp : p < 2) (known : speed = 10 ∨ speed = 100 ∨ speed = 1000) :
    exec (.plantPortLinkUp p speed) s =
      .next (if s.blockUp (8 + p) = true then (s.setReg (tp p 0xC) speed).showPorts else s) :=
  next_of_valid (by simpa [hp] using known)

/-! ## Pulses (R300, R301) -/

/-- The whole second of the coming pulse: one that the time-scale has reached without a pulse, or the next. -/
def State.pulseSecond (s : State) : Nat :=
  let now := s.tick.nowNs / 1000000000
  if s.time.ppsSecond < now then now else now + 1

/-- The coming datum edge lies before the coming pulse. -/
def State.pulseBeyond (s : State) : Prop :=
  s.running = true ∧ s.tick.started = true ∧ s.tick.nextNs < s.pulseSecond * 1000000000

/-- The time-scale reaches the coming pulse. -/
def State.reachPulse (s : State) : State :=
  { s with tick := { s.tick with nowNs := max s.tick.nowNs (s.pulseSecond * 1000000000) }
           time := { s.time with ppsSecond := s.pulseSecond } }

theorem exec_ppsOutPulse_beyond (beyond : s.pulseBeyond) : exec .ppsOutPulse s = .next s :=
  congrArg Host.Outcome.next (if_pos (by simpa [State.pulseBeyond, State.pulseSecond, and_assoc] using beyond))

theorem exec_ppsOutPulse_due (due : ¬ s.pulseBeyond) : exec .ppsOutPulse s = .next
    (if s.reg 0x2A000A = 0 then s.reachPulse
     else s.reachPulse.emit (.ppsPulse s.pulseSecond (s.reg 0x2A0009) (s.reg 0x2A000A == 1))) :=
  congrArg Host.Outcome.next (if_neg (by simpa [State.pulseBeyond, State.pulseSecond, and_assoc] using due))

theorem ppsOutPulse_shows (due : ¬ s.pulseBeyond) : ∃ t, exec .ppsOutPulse s = .next t ∧
    t.tick = { s.tick with nowNs := max s.tick.nowNs (s.pulseSecond * 1000000000) } ∧
    t.time = { s.time with ppsSecond := s.pulseSecond } ∧ t.regs = s.regs ∧
    t.out = s.out ++ (if s.reg 0x2A000A = 0 then []
      else [.ppsPulse s.pulseSecond (s.reg 0x2A0009) (s.reg 0x2A000A == 1)]) := by
  refine ⟨_, exec_ppsOutPulse_due due, ?_⟩
  split
  · exact ⟨rfl, rfl, rfl, (List.append_nil _).symm⟩
  · exact ⟨rfl, rfl, rfl, rfl⟩

/-- The distance of an instant from the nearest whole second. -/
def secondOffset (ns : Nat) : Int := ((ns + 500000000) % 1000000000 : Nat) - 500000000

/-- An input pulse is stamped, and counted with its distance from the second. -/
def State.stampPulse (s : State) (ns : Nat) : State :=
  (((s.setReg 0x2A3001 (leNat (ts96 ns))).setRegI 0x2A3002 (secondOffset ns)).count 0x2A3003).setCause 9 4

theorem State.stampPulse_shows :
    let t := s.stampPulse ns
    t.reg 0x2A3001 = leNat (ts96 ns) % 2 ^ 96 ∧ t.regI 0x2A3002 = secondOffset ns ∧ Counts 0x2A3003 1 s t ∧
      SetsBit (causeOf 9) 4 s t ∧ Apart [0x2A3001, 0x2A3002, 0x2A3003, causeOf 9] s t := by
  have stampBits : entryBits 0x2A3001 = 96 := by decide +kernel
  have offsetBits : entryBits 0x2A3002 = 32 := by decide +kernel
  have causeBits : entryBits (causeOf 9) = 32 := by decide +kernel
  have low : -0x80000000 ≤ secondOffset ns := by unfold secondOffset; omega
  have high : secondOffset ns ≤ 0x7FFFFFFF := by unfold secondOffset; omega
  refine ⟨?_, ?_, ?_, State.setsBit_setCause (causeBits ▸ by decide) ?_, ?_⟩
  · rw [State.stampPulse, State.reg_setCause_other (by decide), State.count, State.countBy, State.setRegI,
      State.reg_setReg_other _ _ _ _ (by decide), State.reg_setReg_other _ _ _ _ (by decide), State.reg_setReg_same, fit,
      stampBits]
  · refine (State.regI_of_reg ?_).trans (State.regI_setRegI (s := s.setReg 0x2A3001 (leNat (ts96 ns))) offsetBits low high)
    exact (State.reg_setCause_other (by decide)).trans (State.reg_setReg_other _ _ _ _ (by decide))
  · rw [Counts, State.stampPulse, State.reg_setCause_other (by decide), State.reg_count, State.setRegI,
      State.reg_setReg_other _ _ _ _ (by decide), State.reg_setReg_other _ _ _ _ (by decide)]
  · rw [State.count, State.countBy, State.setRegI, State.reg_setReg_other _ _ _ _ (by decide),
      State.reg_setReg_other _ _ _ _ (by decide), State.reg_setReg_other _ _ _ _ (by decide)]
  · exact apart_setCause (apart_setReg (apart_setReg (apart_setReg apart_refl (by simp)) (by simp)) (by simp)) (by decide)
      (by simp)

theorem exec_ppsInEdge_on (on : s.on 0x2A3004 = true) : exec (.ppsInEdge ns) s = .next (s.stampPulse ns) :=
  congrArg Host.Outcome.next (if_pos on)

theorem exec_ppsInEdge_off (off : s.on 0x2A3004 = false) : exec (.ppsInEdge ns) s = .next s :=
  congrArg Host.Outcome.next (if_neg (by simp [off]))

/-! ## Chain time (R285, R286, R298) -/

/-- One message for each element of a list. -/
theorem State.each_emit {α : Type} {xs : List α} {f : α → Emission} :
    s.each xs (fun t x => t.emit (f x)) = { s with out := s.out ++ xs.map f } := by
  induction xs generalizing s with
  | nil => simp [State.each]
  | cons x xs ih =>
    refine (ih (s := s.emit (f x))).trans ?_
    simp [State.emit]

theorem State.chainTimeMaster_iff :
    s.chainTimeMaster = true ↔ s.outstation = false ∧ s.active = true ∧ s.running = true := by
  simp [State.chainTimeMaster, and_assoc]

theorem exec_chainSyncTransmit_due (master : s.chainTimeMaster = true) (free : s.time.syncBarNs ≤ ns) :
    exec (.chainSyncTransmit ns) s = .next { s with out := s.out ++ (linkedPorts s).map (fun q =>
      .chainSync q ((ns + s.latency (2 + q) true) % (2 ^ 48 * 1000000000)) (s.on 0x2A0004)
        (if s.reg (tp (2 + q) 0xE) = 0 then 0 else 1)) } :=
  congrArg Host.Outcome.next ((if_pos (by simp [master, free])).trans State.each_emit)

theorem exec_chainSyncTransmit_idle (idle : s.chainTimeMaster = false ∨ ns < s.time.syncBarNs) :
    exec (.chainSyncTransmit ns) s = .next s := by
  refine congrArg Host.Outcome.next (if_neg ?_)
  rw [Bool.and_eq_true, decide_eq_true_eq]
  rintro ⟨master, free⟩
  rcases idle with slave | barred
  · exact nomatch master.symm.trans slave
  · omega

theorem exec_chainAnnounceTransmit_due (master : s.chainTimeMaster = true) :
    exec .chainAnnounceTransmit s = .next { s with out := s.out ++ (linkedPorts s).map (fun q =>
      .chainAnnounce q (s.reg 0x2A0108) (s.reg 0x2A0109 + 1) (s.regI 0x2A010A) (s.bit 0x2A0107 5) (!s.bit 0x2A0107 4)
        (if s.reg (tp (2 + q) 0xE) = 0 then 0 else 1)) } :=
  congrArg Host.Outcome.next ((if_pos master).trans State.each_emit)

theorem exec_chainAnnounceTransmit_idle (slave : s.chainTimeMaster = false) : exec .chainAnnounceTransmit s = .next s :=
  congrArg Host.Outcome.next (if_neg (by simp [slave]))

/-- Settles O40: each event by whether its port, its link or its role allows it. -/
theorem timeEvents : Obligations.TimeEvents := by
  refine fun s p ns _ => ⟨fun hp => ⟨fun on up who => ?_, exec_delayRequestTransmit_idle hp⟩,
    fun hp => ⟨exec_plantPortLinkDown_other hp, exec_plantPortLinkDown_last hp,
      fun n known => ⟨fun up => ?_, fun down => ?_⟩⟩,
    ⟨exec_ppsOutPulse_beyond, ppsOutPulse_shows⟩,
    fun on => ⟨_, exec_ppsInEdge_on on, State.stampPulse_shows⟩, exec_ppsInEdge_off,
    fun controller active run => ?_, fun slave => ?_⟩
  · exact (exec_delayRequestTransmit hp).trans (congrArg Host.Outcome.next (if_pos ⟨on, up, who⟩))
  · rw [exec_plantPortLinkUp hp known, if_pos up]
  · rw [exec_plantPortLinkUp hp known, if_neg (by simp [down])]
  · have master := State.chainTimeMaster_iff.mpr ⟨controller, active, run⟩
    exact ⟨exec_chainSyncTransmit_due master, fun barred => exec_chainSyncTransmit_idle (.inr barred),
      exec_chainAnnounceTransmit_due master⟩
  · have passive : s.chainTimeMaster = false := by
      rw [Bool.eq_false_iff, Ne, State.chainTimeMaster_iff]
      rintro ⟨controller, active, run⟩
      rcases slave with node | standby | idle
      · exact nomatch node.symm.trans controller
      · exact nomatch active.symm.trans standby
      · exact nomatch run.symm.trans idle
    exact ⟨exec_chainSyncTransmit_idle (.inl passive), exec_chainAnnounceTransmit_idle passive⟩

end Sys2Proof.Machine
end
